-- ==== Sys2Proof/Word.lean ====
section
/-! DEFINITION. The plain data types of the BL-420 model: bytes, 32-bit words, byte strings, clock time and the
twelve islands (R8, R9, R44 of spec/). Bit-field and byte-order helpers are in Machine/Bits.lean. -/

namespace Sys2Proof

/-- One byte. -/
abbrev Byte := BitVec 8

/-- One register word (R46). -/
abbrev Word := BitVec 32

/-- A byte string, lowest address first. -/
abbrev Bytes := List Byte

/-- TIME of Table 5-1: U32 seconds in [47:16], U16 fraction in [15:0]. -/
abbrev Time := BitVec 48

/-- The twelve islands of Table 2-1 (R44), in their numbering. -/
inductive Island where
  | aon | safe | seq | met | adc | plc | sec | disp | aud | host | bgd | tmr
deriving DecidableEq, Repr

/-- One value for each island (R44). -/
structure PerIsland (α : Type) where
  aon : α
  safe : α
  seq : α
  met : α
  adc : α
  plc : α
  sec : α
  disp : α
  aud : α
  host : α
  bgd : α
  tmr : α
deriving DecidableEq, Repr

end Sys2Proof
end

