-- ==== Sys2Proof/Syntax.lean ====
section
/-! DEFINITION. The commands of the BL-420: one constructor of Instr for each row of spec/opcode_table.json, with the
operands that the row's rule gives it, and the types of those operands. The table gives no bits to any row. -/

namespace Sys2Proof

/-- The fields of Table 2-2 that a fabric request carries beside its opcode (R46). -/
structure Request where
  tag : BitVec 10
  src : Island
  dst : BitVec 4
  epoch : BitVec 8
  addr : BitVec 10
  data : Word
  par : Bool
deriving DecidableEq, Repr

/-- A request with its OP field (Table 2-2). -/
structure CodedRequest where
  request : Request
  code : BitVec 3
deriving DecidableEq, Repr

/-- The opcodes of Table 2-3; reserved n is 101b + n. -/
inductive FabricOp where
  | read | write | writePosted | fence | reOpen
  | reserved (n : Fin 3)
deriving DecidableEq, Repr

/-- The rails whose monitors gate one stage (R84). -/
inductive Rail where
  | vld | vaud | voled
deriving DecidableEq, Repr

/-- The path a PDU or a link frame takes (R140): line link, field port or host mailbox. -/
inductive Path where
  | line | field | mailbox
deriving DecidableEq, Repr

/-- KEYSEL of Table 5-4. -/
inductive KeySel where
  | none | link | session | reserved
deriving DecidableEq, Repr

/-- Who sent an OD request: its path, the key it came under, its XID, and the priority its response takes (R135, R385). -/
structure Requester where
  path : Path
  keysel : KeySel
  xid : BitVec 16
  prio : BitVec 2
deriving DecidableEq, Repr

/-- A PDU as its carrier delivers it: path, segment, originator and destination node of the carrier, priority, bytes (R140). -/
structure Delivered where
  path : Path
  seg : Byte
  orig : Byte
  dst : Byte
  prio : BitVec 2
  bytes : Bytes
deriving DecidableEq, Repr

/-- A frame handed to PLC by a producer (R384): priority, destination, payload. -/
structure Handover where
  prio : BitVec 2
  dst : Byte
  payload : Bytes
  isNotify : Bool
deriving DecidableEq, Repr

/-- A copy as it stands on the medium: the path it came by, its ten FCH bytes, its payload and its four FCS bytes (R372, R411). -/
structure Copy where
  path : Path
  fch : Bytes
  payload : Bytes
  fcs : Bytes
deriving DecidableEq, Repr

/-- The two lock limit inputs (R215). -/
inductive Limit where
  | locked | unlocked
deriving DecidableEq, Repr

/-- The four conductors (R200). -/
inductive Conductor where
  | l1 | l2 | l3 | n
deriving DecidableEq, Repr

/-- The three phases (R291). -/
inductive Phase3 where
  | l1 | l2 | l3
deriving DecidableEq, Repr

/-- The four fast comparators of Table 9-3. -/
inductive Comparator where
  | fc0 | fc1 | fc2 | fc3
deriving DecidableEq, Repr

/-- The four converters A0 to A3 (R272). -/
inductive Converter where
  | a0 | a1 | a2 | a3
deriving DecidableEq, Repr

/-- What the scrubber finds in one SRAM word (R470, R471). -/
inductive ScrubResult where
  | clean
  | single (foregroundWrite : Bool)
  | uncorrectable (owner : Island)
deriving DecidableEq, Repr

/-- The three record zones of log flash (Table 19-2). -/
inductive Zone where
  | ledger | events | marks
deriving DecidableEq, Repr

/-- The codes and clip marks of list M for one tick: three voltages, four currents (Table 12-1). -/
structure TickSamples where
  v1 : BitVec 16
  v2 : BitVec 16
  v3 : BitVec 16
  i1 : BitVec 16
  i2 : BitVec 16
  i3 : BitVec 16
  inn : BitVec 16
deriving DecidableEq, Repr

/-- The trims that a calibration run finds: offset and gain of the converter, and the skew of its pair in steps of 2 ps, signed, which only
the run of an upper converter sets (R277, R278). -/
structure Trims where
  offset : BitVec 16
  gain : BitVec 16
  skew : BitVec 9
deriving DecidableEq, Repr

/-- How a brown-out is recognised (R97, R98): by the early warning or by PFAIL, and whether the supply lasts until step 5. -/
structure BrownOnset where
  earlyWarning : Bool
  lasts : Bool
deriving DecidableEq, Repr

/-- One command of the table: an operation from outside, or an event of the part. Each constructor's rule is the row's rule. The code of
fabricRead's request is its OP field: 000b READ; the reserved opcodes 101b to 111b, which no row of the table bears, come through it too. -/
inductive Instr where
  | fabricRead (r : CodedRequest)
  | fabricWrite (r : Request)
  | writePosted (r : Request)
  | fence (src : Island) (r : Request)
  | fabricReOpen (r : Request)
  | completion (src : Island)
  | heldRequestAccept (src : Island)
  | islandReset (island : BitVec 4)
  | islandReload (island : BitVec 4)
  | islandPowerDown (island : BitVec 4)
  | islandPowerUp (island : BitVec 4)
  | islandSelect (island : BitVec 4)
  | clockLost (i : Island)
  | islandReturn (i : Island)
  | snapshotTimeout (src : Island) (addr : BitVec 16)
  | heldWriteDiscard (src : Island) (addr : BitVec 16)
  | lossClr (mask : BitVec 12)
  | peakClr
  | hostReopen (mask : BitVec 12)
  | reopenRetry
  | porSupply
  | aonStartFromNothing
  | resetn (lowNs : Nat)
  | vddcOutOfRange
  | supplyRailLow (rail : Rail)
  | supplyRailRestored (rail : Rail)
  | resetRelease
  | xtalRetry (stable : Bool)
  | islandBootUp (i : Island)
  | imageCheck
  | settingsRestore
  | lockHoming
  | startHoldRelease
  | brownOut (onset : BrownOnset)
  | pfailRelease
  | vdd3Recovered
  | pfailHoldLog
  | xtalStop
  | mainsRestore
  | mainsPresentAtStart
  | restart (rq : Requester) (value : Byte)
  | heldResetRelease
  | commit
  | configRevert (rq : Requester) (value : Byte)
  | pduReceive (d : Delivered)
  | odRead
  | odWrite
  | readBlock
  | writeBlock
  | subscribe
  | notify (mailbox : Bool) (addrs : List (BitVec 16))
  | subscriptionLapse (mailbox : Bool) (addr : BitVec 16)
  | blockTransferTimeout (addr : BitVec 16)
  | blockSnapshotTimeout (mailbox : Bool)
  | sessionToken (rq : Requester) (token : Bytes)
  | sessionInactivityEnd
  | sessionExpiry
  | timeSet (rq : Requester) (bytes : Bytes)
  | sessionStop (rq : Requester) (value : Byte)
  | grant (rq : Requester) (bytes : Bytes)
  | grantDiscard (rq : Requester) (value : Byte)
  | lockFaultClear (rq : Requester) (value : Byte)
  | safeStateRelease (rq : Requester) (value : Byte)
  | audioFaultClear (rq : Requester) (value : Byte)
  | promptTest (rq : Requester) (prompt : Byte)
  | mirrorNonce (rq : Requester) (nonce : Bytes)
  | mirrorStatementReady
  | fwActivate (rq : Requester) (value : Byte)
  | coppiceSuspend (rq : Requester) (value : Byte)
  | coppiceEnable (rq : Requester) (value : Byte)
  | linkReload
  | displayModeReload
  | pilotPeriodStart
  | measurementWindow (positive : Bool) (mv : BitVec 16)
  | pilotFaultHoldEnd
  | proximityRead (code : BitVec 16)
  | overdrawLog (phase : Phase3)
  | proximityOutOfBandLog
  | make (killTestPass : Bool)
  | pullInElapsed
  | auxInConfirmed (closed : Bool)
  | zeroCrossing (phase : Phase3)
  | zeroCrossingTimeout (phase : Phase3)
  | auxCloseTimeout
  | zeroCurrentWindowEnd
  | stuckOn
  | auxOpenTimeout
  | readbackCheck (gfb : BitVec 4)
  | interlockRelease
  | interlockHoldTimeout
  | economiserSample (senseMa : BitVec 16)
  | lockMove (toLocked : Bool)
  | limitTransition (which : Limit) (within50 : Nat)
  | limitConfirmed (which : Limit) (closed : Bool)
  | lockBrakeEnd
  | hallPulse
  | hallTimeout
  | lockMoveTimeout
  | hallSensorAbsent (microamps : BitVec 16)
  | unlockAfterStateA
  | excitationHalfPeriod (saturated : Bool) (peakMa : Byte)
  | residualResult (acUp : Bool) (dcUp : Bool)
  | fastComparatorTrip (fc : Comparator) (tripped : Conductor)
  | comparatorTest (fc : Comparator) (pass : Bool)
  | blindWindowEnd (fc : Comparator) (active : Option Conductor)
  | testWindingCheck
  | testWindingStepEnd (fc0Responded : Bool)
  | thresholdLoad
  | safeWindow (xtalCycles : Nat)
  | islandHeartbeat (i : Island) (advanced : Bool)
  | sealRead (phase1 : Byte) (phase2 : Byte) (phase3 : Byte)
  | referenceCheck (conv : Converter) (code : BitVec 16)
  | automaticRelease
  | safeReset
  | evidenceFlush
  | listP (positive : Bool) (drvMv : BitVec 16) (edgeErrNs : Nat)
  | listM (x : TickSamples)
  | listE (code : BitVec 16)
  | listS (input : BitVec 5) (conv : Converter) (code : BitVec 16)
  | userListTrigger (k : Bool)
  | go (k : Bool)
  | userListComplete (k : Bool) (values : List (BitVec 16 × Bool))
  | windowConfigWrite (w : Fin 16) (band : Bool) (value : Word)
  | captureStart (ctrl : Word)
  | captureDone (samples : List (Option (BitVec 16)))
  | calibrationRun (conv : Converter)
  | calibrationDone (conv : Converter) (reference : BitVec 16) (trims : Option Trims)
  | borrow (conv : Converter) (begins : Bool)
  | metrologyPeriodEnd (period : BitVec 18)
  | halfCycleEnd (phase : Phase3)
  | meterLedPulse
  | meterLedPulseEnd
  | tariffSample (tariff0High : Bool) (tariff1High : Bool)
  | tariffDebounce
  | rtcTick
  | trustLost
  | intervalBoundary
  | ledgerRecordWrite
  | heldRecordWrite
  | cryptoJob
  | frameHandover (h : Handover)
  | mediumIdle
  | accessSlot (tone : Bool)
  | bandCWaitEnd (free : Bool)
  | transmitEnd (limited : Bool)
  | frameReceive (c : Copy)
  | sendAck
  | ackWindowEnd
  | resendStart (idle : Bool)
  | queueAgeDrop (prio : BitVec 2) (index : Nat)
  | limitAbort
  | shortHoldEnd
  | thermalShutdown
  | thermalRecovery
  | repeatFrame
  | ackRelay
  | relayedWindowEnd
  | beacon (c : Copy) (clockAtStart : Time)
  | beaconRepeat
  | curtailmentMessage (c : Copy)
  | curtailmentLapse
  | wakeWindowOpen
  | wakeWindowClose
  | telemetryHandover
  | fieldPortCopy (wire : Bytes)
  | fieldPortGapAbort
  | readBackAbort
  | fieldPortBusyLog
  | fill (byHost : Bool)
  | copy (byHost : Bool)
  | asset (byHost : Bool)
  | rectWrite (byHost : Bool)
  | rectData (pixels : Word)
  | rectangleInFlight
  | rectangleFinish (seq : Byte) (afterWindow : Bool)
  | writeRectTimeout (afterWindow : Bool)
  | displayCommit (byHost : Bool) (buf : Bool) (afterWindow : Bool)
  | blanking
  | hostOwn (value : Bool)
  | ownerChange
  | pumpFault
  | pumpRestart (inRegulation : Bool)
  | promptStart
  | promptEnd
  | audShort
  | shutdownEnd
  | retriesReset
  | tick (n : Fin 8)
  | topWrite (n : Fin 8) (value : Word)
  | cmpWrite (n : Fin 8) (value : Word)
  | clr (n : Fin 8)
  | runStart (n : Fin 8)
  | runStop (n : Fin 8)
  | capture (n : Fin 8)
  | captRead (n : Fin 8)
  | cfgWrite (n : Fin 8) (value : Word)
  | scrubWord (result : ScrubResult)
  | codeBlockCheck (matched : Bool)
  | scrubLate
  | logFlashWrite (zone : Zone) (programmed : Bool)
  | erase (zone : Zone) (erased : Bool)
  | eraseDone (zone : Zone)
  | wearCopy (zone : Zone) (copyGood : Bool)
  | telemetrySnapshot
  | selfTestPilotLoopback (rq : Requester) (queue : Bool)
  | selfTestReference (rq : Requester) (queue : Bool)
  | selfTestWinding (rq : Requester) (queue : Bool)
  | selfTestLineLoopback (rq : Requester) (queue : Bool)
  | selfTestClassD (rq : Requester) (queue : Bool)
  | selfTestAll (rq : Requester) (queue : Bool)
  | islandBist (rq : Requester) (code : Byte) (queue : Bool)
  | islandBistAll (rq : Requester) (queue : Bool)
  | loopbackTestRun (items : BitVec 12) (noLoad : Bool)
  | selfTestConditionTimeout
  | heldSelfTestStart
  | bistIsland (marchPass : Bool) (signature : Word)
  | bistIslandNotReturned
  | fwImageBlock (rq : Requester) (first : Bool) (last : Bool) (offset : Word) (total : Word) (data : Bytes)
  | loaderHandover
  | streamStall
  | writeFrame (mode3 : Bool) (header : Bytes) (words : List Word)
  | readFrame (mode3 : Bool) (header : Bytes)
  | frameCut (read : Bool) (header : Bytes) (words : List Word)
  | mailboxGo (len : Byte)
  | rspAck
  | ntfAck
  | mailboxResponse
  | registerWrite (addr : BitVec 16) (value : Word)
  | mediumBusy
  | fchDecode (fch : Bytes)
  | protectedSpanEnd
  | vbatLow (mv : BitVec 16)
  | rtcXtalStop
  | safeSelfFault
deriving DecidableEq, Repr

end Sys2Proof
end

