-- ==== Sys2Proof/Config.lean ====
section
/-! DEFINITION. What an implementation fixes and the spec leaves open: opaque constants with no body. A number applied to
one of them is the state's counter of free values, so each use is a fresh value. -/

namespace Sys2Proof.Config

/-- R87: whether a RESETN pulse from 200 ns to 1 µs causes a reset. -/
opaque resetPulse : Nat → Bool

/-- R378: the draw of a random slot number, taken modulo the window. -/
opaque randomSlot : Nat → BitVec 16

/-- R212: the duty the hold-current loop chooses; its control law is not specified. -/
opaque economiserDuty : Nat → BitVec 8

/-- The bytes of a group 28 event record other than Table 10-9: index and offset. The spec lays none of them out. -/
opaque eventByte : Nat → Nat → BitVec 8

/-- SHA-256 of the manifest that the part ships with (FwManifestHash). -/
opaque shippedManifestHash : BitVec 256

/-- FirmwareVersion of the image that the part ships with. -/
opaque shippedVersion : BitVec 32

/-- NBLOCKS of the manifest that the part ships with (Table 21-2). -/
opaque shippedBlocks : Nat

/-- The contents of the image blocks that the part ships with: block and offset. -/
opaque shippedImage : Nat → Nat → BitVec 8

/-- The MISR signature that a good island's scan gives in the running image's reference table (R499): island number. -/
opaque goodSignature : Nat → BitVec 32

/-- Whether the image of a version holds a bitmap: version, set, asset number (Table 17-6; only R510 names the section). -/
opaque assetExists : Nat → Nat → Nat → Bool

/-- The width of a bitmap: version, set, asset number. -/
opaque assetWidth : Nat → Nat → Nat → BitVec 8

/-- The height of a bitmap: version, set, asset number. -/
opaque assetHeight : Nat → Nat → Nat → BitVec 8

/-- The pixels of a bitmap: version, set, asset number, then x and y. -/
opaque assetPixel : Nat → Nat → Nat → Nat → Nat → BitVec 4

/-- Whether the image that the part ships with holds a prompt: set and prompt number (R511). -/
opaque shippedPrompt : Nat → Nat → Bool

/-- The bytes of the key slots as burned at manufacture and at provisioning (Table 14-2): slot and byte. Each part has its own. -/
opaque keySlotByte : Nat → Nat → BitVec 8

/-- The offset trim of each converter in the manufacturing block of OTP (R501): converter. Each part has its own. -/
opaque otpOffset : Nat → BitVec 16

/-- The gain trim of each converter in the manufacturing block (R501). -/
opaque otpGain : Nat → BitVec 16

/-- The skew trim of each pair in the manufacturing block (R501). -/
opaque otpSkew : Nat → BitVec 9

/-- The reference trim of the manufacturing block (R501). -/
opaque otpReference : BitVec 16

/-- The production test records of the manufacturing block (Table 4-1): no layout is given. -/
opaque otpTestRecords : List (BitVec 8)

/-- The range of OTP that is reserved for Haldantus service (Table 4-1). -/
opaque otpService : List (BitVec 8)

/-- The characters of the part's serial number (Table 6-4). -/
opaque serialByte : Nat → BitVec 8

/-- The level of an input pad that no command carries (Table 18-2): free value number and source code. -/
opaque padLevel : Nat → Nat → Bool

/-- The code that the VREF_PX monitor gives at 3.000 V (R570): its scaling is not stated. -/
opaque vrefNominal : BitVec 16

/-- A bit that the spec leaves open. -/
opaque freeBit : Nat → Bool

end Sys2Proof.Config
end

