-- ==== Sys2Proof/Machine/Bits.lean ====
section
/-! DEFINITION. Bit fields, byte order (R9), sign extension, rounding and the checks CRC-32C and CRC-8 that the spec uses. -/

namespace Sys2Proof.Machine

/-- The n low-order bytes of v, least significant first (R9). -/
def leBytes : Nat → Nat → Bytes
  | 0, _ => []
  | n + 1, v => BitVec.ofNat 8 v :: leBytes n (v / 256)

/-- The number that a byte string holds, least significant byte first (R9). -/
def ofLe : Bytes → Nat
  | [] => 0
  | b :: r => b.toNat + 256 * ofLe r

/-- The n low-order bytes of v, most significant first (R340). -/
def beBytes (n v : Nat) : Bytes := (leBytes n v).reverse

/-- The number that a byte string holds, most significant byte first (R340). -/
def ofBe (b : Bytes) : Nat := ofLe b.reverse

/-- n bytes of b from offset off on; absent bytes are left out. -/
def slice (off n : Nat) (b : Bytes) : Bytes := (b.drop off).take n

/-- The little-endian number of n bytes at offset off. -/
def fieldLe (off n : Nat) (b : Bytes) : Nat := ofLe (slice off n b)

/-- n bytes of 00h. -/
def zeros (n : Nat) : Bytes := List.replicate n 0

/-- b followed by 00h bytes up to n bytes. -/
def padTo (n : Nat) (b : Bytes) : Bytes := b ++ zeros (n - b.length)

/-- Whether every byte is 00h. -/
def allZero (b : Bytes) : Bool := b.all (· == 0)

/-- A Bool as bit value. -/
def bit (b : Bool) : Nat := if b then 1 else 0

/-- The field of w bits of v from bit lo on. -/
def bits (v lo w : Nat) : Nat := v / 2 ^ lo % 2 ^ w

/-- Whether bit i of v is set. -/
def hasBit (v i : Nat) : Bool := v.testBit i

/-- A register word from (value, lowest bit) pairs of its fields. -/
def fields (l : List (Nat × Nat)) : Word := BitVec.ofNat 32 (l.foldl (fun a p => a + p.1 * 2 ^ p.2) 0)

/-- Addition that saturates at the largest value of the width ("saturates at its maximum value"). -/
def satAdd {w : Nat} (a : BitVec w) (n : Nat) : BitVec w :=
  if a.toNat + n < 2 ^ w then BitVec.ofNat w (a.toNat + n) else BitVec.allOnes w

/-- A counter that increases by 1 and saturates. -/
def satInc {w : Nat} (a : BitVec w) : BitVec w := satAdd a 1

/-- b with bit i set. -/
def setBit {w : Nat} (b : BitVec w) (i : Nat) : BitVec w := b ||| (BitVec.ofNat w (2 ^ i))

/-- b with bit i clear. -/
def clearBit {w : Nat} (b : BitVec w) (i : Nat) : BitVec w := b &&& ~~~(BitVec.ofNat w (2 ^ i))

/-- b with bit i equal to v. -/
def putBit {w : Nat} (b : BitVec w) (i : Nat) (v : Bool) : BitVec w := if v then setBit b i else clearBit b i

/-- The two's complement word of an integer, cut to w bits. -/
def ofInt (w : Nat) (i : Int) : BitVec w := BitVec.ofInt w i

/-- An integer limited to the signed range of w bits. -/
def clampInt (w : Nat) (i : Int) : Int := max (-(2 ^ (w - 1) : Int)) (min i (2 ^ (w - 1) - 1))

/-- The integer square root by Newton's steps, with fuel. -/
def isqrtStep : Nat → Nat → Nat → Nat
  | 0, _, x => x
  | f + 1, n, x => let y := (x + n / x) / 2; if y < x then isqrtStep f n y else x

/-- The largest x whose square is at most n. -/
def isqrt (n : Nat) : Nat := if n = 0 then 0 else isqrtStep 200 n (2 ^ (n.log2 / 2 + 1))

/-- n divided by d, halves rounded up. -/
def roundDiv (n d : Nat) : Nat := (2 * n + d) / (2 * d)

/-- Replaces the entry of a list at index i. -/
def setAt {α : Type} (l : List α) (i : Nat) (a : α) : List α := l.set i a

/-- One bit of a reflected CRC. -/
def crcBit (poly c : Nat) : Nat := if c % 2 = 1 then (c / 2) ^^^ poly else c / 2

/-- One byte of CRC-32C (reflected polynomial 82F63B78h). -/
def crc32cByte (c : Nat) (b : Byte) : Nat := (fun x => crcBit 0x82F63B78 x)^[8] (c ^^^ b.toNat)

/-- CRC-32C over a byte string (R16, R575). -/
def crc32c (b : Bytes) : Nat := (b.foldl crc32cByte 0xFFFFFFFF) ^^^ 0xFFFFFFFF

/-- One bit of CRC-8 with polynomial 07h, most significant bit first. -/
def crc8Bit (c : Nat) : Nat := if c < 128 then c * 2 else (c * 2 % 256) ^^^ 0x07

/-- CRC-8 of the frame control header: polynomial 07h from 00h (R372). -/
def crc8 (b : Bytes) : Nat := b.foldl (fun c x => crc8Bit^[8] (c ^^^ x.toNat)) 0

/-- Whether a byte string is well-formed UTF-8 (Table 5-1): no overlong form, no surrogate, nothing above 10FFFFh. -/
def utf8Ok : Nat → Bytes → Bool
  | _, [] => true
  | 0, _ => false
  | f + 1, b :: r =>
    let cont (x : Byte) : Bool := 0x80 ≤ x.toNat && x.toNat < 0xC0
    let v := b.toNat
    if v < 0x80 then utf8Ok f r
    else if 0xC2 ≤ v && v < 0xE0 then
      match r with
      | x :: r' => cont x && utf8Ok f r'
      | _ => false
    else if 0xE0 ≤ v && v < 0xF0 then
      match r with
      | x :: y :: r' =>
        cont x && cont y && (v != 0xE0 || 0xA0 ≤ x.toNat) && (v != 0xED || x.toNat < 0xA0) && utf8Ok f r'
      | _ => false
    else if 0xF0 ≤ v && v < 0xF5 then
      match r with
      | x :: y :: z :: r' =>
        cont x && cont y && cont z && (v != 0xF0 || 0x90 ≤ x.toNat) && (v != 0xF4 || x.toNat < 0x90) && utf8Ok f r'
      | _ => false
    else false

/-- Whether a byte string is well-formed UTF-8. -/
def isUtf8 (b : Bytes) : Bool := utf8Ok b.length b

end Sys2Proof.Machine
end

