-- ==== Sys2Proof/Machine/Catalogue.lean ====
section
/-! DEFINITION. The object dictionary catalogue (05, 06): every entry of Tables 6-4 to 6-22, 4-5, 5-11 and 3-5 with its
type, access, persistence, range, default and markers. -/

namespace Sys2Proof.Machine

/-- The OD address of group g, item i (R11): group in [15:10], item in [9:0]. -/
def od (g i : Nat) : BitVec 16 := BitVec.ofNat 16 (g * 1024 + i)

/-- The sizes of Table 5-1. -/
inductive OdType where
  | num (size : Nat)
  | signed (size : Nat)
  | str (max : Nat)
  | blob (min max : Nat)
deriving DecidableEq, Repr

/-- Access classes (Table 5-2). -/
inductive Access5 where
  | r | rw | w | rwa | rwk
deriving DecidableEq, Repr

/-- Persistence classes (Table 5-3). -/
inductive Persistence where
  | v | rt | otp | lg
deriving DecidableEq, Repr

/-- The ranges that the catalogue gives (R165). -/
inductive OdRange where
  | any
  | upTo (lo hi : Nat)
  | signedUpTo (lo hi : Int)
  | divisorOf60
  | coppice
  | selfTest
  | ledgerCursor
  | eventCursor
deriving DecidableEq, Repr

/-- One catalogue row. -/
structure OdRow where
  addr : BitVec 16
  type : OdType
  access : Access5
  persistence : Persistence := .v
  range : OdRange := .any
  dflt : Bytes := []
  action : Bool := false
  loader : Bool := false
deriving DecidableEq, Repr

/-- A read-only row of a number. -/
def roNum (g i size : Nat) (p : Persistence := .v) (loader : Bool := false) : OdRow :=
  { addr := od g i, type := .num size, access := .r, persistence := p, dflt := zeros size, loader := loader }

/-- A read-only row of a BLOB. -/
def roBlob (g i max : Nat) (p : Persistence := .v) (loader : Bool := false) : OdRow :=
  { addr := od g i, type := .blob 1 max, access := .r, persistence := p, loader := loader }

/-- A number setting of OTP class with its range and default. -/
def setting (g i size : Nat) (a : Access5) (lo hi d : Nat) (loader : Bool := false) : OdRow :=
  { addr := od g i, type := .num size, access := a, persistence := .otp, range := .upTo lo hi, dflt := leBytes size d
    loader := loader }

/-- An action entry of one byte. -/
def actionRow (g i : Nat) (lo hi : Nat) (loader : Bool := false) : OdRow :=
  { addr := od g i, type := .num 1, access := .rwa, range := .upTo lo hi, dflt := [0], action := true, loader := loader }

/-- Groups 00 to 02 (Tables 6-4, 4-5, 6-5, 5-11, 6-6). -/
def rowsA : List OdRow := [
  { addr := od 0 0, type := .str 12, access := .r, loader := true },
  { addr := od 0 1, type := .str 8, access := .r, loader := true },
  roNum 0 2 2 .v true, roNum 0 3 4 .v true, roNum 0 4 4 .v true, roBlob 0 5 64 .v true,
  { addr := od 0 0x10, type := .str 24, access := .rwa, persistence := .otp,
    dflt := [0x42, 0x4C, 0x2D, 0x34, 0x32, 0x30] },
  roNum 0 0x20 1, roNum 0 0x21 1, roNum 0 0x22 1, roNum 0 0x23 1 .rt, roNum 0 0x24 1, roBlob 0 0x25 32,
  actionRow 0 0x26 1 1 ]
  ++ [ setting 1 0 1 .rwk 1 127 127 true, setting 1 1 1 .rwk 1 255 1 true, setting 1 2 1 .rwk 0 1 0 true,
  setting 1 3 1 .rwk 0 2 0 true, setting 1 4 4 .rwa 9600 1000000 115200 true, setting 1 0x10 1 .rwa 0 1 1,
  setting 1 0x11 1 .rwa 1 20 4, roNum 1 0x12 1, roNum 1 0x20 2, setting 1 0x21 2 .rwa 60 7200 900,
  roNum 1 0x30 4, roNum 1 0x31 4, roNum 1 0x32 4 ]
  ++ [ roNum 1 0x80 2 .rt true, roNum 1 0x81 4 .rt true, roNum 1 0x82 4 .v true, roNum 1 0x83 4 .v true,
  roNum 1 0x84 4 .v true, roNum 1 0x85 4 .v true, roNum 1 0x86 1 .v true, roNum 1 0x87 2 .v true,
  setting 1 0x88 2 .rwa 200 60000 1000 true, setting 1 0x89 2 .rwa 5 600 30 true ]
  ++ [ roNum 2 0 6, roNum 2 1 1 .rt,
  { addr := od 2 2, type := .blob 1 96, access := .w, action := true },
  setting 2 3 2 .rwa 100 60000 2000,
  { addr := od 2 4, type := .signed 4, access := .r, persistence := .rt, dflt := zeros 4 } ]

/-- Groups 04 to 0A (Tables 6-7 to 6-11, 3-5). -/
def rowsB : List OdRow := [
  roNum 4 0 1, roNum 4 1 1, setting 4 2 1 .rwa 0 3 0, setting 4 3 2 .rwa 20 5000 200, setting 4 4 1 .rwk 0 3 0,
  roNum 4 5 4 .rt,
  { addr := od 5 0, type := .num 1, access := .rwa, persistence := .otp, range := .divisorOf60, dflt := [15] },
  roNum 5 1 4 .rt, roNum 5 2 4 .rt, roNum 5 3 6 .rt, actionRow 5 4 1 1, roNum 5 0x10 4 .lg, roBlob 5 0x11 32 .lg,
  roNum 5 0x12 4 .lg,
  { addr := od 5 0x13, type := .num 4, access := .rw, range := .ledgerCursor, dflt := zeros 4 },
  roBlob 5 0x14 256 .lg, roNum 5 0x15 4 .lg ]
  ++ [ roNum 8 0 2, setting 8 1 2 .rwa 60 630 630, setting 8 2 1 .rwa 0 1 0, roNum 8 3 4,
  { addr := od 8 4, type := .signed 4, access := .r, dflt := zeros 4 },
  { addr := od 8 5, type := .signed 4, access := .r, dflt := zeros 4 },
  roNum 8 6 2, roNum 8 0x10 4 ]
  ++ [ roNum 9 0 4, setting 9 1 2 .rwk 50 2000 300, setting 9 2 2 .rwk 20 500 100, roNum 9 3 4 .rt, roNum 9 4 4 .rt,
  setting 9 0x50 2 .rwk 100 277 230, setting 9 0x51 2 .rwa 400 850 600, setting 9 0x52 2 .rwa 500 60000 2000 ]
  ++ [ roNum 10 0 1, roNum 10 1 1 .rt, setting 10 2 2 .rwk 200 5000 2000, setting 10 3 1 .rwa 0 1 1, actionRow 10 4 1 1 ]

/-- The signed Q16.16 calibration settings of group 10. -/
def q16Setting (i : Nat) (lo hi : Int) (d : Nat) : OdRow :=
  { addr := od 0x10 i, type := .signed 4, access := .rwk, persistence := .otp, range := .signedUpTo lo hi
    dflt := leBytes 4 d }

/-- Groups 0C to 11 (Tables 6-12 to 6-15). 0.9 is 58 982.4 / 65 536 and 1.1 is 72 089.6 / 65 536. -/
def rowsC : List OdRow := [
  roNum 12 0 4, roNum 12 1 4, setting 12 2 2 .rwa 6 300 30, roNum 12 3 2, setting 12 4 2 .rwa 60 300 250, roNum 12 5 4 .rt,
  roNum 13 0 4 .v true, roNum 13 1 1 .v true, roNum 13 2 2 .rt true, actionRow 13 3 1 1, roNum 13 4 4 .rt, roNum 13 5 4 ]
  ++ (List.range 3).map (fun p => roNum 0x10 p 4) ++ (List.range 4).map (fun c => roNum 0x10 (4 + c) 4)
  ++ (List.range 3).map (fun p => { addr := od 0x10 (8 + p), type := .signed 4, access := .r, dflt := zeros 4 })
  ++ [roNum 0x10 0x0C 4]
  ++ (List.range 12).map (fun i => roNum 0x10 (0x10 + i) 8 .lg) ++ (List.range 3).map (fun p => roNum 0x10 (0x20 + p) 8 .lg)
  ++ [setting 0x10 0x30 2 .rwk 100 10000 1000, roNum 0x10 0x31 1]
  ++ (List.range 3).map (fun p => q16Setting (0x40 + p) 58983 72089 65536)
  ++ (List.range 4).map (fun c => q16Setting (0x44 + c) 58983 72089 65536)
  ++ (List.range 4).map (fun c => q16Setting (0x48 + c) (-131072) 131072 0)
  ++ [roNum 0x11 0 4] ++ (List.range 16).map (fun w => roNum 0x11 (0x10 + w) 4) ++ [roNum 0x11 0x20 4 .rt]

/-- Groups 14 to 20 (Tables 6-16 to 6-20). -/
def rowsD : List OdRow := [
  setting 0x14 0 1 .rwk 0 1 0, setting 0x14 1 1 .rwk 0 1 1, setting 0x14 2 1 .rwk 0 1 0, setting 0x14 3 1 .rwa 0 255 128,
  setting 0x14 4 1 .rwa 0 7 0,
  { addr := od 0x14 5, type := .str 32, access := .rw, dflt := [0x20] },
  roNum 0x14 6 4, setting 0x15 0 1 .rwa 0 255 160, setting 0x15 1 1 .rwa 0 1 1, roNum 0x15 2 1 .rt,
  actionRow 0x15 3 1 1, actionRow 0x15 4 1 63 ]
  ++ (List.range 8).map (fun n => roNum 0x18 n 4) ++ [roNum 0x18 8 4]
  ++ [ { addr := od 0x1C 0, type := .blob 1 128, access := .w, persistence := .rt },
  roNum 0x1C 1 1 .rt, roNum 0x1C 2 4 .rt, roNum 0x1C 3 4 .rt, roNum 0x1C 4 6 .rt, actionRow 0x1C 5 1 1,
  { addr := od 0x1C 0x10, type := .blob 1 128, access := .w, loader := true },
  roNum 0x1C 0x11 1 .v true, roNum 0x1C 0x12 1,
  { addr := od 0x1D 0, type := .blob 16 16, access := .w, action := true, loader := true },
  roBlob 0x1D 1 256 .v true, roNum 0x1D 2 4 .rt true ]
  ++ [ roBlob 0x20 0 32 .v true,
  { addr := od 0x20 1, type := .blob 1 0xFFFFFFFF, access := .w, loader := true },
  { addr := od 0x20 2, type := .num 1, access := .rwk, range := .upTo 0 1, dflt := [0], loader := true },
  roNum 0x20 3 4 .v true, actionRow 0x20 4 1 1 true ]

/-- Groups 22 to 28 (Tables 6-21, 6-22, 3-5). -/
def rowsE : List OdRow := [
  { addr := od 0x22 0, type := .num 1, access := .rwa, persistence := .otp, range := .coppice, dflt := [15] },
  { addr := od 0x22 1, type := .num 1, access := .rw, range := .upTo 0 15, dflt := [0] },
  roNum 0x22 2 4 .rt, roNum 0x22 3 4 .rt, setting 0x22 4 2 .rwa 60 43200 900, roNum 0x22 5 1,
  { addr := od 0x24 0, type := .num 2, access := .rwa, range := .selfTest, dflt := [0, 0], action := true },
  roNum 0x24 1 4 .rt, roNum 0x24 2 6 .rt,
  roNum 0x28 0 4 .rt true,
  { addr := od 0x28 1, type := .num 4, access := .rw, range := .eventCursor, dflt := zeros 4, loader := true },
  roBlob 0x28 2 32 .v true, actionRow 0x28 3 0xA5 0xA5 true, roNum 0x28 4 4 .lg true,
  roNum 0x28 0x10 4 .rt true, roNum 0x28 0x11 4 .v true, roNum 0x28 0x12 4 ]

/-- Every documented entry (R164). -/
def catalogue : List OdRow := rowsA ++ rowsB ++ rowsC ++ rowsD ++ rowsE

/-- The row of an address. -/
def odRow? (a : BitVec 16) : Option OdRow := catalogue.find? fun r => r.addr == a

/-- The OTP-class rows (R115). -/
def otpRows : List OdRow := catalogue.filter fun r => r.persistence == .otp

/-- The group of an address (R11). -/
def groupOf (a : BitVec 16) : Nat := a.toNat / 1024

/-- The island that holds an entry's state. DEDUCED from the chapters of Table 6-1; the spec does not tabulate it. -/
def ownerOf (a : BitVec 16) : Island :=
  let i := a.toNat % 1024
  match groupOf a with
  | 0x00 => if i = 5 then .sec else .seq
  | 0x01 => if 0x80 ≤ i then .seq else .plc
  | 0x02 => .aon
  | 0x04 => if i = 0 ∨ i = 5 then .met else .aon
  | 0x05 => if i = 0x14 then .sec else .seq
  | 0x08 => if i = 6 then .adc else .tmr
  | 0x09 => if 0x50 ≤ i then .met else .tmr
  | 0x0A => .tmr
  | 0x0C => .adc
  | 0x0D => .safe
  | 0x10 => .met
  | 0x11 => .adc
  | 0x14 => .disp
  | 0x15 => .aud
  | 0x18 => .tmr
  | 0x1C => if 1 ≤ i ∧ i ≤ 5 then .seq else .sec
  | 0x1D => .sec
  | 0x20 => .sec
  | 0x22 => .bgd
  | 0x24 => .safe
  | _ => if 0x10 ≤ i then .aon else if i = 2 then .sec else .seq

/-- Whether a length is right for a type (R132). -/
def OdType.lengthOk (t : OdType) (n : Nat) : Bool :=
  match t with
  | .num k => n == k
  | .signed k => n == k
  | .str m => 1 ≤ n && n ≤ m
  | .blob lo hi => lo ≤ n && n ≤ hi

/-- Check 3 of R145: length and, for STR, UTF-8 (R132). -/
def OdRow.typeOk (r : OdRow) (v : Bytes) : Bool :=
  r.type.lengthOk v.length && (match r.type with | .str _ => isUtf8 v | _ => true)

/-- Entries that are longer than 32 bytes are read and written only by block transfer (R132). -/
def OdRow.long (r : OdRow) : Bool :=
  match r.type with
  | .blob _ hi => 32 < hi
  | _ => false

end Sys2Proof.Machine
end

