-- ==== Sys2Proof/Machine/Crypto.lean ====
section
/-! DEFINITION. The algorithms of Table 14-1 that documented entries use: SHA-256, HMAC and HKDF, AES-128-CMAC, and
ECDSA over P-256 with the nonce of R346. Byte strings are big-endian as R340 says. -/

namespace Sys2Proof.Machine

/-- The first n primes' search: trial division with fuel, used for the SHA-256 constants. -/
def isPrimeUpTo : Nat → Nat → Bool
  | 0, _ => true
  | d + 1, n => (d + 1 ≤ 1 || n % (d + 1) != 0) && isPrimeUpTo d n

/-- The primes below 312, the 64 that SHA-256 is built from. -/
def primes64 : List Nat := (List.range 312).filter fun n => 2 ≤ n && isPrimeUpTo (n - 1) n

/-- Largest x with x ^ 3 ≤ n, by bits from bit b on. -/
def icbrt : Nat → Nat → Nat → Nat
  | 0, n, x => if (x + 1) ^ 3 ≤ n then x + 1 else x
  | b + 1, n, x => let y := x + 2 ^ (b + 1); icbrt b n (if y ^ 3 ≤ n then y else x)

/-- The 64 round constants: fractional parts of cube roots of primes. -/
def shaK : List Word := primes64.map fun p => BitVec.ofNat 32 (icbrt 35 (p * 2 ^ 96) 0)

/-- The initial hash: fractional parts of square roots of the first eight primes. -/
def shaH0 : List Word := (primes64.take 8).map fun p => BitVec.ofNat 32 (isqrt (p * 2 ^ 64))

/-- The message schedule: sixteen words, then each from those before it, newest first. -/
def shaSchedule : Nat → List Word → List Word
  | 0, w => w
  | n + 1, w =>
    let a := w.getD 1 0
    let b := w.getD 14 0
    let s1 := a.rotateRight 17 ^^^ a.rotateRight 19 ^^^ (a >>> 10)
    let s0 := b.rotateRight 7 ^^^ b.rotateRight 18 ^^^ (b >>> 3)
    shaSchedule n ((s1 + w.getD 6 0 + s0 + w.getD 15 0) :: w)

/-- The eight working words. -/
structure ShaState where
  a : Word
  b : Word
  c : Word
  d : Word
  e : Word
  f : Word
  g : Word
  h : Word
deriving DecidableEq, Repr

/-- One round. -/
def shaRound (s : ShaState) (kw : Word × Word) : ShaState :=
  let s1 := s.e.rotateRight 6 ^^^ s.e.rotateRight 11 ^^^ s.e.rotateRight 25
  let ch := (s.e &&& s.f) ^^^ (~~~s.e &&& s.g)
  let t1 := s.h + s1 + ch + kw.1 + kw.2
  let s0 := s.a.rotateRight 2 ^^^ s.a.rotateRight 13 ^^^ s.a.rotateRight 22
  let mj := (s.a &&& s.b) ^^^ (s.a &&& s.c) ^^^ (s.b &&& s.c)
  ⟨t1 + (s0 + mj), s.a, s.b, s.c, s.d + t1, s.e, s.f, s.g⟩

/-- Big-endian words of a block. -/
def beWords : Nat → Bytes → List Word
  | 0, _ => []
  | n + 1, b => BitVec.ofNat 32 (ofBe (b.take 4)) :: beWords n (b.drop 4)

/-- One 64-byte block. -/
def shaBlock (h : ShaState) (blk : Bytes) : ShaState :=
  let w := (shaSchedule 48 (beWords 16 blk).reverse).reverse
  let r := (shaK.zip w).foldl shaRound h
  ⟨h.a + r.a, h.b + r.b, h.c + r.c, h.d + r.d, h.e + r.e, h.f + r.f, h.g + r.g, h.h + r.h⟩

/-- All the blocks of a padded message. -/
def shaBlocks : Nat → ShaState → Bytes → ShaState
  | 0, h, _ => h
  | n + 1, h, b => shaBlocks n (shaBlock h (b.take 64)) (b.drop 64)

/-- SHA-256. -/
def sha256 (m : Bytes) : Bytes :=
  let n := m.length
  let blocks := (n + 9 + 63) / 64
  let padded := m ++ [0x80] ++ zeros (blocks * 64 - n - 9) ++ beBytes 8 (8 * n)
  let i := shaH0
  let r := shaBlocks blocks
    ⟨i.getD 0 0, i.getD 1 0, i.getD 2 0, i.getD 3 0, i.getD 4 0, i.getD 5 0, i.getD 6 0, i.getD 7 0⟩ padded
  [r.a, r.b, r.c, r.d, r.e, r.f, r.g, r.h].flatMap fun w => beBytes 4 w.toNat

/-- HMAC-SHA-256. -/
def hmac (key m : Bytes) : Bytes :=
  let k := padTo 64 (if 64 < key.length then sha256 key else key)
  sha256 (k.map (· ^^^ 0x5C) ++ sha256 (k.map (· ^^^ 0x36) ++ m))

/-- HKDF-SHA-256 for at most 32 bytes; the default salt is 32 bytes of 00h (R345). -/
def hkdf (salt ikm info : Bytes) (n : Nat) : Bytes :=
  (hmac (hmac (if salt = [] then zeros 32 else salt) ikm) (info ++ [1])).take n

/-- Doubling in the field of AES. -/
def xtime (b : Byte) : Byte := (b <<< 1) ^^^ (if b.getLsbD 7 then 0x1B else 0)

/-- Multiplication in the field of AES, over the bits of a from the top. -/
def gmul (a b : Byte) : Byte :=
  (List.range 8).foldr (fun i r => xtime r ^^^ (if a.getLsbD i then b else 0)) 0

/-- The inverse in the field of AES: b to the power 254. -/
def ginv (b : Byte) : Byte :=
  let sq := gmul b b
  let step := fun (p : Byte × Byte) => let q := gmul p.2 p.2; (gmul p.1 q, q)
  (step^[6] (sq, sq)).1

/-- The AES substitution by its definition: the inverse, then the affine map. -/
def sboxField (b : Byte) : Byte :=
  let i := ginv b
  i ^^^ i.rotateLeft 1 ^^^ i.rotateLeft 2 ^^^ i.rotateLeft 3 ^^^ i.rotateLeft 4 ^^^ 0x63

/-- The substitution's 256 bytes, 32 to a number, the first in the lowest place. -/
def sboxTable : List Nat :=
  [0xC072A49CAFA2D4ADF04759FA7DC982CA76ABD7FE2B670130C56F6BF27B777C63,
  0x75B227EBE28012079A059618C323C7041531D871F1E5A534CCF73F362693FDB7,
  0xCF584C4A39BECB6A5BB1FC20ED00D153842FE329B3D63B52A05A6E1B1A2C8309,
  0xD2F3FF1021DAB6BCF5389D928F40A351A89F3C507F02F94585334D43FBAAEFD0,
  0xDB0B5EDE14B8EE4688902A22DC4F816073195D643D7EA7C41744975FEC130CCD,
  0x08AE7A65EAF4566CA94ED58D6D37C8E779E4959162ACD3C25C2406490A3A32E0,
  0x9E1DC186B95735610EF6034866B53E708A8BBD4B1F74DDE8C6B4A61C2E2578BA,
  0x16BB54B00F2D99416842E6BF0D89A18CDF2855CEE9871E9B948ED9691198F8E1]

/-- The AES substitution, from its table; sbox_eq_sboxField proves the table right. -/
def sbox (b : Byte) : Byte := BitVec.ofNat 8 (sboxTable.getD (b.toNat / 32) 0 >>> (8 * (b.toNat % 32)))

/-- The next round key. -/
def nextKey (rc : Byte) (k : Bytes) : Bytes :=
  let g := fun i => k.getD i 0
  let t := [sbox (g 13) ^^^ rc, sbox (g 14), sbox (g 15), sbox (g 12)]
  let w0 := (k.take 4).zipWith (· ^^^ ·) t
  let w1 := (slice 4 4 k).zipWith (· ^^^ ·) w0
  let w2 := (slice 8 4 k).zipWith (· ^^^ ·) w1
  let w3 := (slice 12 4 k).zipWith (· ^^^ ·) w2
  w0 ++ w1 ++ w2 ++ w3

/-- SubBytes and ShiftRows on a column-major block. -/
def subShift (b : Bytes) : Bytes :=
  (List.range 16).map fun i => sbox (b.getD ((i + 4 * (i % 4)) % 16) 0)

/-- MixColumns. -/
def mixColumns (b : Bytes) : Bytes :=
  (List.range 16).map fun i =>
    let c := i / 4 * 4
    let g := fun j => b.getD (c + (i + j) % 4) 0
    xtime (g 0) ^^^ (xtime (g 1) ^^^ g 1) ^^^ g 2 ^^^ g 3

/-- AES-128 rounds: n middle rounds still to go. -/
def aesRounds : Nat → Byte → Bytes → Bytes → Bytes
  | 0, rc, k, b => (subShift b).zipWith (· ^^^ ·) (nextKey rc k)
  | n + 1, rc, k, b =>
    let k' := nextKey rc k
    aesRounds n (xtime rc) k' ((mixColumns (subShift b)).zipWith (· ^^^ ·) k')

/-- AES-128 of one block. -/
def aes128 (key block : Bytes) : Bytes := aesRounds 9 1 key (block.zipWith (· ^^^ ·) key)

/-- Doubling of a block for CMAC. -/
def cmacDouble (b : Bytes) : Bytes :=
  let v := ofBe b
  beBytes 16 (if v < 2 ^ 127 then 2 * v else (2 * v) % 2 ^ 128 ^^^ 0x87)

/-- The CBC part of CMAC over n whole blocks. -/
def cbc (key : Bytes) : Nat → Bytes → Bytes → Bytes
  | 0, c, _ => c
  | n + 1, c, m => cbc key n (aes128 key (c.zipWith (· ^^^ ·) (m.take 16))) (m.drop 16)

/-- AES-128-CMAC truncated to 64 bits (Table 14-1). -/
def cmac64 (key m : Bytes) : Bytes :=
  let k1 := cmacDouble (aes128 key (zeros 16))
  let whole := m.length % 16 = 0 ∧ m ≠ []
  let n := if whole then m.length / 16 - 1 else m.length / 16
  let tail := m.drop (16 * n)
  let last := if whole then tail.zipWith (· ^^^ ·) k1 else (padTo 16 (tail ++ [0x80])).zipWith (· ^^^ ·) (cmacDouble k1)
  (aes128 key ((cbc key n (zeros 16) m).zipWith (· ^^^ ·) last)).take 8

/-- The field prime of P-256. -/
def p256 : Nat := 2 ^ 256 - 2 ^ 224 + 2 ^ 192 + 2 ^ 96 - 1

/-- The order n of P-256. -/
def n256 : Nat := 0xFFFFFFFF00000000FFFFFFFFFFFFFFFFBCE6FAADA7179E84F3B9CAC2FC632551

/-- The coefficient b of P-256. -/
def b256 : Nat := 0x5AC635D8AA3A93E7B3EBBD55769886BC651D06B0CC53B0F63BCE3C3E27D2604B

/-- The base point G. -/
def g256 : Nat × Nat :=
  (0x6B17D1F2E12C4247F8BCE6E563A440F277037D812DEB33A0F4A13945D898C296,
   0x4FE342E2FE1A7F9B8EE7EB4A7C0F9E162BCE33576B315ECECBB6406837BF51F5)

/-- a to the power e modulo m, over the low f bits of e. -/
def powMod : Nat → Nat → Nat → Nat → Nat
  | 0, _, _, _ => 1
  | f + 1, a, e, m =>
    let r := powMod f (a * a % m) (e / 2) m
    if e % 2 = 1 then r * a % m else r

/-- The inverse modulo a prime below 2 ^ 256. -/
def invMod (a m : Nat) : Nat := powMod 256 (a % m) (m - 2) m

/-- A point of the curve; none is the point at infinity. -/
abbrev Point := Option (Nat × Nat)

/-- Addition of points. -/
def ptAdd (p q : Point) : Point :=
  match p, q with
  | none, q => q
  | p, none => p
  | some (x1, y1), some (x2, y2) =>
    let m := p256
    if x1 = x2 ∧ (y1 + y2) % m = 0 then none
    else
      let l := if x1 = x2 then (3 * x1 * x1 + 3 * (m - 1)) * invMod (2 * y1) m % m
        else (y1 + m - y2) * invMod (x1 + m - x2) m % m
      let x := (l * l + 2 * m - x1 - x2) % m
      some (x, (l * (x1 + m - x) + m - y1) % m)

/-- A scalar multiple, over the low f bits of the scalar. -/
def ptMul : Nat → Nat → Point → Point
  | 0, _, _ => none
  | f + 1, k, p =>
    let r := ptMul f (k / 2) (ptAdd p p)
    if k % 2 = 1 then ptAdd p r else r

/-- Whether (x, y) lies on P-256. -/
def onCurve (x y : Nat) : Bool :=
  x < p256 && y < p256 && (y * y % p256 == (x * x * x + (p256 - 3) * x + b256) % p256)

/-- The 64 bytes X then Y of d·G, empty at infinity. -/
def publicKey (d : Nat) : Bytes :=
  match ptMul 256 d (some g256) with
  | some (x, y) => beBytes 32 x ++ beBytes 32 y
  | none => []

/-- ECDSA P-256 verification of a 64-byte signature over a 32-byte hash, under a 64-byte public key (Table 14-1). -/
def ecdsaVerify (pub hash sig : Bytes) : Bool :=
  let r := ofBe (sig.take 32)
  let t := ofBe (slice 32 32 sig)
  let x := ofBe (pub.take 32)
  let y := ofBe (slice 32 32 pub)
  if pub.length = 64 ∧ sig.length = 64 ∧ 0 < r ∧ r < n256 ∧ 0 < t ∧ t < n256 ∧ onCurve x y = true then
    let w := invMod t n256
    match ptAdd (ptMul 256 (ofBe hash * w % n256) (some g256)) (ptMul 256 (r * w % n256) (some (x, y))) with
    | some (px, _) => px % n256 == r
    | none => false
  else false

/-- One try of R346 with counter byte c. -/
def ecdsaTry (d : Nat) (k hash : Bytes) (c : Byte) : Option Bytes :=
  let kk := ofBe (hmac k (hash ++ [c])) % n256
  match ptMul 256 kk (some g256) with
  | none => none
  | some (x, _) =>
    let r := x % n256
    let t := invMod kk n256 * (ofBe hash + r * d) % n256
    if kk = 0 ∨ r = 0 ∨ t = 0 then none else some (beBytes 32 r ++ beBytes 32 t)

/-- ECDSA signature of R346: the first counter byte that gives one, and that SEC verifies against the public key before it releases it;
none when no counter byte from 00h to 03h passes (Table 14-9). -/
def ecdsaSign (d : Nat) (k hash : Bytes) : Option Bytes :=
  (List.range 4).findSome? fun c => (ecdsaTry d k hash (BitVec.ofNat 8 c)).filter (ecdsaVerify (publicKey d) hash)

/-- An ASCII string as bytes. -/
def ascii (t : String) : Bytes := t.toList.map fun c => BitVec.ofNat 8 c.toNat

end Sys2Proof.Machine
end

