-- ==== Sys2Proof/Machine/State.lean ====
section
/-! DEFINITION. The state of the BL-420 as plain data, block by block: every register, queue, buffer, counter, mode and
pad latch that spec/ gives the part. Every field's default is its value in State.reset: the value the spec states for a
whole-device reset of a new part (R111), or the value that the assumption log names. -/

namespace Sys2Proof.Machine

/-! ### Fabric (02_islands_and_thicket_fabric.md) -/

/-- STATE of THK_PORT_STATn (Table 2-8). -/
inductive PortState where
  | up | resetting | reloading | poweredDown | clockLost | notYetUp
deriving DecidableEq, Repr

/-- The statuses of Table 2-4. -/
inductive FabricStatus where
  | ok | absent | stale | noport | fenceLoss | parity
deriving DecidableEq, Repr

/-- One destination port (THK_PORT_STATn). -/
structure Port where
  /-- EPOCH, Table 2-8, R61, R81 -/
  epoch : BitVec 8 := 0
  /-- STATE, Table 2-8, R81 -/
  state : PortState := .notYetUp
  /-- LOSS_SAT, Table 2-8 -/
  lossSat : Bool := false
  /-- LOSS_COUNT, Table 2-8, R58 -/
  lossCount : BitVec 16 := 0
  /-- the loadable content is reloaded at the return under way, R56, R71 -/
  reloadAtReturn : Bool := false
  /-- FirmwareVersion of the image whose microcode or tables the island holds, Table 2-6; none before its first load -/
  content : Option Word := none
deriving DecidableEq, Repr

/-- A request that its source port accepted and that has not been settled at its destination (R49, R60). -/
structure Flight where
  op : FabricOp
  req : Request
deriving DecidableEq, Repr

/-- A completion on its way to its source (R46). -/
structure Completion where
  tag : BitVec 10
  src : Island
  dst : BitVec 4
  op : FabricOp
  status : FabricStatus
  data : Word
deriving DecidableEq, Repr

/-- A snapshot of a multi-word value taken for one source (R66). -/
structure Snapshot where
  src : Island
  addr : BitVec 16
  words : List Word
deriving DecidableEq, Repr

/-- The words of a multi-word write that waits for its highest word (R67). -/
structure HeldWrite where
  src : Island
  addr : BitVec 16
  words : List Word
deriving DecidableEq, Repr

/-- A fence that waits for the earlier requests of its source (R54). -/
structure FenceWait where
  src : Island
  tag : BitVec 10
  dst : BitVec 4
deriving DecidableEq, Repr

/-- The Thicket fabric and the THK block. -/
structure Fabric where
  /-- the twelve ports, Tables 2-7 and 2-8, R70 -/
  ports : PerIsland Port := ⟨{}, {}, {}, {}, {}, {}, {}, {}, {}, {}, {}, {}⟩
  /-- accepted requests not yet settled, in issue order, R49, R60 -/
  flights : List Flight := []
  /-- requests held at their source ports, in issue order, R51 -/
  held : List Flight := []
  /-- the foreground source that each port served last, for its round robin, R52 -/
  lastServed : PerIsland Island := ⟨.tmr, .tmr, .tmr, .tmr, .tmr, .tmr, .tmr, .tmr, .tmr, .tmr, .tmr, .tmr⟩
  /-- fences that wait, R54 -/
  fences : List FenceWait := []
  /-- completions on their way, in the order they were made, R53 -/
  completions : List Completion := []
  /-- a posted write of the source was dropped since its last fence, R54 -/
  postedLost : PerIsland Bool := ⟨false, false, false, false, false, false, false, false, false, false, false, false⟩
  /-- each source's view of each destination's epoch, Table 2-2, R62 -/
  views : PerIsland (PerIsland (BitVec 8)) :=
    let v : PerIsland (BitVec 8) := ⟨0, 0, 0, 0, 0, 0, 0, 0, 0, 0, 0, 0⟩
    ⟨v, v, v, v, v, v, v, v, v, v, v, v⟩
  /-- snapshots of multi-word values, R66 -/
  snapshots : List Snapshot := []
  /-- held multi-word writes, R67 -/
  heldWrites : List HeldWrite := []
  /-- THK_ISL_CMD.ISLAND, Table 2-10 -/
  cmdIsland : BitVec 4 := 0
  /-- THK_ISL_CMD.REFUSED, Table 2-10, R71 -/
  cmdRefused : Bool := false
  /-- THK_TAGS.PEAK, Table 2-11 -/
  peak : BitVec 11 := 0
  /-- THK_REOPEN.REOPEN, Table 2-12, R72 -/
  reopen : BitVec 12 := 0
  /-- THK_HOST_SEEN.STALE_SEEN, Table 2-13 -/
  staleSeen : BitVec 12 := 0
  /-- THK_HOST_SEEN.ABSENT_SEEN, Table 2-13 -/
  absentSeen : BitVec 12 := 0
deriving DecidableEq, Repr

/-! ### Supplies, reset and start-up (03) -/

/-- The reset sources that set a bit of AON_RST_CAUSE (Table 3-2). -/
inductive ResetCause where
  | porSupply | pin | odRestart | safeReq | pfailRec | loader
deriving DecidableEq, Repr

/-- AON_RST_CAUSE (Table 3-6). -/
structure RstCause where
  /-- [0], Table 3-6 -/
  porSupply : Bool := true
  /-- [1], Table 3-6 -/
  porVbat : Bool := true
  /-- [2], Table 3-6 -/
  pin : Bool := false
  /-- [3], Table 3-6 -/
  odRestart : Bool := false
  /-- [4], Table 3-6 -/
  safeReq : Bool := false
  /-- [5], Table 3-6 -/
  pfailRec : Bool := false
  /-- [6], Table 3-6 -/
  loader : Bool := false
  /-- COUNT [23:16], Table 3-6, R111 -/
  count : BitVec 8 := 1
deriving DecidableEq, Repr

/-- AON_SUPPLY (Table 3-7, R101). -/
structure Supply where
  /-- [0], Table 3-7 -/
  vddcOk : Bool := false
  /-- [1], Table 3-7 -/
  vbatOk : Bool := false
  /-- [2], Table 3-7 -/
  vbatLow : Bool := false
  /-- [3], Table 3-7 -/
  vldOk : Bool := false
  /-- [4], Table 3-7 -/
  vaudOk : Bool := false
  /-- [5], Table 3-7 -/
  voledOk : Bool := false
  /-- PFAIL pad low now, [6], Table 3-7 -/
  pfail : Bool := false
  /-- [7], Table 3-7 -/
  xtalOk : Bool := false
  /-- [8], Table 3-7 -/
  rtcXtalOk : Bool := false
deriving DecidableEq, Repr

/-- AON_BOOT (Table 3-8). -/
structure Boot where
  /-- STAGE [3:0], Table 3-8 -/
  stage : BitVec 4 := 0
  /-- SOURCE [6:4], Table 3-8 -/
  source : BitVec 3 := 7
  /-- GEN [9:7], Table 3-8 -/
  gen : BitVec 3 := 0
  /-- HOMING_SKIPPED [10], Table 3-8, R92 -/
  homingSkipped : Bool := false
  /-- PENDING_CLOSE [11], Table 3-8, R100 -/
  pendingClose : Bool := false
deriving DecidableEq, Repr

/-- The brown-out sequence (R98, R103, R104). -/
structure BrownOut where
  /-- the sequence is in force, R98 -/
  active : Bool := false
  /-- it was started by the VDD3 early warning, R103 -/
  earlyWarning : Bool := false
  /-- it was recognised during boot or in the loader state, R104, R523 -/
  duringBoot : Bool := false
deriving DecidableEq, Repr

/-- Power, reset and boot progress outside the AON registers. -/
structure Power where
  /-- a whole-device reset is held: its cause persists, R87, R88 -/
  resetHeld : Bool := true
  /-- VDD3 is above its power-on-reset threshold, Table 3-1 -/
  vdd3Up : Bool := true
  /-- an AON start from nothing has not yet been completed by SETTINGS_RESTORE, R111 -/
  fromNothing : Bool := true
  /-- the brown-out sequence, R98 -/
  brown : BrownOut := {}
  /-- resets held back behind a COMMIT or the brown-out sequence, R102, R577 -/
  heldResets : List ResetCause := []
  /-- a loader hand-over reset is due, R516 -/
  handoverDue : Bool := false
  /-- the crystal was not stable within 20 ms at this start, R107 -/
  xtalMissed : Bool := false
  /-- the settings were restored at this start, R91 item 3 -/
  settingsRestored : Bool := false
  /-- the row was reached and generation 0 is invalid: the restore failed, Table 4-6 -/
  restoreFailed : Bool := false
  /-- homing is complete or skipped, R91 item 5 -/
  homingDone : Bool := false
  /-- homing has been begun at this start, R92 -/
  homingStarted : Bool := false
  /-- the image check passed at this start, R529 -/
  imageOk : Bool := false
  /-- the loader state is in force, R517 -/
  loaderState : Bool := false
  /-- billing has resumed since reset, R99, R104 -/
  billing : Bool := false
  /-- mains has been present for MainsRestoreDelayMs since MET came up, R96 -/
  mainsPresent : Bool := false
  /-- a session was cut by the reset and its stop reason 7 is not yet recorded, R93 -/
  sessionCut : Bool := false
  /-- VLD, VAUD and VOLED: the owner has reported since this start that the rail is low, R84 -/
  railReported : BitVec 3 := 0
deriving DecidableEq, Repr

/-! ### Persistent settings (04) -/

/-- An entry record: address and value bytes (R115). -/
structure Entry where
  addr : BitVec 16
  value : Bytes
deriving DecidableEq, Repr

/-- One configuration block of OTP in structured form (Table 4-2, R575). -/
structure ConfigBlock where
  format : BitVec 16 := 0
  gen : Byte := 0
  parent : Byte := 0
  count : BitVec 16 := 0
  length : BitVec 16 := 0
  sealWord : Word := 0
  ctime : Time := 0
  flags : Byte := 0
  records : List Entry := []
  /-- the reserved byte and the bytes after the records are 00h, R575 -/
  restZero : Bool := true
  /-- the CRC-32C matches, R575 -/
  crcOk : Bool := false
deriving DecidableEq, Repr

/-- A retained copy of the running settings (Table 4-3). -/
structure RetCopy where
  format : BitVec 16 := 0
  gen : Byte := 0
  seq : Word := 0
  count : BitVec 16 := 0
  length : BitVec 16 := 0
  records : List Entry := []
  /-- the reserved byte is 00h, R575 -/
  restZero : Bool := true
  /-- the CRC-32C at 3FCh matches, R575 -/
  crcOk : Bool := false
deriving DecidableEq, Repr

/-- The other areas of retained RAM that Table 4-7 checks (R121): whether the CRC-32C over each matches. -/
structure RetAreas where
  /-- grant area, Table 4-7, R365 -/
  grant : Bool := true
  /-- update area, Table 21-4 -/
  update : Bool := true
  /-- protocol area, Table 4-8, R159 -/
  protocol : Bool := true
  /-- device RT area, Table 4-7 -/
  deviceRt : Bool := true
  /-- evidence hold, Table 4-7, R270 -/
  evidence : Bool := true
  /-- the four held-ledger slots, Table 4-7, R334 -/
  held : Vector Bool 4 := Vector.replicate 4 true
deriving DecidableEq, Repr

/-- A key slot of OTP (R341). -/
structure KeySlot where
  type : Byte := 0
  length : Byte := 0
  reservedZero : Bool := true
  key : Bytes := []
  crcOk : Bool := true
deriving DecidableEq, Repr

/-- Generation 0 as the factory programs it: a record for every OTP-class entry, with its Default (R113, R115). -/
def factoryBlock : ConfigBlock :=
  let rs : List Entry := otpRows.map fun r => ⟨r.addr, r.dflt⟩
  { format := 0x4801, count := BitVec.ofNat 16 rs.length
    length := BitVec.ofNat 16 (rs.foldl (fun n e => n + 3 + e.value.length) 0), records := rs, crcOk := true }

/-- A slot as burned: its number, TYPE and LENGTH (Table 14-2). -/
def burnedSlot (n : Nat) (type : Byte) (len : Nat) : KeySlot :=
  { type := type, length := BitVec.ofNat 8 len, key := (List.range len).map (Config.keySlotByte n) }

/-- The one-time-programmable memory (Table 4-1). -/
structure Otp where
  /-- DeviceSerial of the manufacturing block, 12 characters, R112, Table 6-4 -/
  serial : Bytes := (List.range 12).map Config.serialByte
  /-- the grade: false BL-420-I, true BL-420-X, R7, R568 -/
  gradeX : Bool := false
  /-- HardwareRevision, Table 6-4 -/
  hardwareRevision : BitVec 16 := 0
  /-- the converter trims of the manufacturing block: offset and gain of each converter, skew of each pair, R501 -/
  offset : Vector (BitVec 16) 4 := Vector.ofFn fun n => Config.otpOffset n.val
  gain : Vector (BitVec 16) 4 := Vector.ofFn fun n => Config.otpGain n.val
  skew : Vector (BitVec 9) 2 := Vector.ofFn fun n => Config.otpSkew n.val
  /-- the reference trim of the manufacturing block, R501 -/
  refTrim : BitVec 16 := Config.otpReference
  /-- the production test records of the manufacturing block, Table 4-1, R501 -/
  testRecords : Bytes := Config.otpTestRecords
  /-- the range reserved for Haldantus service, Table 4-1 -/
  service : Bytes := Config.otpService
  /-- the eight configuration blocks, R112, R113 -/
  blocks : Vector ConfigBlock 8 := (Vector.replicate 8 {}).set 0 factoryBlock
  /-- the three copies of BEGUN, R113 -/
  begun : Vector Byte 3 := Vector.replicate 3 1
  /-- the three copies of DONE, R113 -/
  done : Vector Byte 3 := Vector.replicate 3 1
  /-- the six key slots, R341, Table 14-2 -/
  slots : Vector KeySlot 6 :=
    #v[burnedSlot 0 1 32, burnedSlot 1 2 64, burnedSlot 2 3 32, burnedSlot 3 4 32, burnedSlot 4 4 32, {}]
  /-- the three copies of the read-lock byte, R341 -/
  locks : Vector Byte 3 := Vector.replicate 3 0x19
deriving DecidableEq, Repr

/-- SEC_CFG_STAT, loaded when SEC comes up (Table 4-4). -/
structure CfgStat where
  /-- [7:0], Table 4-4 -/
  begun : Byte := 0
  /-- [15:8], Table 4-4 -/
  done : Byte := 0
  /-- [23:16], Table 4-4 -/
  valid : Byte := 0
  /-- [26:24], Table 4-4 -/
  newest : BitVec 3 := 0
  /-- [27], Table 4-4 -/
  busy : Bool := false
  /-- [28], Table 4-4 -/
  ptrCorr : Bool := false
deriving DecidableEq, Repr

/-- A COMMIT that was accepted and has not replied (R117, R577). -/
structure CommitJob where
  gen : Byte
  records : List Entry
  ctime : Time
  trusted : Bool
  sealWord : Word
  requester : Requester
deriving DecidableEq, Repr

/-- The running settings and their bookkeeping. -/
structure Settings where
  /-- the running value of every OTP-class entry, in ascending address order, R115 -/
  running : List Entry := []
  /-- ConfigGeneration: the generation the running settings descend from, Table 4-5 -/
  generation : Byte := 0
  /-- ConfigDirty, Table 4-5 -/
  dirty : Bool := false
  /-- a COMMIT under way, R117 -/
  commit : Option CommitJob := none
  /-- how many more OTP read-backs fail; the medium's own faults, R117, Table 4-6 -/
  otpFaults : Nat := 0
deriving DecidableEq, Repr

/-! ### Tariffs, clock and billing (13) -/

/-- Table 13-4. -/
inductive RecordKind where
  | genesis | boundary | step | regainTrust | trustLost | subFull | secondSession | brownOut | resetClose | incomplete
deriving DecidableEq, Repr

/-- One sub-interval of a record: offset in ms, code in force, input code (Table 13-3). -/
structure SubInterval where
  offsetMs : Word
  inForce : BitVec 2
  input : BitVec 2
deriving DecidableEq, Repr

/-- A ledger record in structured form (Table 13-3), without PREV and SIG. -/
structure Record where
  kind : RecordKind := .genesis
  trusted : Bool := false
  adjusted : Bool := false
  loss : Bool := false
  incomplete : Bool := false
  session : Bool := false
  threePhase : Bool := false
  default : Bool := false
  index : Word := 0
  start : Time := 0
  endT : Time := 0
  subs : List SubInterval := []
  intervalMin : Byte := 0
  lossWh : BitVec 16 := 0
  account : Word := 0
  sessionWh : Word := 0
  stop : Byte := 0
  sflags : Byte := 0
  adjustMs : Int := 0
  tsCounter : Word := 0
  /-- phase p, code k at index 4p + k, mWh -/
  imports : List (BitVec 48) := List.replicate 12 0
  reactive : List (BitVec 48) := List.replicate 3 0
deriving DecidableEq, Repr

/-- A record as it stands in log flash: its structure, the hash of its predecessor, its signature, and whether it reads back. -/
structure Stored where
  record : Record
  prev : Bytes
  sig : Bytes
  readable : Bool
deriving DecidableEq, Repr

/-- STATE of the pending-close area (R328). -/
inductive PendingState where
  | none | open | pending | written
deriving DecidableEq, Repr

/-- AON's clock and tariff registers and the billing state. -/
structure Billing where
  /-- AON_TARIFF.RAW, Table 13-5 -/
  raw : BitVec 2 := 0
  /-- AON_TARIFF.INPUT, TariffInputCode, Table 13-5 -/
  input : BitVec 2 := 0
  /-- AON_TARIFF.IN_FORCE, Table 13-5, R311 -/
  inForce : BitVec 2 := 0
  /-- AON_TARIFF.DEFAULT, Table 13-5 -/
  default : Bool := true
  /-- TariffChanges (RT), Table 6-7 -/
  changes : Word := 0
  /-- the clock: seconds and fraction, AON_RTC_LO/HI, Table 13-6, R313 -/
  clock : Time := 0
  /-- AON_CLK_STAT.VALID, Table 13-6 -/
  valid : Bool := false
  /-- AON_CLK_STAT.TRUSTED, ClockTrusted, Table 13-6 -/
  trusted : Bool := false
  /-- remaining slew in units of 2 ms, signed, AON_CLK_STAT.SLEW_LEFT, Table 13-6, R316 -/
  slewLeft : BitVec 16 := 0
  /-- remaining slew in counts of 1/65 536 s, signed, R316 -/
  slewCounts : Int := 0
  /-- ticks since the last slew count, R316 -/
  slewTicks : BitVec 8 := 0
  /-- RTC ticks since AON started from nothing: the AON running time, R352, R480 -/
  running : Nat := 0
  /-- running time at which time was last untrusted, R352 -/
  untrustedSince : Nat := 0
  /-- LastAdjustMs (RT), Table 6-6, R315 -/
  lastAdjustMs : Int := 0
  /-- TS_COUNTER, last accepted time-set COUNTER, Table 4-8, R319 -/
  tsCounter : Word := 0
  /-- AON running seconds at which an unapplied beacon adjustment was last logged, Table 13-1 -/
  adjustLogged : Option Nat := none
  /-- STATE of the pending-close area, R328 -/
  pendState : PendingState := .none
  /-- the open or pending record of that area, R328 -/
  openRec : Record := {}
  /-- the pending-close area's CRC-32C matches, R328, R336 -/
  pendCrcOk : Bool := false
  /-- the interval length of the running interval, minutes, R321 -/
  intervalMin : Byte := 15
  /-- samples for which RAW has been unchanged, no higher than the longest debounce, R310 -/
  rawSame : Nat := 0
  /-- the code that MET applied last: TariffChanges counts what differs from it, R311 -/
  applied : BitVec 2 := 0
  /-- events of held records that wait until log flash can be written, R334 -/
  heldDue : Nat := 0
  /-- a change of trust closed a record in the running metrology period, R332 -/
  trustFresh : Bool := false
  /-- a session has ended within the open record, R324 -/
  endedInRecord : Bool := false
  /-- closed records that await signing and writing by Laurel-B, oldest first, R320, R331 -/
  closed : List Record := []
  /-- how many of the newest closed records closed within the running metrology period: their energies wait for its end, R320 -/
  closedFresh : Nat := 0
  /-- held unsigned records in retained RAM, at most four, R334 -/
  held : List Record := []
  /-- the next record written must carry LOSS with this bound, R308, R337 -/
  lossDue : Option (BitVec 16) := none
  /-- a held slot was discarded: INDEX and START for the next record, Table 4-7 -/
  discarded : Option (Word × Time) := none
  /-- the ledger in log flash, oldest first, R325, R327 -/
  ledger : List Stored := []
  /-- LedgerHeadIndex, Table 6-8 -/
  headIndex : Word := 0
  /-- LedgerHeadHash, Table 6-8, R326 -/
  headHash : Bytes := List.replicate 32 0
  /-- LedgerUntrusted, Table 6-8 -/
  untrustedCount : Word := 0
  /-- LedgerOldestIndex, Table 6-8 -/
  oldestIndex : Word := 0
  /-- at least one record has been written, R325 -/
  genesisDone : Bool := false
  /-- LedgerCursor, Table 6-8 -/
  cursor : Word := 0
  /-- ImportEnergyWh as at the newest record, mWh per phase and code, R175, R320 -/
  lgImports : List (BitVec 48) := List.replicate 12 0
  /-- ReactiveEnergyVarh as at the newest record, R175, R320 -/
  lgReactive : List (BitVec 48) := List.replicate 3 0
deriving DecidableEq, Repr

/-! ### Object dictionary (05) -/

/-- A request in the OD queue: who sent it, its opcode and its payload (R144). -/
structure QueuedPdu where
  requester : Requester
  /-- the SESSION number it carried, 0 outside KEYSEL 10b (Table 5-4) -/
  session : BitVec 16
  op : BitVec 4
  payload : Bytes
deriving DecidableEq, Repr

/-- A PDU the controller has built and not yet handed to its carrier. -/
structure Outgoing where
  path : Path
  prio : BitVec 2
  isNotify : Bool
  bytes : Bytes
deriving DecidableEq, Repr

/-- A receive window (R141): highest accepted SEQ and the map of the 32 SEQs below and at it. -/
structure Window32 where
  high : Word := 0
  map : Word := 0
deriving DecidableEq, Repr

/-- A WRITE-BLOCK transfer (R149). -/
structure Transfer where
  mailbox : Bool
  addr : BitVec 16
  total : Word
  data : Bytes
deriving DecidableEq, Repr

/-- A READ-BLOCK snapshot (R151). -/
structure BlockSnapshot where
  mailbox : Bool
  addr : BitVec 16
  data : Bytes
deriving DecidableEq, Repr

/-- A subscription (R152). -/
structure Subscription where
  mailbox : Bool
  plain : Bool
  addr : BitVec 16
  onChange : Bool
  periodic : Bool
  periodS : BitVec 16
  leaseS : BitVec 16
  last : Bytes
deriving DecidableEq, Repr

/-- The authenticated session (R139, R353). -/
structure AuthSession where
  number : BitVec 16
  counter : Word
  nonce : Bytes
  notAfter : Time
  /-- AON running time at acceptance, R354 -/
  acceptedAt : Nat
deriving DecidableEq, Repr

/-- The OD protocol engine of Laurel-B. -/
structure Od where
  /-- the request queue, at most 8, R144 -/
  queue : List QueuedPdu := []
  /-- mailbox PDUs that wait before the OD is served, R163 -/
  waiting : List Delivered := []
  /-- responses and NOTIFYs built and not yet handed over, R158 -/
  out : List Outgoing := []
  /-- window of node 0 under the link key, R141, Table 4-8 -/
  winNode0 : Window32 := {}
  /-- window of node 0 under the session key, R141 -/
  winNode0Session : Window32 := {}
  /-- window of the mailbox under the link key, R141, Table 4-8 -/
  winMbx : Window32 := {}
  /-- window of the mailbox under the session key, R141 -/
  winMbxSession : Window32 := {}
  /-- the recovery floor, R159 -/
  floor : Option Word := none
  /-- OdTxSeq (RT), Table 5-11, R142 -/
  txSeq : Word := 0
  /-- the controller's session SEQ, R142 -/
  txSession : Word := 0
  /-- the mailbox plain counter, R143 -/
  txPlain : Word := 1
  /-- OdServiceEpoch (RT), Table 5-11 -/
  serviceEpoch : BitVec 16 := 0
  /-- OdRxAccepted, Table 5-11 -/
  rxAccepted : Word := 0
  /-- OdMacFailures, Table 5-11 -/
  macFailures : Word := 0
  /-- OdReplayDrops, Table 5-11 -/
  replayDrops : Word := 0
  /-- OdBusyRefusals, Table 5-11 -/
  busyRefusals : Word := 0
  /-- WRITE-BLOCK transfers, at most two, R150 -/
  transfers : List Transfer := []
  /-- READ-BLOCK snapshots, R151 -/
  snapshots : List BlockSnapshot := []
  /-- subscriptions, at most 32, R152 -/
  subs : List Subscription := []
  /-- the authenticated session, R139; retained by SEC as Island, R363 -/
  session : Option AuthSession := none
  /-- the last SESSION number given, R354 -/
  lastSession : BitVec 16 := 0
  /-- last accepted token COUNTER, grant area, R355 -/
  tokenCounter : Word := 0
  /-- log-flash mark of OdTxSeq, R142 -/
  markTx : Word := 0
  /-- log-flash mark of node 0's H, R142 -/
  markNode0 : Word := 0
  /-- log-flash mark of the token COUNTER, R355 -/
  markToken : Word := 0
  /-- status of the last OD request answered (Table 5-8), the model's own observation point -/
  lastStatus : Byte := 0
  /-- EventCursor, Table 6-22 -/
  eventCursor : Word := 0
  /-- DisplayMessage, Table 6-16 -/
  displayMessage : Bytes := [0x20#8]
  /-- FwUpdateMode, Table 6-20 -/
  fwUpdateMode : Byte := 0
deriving DecidableEq, Repr

/-! ### Session and pilot (01, 07) -/

/-- PilotStatus.PHASE (Table 6-23). -/
inductive Phase where
  | idle | connected | authorised | locked | offered | make | charging | break | ended | paused
deriving DecidableEq, Repr

/-- PilotStatus.STATE (Table 6-23). -/
inductive PilotState where
  | none | a | b | c | d | e | f | outOfBand
deriving DecidableEq, Repr

/-- PLT_CTRL.LEVEL (Table 7-7). -/
inductive PilotLevel where
  | steady | pwm | stateF
deriving DecidableEq, Repr

/-- The proximity band, PilotStatus.BAND and BAND_VALID (Table 6-23). -/
inductive Band where
  | notMeasured | open | outside | a13 | a20 | a32 | a63
deriving DecidableEq, Repr

/-- The held grant (Table 14-6, R350). -/
structure Grant where
  account : Word
  grantId : Word
  remaining : Word
  limitDeciA : BitVec 16
  notBefore : Time
  expiry : Time
  /-- AON running time from which the 24 h of R352 are counted -/
  countedFrom : Nat
  /-- it was accepted under trusted time, R352 -/
  fromTrusted : Bool := false
deriving DecidableEq, Repr

/-- One line of the grant table (R350). -/
structure GrantLine where
  grantId : Word
  account : Word
  expiry : Time
  remaining : Word
deriving DecidableEq, Repr

/-- The charging session and the grant. -/
structure Session where
  /-- session phase, Table 6-23, R30 to R34 -/
  phase : Phase := .idle
  /-- stop reason of SessionStatus (RT), Table 1-3, R34 -/
  stop : BitVec 8 := 0
  /-- the reason the Break under way will record; 0 for a pause, R33, R36 -/
  breakStop : BitVec 8 := 0
  /-- step of Make, 1 to 5; 0 outside Make, Table 8-1 -/
  makeStep : Nat := 0
  /-- step of Break, 1 to 5; 0 outside Break, Table 8-2 -/
  breakStep : Nat := 0
  /-- EconomiserPullInMs has elapsed since step 2 of Make, R204 -/
  pulledIn : Bool := false
  /-- the stop or pause that Break carries out arose in the running metrology period, R36 -/
  stopFresh : Bool := false
  /-- the session's end stands already in the open record, R324, R333 -/
  stopMarked : Bool := false
  /-- PWM periods that have passed the diode check in this offer, R184 -/
  diodePassed : Nat := 0
  /-- the held grant (RT), R28, R350 -/
  grant : Option Grant := none
  /-- GrantState 2: the grant is in use (RT), Table 6-18 -/
  inUse : Bool := false
  /-- the grant table (RT), R350 -/
  table : List GrantLine := []
  /-- the grant table was lost at start and time is not yet trusted, R352 -/
  tableLost : Bool := false
  /-- SessionStart (RT), Table 6-8 -/
  start : Time := 0
  /-- SessionEnergyWh of the current or last session as last reported (RT), Table 6-8 -/
  energyWh : Word := 0
  /-- a gate has turned on in this session, R299 -/
  gatesSeen : Bool := false
  /-- account of the session that runs or ran last, R324 -/
  account : Word := 0
  /-- GRANT_ID of the session that runs or ran last, R351 -/
  grantId : Word := 0
  /-- period energies count as session energy, R299 -/
  counting : Bool := false
  /-- the phases whose overdraw was logged in this session, R188 -/
  overdrawLogged : BitVec 3 := 0
  /-- the cable band at the session's start, whose rating holds within the session, R192 -/
  cable : Band := .notMeasured
  /-- a clip was logged in this session, R307 -/
  clipLogged : Bool := false
  /-- UnlockOnEnd was 0 at the session's end and the lock waits for state A, R217 -/
  unlockWaits : Bool := false
  /-- AllowedCurrentDeciA, R185 -/
  allowed : BitVec 16 := 0
  /-- a test-winding check must pass before Make, R240, R263 -/
  windingDue : Bool := true
  /-- a further lock fault bars a new session until LockFaultClear, R223, R224 -/
  lockBarred : Bool := false
  /-- the session continues although LOCKED was lost, R224 -/
  lockExcused : Bool := false
deriving DecidableEq, Repr

/-- The PLT block and the proximity measurement. -/
structure Pilot where
  /-- PLT_CTRL.LEVEL, Table 7-7 -/
  level : PilotLevel := .stateF
  /-- level selected for the next period start, R178 -/
  nextLevel : PilotLevel := .stateF
  /-- PLT_CTRL.DIGITAL, Table 7-7 -/
  digital : Bool := false
  /-- PLT_DUTY.DUTY, Table 7-8 -/
  duty : BitVec 11 := 0
  /-- PLT_DUTY.NEXT, Table 7-8; 0 when none is pending -/
  next : BitVec 11 := 0
  /-- PLT_MEAS.HIGH_MV, Table 7-9 -/
  highMv : BitVec 16 := 0
  /-- PLT_MEAS.LOW_MV, Table 7-9 -/
  lowMv : BitVec 16 := 0
  /-- PLT_STAT.STATE, Table 7-10 -/
  state : PilotState := .none
  /-- PLT_STAT.DIODE_FAULT, Table 7-10 -/
  diodeFault : Bool := false
  /-- PLT_STAT.E_FAULT, Table 7-10 -/
  eFault : Bool := false
  /-- PLT_STAT.BAND_FAULT, Table 7-10 -/
  bandFault : Bool := false
  /-- PLT_STAT.HOLD_F, Table 7-10 -/
  holdF : Bool := false
  /-- the hold of R193 waits for the PWM to stop -/
  holdDue : Bool := false
  /-- PLT_STAT.COUNT, Table 7-10 -/
  count : BitVec 2 := 0
  /-- the candidate state COUNT counts, R183 -/
  candidate : PilotState := .none
  /-- classification has started, at the release since the TMR island came up, R183, R197, R199 -/
  classifying : Bool := false
  /-- a pilot or proximity fault ended a session in the running pilot period, R195 -/
  faultFresh : Bool := false
  /-- consecutive negative plateaus above −10 500 mV, R184 -/
  diodeCount : BitVec 2 := 0
  /-- proximity band, Table 7-4, R191 -/
  band : Band := .notMeasured
  /-- candidate band and its consecutive readings, R191 -/
  bandCand : Band := .notMeasured
  /-- consecutive readings of the candidate band, R191 -/
  bandCount : Nat := 0
  /-- ProximityOhms, Table 6-9, R191 -/
  ohms : BitVec 16 := 0
  /-- a reading outside every band was logged, R198 -/
  outsideLogged : Bool := false
  /-- consecutive VREF_PX readings out of the band, R570 -/
  vrefBad : Nat := 0
  /-- consecutive VREF_PX readings in the band while withheld, R570 -/
  vrefGood : Nat := 0
  /-- proximity readings are withheld, R570 -/
  vrefWithheld : Bool := false
deriving DecidableEq, Repr

/-! ### Switching and lock (08) -/

/-- The SWG block. -/
structure Switching where
  /-- GATE_CMD, Table 8-6 -/
  gateCmd : BitVec 4 := 0
  /-- GATE_FB, Table 8-6 -/
  gateFb : BitVec 4 := 0
  /-- DESAT, Table 8-6 -/
  desat : BitVec 4 := 0
  /-- COIL_CMD, Table 8-6 -/
  coilCmd : Bool := false
  /-- AUX, Table 8-6 -/
  aux : Bool := false
  /-- OPEN_LOOP, Table 8-6 -/
  openLoop : Bool := false
  /-- STUCK_ON, Table 8-6 -/
  stuckOn : Bool := false
  /-- AUX_FAULT, Table 8-6 -/
  auxFault : Bool := false
  /-- INTERLOCK, Table 8-6 -/
  interlock : Bool := false
  /-- FB_MISMATCH, Table 8-6 -/
  fbMismatch : Bool := false
  /-- gates the interlock holds back, R210 -/
  heldGates : BitVec 4 := 0
  /-- a coil command the interlock holds back, R210 -/
  heldCoil : Option Bool := none
  /-- SWG_COIL.SENSE_MA, Table 8-7 -/
  senseMa : BitVec 16 := 0
  /-- SWG_COIL.DUTY, Table 8-7 -/
  coilDuty : BitVec 8 := 0
  /-- the last ten samples of 1 ms while the coil is commanded on: current and duty, newest first, R213 -/
  recent : List (BitVec 16 × BitVec 8) := []
  /-- ContactorOperations (RT), Table 6-10 -/
  contactorOps : Word := 0
  /-- DesatTrips (RT), Table 6-10 -/
  desatTrips : Word := 0
deriving DecidableEq, Repr

/-- Lock drive codes (Table 8-3). -/
inductive Drive where
  | free | locking | unlocking | brake
deriving DecidableEq, Repr

/-- The LCK block. -/
structure Lock where
  /-- LCK_STAT.STATE, LockState 0 to 5, Table 8-8 -/
  state : BitVec 3 := 0
  /-- LIM_LOCKED, Table 8-8 -/
  limLocked : Bool := false
  /-- LIM_UNLOCKED, Table 8-8 -/
  limUnlocked : Bool := false
  /-- HALL_OK, Table 8-8 -/
  hallOk : Bool := false
  /-- LOCKED_LOST, Table 8-8 -/
  lockedLost : Bool := false
  /-- LockFaults (RT): LOCK_WIRING, CHATTER, LOCK_FB_LOST, Table 6-11 -/
  faults : BitVec 3 := 0
  /-- DRIVE, Table 8-8 -/
  drive : Drive := .free
  /-- LCK_MOVE.PULSES, Table 8-9 -/
  pulses : BitVec 16 := 0
  /-- LCK_MOVE.ELAPSED_MS, Table 8-9 -/
  elapsedMs : BitVec 16 := 0
  /-- the move under way: towards LOCKED or UNLOCKED, R216 -/
  moving : Option Bool := none
  /-- a command for the other direction that waits, R216 -/
  queued : Option Bool := none
  /-- the move under way is homing, R218 -/
  homing : Bool := false
  /-- the queued move towards UNLOCKED is the homing of LockFaultClear, R218 -/
  homingDue : Bool := false
  /-- the current of HALL_PWR has been measured since TMR came up, R215 -/
  hallKnown : Bool := false
  /-- AON running time at the start of the running move, for LCK_MOVE.ELAPSED_MS, Table 8-9 -/
  moveStart : Nat := 0
  /-- LockState to take when BRAKE ends, R216 -/
  afterBrake : BitVec 3 := 0
deriving DecidableEq, Repr

/-! ### Earth fault and Glint path (09) -/

/-- The RCD block and the test-winding check. -/
structure Rcd where
  /-- counts of the six graded levels, R231 -/
  counts : Vector Nat 6 := Vector.replicate 6 0
  /-- RCD_STAT.ABOVE, Table 9-6 -/
  above : BitVec 6 := 0
  /-- RCD_STAT.TRIP, Table 9-6 -/
  trip : BitVec 6 := 0
  /-- EXC_LOCK, Table 9-6 -/
  excLock : Bool := false
  /-- EXC_LOST, Table 9-6 -/
  excLost : Bool := false
  /-- DC_ARMED, Table 9-6 -/
  dcArmed : Bool := false
  /-- WINDING_RUN, Table 9-6 -/
  windingRun : Bool := false
  /-- WINDING_FAIL, Table 9-6 -/
  windingFail : Bool := false
  /-- RCD_MEAS.AC, units of 10 µA, Table 9-7 -/
  ac : BitVec 16 := 0
  /-- RCD_MEAS.DC, signed, units of 10 µA, Table 9-7 -/
  dc : BitVec 16 := 0
  /-- RCD_FLX.PEAK_MA, Table 9-8 -/
  peakMa : BitVec 8 := 0
  /-- RCD_FLX.MISS, Table 9-8 -/
  miss : BitVec 8 := 0
  /-- good half periods in a row towards EXC_LOCK, R228 -/
  goodHalves : Nat := 0
  /-- step of the test-winding check, 1 to 4, and 5 the wait that ends step 4; 0 while it does not run, R239 -/
  windingStep : Nat := 0
  /-- every value since the start of the baseline attempt read below 1 mA, R239 -/
  baseline : Bool := false
  /-- FC0 responded in step 4, R239 -/
  fc0Ok : Bool := false
  /-- a new AcTripMa takes effect at the next result, R244 -/
  levelsDue : Bool := false
  /-- DC6 counted during step 2, R239 -/
  dc6Counted : Bool := false
  /-- the sampled residual stream of list E in units of 10 µA, newest first, R228, R273 -/
  stream : List (BitVec 16) := []
  /-- EarthFaultTrips (RT), Table 6-12 -/
  trips : Word := 0
deriving DecidableEq, Repr

/-- The GLT block: kill latch and fast comparators. -/
structure Glint where
  /-- GLT_STAT.TRIP, Table 9-9 -/
  trip : BitVec 4 := 0
  /-- GLT_STAT.FIRST, Table 9-9 -/
  first : BitVec 4 := 0
  /-- GLT_STAT.KILL, Table 9-9, R248 -/
  kill : Bool := true
  /-- SRC_SAFE, Table 9-9 -/
  srcSafe : Bool := false
  /-- SRC_BROWNOUT, Table 9-9 -/
  srcBrown : Bool := false
  /-- SRC_SAFE_ABSENT, Table 9-9 -/
  srcSafeAbsent : Bool := false
  /-- TESTING, Table 9-9 -/
  testing : BitVec 4 := 0
  /-- TEST_FAIL, Table 9-9 -/
  testFail : BitVec 4 := 0
  /-- GLT_THR.FC0_MA, Table 9-10 -/
  fc0Ma : BitVec 9 := 0
  /-- GLT_THR.FC12_A, Table 9-10 -/
  fc12A : BitVec 9 := 0
  /-- comparator inputs above their thresholds now, R236 -/
  active : BitVec 4 := 0
  /-- conductors whose desaturation input is tripped now, R201 -/
  desatNow : BitVec 4 := 0
  /-- the mixed-signal die holds the latch over a fault of SAFE itself, R269 -/
  safeFault : Bool := false
deriving DecidableEq, Repr

/-! ### Safety (10) -/

/-- The SAFE block. -/
structure Safe where
  /-- SafeStateCause, SAFE_STAT.CAUSE (RT, VBAT), Table 10-10 -/
  cause : BitVec 16 := 0
  /-- SAFE_STAT.ACTIVE, Table 10-10 -/
  active : Bool := true
  /-- SAFE_STAT.START_HOLD, Table 10-10 -/
  startHold : Bool := true
  /-- SAFE_STAT.NEEDS_RESET, Table 10-10 -/
  needsReset : Bool := false
  /-- SAFE_STAT.AUTO_LEFT, Table 10-10, R261 -/
  autoLeft : BitVec 2 := 3
  /-- AON running times of the automatic releases of the last 60 min, R261 -/
  autoTimes : List Nat := []
  /-- SafeStateEntries (RT), Table 6-13 -/
  entries : Word := 0
  /-- SAFE_DIAG.FAILED and DiagnosticStatus, Table 10-11 -/
  failed : BitVec 11 := 0
  /-- SAFE_DIAG.PASSED, Table 10-11 -/
  passed : BitVec 11 := 0
  /-- causes reported and not yet judged, in order of arrival, R251 -/
  reports : List (BitVec 16) := []
  /-- causes seen since entry, R262 -/
  seen : List (BitVec 16) := []
  /-- this safe state's Automatic causes are treated as Operator, R261 -/
  autoSpent : Bool := false
  /-- diagnostic 0: consecutive bad pilot periods, Table 10-3 -/
  pilotBad : Nat := 0
  /-- diagnostic 0: a window of the running pilot period was bad, Table 10-3 -/
  pilotWindowBad : Bool := false
  /-- diagnostic 2: consecutive bad reference checks per converter, Table 10-3 -/
  refBad : Vector Nat 4 := Vector.replicate 4 0
  /-- diagnostic 7: consecutive misses per island, Table 10-3 -/
  misses : PerIsland Nat := ⟨0, 0, 0, 0, 0, 0, 0, 0, 0, 0, 0, 0⟩
  /-- diagnostic 8: consecutive bad windows, Table 10-3 -/
  clockBad : Nat := 0
  /-- SAFE_SEAL.POS (VBAT), Table 10-7 -/
  pos : BitVec 8 := 0
  /-- SAFE_SEAL.VALID, Table 10-7 -/
  sealValid : Bool := false
  /-- SAFE_SEAL.FAULT, Table 10-7 -/
  sealFault : Bool := false
  /-- SAFE_SEAL.CHANGED (VBAT), Table 10-7 -/
  sealChanged : Bool := false
  /-- SAFE_SEAL.LINE_FAULT, Table 10-7 -/
  lineFault : BitVec 8 := 0
  /-- a seal word has been accepted at this start, R90, R258 -/
  sealAccepted : Bool := false
  /-- the valid word of the last read, waiting for its confirmation, R258 -/
  sealCandidate : Option (BitVec 8) := none
  /-- seal reads in a row that were valid and unchanged, R262 item 1 -/
  sealStable : Nat := 0
  /-- POS as it stood at the last power-down, R271 -/
  posAtPowerDown : BitVec 8 := 0
  /-- the last word whose change stands recorded, or that was accepted at a start: the word that the next start compares with, R106, R271 -/
  posRecorded : BitVec 8 := 0
  /-- a word had been kept in AON at the last power-down, R271 -/
  posKept : Bool := false
  /-- the seal test pulses run, Table 3-4 -/
  pulses : Bool := false
  /-- evidence records held in retained RAM, at most eight, R270 -/
  evidence : List Bytes := []
  /-- LOST count of overwritten evidence, R270, R121 -/
  lost : Nat := 0
deriving DecidableEq, Repr

/-- Conditions that SAFE's release rule reads from the diagnostics (R262 item 1). -/
structure Live where
  /-- windows of 1 ms in a row in which AUX_IN differs from COIL_CMD outside Make and Break, diagnostic 4 of R253, at most 150 -/
  auxDiffers : Nat := 0
  /-- overcurrent supervision: consecutive half-cycles above 1.20 times the level per conductor, R255 -/
  overCounts : Vector Nat 4 := Vector.replicate 4 0
  /-- the last half-cycle RMS current of each conductor, 0.1 A, for IMAX of Table 10-9 -/
  halfDeciA : Vector (BitVec 16) 4 := Vector.replicate 4 0
  /-- mains loss: consecutive low half-cycles per phase, R94 -/
  lowHalves : Vector Nat 3 := Vector.replicate 3 0
  /-- the last half-cycle of a phase reached the threshold plus 50 ‰, R94 -/
  highHalf : Vector Bool 3 := Vector.replicate 3 false
  /-- the diagnostic conditions 0201h to 0209h that stand now, R262 item 1 -/
  standing : List (BitVec 16) := []
deriving DecidableEq, Repr

/-! ### Converters (11) -/

/-- A user list (Tables 11-7 to 11-10). -/
structure UserList where
  /-- EN, Table 11-7 -/
  en : Bool := false
  /-- PAIR, Table 11-7 -/
  pair : Bool := false
  /-- TRIG, Table 11-7 -/
  trig : BitVec 2 := 0
  /-- TMR_CH, Table 11-7 -/
  tmrCh : BitVec 3 := 0
  /-- LAST, Table 11-7 -/
  last : BitVec 3 := 0
  /-- PERIOD, Table 11-7 -/
  period : BitVec 16 := 1
  /-- RUNS, Table 11-8 -/
  runs : BitVec 16 := 0
  /-- MISSED, Table 11-8 -/
  missed : BitVec 16 := 0
  /-- a run is under way, R274 -/
  running : Bool := false
  /-- ADC_ULISTk_ENTe.INPUT, Table 11-9 -/
  inputs : Vector (BitVec 5) 8 := Vector.replicate 8 0x12
  /-- ADC_ULISTk_ENTe.AVG, Table 11-9 -/
  avgs : Vector (BitVec 3) 8 := Vector.replicate 8 0
  /-- ADC_URESk_e.VALUE, Table 11-10 -/
  values : Vector (BitVec 16) 8 := Vector.replicate 8 0
  /-- ADC_URESk_e.SEQ, Table 11-10 -/
  seqs : Vector (BitVec 8) 8 := Vector.replicate 8 0
  /-- ADC_URESk_e.CLIP, Table 11-10 -/
  clips : Vector Bool 8 := Vector.replicate 8 false
deriving DecidableEq, Repr

/-- A window comparator (Table 11-12, R281). -/
structure WinComp where
  /-- CFG.EN, Table 11-12 -/
  en : Bool := false
  /-- CFG.SRC, Table 11-12 -/
  src : BitVec 5 := 0
  /-- CFG.COUNT, Table 11-12 -/
  count : BitVec 8 := 1
  /-- CFG.HYS, Table 11-12 -/
  hys : BitVec 16 := 0
  /-- BAND.LOW, Table 11-12 -/
  low : BitVec 16 := 0
  /-- BAND.HIGH, Table 11-12 -/
  high : BitVec 16 := 0xFFFF
  /-- STAT outside band, Table 6-15 -/
  out : Bool := false
  /-- STAT consecutive outside count, Table 6-15 -/
  cnt : BitVec 8 := 0
  /-- STAT exits counter, Table 6-15 -/
  exits : BitVec 16 := 0
deriving DecidableEq, Repr

/-- The ADC block. -/
structure Adc where
  /-- ConverterStatus[3:0] calibrated, Table 6-15 -/
  calibrated : BitVec 4 := 0
  /-- ConverterStatus[7:4] borrowed, Table 6-15 -/
  borrowed : BitVec 4 := 0
  /-- ConverterStatus[9:8] interleaved, Table 6-15 -/
  interleaved : BitVec 2 := 0
  /-- REF_FAIL, Table 11-5 -/
  refFail : BitVec 4 := 0
  /-- the calibrated value of the check reference on each converter, R278 -/
  refValue : Vector (BitVec 16) 4 := Vector.replicate 4 0
  /-- the offset trim of each converter, in codes, R278 -/
  offset : Vector (BitVec 16) 4 := Vector.replicate 4 0
  /-- the gain trim of each converter, R278 -/
  gain : Vector (BitVec 16) 4 := Vector.replicate 4 0
  /-- the skew trim of each pair, signed, in steps of 2 ps, R277, R278 -/
  skew : Vector (BitVec 9) 2 := Vector.replicate 2 0
  /-- converters that have had a reference check since ADC came up, R290 -/
  refSeen : BitVec 4 := 0
  /-- the converter the calibrator must take next, R288 -/
  calFirst : Option Converter := none
  /-- the calibration run under way, R278 -/
  calRun : Option Converter := none
  /-- the converter the calibrator takes in turn, R474 -/
  calNext : Converter := .a0
  /-- the start-up calibration has ended, R279 -/
  listsRun : Bool := false
  /-- ADC_ERR.CFG_ERR, Table 11-6 -/
  cfgErr : Bool := false
  /-- ADC_ERR.CAP_REFUSED, Table 11-6 -/
  capRefused : Bool := false
  /-- user list U0, Table 11-7 -/
  u0 : UserList := {}
  /-- user list U1, Table 11-7 -/
  u1 : UserList := {}
  /-- CAP_CTRL.INPUT, Table 11-11 -/
  capInput : BitVec 5 := 0x12
  /-- CAP_CTRL.PAIR, Table 11-11 -/
  capPair : Bool := false
  /-- CAP_CTRL.ILV, Table 11-11 -/
  capIlv : Bool := false
  /-- CAP_CTRL.TRIG_TMR, Table 11-11 -/
  capTrigTmr : Bool := false
  /-- CAP_CTRL.TRIG_CH, Table 11-11 -/
  capTrigCh : BitVec 3 := 0
  /-- CAP_CTRL.LENGTH, Table 11-11 -/
  capLength : BitVec 11 := 0x400
  /-- CAP_CTRL.START: armed, Table 11-11 -/
  capStart : Bool := false
  /-- CAP_STAT.BUSY, Table 11-11 -/
  capBusy : Bool := false
  /-- CAP_STAT.DONE, Table 11-11 -/
  capDone : Bool := false
  /-- CAP_STAT.GAPS, Table 11-11 -/
  capGaps : BitVec 11 := 0
  /-- the capture buffer's samples, sample 0 first; words beyond them read 8000_8000h, Table 11-4 -/
  capBuf : List (BitVec 16) := []
  /-- the sixteen windows, Table 11-3, R281 -/
  wins : Vector WinComp 16 := Vector.replicate 16 {}
  /-- ADC_WIN_IRQ.FIRED, Table 11-13 -/
  fired : BitVec 8 := 0
  /-- ADC_WIN_IRQEN.EN, Table 11-13 -/
  irqEn : BitVec 8 := 0
  /-- die temperature, last T result, Table 11-1 -/
  dieTemp : BitVec 16 := 0
  /-- ConverterErrors (RT), Table 6-15 -/
  converterErrors : Word := 0
deriving DecidableEq, Repr

/-! ### Metrology (12) -/

/-- A part of one unit, carried exactly as num / den (R298, R301). -/
structure Frac where
  num : Nat := 0
  den : Nat := 1
deriving DecidableEq, Repr

/-- The calibration constants MET applies from the next period on (R303, R304). -/
structure MetCal where
  vGain : Vector Word 3 := Vector.replicate 3 0x10000
  iGain : Vector Word 4 := Vector.replicate 4 0x10000
  trim : Vector Word 4 := Vector.replicate 4 0
  ledConstant : BitVec 16 := 1000
deriving DecidableEq, Repr

/-- Running sums of a half-cycle of one channel (R295). -/
structure HalfSum where
  n : Nat := 0
  v2 : Nat := 0
  i2 : Nat := 0
deriving DecidableEq, Repr

/-- The MET block and the running period. -/
structure Met where
  /-- MET_STAT.VALID, MeterValid, Table 12-4 -/
  valid : Bool := false
  /-- FREQ_VALID, Table 12-4 -/
  freqValid : Bool := false
  /-- MAINS_LOSS, Table 12-4 -/
  mainsLoss : Bool := false
  /-- CODE, TariffCode: the code of the running period, Table 12-4, R311 -/
  code : BitVec 2 := 0
  /-- THREE_PHASE, Table 12-4 -/
  threePhase : Bool := false
  /-- CLIP, Table 12-4 -/
  clip : Bool := false
  /-- SKEW_CORR, Table 12-4 -/
  skewCorr : Bool := false
  /-- REVERSE, Table 12-4 -/
  reverse : Bool := false
  /-- MET_PERIOD.PERIOD, 100 ns units, Table 12-4 -/
  period : BitVec 18 := 0
  /-- MET_SESSION.MWH, Table 12-5 -/
  session : Word := 0
  /-- MET_EIMPp_k.MWH at index 4p + k, Table 12-5 -/
  eimp : Vector (BitVec 64) 12 := Vector.replicate 12 0
  /-- MET_EVARp.MVARH, Table 12-5 -/
  evar : Vector (BitVec 64) 3 := Vector.replicate 3 0
  /-- MET_EREVp.MWH, Table 12-5 -/
  erev : Vector Word 3 := Vector.replicate 3 0
  /-- residues below 1 mWh of the import accumulators, R298 -/
  eimpRes : Vector Frac 12 := Vector.replicate 12 {}
  /-- residues below 1 mvarh of the reactive accumulators, R298 -/
  evarRes : Vector Frac 3 := Vector.replicate 3 {}
  /-- residues below 1 mWh of the reverse accumulators, R298 -/
  erevRes : Vector Frac 3 := Vector.replicate 3 {}
  /-- residue of the session energy, R299 -/
  sessionRes : Frac := {}
  /-- VoltageRms, Q16.16, Table 6-14 -/
  vRms : Vector Word 3 := Vector.replicate 3 0
  /-- CurrentRms, Q16.16, Table 6-14 -/
  iRms : Vector Word 4 := Vector.replicate 4 0
  /-- ActivePowerW, Table 6-14 -/
  power : Vector Word 3 := Vector.replicate 3 0
  /-- FrequencyHz, Q16.16, Table 6-14 -/
  freq : Word := 0
  /-- periods in a row between 15.38 ms and 22.22 ms, R296 -/
  goodPeriods : Nat := 0
  /-- the samples of the running period, newest first, each with whether V and I were converted 500 ns apart, R293, R294 -/
  samples : List (TickSamples × Bool) := []
  /-- half-cycle sums of L1, L2, L3 and N, R295 -/
  half : Vector HalfSum 4 := Vector.replicate 4 {}
  /-- the voltage of a phase has been beyond ±10 V since its last crossing, R295 -/
  beyond10 : Vector Bool 3 := Vector.replicate 3 false
  /-- ADC was out of service in the running period: its samples do not cover it, R308 -/
  gap : Bool := false
  /-- a converter of A0/A1 was borrowed in the running period, R293 -/
  skewNow : Bool := false
  /-- calibration constants in force, R304 -/
  cal : MetCal := {}
  /-- calibration constants that apply from the next period, R304, R305 -/
  calNext : MetCal := {}
  /-- METER_LED pulse accumulator, in pulses: the part below one pulse, R301 -/
  ledAcc : Frac := {}
  /-- METER_LED pulses owed, R301 -/
  ledOwed : Nat := 0
  /-- METER_LED pad, R301, Table 3-3 -/
  ledOn : Bool := false
  /-- clock at the start of the running period, R320 -/
  periodStart : Time := 0
deriving DecidableEq, Repr

/-! ### Keys (14) -/

/-- What Yew holds (Table 14-3). -/
inductive YewCtx where
  | none | link | session | conf | ledger | mirror
deriving DecidableEq, Repr

/-- Crypto jobs in the ranks of R347. -/
inductive CryptoJob where
  | cmac (session : Bool)
  | verify
  | ledgerSign
  | mirrorSign
  | conf (uses : BitVec 16)
deriving DecidableEq, Repr

/-- SEC: the Yew register, its jobs and Mirror statements. -/
structure Sec where
  /-- LOCKED, KeySlotLocks, Table 14-5 -/
  locked : BitVec 6 := 0
  /-- SCAN_LOCK, Table 14-5 -/
  scanLock : Bool := false
  /-- context loaded into Yew, Table 14-5 -/
  ctx : YewCtx := .none
  /-- USES_LEFT, Table 14-5 -/
  usesLeft : BitVec 16 := 0
  /-- WAIT, Table 14-5 -/
  wait : Bool := false
  /-- LOCK_CORR, Table 14-5 -/
  lockCorr : Bool := false
  /-- the working key in Yew, R345 -/
  yew : Bytes := []
  /-- slot n passed its check, R364 -/
  slotOk : BitVec 6 := 0
  /-- signatures fail their self-verification, Table 14-9 -/
  signFault : Bool := false
  /-- waiting jobs, R347 -/
  jobs : List CryptoJob := []
  /-- a Mirror statement is being built for this nonce, R356 -/
  mirrorNonce : Option Bytes := none
  /-- MirrorStatement, Table 6-19 -/
  mirror : Bytes := List.replicate 256 0
  /-- MirrorCount (RT), Table 6-19 -/
  mirrorCount : Word := 0
deriving DecidableEq, Repr

/-! ### Line link, network and field port (15, 16) -/

/-- Destination modes (R376): quick, basic, robust. -/
inductive LinkMode where
  | q | b | r
deriving DecidableEq, Repr

/-- A frame in a PLC queue (R384). -/
structure OutFrame where
  prio : BitVec 2
  type : BitVec 3
  dst : Byte
  orig : Byte
  fid : Byte
  hops : BitVec 3
  attempt : BitVec 3
  /-- copies still to send of a P0 broadcast, R382 -/
  copiesLeft : Nat
  firstMode : LinkMode
  payload : Bytes
  isNotify : Bool
  resent : Bool
  /-- its present attempt has been counted under R383 -/
  sent : Bool
  /-- it waits for the instant that R381 sets, or that R397 sets for a repeat -/
  placed : Bool
  /-- this frame repeats another node's copy and is never resent, R396 -/
  repeats : Bool
  ackReq : Bool
deriving DecidableEq, Repr

/-- Access to the medium (R378, R379). -/
inductive Access where
  | none
  | window (k : Nat)
  | random (left : Nat)
  | bandC
  | held
deriving DecidableEq, Repr

/-- A destination's mode and the run of attempt-0 successes (R376). -/
structure DestMode where
  node : Byte
  mode : LinkMode
  run : Nat
  /-- the path the destination was last heard on, R413 -/
  lastField : Bool
deriving DecidableEq, Repr

/-- An ACK owed: destination, ORIG and FID echoed, path (R380). -/
structure AckDue where
  dst : Byte
  orig : Byte
  fid : Byte
  attempt : BitVec 3
  prio : BitVec 2
  path : Path
deriving DecidableEq, Repr

/-- A copy as this node put it on a medium (R369, R371, R411): its path, its bytes, on the line the bits of its symbols and the
attenuation in dB. -/
structure Sent where
  path : Path
  bytes : Bytes
  symbols : List Bool
  att : BitVec 4
deriving DecidableEq, Repr

/-- A copy repeated, with the SRC it came from (R396, R398). -/
structure Repeated where
  orig : Byte
  fid : Byte
  attempt : BitVec 3
  src : Byte
deriving DecidableEq, Repr

/-- The PLC block and the link layer. -/
structure Plc where
  /-- PLC_STAT.BAND: LinkBand in force, Table 15-8, R389 -/
  bandC : Bool := false
  /-- LinkPath in force, R389 -/
  linkPath : Byte := 0
  /-- a LinkBand or LinkPath write waits for its reload, R389 -/
  reloadDue : Bool := false
  /-- BUSY, Table 15-8, R377 -/
  busy : Bool := false
  /-- the medium has been free for CS_IDLE, R377 -/
  idle : Bool := false
  /-- how long an incoming frame keeps the medium busy from its FCH on, µs, R377, R392 -/
  busyUs : Nat := 0
  /-- TX: the frame being sent, Table 15-8 -/
  tx : Option OutFrame := none
  /-- the paths it is being sent on, R413 -/
  txPaths : List Path := []
  /-- ACCESS, Table 15-8, R378 -/
  access : Access := .none
  /-- the frame in access, Table 15-8 -/
  current : Option OutFrame := none
  /-- MAINS_REF, Table 15-8 -/
  mainsRef : Bool := false
  /-- DRV_ON, Table 15-9 -/
  drvOn : Bool := false
  /-- SHORT_HOLD, Table 15-9 -/
  shortHold : Bool := false
  /-- clock and running ticks at which SHORT_HOLD began, R387 -/
  shortSince : Time × Nat := (0, 0)
  /-- clock and running ticks at which THERMAL began, R387 -/
  thermalSince : Time × Nat := (0, 0)
  /-- THERMAL, Table 15-9 -/
  thermal : Bool := false
  /-- ABORTS, Table 15-9 -/
  aborts : BitVec 4 := 0
  /-- LIMITED, Table 15-9 -/
  limited : BitVec 16 := 0
  /-- PLC_TXATT.ATT, Table 15-10 -/
  att : BitVec 4 := 0
  /-- priority 0 queue, R384, Table 15-10 -/
  q0 : List OutFrame := []
  /-- priority 1 queue, R384 -/
  q1 : List OutFrame := []
  /-- priority 2 queue, R384 -/
  q2 : List OutFrame := []
  /-- REFUSED, Table 15-10 -/
  refused : BitVec 8 := 0
  /-- FID of the next new frame, R372 -/
  fid : Byte := 0
  /-- destination modes, R376 -/
  modes : List DestMode := []
  /-- last pair ORIG and FID delivered from each ORIG, R375 -/
  lastPairs : List (Byte × Byte) := []
  /-- the frame whose ACK window is open, R380 -/
  ackWindow : Option OutFrame := none
  /-- its relayed window is open, R399 -/
  relayed : Bool := false
  /-- ACKs owed, R380 -/
  acks : List AckDue := []
  /-- ACKs to relay, R398 -/
  relays : List AckDue := []
  /-- copies repeated, R396 -/
  repeated : List Repeated := []
  /-- repeats waiting for access, R396 -/
  repeats : List OutFrame := []
  /-- a frame waits for the end of a protected span, R403 -/
  spanHold : Bool := false
  /-- transmission is allowed since the start hold was released, R394 -/
  mayTransmit : Bool := false
  /-- LinkFramesSent, Table 6-5 -/
  framesSent : Word := 0
  /-- LinkRetries, Table 6-5 -/
  retries : Word := 0
  /-- LinkFramesLost, Table 6-5 -/
  framesLost : Word := 0
  /-- frames put on the line or the wire, newest first: the observable transmissions -/
  sentLog : List Sent := []
deriving DecidableEq, Repr

/-- The NET block and the beacon engine. -/
structure Net where
  /-- SYNC, SyncState, Table 16-6 -/
  sync : BitVec 2 := 3
  /-- MISSES, Table 16-6 -/
  misses : BitVec 2 := 0
  /-- a wake window is open, R407 -/
  windowOpen : Bool := false
  /-- REPEATER, Table 16-6 -/
  repeater : Bool := false
  /-- CONFLICT, Table 16-6 -/
  conflict : Bool := false
  /-- LAST_BSN, Table 16-6 -/
  lastBsn : Byte := 0
  /-- LAST_PATH, Table 16-6 -/
  lastPath : BitVec 2 := 3
  /-- LAST_HOPS, Table 16-6 -/
  lastHops : BitVec 3 := 0
  /-- NET_FP.FRAMES, Table 16-7 -/
  fpFrames : BitVec 16 := 0
  /-- NET_FP.FRAMING, Table 16-7 -/
  fpFraming : BitVec 16 := 0
  /-- last accepted broadcast SEQ, Table 4-8, R401 -/
  bcastSeq : Word := 0
  /-- retained RAM was lost: the first beacon is taken with any SEQ, R420 -/
  bcastLost : Bool := true
  /-- CurtailLimitDeciA, Table 6-5, R405 -/
  curtail : BitVec 16 := 0xFFFF
  /-- own bit of PENDING or WAKE_ALL in the last accepted beacon, Table 16-4 -/
  pendingForUs : Bool := false
  /-- PERIOD_MS of the last accepted beacon, R404 -/
  periodMs : BitVec 16 := 0
  /-- T0 of the last accepted beacon in RTC ticks of the AON running time, R402 -/
  t0 : Int := 0
  /-- a beacon was accepted in the present wake window, R409 -/
  gotBeacon : Bool := false
  /-- the beacon copy a repeater owes: its FCH and payload, R402 -/
  beaconCopy : Option (Bytes × Bytes) := none
  /-- a preamble was heard inside the open wake window, R407 -/
  preamble : Bool := false
  /-- the wake window has run out and closes when the copy under way ends, R407 -/
  closeDue : Bool := false
  /-- AON running seconds at which a conflict was last logged, R416 -/
  conflictLogged : Option Nat := none
  /-- field port busy logged until it is next idle, R419 -/
  fpBusyLogged : Bool := false
deriving DecidableEq, Repr

/-! ### Display and annunciator (17) -/

/-- Operations of the rectangle engine (Table 17-6). -/
inductive RectOp where
  | fill | copy | asset | write
deriving DecidableEq, Repr

/-- A rectangle (R431, R432). -/
structure Rect where
  seq : Byte
  op : RectOp
  buf : Bool
  x : Nat
  y : Nat
  w : Nat
  h : Nat
  arg : BitVec 16
  /-- words a WRITE rectangle has received, oldest first, R435 -/
  words : List Word
  /-- it waits for a pending commit, R433 -/
  waitShown : Bool
deriving DecidableEq, Repr

/-- The DISP block. -/
structure Disp where
  /-- CTRL.MODE, Table 17-5 -/
  pixelMode : Bool := false
  /-- CTRL.DUTY, Table 17-5 -/
  duty : Bool := false
  /-- CTRL.BIAS, Table 17-5 -/
  bias : Bool := false
  /-- CTRL.HOST_OWN, Table 17-5 -/
  hostOwn : Bool := false
  /-- CTRL.OWNER, Table 17-5 -/
  owner : Bool := false
  /-- CTRL.DRIVE_ON, Table 17-5 -/
  driveOn : Bool := false
  /-- TIMING.DIV in force, Table 17-5, R428 -/
  div : BitVec 6 := 0x23
  /-- a DIV written and waiting for the next blanking, R428 -/
  divNext : BitVec 6 := 0x23
  /-- LCD.CONTRAST, Table 17-5 -/
  contrast : BitVec 5 := 0x10
  /-- LCD.PUMP_OK, Table 17-5 -/
  pumpOk : Bool := false
  /-- OLED.ISINK, Table 17-5 -/
  isink : Byte := 0
  /-- OLED.PRE_V, Table 17-5 -/
  preV : BitVec 4 := 8
  /-- FRAME_BASE.BUF, Table 17-5 -/
  buf : Bool := false
  /-- FRAME_BASE.SHOWN, Table 17-5 -/
  shown : Bool := false
  /-- FRAME_BASE.PENDING, Table 17-5 -/
  pending : Bool := false
  /-- the pending commit has completed, R436 -/
  commitDone : Bool := false
  /-- sequence number up to which rectangles must finish for the commit, R436 -/
  commitSeq : Byte := 0
  /-- the commit window of the running frame has closed when the commit completed, R436 -/
  commitLate : Bool := false
  /-- FRAME_BASE.TAKE_SEQ, Table 17-5, R437 -/
  takeSeq : BitVec 16 := 0
  /-- FRAME_SEQ, FrameSeq, Table 17-5 -/
  frameSeq : Word := 0
  /-- RECT_DST.X, Table 17-6 -/
  dstX : BitVec 7 := 0
  /-- RECT_DST.Y, Table 17-6 -/
  dstY : BitVec 6 := 0
  /-- RECT_DST.BUF, Table 17-6 -/
  dstBuf : Bool := false
  /-- RECT_SIZE.W, Table 17-6 -/
  sizeW : Byte := 1
  /-- RECT_SIZE.H, Table 17-6 -/
  sizeH : Byte := 1
  /-- RECT_SRC.ARG, Table 17-6 -/
  srcArg : BitVec 16 := 0
  /-- the rectangle queue, at most 8, R432 -/
  queue : List Rect := []
  /-- rectangles in flight, at most 4, R432 -/
  flight : List Rect := []
  /-- sequence numbers finished out of order, R434 -/
  finished : List Byte := []
  /-- RECT_STAT.LAST_SEQ, Table 17-6 -/
  lastSeq : Byte := 0xFF
  /-- RECT_STAT.DONE_SEQ, Table 17-6 -/
  doneSeq : Byte := 0xFF
  /-- the 64-word FIFO of DISP_RECT_DATA, R435 -/
  fifo : List Word := []
  /-- ERR.CFG_ERR, Table 17-6 -/
  cfgErr : Bool := false
  /-- ERR.NOT_OWNER, Table 17-6 -/
  notOwner : Bool := false
  /-- ERR.BOUNDS, Table 17-6 -/
  bounds : Bool := false
  /-- ERR.SHOWN_DST, Table 17-6 -/
  shownDst : Bool := false
  /-- ERR.PENDING_DST, Table 17-6 -/
  pendingDst : Bool := false
  /-- ERR.QUEUE_FULL, Table 17-6 -/
  queueFull : Bool := false
  /-- ERR.COMMIT_BUSY, Table 17-6 -/
  commitBusy : Bool := false
  /-- ERR.DATA_OVF, Table 17-6 -/
  dataOvf : Bool := false
  /-- ERR.DATA_TIMEOUT, Table 17-6 -/
  dataTimeout : Bool := false
  /-- ERR.PUMP_FAULT, Table 17-6 -/
  pumpFault : Bool := false
  /-- frame buffer 0: the pixels that are not 0, as ((y × 128) + x, level), rising, R429 -/
  fb0 : List (Nat × BitVec 4) := []
  /-- frame buffer 1, same form, R429 -/
  fb1 : List (Nat × BitVec 4) := []
  /-- DisplayMode was written and its reload is due, R422 -/
  reloadDue : Bool := false
  /-- LcdDuty or LcdBias waits for the next frame boundary, R422 -/
  lcdDue : Bool := false
  /-- PUMP_FAULT was logged, R449 -/
  pumpLogged : Bool := false
  /-- Laurel-B owes a redraw, R448 -/
  redrawDue : Bool := false
deriving DecidableEq, Repr

/-- A prompt waiting or playing (R441). -/
structure Prompt where
  number : BitVec 6
  preempting : Bool
  byTest : Bool
deriving DecidableEq, Repr

/-- The AUD block. -/
structure Aud where
  /-- the prompt playing, PLAYING, Table 17-7 -/
  playing : Option Prompt := none
  /-- PROMPT, Table 17-7 -/
  prompt : BitVec 6 := 0
  /-- LIMIT, Table 17-7 -/
  limit : Bool := false
  /-- HOLD, Table 17-7 -/
  hold : Bool := false
  /-- LATCHED, Table 17-7 -/
  latched : Bool := false
  /-- RETRIES, Table 17-7 -/
  retries : BitVec 3 := 0
  /-- LEVEL, Table 17-7 -/
  level : Byte := 0
  /-- AudioFaults (RT), Table 6-16 -/
  faults : BitVec 2 := 0
  /-- the prompt queue, R441 -/
  queue : List Prompt := []
  /-- the class-D stage may sound since the start hold was released, R451 -/
  released : Bool := false
  /-- the class-D output stage is enabled by VAUD, R84 -/
  stageOn : Bool := false
deriving DecidableEq, Repr

/-! ### Timers (18) -/

/-- A timer channel (Table 18-5). -/
structure Channel where
  /-- CTRL.RUN, Table 18-5 -/
  run : Bool := false
  /-- CTRL.ONESHOT, Table 18-5 -/
  oneshot : Bool := false
  /-- CTRL.IMM, Table 18-5 -/
  imm : Bool := false
  /-- CFG.CLK, Table 18-5 -/
  clk : BitVec 3 := 0
  /-- CFG.PRE, Table 18-5 -/
  pre : BitVec 4 := 0
  /-- CFG.SRC, Table 18-5 -/
  src : BitVec 4 := 0
  /-- CFG.GATE_SRC, Table 18-5 -/
  gateSrc : BitVec 4 := 0
  /-- CFG.GATE_EN, Table 18-5 -/
  gateEn : Bool := false
  /-- CFG.GATE_LVL, Table 18-5 -/
  gateLvl : Bool := true
  /-- CFG.CAP_SRC, Table 18-5 -/
  capSrc : BitVec 4 := 0
  /-- CFG.CAP_EDGE, Table 18-5 -/
  capEdge : BitVec 2 := 0
  /-- CFG.FILT, Table 18-5 -/
  filt : BitVec 3 := 0
  /-- COUNT, Table 18-5 -/
  count : Word := 0
  /-- TOP in force, Table 18-5 -/
  top : Word := 0xFFFFFFFF
  /-- CMP in force, Table 18-5 -/
  cmp : Word := 0xFFFFFFFF
  /-- the TOP preload, PEND_TOP, Table 18-5 -/
  topNext : Option Word := none
  /-- the CMP preload, PEND_CMP, Table 18-5 -/
  cmpNext : Option Word := none
  /-- CAPT, Table 18-5 -/
  capt : Word := 0
  /-- STAT.OVERRUN, Table 18-5 -/
  overrun : Bool := false
  /-- STAT.CMP_LATE, Table 18-5 -/
  cmpLate : Bool := false
  /-- STAT.FULL, Table 18-5 -/
  full : Bool := false
  /-- STAT.MATCHED, Table 18-5 -/
  matched : Bool := false
deriving DecidableEq, Repr

/-- The TMR block. -/
structure Tmr where
  /-- the eight channels, Table 18-4 -/
  ch : Vector Channel 8 := Vector.replicate 8 {}
  /-- TMR_IRQ.MATCH, Table 18-6 -/
  irqMatch : BitVec 8 := 0
  /-- TMR_IRQ.WRAP, Table 18-6 -/
  irqWrap : BitVec 8 := 0
  /-- TMR_IRQ.CAPT, Table 18-6 -/
  irqCapt : BitVec 8 := 0
  /-- TMR_IRQEN.EN, Table 18-6 -/
  irqEn : BitVec 24 := 0
  /-- TMR_ERR.CFG_ERR, Table 18-6 -/
  cfgErr : Bool := false
  /-- TMR_ERR.NOT_OWNER, Table 18-6 -/
  notOwner : Bool := false
deriving DecidableEq, Repr

/-! ### Coppice (19) -/

/-- A block in use by its header (R475): the logical block it claims in its zone, its erase count, and whether the header passes its
CRC. -/
structure FlashBlock where
  /-- the logical block number, R475 -/
  logical : Nat
  /-- the erase count, R475 -/
  erases : Nat
  /-- the header's CRC-32C passes, R487 -/
  headerOk : Bool := true
deriving DecidableEq, Repr

/-- The blocks of one log-flash zone, each by its erase count (R475, Table 19-2). -/
structure FlashZone where
  /-- blocks in use with their headers, oldest first; the last is the newest one, R475, R477 -/
  used : List FlashBlock
  /-- erased blocks held ready, R476 -/
  free : List Nat
  /-- free blocks that are not erased, R478, R487 -/
  dirty : List Nat
  /-- records in the newest block, R477 -/
  fill : Nat
  /-- the block whose erase is under way, R476 -/
  erasing : Option Nat
  /-- the running erase is suspended, R476, R482 -/
  suspended : Bool
deriving DecidableEq, Repr

/-- A zone of n erased blocks of a new part, each block holding m records. -/
def newZone (n m : Nat) : FlashZone := ⟨[], List.replicate n 0, [], m, none, false⟩

/-- The background engines and the log flash. -/
structure Bgd where
  /-- CoppiceEnable in force: BGD_STAT.ENABLED, Table 19-6 -/
  enabled : BitVec 4 := 0xF
  /-- CoppiceSuspend: BGD_STAT.SUSPENDED, Table 19-6 -/
  suspended : BitVec 4 := 0
  /-- BGD_STAT.ACTIVE, Table 19-6 -/
  active : BitVec 4 := 0
  /-- SCRUB_LATE, Table 19-6 -/
  scrubLate : Bool := false
  /-- CODE_FAIL, Table 19-6 -/
  codeFail : Bool := false
  /-- ZONE_SHRUNK, Table 19-6 -/
  zoneShrunk : Bool := false
  /-- SRAM_WORD, Table 19-7 -/
  sramWord : BitVec 17 := 0
  /-- CODE_BLOCK, Table 19-7 -/
  codeBlock : BitVec 8 := 0
  /-- the failing code block is being checked again, R472 -/
  codeRepeat : Bool := false
  /-- SCRUB_LATE of the running sweep was logged, R473 -/
  sweepLate : Bool := false
  /-- the engines run since the start hold was released, R488 -/
  released : Bool := false
  /-- ScrubCorrected (RT), Table 6-21 -/
  corrected : Word := 0
  /-- ScrubUncorrectable (RT), Table 6-21 -/
  uncorrectable : Word := 0
  /-- a snapshot waiting for hand-over, as NOTIFY records, R481 -/
  snapshot : Option Bytes := none
  /-- a beacon was accepted since the snapshot was built, R410 -/
  snapshotDue : Bool := false
deriving DecidableEq, Repr

/-- What an event of group 28 says beside its index. -/
inductive EventKind where
  | safeState (bytes : Bytes)
  | parity (dst : BitVec 4)
  | rejected (addr : BitVec 16) (value : Word)
  | islandReset (i : Island)
  | islandAbsent (i : Island)
  | rail (r : Rail) (low : Bool)
  | pfailHold
  | persistence (code : Nat)
  | sealBound (addr : BitVec 16)
  | stepped (before : Time) (after : Time)
  | notApplied
  | authRefused (code : Nat)
  | grantDiscarded
  | overdraw (p : Phase3)
  | proximityOutside
  | lockFault (bits : BitVec 3)
  | senseLost
  | crossingTimeout (p : Phase3)
  | pilotFault (bits : BitVec 3)
  | bandLost
  | tripInForce (bits : BitVec 10)
  | window8
  | calibrationOut (c : Converter)
  | clip
  | reverse
  | energyLoss (wh : BitVec 16)
  | calWrite (addr : BitVec 16) (before : Bytes) (after : Bytes)
  | recordHeld
  | keyFault (slot : Nat)
  | driverHold (thermal : Bool) (start : Time) (ticks : Nat)
  | addressConflict
  | resync (on : Bool)
  | fieldPortBusy
  | pumpFault
  | audioShutdown
  | audioLatched
  | scrubUncorrectable (i : Island) (word : BitVec 17)
  | codeFail (block : BitVec 8)
  | scrubLate
  | wearSuspendCleared
  | zoneShrunk (z : Zone)
  | selfTest (code : Byte) (outcome : BitVec 4)
  | imageVersion (v : Word)
  | vrefOut
  | cableChange
deriving DecidableEq, Repr

/-- The log flash and group 28 (Table 19-2, Table 6-22). -/
structure Flash where
  /-- the ledger zone, Table 19-2 -/
  ledger : FlashZone := newZone 288 15
  /-- the events zone, Table 19-2 -/
  events : FlashZone := newZone 192 127
  /-- the marks zone, Table 19-2 -/
  marks : FlashZone := newZone 8 127
  /-- the blocks left in the reserve zone by their erase counts, Table 19-2, RESERVE_LEFT -/
  reserve : List Nat := List.replicate 24 0
  /-- log flash can be written, R270, R334 -/
  writable : Bool := true
  /-- EventCount (RT), Table 6-22 -/
  eventCount : Word := 0
  /-- EventOldestIndex, Table 6-22 -/
  eventOldest : Word := 0
  /-- indices of events whose record in log flash fails its check, R172 -/
  badEvents : List Word := []
  /-- the events kept, oldest first, with their indexes, R477 -/
  log : List (Word × EventKind) := []
deriving DecidableEq, Repr

/-! ### Self-test (20) -/

/-- The TST block and the self-test engine. -/
structure Tst where
  /-- TST_STAT.CODE (VBAT), Table 20-3 -/
  code : Byte := 0
  /-- TST_STAT.OUTCOME (VBAT), Table 20-3 -/
  outcome : BitVec 4 := 0
  /-- TST_STAT.PENDING (VBAT), Table 20-3 -/
  pending : Bool := false
  /-- TST_STAT.SCANNING, Table 20-3 -/
  scanning : Bool := false
  /-- TST_STAT.ISLAND, Table 20-3 -/
  island : BitVec 4 := 0
  /-- TST_ISLAND.LOGIC_FAIL (VBAT), Table 20-3 -/
  logicFail : BitVec 12 := 0
  /-- TST_ISLAND.MEM_FAIL (VBAT), Table 20-3 -/
  memFail : BitVec 12 := 0
  /-- TST_MISR (VBAT), Table 20-3 -/
  misr : Word := 0
  /-- TST_END (VBAT), Table 20-3 -/
  endSec : Word := 0
  /-- SelfTestResult (RT), R492 -/
  result : Word := 0
  /-- SelfTestTime (RT), Table 6-21 -/
  time : Time := 0
  /-- a request that waits or runs: its code, R490 -/
  waiting : Option Byte := none
  /-- a request held with bit 8, R490 -/
  held : Option Byte := none
  /-- the part of code 06h now due, 1 to 5; 0 outside code 06h, R491 -/
  part : Nat := 0
  /-- worst outcome so far of code 06h, R491 -/
  worst : BitVec 4 := 0
  /-- ITEMS so far of code 06h, R491 -/
  items : BitVec 12 := 0
  /-- islands still to test in the scan phase, R498 -/
  todo : List Island := []
  /-- the results of a BIST run are to be copied at the row where settings are restored, R498, R505 -/
  copyDue : Bool := false
  /-- the present start follows the first reset of a BIST run, R498 -/
  bistBoot : Bool := false
  /-- the island under test has been scanned and its return is awaited, R505 -/
  awaiting : Option Island := none
deriving DecidableEq, Repr

/-! ### Firmware (21) -/

/-- A manifest block of code flash: the image the part ships with, blank, or written bytes (R508, R529). -/
inductive ManifestBlock where
  | shipped
  | blank
  | bytes (b : Bytes)
deriving DecidableEq, Repr

/-- A stream under way (R513). -/
structure Stream where
  mailbox : Bool
  deferred : Bool
  total : Word
  received : Word
  /-- the bytes of the stream block under way -/
  part : Bytes
deriving DecidableEq, Repr

/-- Code flash and the update engine. -/
structure Fw where
  /-- M, Table 21-1 -/
  manifest : ManifestBlock := .shipped
  /-- staging, Table 21-1 -/
  staging : ManifestBlock := .blank
  /-- image blocks written since shipment: number and content; the others are as shipped, Table 21-1 -/
  written : List (Nat × Bytes) := []
  /-- image blocks whose flash content no longer reads back, R472 -/
  corrupt : List Nat := []
  /-- the loader sector passes its CRC, R527 -/
  loaderOk : Bool := true
  /-- LoaderVersion, Table 6-4 -/
  loaderVersion : Word := 0
  /-- the stream under way, R513 -/
  stream : Option Stream := none
  /-- PHASE, Table 21-5 -/
  phase : BitVec 4 := 0
  /-- MODE, Table 21-5 -/
  mode : Bool := false
  /-- ERROR, Table 21-5 -/
  error : Byte := 0
  /-- NEXT, Table 21-5 -/
  next : Byte := 0
  /-- TOTAL, Table 21-5 -/
  total : Byte := 0
  /-- REQUEST of the update area, Table 21-4 -/
  request : Byte := 0
  /-- MODE of the update area, Table 21-4 -/
  areaMode : Byte := 0
  /-- TOTAL of the update area, Table 21-4 -/
  areaTotal : Byte := 0
  /-- LAST_VERSION of the update area, Table 21-4 -/
  lastVersion : Word := 0
  /-- how many of the next flash operations fail; the medium's own faults, R526 -/
  faults : Nat := 0
deriving DecidableEq, Repr

/-! ### Host port (22) -/

/-- The HST block. -/
structure Hst where
  /-- FRAMES, Table 22-5 -/
  frames : BitVec 16 := 0
  /-- SHORT, Table 22-5 -/
  short : BitVec 7 := 0
  /-- MODE3, Table 22-5 -/
  mode3 : Bool := false
  /-- MBX_LOST, Table 22-5 -/
  mbxLost : Byte := 0
  /-- PENDING, Table 22-5 -/
  pending : BitVec 9 := 0
  /-- FAIL_ST, Table 22-5 -/
  failSt : BitVec 3 := 0
  /-- FAIL, Table 22-5 -/
  fail : Bool := false
  /-- FAIL_ADDR, Table 22-5 -/
  failAddr : BitVec 16 := 0
  /-- HST_IRQ.DISP_TAKE, Table 22-5 -/
  dispTake : Bool := false
  /-- HST_IRQ.SAFE_CHG, Table 22-5 -/
  safeChg : Bool := false
  /-- HST_IRQ.SUPPLY, Table 22-5 -/
  supply : Bool := false
  /-- HST_IRQ.RESET, Table 22-5 -/
  reset : Bool := true
  /-- HST_IRQEN.EN, Table 22-5 -/
  irqEn : BitVec 10 := 0
  /-- HST_MBX_CTRL.LEN, Table 22-5 -/
  len : Byte := 0
  /-- REQ_BUSY, Table 22-5: the PDU not yet taken -/
  request : Option Bytes := none
  /-- MBX_ERR, Table 22-5 -/
  mbxErr : Bool := false
  /-- HST_MBX_REQ, 60 words, Table 22-5 -/
  reqBuf : Vector Word 60 := Vector.replicate 60 0
  /-- responses queued, oldest first, at most 8, R538 -/
  responses : List Bytes := []
  /-- NOTIFYs queued, oldest first, at most 4, R538 -/
  notifies : List Bytes := []
  /-- SPI_SO bytes of the last read frame from its start byte on, R534 -/
  so : Bytes := []
  /-- host writes issued to the fabric whose completions are awaited: address by tag, R533 -/
  writes : List (BitVec 10 × BitVec 16) := []
deriving DecidableEq, Repr

/-! ### The whole state -/

/-- A fault stops the machine. The BL-420 raises none: every condition that spec/ describes is an effect on the state. -/
inductive Fault where
  /-- raised by nobody: reserved for a command that no state can carry (safe) -/
  | impossible
deriving DecidableEq, Repr

/-- A refusal says that a command has no meaning here. -/
inductive Refusal where
  /-- raised by exec for a row that has no meaning yet (safe) -/
  | notModelled (mnemonic : String)
deriving DecidableEq, Repr

/-- The state of the BL-420. -/
structure State where
  /-- commands that wait, first in first out: the model's own queue -/
  pending : List Instr := []
  /-- counter that names the next free value: the model's own field -/
  free : Nat := 0
  fab : Fabric := {}
  rst : RstCause := {}
  sup : Supply := {}
  boot : Boot := {}
  pwr : Power := {}
  otp : Otp := {}
  cfg : CfgStat := {}
  set : Settings := {}
  /-- retained copy A, R119 -/
  copyA : RetCopy := {}
  /-- retained copy B, R119 -/
  copyB : RetCopy := {}
  areas : RetAreas := {}
  od : Od := {}
  ses : Session := {}
  plt : Pilot := {}
  swg : Switching := {}
  lck : Lock := {}
  rcd : Rcd := {}
  glt : Glint := {}
  safe : Safe := {}
  live : Live := {}
  adc : Adc := {}
  met : Met := {}
  bil : Billing := {}
  sec : Sec := {}
  plc : Plc := {}
  net : Net := {}
  disp : Disp := {}
  aud : Aud := {}
  tmr : Tmr := {}
  bgd : Bgd := {}
  flash : Flash := {}
  tst : Tst := {}
  fw : Fw := {}
  hst : Hst := {}
deriving DecidableEq, Repr

/-- The BL-420 at its first power-on, with the whole-device reset still held (R111): every field at the default above. -/
def State.reset : State := {}

end Sys2Proof.Machine
end

