-- ==== Sys2Proof/Machine/Ops.lean ====
section
/-! DEFINITION. The named operations over the state that every family uses: islands and their ports, settings, the
retained copies, the event log, reports to SAFE, the kill latch, free values. -/

namespace Sys2Proof.Machine

/-- The number of an island (Table 2-1). -/
def islandNum : Island → Nat
  | .aon => 0 | .safe => 1 | .seq => 2 | .met => 3 | .adc => 4 | .plc => 5
  | .sec => 6 | .disp => 7 | .aud => 8 | .host => 9 | .bgd => 10 | .tmr => 11

/-- The twelve islands in order (Table 2-1). -/
def allIslands : List Island := [.aon, .safe, .seq, .met, .adc, .plc, .sec, .disp, .aud, .host, .bgd, .tmr]

/-- The island of a number; none for 12 to 15 (Table 2-2). -/
def islandOf (n : Nat) : Option Island := allIslands[n]?

/-- The value kept for one island. -/
def pget {α : Type} (p : PerIsland α) : Island → α
  | .aon => p.aon | .safe => p.safe | .seq => p.seq | .met => p.met | .adc => p.adc | .plc => p.plc
  | .sec => p.sec | .disp => p.disp | .aud => p.aud | .host => p.host | .bgd => p.bgd | .tmr => p.tmr

/-- The values with one island's replaced. -/
def pset {α : Type} (p : PerIsland α) (i : Island) (a : α) : PerIsland α :=
  match i with
  | .aon => { p with aon := a } | .safe => { p with safe := a } | .seq => { p with seq := a }
  | .met => { p with met := a } | .adc => { p with adc := a } | .plc => { p with plc := a }
  | .sec => { p with sec := a } | .disp => { p with disp := a } | .aud => { p with aud := a }
  | .host => { p with host := a } | .bgd => { p with bgd := a } | .tmr => { p with tmr := a }

/-- The same value for every island. -/
def pconst {α : Type} (a : α) : PerIsland α := ⟨a, a, a, a, a, a, a, a, a, a, a, a⟩

/-- The port of an island. -/
def port (s : State) (i : Island) : Port := pget s.fab.ports i

/-- Whether an island is in service (Table 2-8). -/
def isUp (s : State) (i : Island) : Bool := (port s i).state == .up

/-- ADC is in service and its lists run (R279). -/
def adcRuns (s : State) : Bool := isUp s .adc && s.adc.listsRun

/-- Number of a phase: 0, 1, 2. -/
def phaseNum : Phase3 → Nat
  | .l1 => 0 | .l2 => 1 | .l3 => 2

/-- A capture begins (R276). -/
def captureBegins (s : State) : State :=
  { s with adc := { s.adc with
    capStart := false, capBusy := true, capGaps := 0, capBuf := []
    interleaved := if s.adc.capIlv then setBit 0 (bit s.adc.capPair) else 0 } }

/-- s with an island's port replaced. -/
def setPort (s : State) (i : Island) (p : Port) : State := { s with fab := { s.fab with ports := pset s.fab.ports i p } }

/-- A step with an effect that its precondition guards; without it nothing changes. -/
def guarded (c : Bool) (f : State → State) (s : State) : State := if c then f s else s

/-- Tags taken now: accepted requests, completions on their way, fences (R49). -/
def tagsInFlight (s : State) : Nat := s.fab.flights.length + s.fab.completions.length + s.fab.fences.length

/-- PEAK keeps the highest IN_FLIGHT (Table 2-11), saturating at its 11 bits. -/
def notePeak (s : State) : State :=
  { s with fab := { s.fab with
      peak := if s.fab.peak.toNat < tagsInFlight s then BitVec.ofNat 11 (min 2047 (tagsInFlight s)) else s.fab.peak } }

/-- What has no clock settles at the end of every command: gate-kill is asserted while SAFE is out of service or the brown-out sequence is
in force (R65, R98, R235), and PEAK keeps the highest IN_FLIGHT (Table 2-11). -/
def settle (s : State) : State :=
  notePeak { s with glt := { s.glt with kill := s.glt.kill || !isUp s .safe || s.pwr.brown.active } }

/-- OP as Table 2-3 encodes it. -/
def opCode : FabricOp → Nat
  | .read => 0 | .write => 1 | .writePosted => 2 | .fence => 3 | .reOpen => 4 | .reserved n => 5 + n.val

/-- Whether a request carries DATA (Table 2-2: absent for reads, fences and re-opens). -/
def hasData : FabricOp → Bool
  | .write | .writePosted | .reserved _ => true | .read | .fence | .reOpen => false

/-- The bits of a number that are 1, of its lowest n. -/
def onesIn (n v : Nat) : Nat := ((List.range n).filter (hasBit v)).length

/-- Even parity over all other fields (Table 2-2). -/
def parityBit (op : FabricOp) (r : Request) : Bool :=
  (onesIn 10 r.tag.toNat + onesIn 4 (islandNum r.src) + onesIn 4 r.dst.toNat + onesIn 8 r.epoch.toNat + onesIn 3 (opCode op)
    + onesIn 10 r.addr.toNat + (if hasData op then onesIn 32 r.data.toNat else 0)) % 2 == 1

/-- The request's parity is right (R79). -/
def parityOk (f : Flight) : Bool := f.req.par == parityBit f.op f.req

/-- The outcome of a command that completes. -/
def done (s : State) : Host.Outcome State Fault Refusal := .next (settle s)

/-- An event of group 28, with the next index (Table 6-22). The first event has index 1: the model's choice. -/
def logEvent (k : EventKind) (s : State) : State :=
  if s.flash.writable then
    let n := satInc s.flash.eventCount
    { s with flash := { s.flash with
        eventCount := n, log := s.flash.log ++ [(n, k)]
        eventOldest := if s.flash.log.isEmpty then n else s.flash.eventOldest } }
  else s

/-- The running value of an OTP-class entry; before the settings are restored, its Default (R115, Table 6-4 on). -/
def settingBytes (s : State) (a : BitVec 16) : Bytes :=
  match s.set.running.find? fun e => e.addr == a with
  | some e => e.value
  | none => match odRow? a with
    | some r => r.dflt
    | none => []

/-- The running value of a number setting. -/
def setting? (s : State) (g i : Nat) : Nat := ofLe (settingBytes s (od g i))

/-- Entry records with one value replaced, in ascending address order (R115). -/
def putEntry (l : List Entry) (e : Entry) : List Entry :=
  match l with
  | [] => [e]
  | x :: r => if x.addr == e.addr then e :: r else if e.addr.toNat < x.addr.toNat then e :: x :: r else x :: putEntry r e

/-- The bytes of one entry record (R115). -/
def recordBytes (e : Entry) : Bytes := leBytes 2 e.addr.toNat ++ leBytes 1 e.value.length ++ e.value

/-- The bytes of entry records. -/
def recordsBytes (l : List Entry) : Bytes := l.flatMap recordBytes

/-- A copy of the running settings with a sequence number (Table 4-3). -/
def copyOf (s : State) (n : Word) : RetCopy :=
  { format := 0x5201, gen := s.set.generation, seq := n, count := BitVec.ofNat 16 s.set.running.length
    length := BitVec.ofNat 16 (recordsBytes s.set.running).length, records := s.set.running, restZero := true, crcOk := true }

/-- Laurel-B writes copy A and then copy B with the same incremented SEQ (R120). -/
def writeCopies (s : State) : State :=
  let n := (if s.copyA.crcOk then s.copyA.seq else s.copyB.seq) + 1
  { s with copyA := copyOf s n, copyB := copyOf s n }

/-- The records of a generation: its own, over those of generation 0 (R115). -/
def generationEntries (s : State) (n : Nat) : List Entry :=
  let base := (s.otp.blocks.toList.getD 0 {}).records
  if n = 0 then base else ((s.otp.blocks.toList.getD n {}).records).foldl putEntry base

/-- The entries of OTP class among entry records. -/
def otpOnly (l : List Entry) : List Entry := l.filter fun e => otpRows.any fun r => r.addr == e.addr

/-- ConfigDirty as the running settings stand against ConfigGeneration (Table 4-5). -/
def computeDirty (s : State) : Bool := otpOnly s.set.running != otpOnly (generationEntries s s.set.generation.toNat)

/-- A fault report that SAFE judges at the end of its window (R251). -/
def report (c : BitVec 16) (s : State) : State := { s with safe := { s.safe with reports := s.safe.reports ++ [c] } }

/-- The cause of each diagnostic (Table 10-3). -/
def diagCause : Nat → BitVec 16
  | 0 => 0x205 | 1 => 0x201 | 2 => 0x204 | 3 => 0x206 | 4 => 0x208 | 5 => 0x203 | 8 => 0x501 | 9 => 0x202 | _ => 0x209

/-- Diagnostic n fails: its bit is set and its cause reported once while the condition stands (R253, R254, R265). The kill-latch
test of diagnostic 10 leaves no standing condition. -/
def diagFail (n : Nat) (s : State) : State :=
  let c := diagCause n
  let known := s.live.standing.contains c
  let s := { s with
    safe := { s.safe with failed := setBit s.safe.failed n }
    live := { s.live with standing := if known || n == 10 then s.live.standing else c :: s.live.standing } }
  if known then s else report c s

/-- Diagnostic n is evaluated without failing (R253). -/
def diagPass (n : Nat) (s : State) : State :=
  { s with safe := { s.safe with passed := setBit s.safe.passed n }
           live := { s.live with standing := s.live.standing.filter (· != diagCause n) } }

/-- The kill latch is set: every gate is forced off, whatever is commanded (R203, R235). The read-back is what the next comparison finds. -/
def setKill (s : State) : State := { s with glt := { s.glt with kill := true } }

/-- The mixed-signal die holds the latch over a fault of SAFE itself, independently of SAFE (R269). -/
def holdKill (s : State) : State := setKill { s with glt := { s.glt with safeFault := true } }

/-- A comparator sets the latch (R235): its bit in TRIP, and in FIRST if it is the first. -/
def killByComparator (n : Nat) (s : State) : State :=
  setKill { s with glt := { s.glt with trip := setBit s.glt.trip n, first := if s.glt.trip == 0 then setBit 0 n else s.glt.first } }

/-- Some input that sets the kill latch is active (R236, R262 item 4). -/
def killInputActive (s : State) : Bool := s.glt.active != 0 || s.pwr.brown.active || !isUp s .safe || s.glt.safeFault

/-- SAFE clears the latch; set dominates clear (R236). TRIP, FIRST, the source bits and RCD_STAT.TRIP clear with it. -/
def clearKill (s : State) : State :=
  if killInputActive s then s
  else { s with glt := { s.glt with kill := false, trip := 0, first := 0, srcSafe := false, srcBrown := false, srcSafeAbsent := false }
                rcd := { s.rcd with trip := 0 } }

/-- The next free value's number; the counter advances. -/
def nextFree (s : State) : Nat × State := (s.free, { s with free := s.free + 1 })

/-- Whether the seal declares: SW4 TT, SW5 three phase, SW6 lock, SW7 DC detection, SW8 closed (Table 10-6). -/
def sealBit (s : State) (n : Nat) : Bool := s.safe.pos.getLsbD (n - 1)

/-- SW5 declares three phase. -/
def threePhase (s : State) : Bool := sealBit s 5

/-- SW6 declares a lock. -/
def lockFitted (s : State) : Bool := sealBit s 6

/-- SW7 enables DC residual detection. -/
def dcEnabled (s : State) : Bool := sealBit s 7

/-- SW8 is open: commissioning (R133). Nothing counts as open before a seal word is accepted. -/
def sw8Open (s : State) : Bool := s.safe.sealAccepted && !sealBit s 8

/-- The currents of the seal codes 0 to 7, in A (R258). -/
def sealAmps (s : State) : Nat := [6, 10, 13, 16, 20, 25, 32, 63].getD (s.safe.pos.toNat % 8) 6

/-- The phases that SW5 declares. -/
def phases (s : State) : List Nat := if threePhase s then [0, 1, 2] else [0]

/-- The conductors that SW5 declares: L1, L2, L3, N as 0 to 3 (R200). -/
def conductors (s : State) : List Nat := if threePhase s then [0, 1, 2, 3] else [0, 3]

/-- The gate bits of the declared phases and neutral (R200). -/
def declaredGates (s : State) : BitVec 4 := if threePhase s then 0xF else 0x9

/-- The catalogue's upper bound that the seal lowers, none where the row is not seal-bounded (R123, R134, R259). -/
def sealBound (s : State) (a : BitVec 16) : Option Nat :=
  if a == od 8 1 then some (sealAmps s * 10)
  else if a == od 9 0x50 then some (if threePhase s || sealBit s 4 then 240 else 277)
  else none

/-- R123: entries above the seal's bound are lowered in the running settings and both copies, and logged. -/
def sealBounding (s : State) : State :=
  let tooHigh := s.set.running.filter fun e =>
    match sealBound s e.addr with
    | some b => b < ofLe e.value
    | none => false
  if tooHigh.isEmpty then s
  else
    let low (e : Entry) : Entry := { e with value := leBytes e.value.length ((sealBound s e.addr).getD 0) }
    let s := { s with set := { s.set with running := tooHigh.foldl (fun l e => putEntry l (low e)) s.set.running } }
    let s := { s with set := { s.set with dirty := computeDirty s } }
    tooHigh.foldl (fun s e => logEvent (.sealBound e.addr) s) (writeCopies s)

/-- A grant of a session is in use and the session runs or is paused. -/
def inSession (s : State) : Bool := s.ses.inUse

/-- Every pad is held as Table 3-3 states: in a whole-device reset, and after the brown-out sequence (R88, R98). -/
def padsHeld (s : State) : Bool := s.pwr.resetHeld || (s.pwr.brown.active && !s.pwr.brown.duringBoot)

/-- The island that owns the stage of a rail (R84). -/
def railOwner : Rail → Island
  | .vld => .plc | .vaud => .aud | .voled => .disp

/-- A rail's monitor bit (Table 3-7). -/
def railOk (s : State) : Rail → Bool
  | .vld => s.sup.vldOk | .vaud => s.sup.vaudOk | .voled => s.sup.voledOk

/-- The bit of a rail in Power.railReported. -/
def railNum : Rail → Nat
  | .vld => 0 | .vaud => 1 | .voled => 2

/-- The owner of a stage, in service, reports in group 28 that its rail is low: once while it stays low at this start (R84). -/
def reportRail (r : Rail) (s : State) : State :=
  if railOk s r || s.pwr.railReported.getLsbD (railNum r) || !isUp s (railOwner r) then s
  else logEvent (.rail r true) { s with pwr := { s.pwr with railReported := setBit s.pwr.railReported (railNum r) } }

/-- HST_IRQ.SUPPLY: a bit of AON_SUPPLY changed (Table 22-5). While HOST is out of service the interrupt is dropped (R60). -/
def setSupply (f : Supply → Supply) (s : State) : State :=
  let n := f s.sup
  { s with sup := n, hst := if n = s.sup || !isUp s .host then s.hst else { s.hst with supply := true } }

/-- DRV_ON follows what holds the line driver off (R84, R386, R387, R394, R98 step 4). -/
def refreshDriver (s : State) : State :=
  { s with plc := { s.plc with
    drvOn := isUp s .plc && s.sup.vldOk && !s.plc.shortHold && !s.plc.thermal && s.plc.mayTransmit && !s.pwr.brown.active } }

/-- DRIVE_ON follows the display's supply: VOLED in pixel mode, VLCD in segment mode (R84, R447, R449). -/
def refreshDrive (s : State) : State :=
  { s with disp := { s.disp with
    driveOn := isUp s .disp && !s.pwr.brown.active && (if s.disp.pixelMode then s.sup.voledOk else s.disp.pumpOk) } }

/-- The class-D stage is enabled by VAUD (R84). -/
def refreshStage (s : State) : State :=
  { s with aud := { s.aud with stageOn := isUp s .aud && s.sup.vaudOk && !s.pwr.brown.active } }

/-- SAFE_STAT.ACTIVE takes a value; a change sets HST_IRQ.SAFE_CHG (Table 22-5), unless HOST is out of service (R60). -/
def setActive (b : Bool) (s : State) : State :=
  { s with hst := if s.safe.active == b || !isUp s .host then s.hst else { s.hst with safeChg := true }
           safe := { s.safe with active := b } }

/-- ClockTime in counts of 1/65 536 s. -/
def clockCounts (s : State) : Int := s.bil.clock.toNat

/-- Milliseconds between two times (R315). -/
def diffMs (new old : Time) : Int := ((new.toNat : Int) - old.toNat) * 1000 / 65536

/-- A SEC record in OTP: the six slots' keys; empty where the slot is blank or failed (R364). -/
def slotKey (s : State) (n : Nat) : Bytes := if s.sec.slotOk.getLsbD n then (s.otp.slots.toList.getD n {}).key else []

/-- Identity private scalar d_ID (Table 14-2, slot 0). -/
def identity (s : State) : Nat := ofBe (slotKey s 0) % n256

/-- DevicePublicKey Q_ID: X then Y, 64 bytes (Table 6-4). -/
def devicePublicKey (s : State) : Bytes :=
  let k := publicKey (ofBe (s.otp.slots.toList.getD 0 {}).key % n256)
  if k = [] then zeros 64 else k

/-- SegmentNumber (Table 6-5). -/
def segmentNumber (s : State) : Nat := setting? s 1 1

/-- NodeAddress (Table 6-5). -/
def nodeAddress (s : State) : Nat := setting? s 1 0

/-- The link key of a node (Table 14-3, LINK). -/
def linkKey (s : State) : Bytes :=
  hkdf [] (slotKey s 4) (ascii "ZN-LINK" ++ leBytes 1 (segmentNumber s) ++ leBytes 1 (nodeAddress s)) 16

/-- The session key (Table 14-3, SESSION). COUNTER is written little-endian under R9: DEDUCED. -/
def sessionKey (s : State) (nonce : Bytes) (counter : Word) : Bytes :=
  hkdf nonce (slotKey s 4) (ascii "OD-SESSION" ++ s.otp.serial ++ leBytes 4 counter.toNat) 16

end Sys2Proof.Machine
end

