-- ==== Sys2Proof/Machine/EnergyOps.lean ====
section
/-! DEFINITION. The arithmetic of metrology (12): scaling, interpolation, the sums of a period and of a half-cycle, energies.
Samples are exact integers after the gain: a voltage unit is 500 V / 2^31, a current unit 250 A / 2^31 (R291, R303). How a result
is rounded to its register is the model's choice: towards zero; energies are exact. -/

namespace Sys2Proof.Machine

/-- A code after its gain Q16.16 (R303). -/
def gained (gain : Word) (code : BitVec 16) : Int := code.toInt * gain.toNat

/-- The voltage code of phase p in a tick. -/
def voltCode (x : TickSamples) (p : Nat) : BitVec 16 := [x.v1, x.v2, x.v3].getD p 0

/-- The current code of conductor c in a tick. -/
def ampCode (x : TickSamples) (c : Nat) : BitVec 16 := [x.i1, x.i2, x.i3, x.inn].getD c 0

/-- A list rotated to the right by m places: the value at k is the one that stood at k − m. -/
def rotated (l : List Int) (m : Nat) : List Int :=
  let k := l.length - m % max 1 l.length
  l.drop k ++ l.take k

/-- The samples of one period delayed by d / 65 536 sample ticks, with linear interpolation; the period is taken as periodic. -/
def delayed (l : List Int) (d : Int) : List Int :=
  let n : Int := 65536 * max 1 l.length
  let e := (d % n).toNat
  let f : Int := e % 65536
  (rotated l (e / 65536)).zipWith (fun a b => ((65536 - f) * a + f * b) / 65536) (rotated l (e / 65536 + 1))

/-- Voltage samples interpolated to the instant of the current sample, 500 ns of a tick of 31.25 µs later, in the ticks in which
a converter was borrowed (R293); the period is taken as periodic, so that its first sample follows its last, z. That the voltage is
converted first is DEDUCED. -/
def skewed (z : Int) : List (Int × Bool) → List Int
  | [] => []
  | x :: r =>
    let next := (r.head?.map (·.1)).getD z
    (if x.2 then x.1 + (next - x.1) * 16 / 1000 else x.1) :: skewed z r

/-- The voltages of phase p over the period, oldest first. -/
def voltages (m : Met) (p : Nat) : List Int :=
  let l := m.samples.reverse.map fun x => (gained (m.cal.vGain.toList.getD p 0) (voltCode x.1 p), x.2)
  skewed ((l.head?.map (·.1)).getD 0) l

/-- The currents of conductor c over the period after its gain (R303). -/
def gainedCurrents (m : Met) (c : Nat) : List Int :=
  m.samples.reverse.map fun x => gained (m.cal.iGain.toList.getD c 0) (ampCode x.1 c)

/-- The currents of conductor c over the period, with its phase trim in degrees Q16.16 (R303). -/
def currents (m : Met) (c : Nat) : List Int :=
  let l := gainedCurrents m c
  let trim := (m.cal.trim.toList.getD c 0).toInt
  let span : Int := if m.freqValid then l.length else 640
  if trim = 0 then l else delayed l (trim * span / 360)

/-- Σ a·b. -/
def sumProducts (a b : List Int) : Int := (a.zipWith (· * ·) b).foldl (· + ·) 0

/-- RMS in Q16.16 from a sum of squares over n samples, with full scale fs (R294). -/
def rmsQ16 (fs n : Nat) (sq : Int) : Nat := if n = 0 then 0 else isqrt (sq.toNat * fs * fs / (n * 2 ^ 30))

/-- Mean of v·i in units of 1 / 2^20 W. -/
def meanPower (n : Nat) (s : Int) : Int := if n = 0 then 0 else Int.tdiv (s * 125000) (n * 2 ^ 42)

/-- The energy of a sum of v·i over n samples and a duration t in 100 ns is sum · t / energyDen n mWh, exactly: 500 V · 250 A / 2^62 for
each unit of the sum, and 36·10^6 units of 100 ns · W for one mWh (R294). -/
def energyDen (n : Nat) : Nat := max 1 n * 2 ^ 62 * 288

/-- What a period of n samples gives for one phase: RMS values, power in 1 / 2^20 W, active and reactive energy in parts of
1 / energyDen n mWh (R294). -/
structure PhaseResult where
  vRms : Nat
  iRms : Nat
  power : Int
  active : Int
  reactive : Nat
deriving DecidableEq, Repr

/-- I_RMS below 20 mA (R297): a sum of n squared currents against (0.02 A)² without rounding. -/
def belowStart (n : Nat) (sq : Int) : Bool := sq.toNat * 62500 * 2500 < n * 2 ^ 62

/-- The computation of R294 and R297 for phase p over the samples held and a duration in 100 ns. -/
def phaseResult (m : Met) (p t : Nat) : PhaseResult :=
  let v := voltages m p
  let i := currents m p
  let n := v.length
  let iRms := rmsQ16 250 n (sumProducts i i)
  let vRms := rmsQ16 500 n (sumProducts v v)
  if belowStart n (sumProducts i i) then ⟨vRms, iRms, 0, 0, 0⟩
  else
    let vi := sumProducts v i
    let q := sumProducts (delayed v (n * 16384)) i
    ⟨vRms, iRms, meanPower n vi, vi * t, (q * t).natAbs⟩

/-- I_RMS of the neutral (R294); its trim changes no reported value (R303). -/
def neutralRms (m : Met) : Nat := let i := gainedCurrents m 3; rmsQ16 250 i.length (sumProducts i i)

/-- The sum of a residue and n / d, as whole units and what remains below one (R298). -/
def Frac.carry (r : Frac) (n d : Nat) : Nat × Frac :=
  let a := r.num * d + n * r.den
  let b := r.den * d
  let g := max 1 (Nat.gcd (a % b) b)
  (a / b, ⟨a % b / g, b / g⟩)

/-- n / d mWh added to a counter of mWh and its exact residue (R298). -/
def addEnergy {w : Nat} (acc : BitVec w) (res : Frac) (n d : Nat) : BitVec w × Frac :=
  (satAdd acc (res.carry n d).1, (res.carry n d).2)

/-- The duration of the samples held, in 100 ns: 31.25 µs each. -/
def samplesSpan (m : Met) : Nat := m.samples.length * 3125 / 10

/-- The import accumulators with the positive partial energies of the running period added, under the code in force (R300). -/
def importsWithPartial (s : State) : List (BitVec 48) :=
  (List.range 12).map fun k =>
    let acc := s.met.eimp.toList.getD k 0
    let p := k / 4
    if k % 4 = s.met.code.toNat && (phases s).contains p && isUp s .met then
      (addEnergy acc (s.met.eimpRes.toList.getD k {}) (phaseResult s.met p (samplesSpan s.met)).active.toNat
        (energyDen s.met.samples.length)).1.setWidth 48
    else acc.setWidth 48

end Sys2Proof.Machine
end

