-- ==== Sys2Proof/Machine/Flags.lean ====
section
/-! DEFINITION. The register words and status words that the part assembles from its state: AON, SAFE, SEC, RCD, GLT, PLT,
SWG, LCK, THK and HST, and the conditions that their flags report. The other blocks' words are in FlagsB.lean. -/

namespace Sys2Proof.Machine

/-- AON_RST_CAUSE (Table 3-6). -/
def rstCauseWord (s : State) : Word :=
  let c := s.rst
  fields [(bit c.porSupply, 0), (bit c.porVbat, 1), (bit c.pin, 2), (bit c.odRestart, 3), (bit c.safeReq, 4),
    (bit c.pfailRec, 5), (bit c.loader, 6), (c.count.toNat, 16)]

/-- AON_SUPPLY (Table 3-7). -/
def supplyWord (s : State) : Word :=
  let p := s.sup
  fields [(bit p.vddcOk, 0), (bit p.vbatOk, 1), (bit p.vbatLow, 2), (bit p.vldOk, 3), (bit p.vaudOk, 4), (bit p.voledOk, 5),
    (bit p.pfail, 6), (bit p.xtalOk, 7), (bit p.rtcXtalOk, 8)]

/-- AON_BOOT (Table 3-8). -/
def bootWord (s : State) : Word :=
  let b := s.boot
  fields [(b.stage.toNat, 0), (b.source.toNat, 4), (b.gen.toNat, 7), (bit b.homingSkipped, 10), (bit b.pendingClose, 11)]

/-- AON_TARIFF (Table 13-5). -/
def tariffWord (s : State) : Word :=
  let b := s.bil
  fields [(b.raw.toNat, 0), (b.input.toNat, 2), (b.inForce.toNat, 4), (bit b.default, 6), (bit (b.raw != b.input), 7)]

/-- AON_CLK_STAT (Table 13-6). -/
def clkStatWord (s : State) : Word :=
  let b := s.bil
  fields [(bit b.valid, 0), (bit b.trusted, 1), (bit (b.slewCounts != 0), 2), (b.slewLeft.toNat, 16)]

/-- AON_RTC_LO (Table 13-6). -/
def rtcLoWord (s : State) : Word := BitVec.ofNat 32 s.bil.clock.toNat

/-- AON_RTC_HI (Table 13-6). -/
def rtcHiWord (s : State) : Word := BitVec.ofNat 32 (s.bil.clock.toNat / 2 ^ 32)

/-- SAFE_SEAL, the seal word (Table 10-7). -/
def sealWordOf (s : State) : Word :=
  let f := s.safe
  fields [(f.pos.toNat, 0), (bit f.sealValid, 8), (bit f.sealFault, 9), (bit f.sealChanged, 10), (f.lineFault.toNat, 16)]

/-- SAFE_DIAG (Table 10-11). -/
def diagWord (s : State) : Word := fields [(s.safe.failed.toNat, 0), (s.safe.passed.toNat, 16)]

/-- Release class of a cause (Table 10-8): 0 Automatic, 1 Operator, 2 Held, 3 Reset. -/
def releaseClass (c : BitVec 16) : Nat :=
  if c = 0x501 ∨ c = 0x502 then 3 else if c = 0x601 then 2 else if 0x400 ≤ c.toNat ∧ c.toNat ≤ 0x40B then 0 else 1

/-- Whether the condition of one cause has cleared (R262 item 1). -/
def causeCleared (s : State) (c : BitVec 16) : Bool :=
  if c = 0x101 then s.rcd.above == 0
  else if 0x102 ≤ c.toNat ∧ c.toNat ≤ 0x105 then !s.glt.active.getLsbD (c.toNat - 0x102)
  else if c = 0x106 then s.live.overCounts.toList.all (· == 0)
  else if c = 0x301 ∨ c = 0x302 then s.safe.sealValid && 200 ≤ s.safe.sealStable
  else if 0x400 ≤ c.toNat ∧ c.toNat ≤ 0x40B then
    match islandOf (c.toNat - 0x400) with
    | some i => isUp s i && pget s.safe.misses i == 0
    | none => true
  else if 0x500 ≤ c.toNat then false
  else !s.live.standing.contains c

/-- Every island is up. -/
def allUp (s : State) : Bool := allIslands.all (isUp s)

/-- Diagnostics 0, 1, 2, 5, 6, 7 and 8 have passed (R262 item 2, R271). -/
def firstPass (s : State) : Bool := s.safe.passed &&& 0x1E7 == 0x1E7

/-- Every condition of R262 for a release: by an operator, or automatic. -/
def releaseOk (automatic : Bool) (s : State) : Bool :=
  s.safe.seen.all (causeCleared s) && firstPass s && allUp s && !killInputActive s && !s.sup.pfail
    && s.safe.seen.all (fun c => releaseClass c < 2)
    && (!automatic || (s.safe.seen.all (fun c => releaseClass c == 0) && !s.safe.autoSpent && s.safe.autoLeft != 0))

/-- The safe state, not the start hold, is in force. -/
def safeInForce (s : State) : Bool := s.safe.active && !s.safe.startHold

/-- SAFE_STAT (Table 10-10). READY reads 1 only while a safe state is in force: DEDUCED. -/
def safeStatWord (s : State) : Word :=
  let f := s.safe
  fields [(f.cause.toNat, 0), (bit f.active, 16), (bit f.startHold, 17), (bit (safeInForce s && releaseOk false s), 18),
    (bit f.needsReset, 19), (f.autoLeft.toNat, 20)]

/-- SEC_CFG_STAT (Table 4-4). -/
def cfgStatWord (s : State) : Word :=
  let c := s.cfg
  fields [(c.begun.toNat, 0), (c.done.toNat, 8), (c.valid.toNat, 16), (c.newest.toNat, 24), (bit c.busy, 27), (bit c.ptrCorr, 28)]

/-- YewState (Table 6-18): 0 empty, 1 use counter, 2 until reset. -/
def yewState (s : State) : Nat :=
  match s.sec.ctx with
  | .none => 0
  | .link => 2
  | .session => 2
  | .conf => 1
  | .ledger => 1
  | .mirror => 1

/-- CTX of Table 14-3. -/
def yewCtxCode : YewCtx → Nat
  | .none => 0 | .link => 1 | .session => 2 | .conf => 3 | .ledger => 4 | .mirror => 5

/-- SEC_KEY_STAT (Table 14-5). Every slot reads as locked under SCAN_LOCK (R343). -/
def keyStatWord (s : State) : Word :=
  let c := s.sec
  fields [(if c.scanLock then 0x3F else c.locked.toNat, 0), (bit c.scanLock, 6), (yewState s, 7), (yewCtxCode c.ctx, 9),
    (c.usesLeft.toNat, 12), (bit c.wait, 28), (bit c.lockCorr, 29)]

/-- RCD_STAT (Table 9-6). -/
def rcdStatWord (s : State) : Word :=
  let r := s.rcd
  fields [(r.above.toNat, 0), (r.trip.toNat, 6), (bit r.excLock, 12), (bit r.excLost, 13), (bit r.dcArmed, 14),
    (bit r.windingRun, 16), (bit r.windingFail, 17)]

/-- RCD_MEAS (Table 9-7). -/
def rcdMeasWord (s : State) : Word := fields [(s.rcd.ac.toNat, 0), (s.rcd.dc.toNat, 16)]

/-- RCD_FLX (Table 9-8). -/
def rcdFlxWord (s : State) : Word := fields [(s.rcd.peakMa.toNat, 0), (s.rcd.miss.toNat, 8)]

/-- GLT_STAT (Table 9-9). -/
def gltStatWord (s : State) : Word :=
  let g := s.glt
  fields [(g.trip.toNat, 0), (g.first.toNat, 4), (bit g.kill, 8), (bit g.srcSafe, 9), (bit g.srcBrown, 10),
    (bit g.srcSafeAbsent, 11), (g.testing.toNat, 12), (g.testFail.toNat, 16)]

/-- GLT_THR (Table 9-10). -/
def gltThrWord (s : State) : Word := fields [(s.glt.fc0Ma.toNat, 0), (s.glt.fc12A.toNat, 16)]

/-- LEVEL of PLT_CTRL (Table 7-7). -/
def levelCode : PilotLevel → Nat
  | .steady => 0 | .pwm => 1 | .stateF => 2

/-- PLT_CTRL (Table 7-7). PILOT_HF is driven only while DigitalModeEnable is 1 (R190). -/
def pltCtrlWord (s : State) : Word :=
  fields [(levelCode s.plt.level, 0), (bit s.plt.digital, 2),
    (bit (isUp s .tmr && setting? s 8 2 == 1), 3)]

/-- PLT_DUTY (Table 7-8). -/
def pltDutyWord (s : State) : Word := fields [(s.plt.duty.toNat, 0), (s.plt.next.toNat, 16)]

/-- PLT_MEAS (Table 7-9). -/
def pltMeasWord (s : State) : Word := fields [(s.plt.highMv.toNat, 0), (s.plt.lowMv.toNat, 16)]

/-- PilotStatus.STATE (Table 6-23). -/
def pilotStateCode : PilotState → Nat
  | .none => 0 | .a => 1 | .b => 2 | .c => 3 | .d => 4 | .e => 5 | .f => 6 | .outOfBand => 7

/-- PLT_STAT (Table 7-10). -/
def pltStatWord (s : State) : Word :=
  let p := s.plt
  fields [(pilotStateCode p.state, 0), (bit p.diodeFault, 4), (bit p.eFault, 5), (bit p.bandFault, 6), (bit p.holdF, 7),
    (p.count.toNat, 8)]

/-- A pilot fault is latched (R193). -/
def pilotFault (s : State) : Bool := s.plt.diodeFault || s.plt.eFault || s.plt.bandFault

/-- PHASE of Table 6-23. -/
def phaseCode : Phase → Nat
  | .idle => 0 | .connected => 1 | .authorised => 2 | .locked => 3 | .offered => 4 | .make => 5 | .charging => 6
  | .break => 7 | .ended => 8 | .paused => 9

/-- BAND and BAND_VALID of Table 6-23 as a pair. -/
def bandCode : Band → Nat × Bool
  | .notMeasured => (0, false) | .open => (1, false) | .outside => (2, false)
  | .a13 => (0, true) | .a20 => (1, true) | .a32 => (2, true) | .a63 => (3, true)

/-- BAND_VALID (Table 6-23). -/
def bandValid (s : State) : Bool := (bandCode s.plt.band).2

/-- OD 08:010 PilotStatus (Table 6-23). -/
def pilotStatusWord (s : State) : Word :=
  fields [(pilotStateCode s.plt.state, 0), (bit s.plt.digital, 4), (bit (pilotFault s), 5), (bit (s.plt.level == .pwm), 6),
    (bit s.swg.aux, 7), (phaseCode s.ses.phase, 8), ((bandCode s.plt.band).1, 12), (bit (bandValid s), 15)]

/-- OD 05:001 SessionStatus (Table 6-8). -/
def sessionStatusWord (s : State) : Word := fields [(s.ses.stop.toNat, 0), (phaseCode s.ses.phase, 8)]

/-- SWG_STAT (Table 8-6). -/
def swgStatWord (s : State) : Word :=
  let g := s.swg
  fields [(g.gateCmd.toNat, 0), (g.gateFb.toNat, 4), (g.desat.toNat, 8), (bit s.glt.kill, 12), (bit g.coilCmd, 13), (bit g.aux, 14),
    (bit g.openLoop, 15), (bit g.stuckOn, 16), (bit g.auxFault, 17), (bit g.interlock, 18), (bit g.fbMismatch, 19)]

/-- SWG_COIL (Table 8-7). -/
def swgCoilWord (s : State) : Word := fields [(s.swg.senseMa.toNat, 0), (s.swg.coilDuty.toNat, 16)]

/-- OD 09:000 SwitchState (Table 6-10). -/
def switchStateWord (s : State) : Word :=
  fields [(bit s.swg.coilCmd, 0), (bit s.swg.aux, 1), (s.swg.gateFb.toNat, 2), (bit s.swg.openLoop, 6)]

/-- Drive codes (Table 8-3). -/
def driveCode : Drive → Nat
  | .free => 0 | .locking => 1 | .unlocking => 2 | .brake => 3

/-- LCK_STAT (Table 8-8). -/
def lckStatWord (s : State) : Word :=
  let l := s.lck
  fields [(l.state.toNat, 0), (bit l.limLocked, 3), (bit l.limUnlocked, 4), (bit l.hallOk, 5), (bit l.lockedLost, 6),
    (l.faults.toNat, 7), (driveCode l.drive, 10)]

/-- ELAPSED_MS of the running move: the time is taken from AON's running time, the model's only clock (Table 8-9). -/
def elapsedNow (s : State) : BitVec 16 := BitVec.ofNat 16 (min 0xFFFF ((s.bil.running - s.lck.moveStart) * 1000 / 32768))

/-- LCK_MOVE (Table 8-9). -/
def lckMoveWord (s : State) : Word :=
  fields [(s.lck.pulses.toNat, 0), ((if s.lck.moving.isSome then elapsedNow s else s.lck.elapsedMs).toNat, 16)]

/-- STATE of THK_PORT_STATn (Table 2-8). -/
def portStateCode : PortState → Nat
  | .up => 0 | .resetting => 1 | .reloading => 2 | .poweredDown => 3 | .clockLost => 4 | .notYetUp => 5

/-- THK_PORT_STATn (Table 2-8). -/
def portStatWord (p : Port) : Word :=
  fields [(p.epoch.toNat, 0), (portStateCode p.state, 8), (bit p.lossSat, 11), (p.lossCount.toNat, 16)]

/-- THK_ISL_CMD (Table 2-10). -/
def islCmdWord (s : State) : Word := fields [(s.fab.cmdIsland.toNat, 0), (bit s.fab.cmdRefused, 7)]

/-- THK_TAGS (Table 2-11). -/
def tagsWord (s : State) : Word := fields [(tagsInFlight s, 0), (s.fab.peak.toNat, 16)]

/-- THK_HOST_SEEN (Table 2-13). -/
def hostSeenWord (s : State) : Word := fields [(s.fab.staleSeen.toNat, 0), (s.fab.absentSeen.toNat, 16)]

/-- Level bit 2 of HST_IRQ: ADC_WIN_IRQ AND ADC_WIN_IRQEN non-zero (Table 22-5). -/
def adcIrq (s : State) : Bool := s.adc.fired &&& s.adc.irqEn != 0

/-- TMR_IRQ as one word of 24 bits: MATCH, WRAP, CAPT (Table 18-6). -/
def tmrIrqBits (s : State) : Nat := s.tmr.irqMatch.toNat + s.tmr.irqWrap.toNat * 256 + s.tmr.irqCapt.toNat * 65536

/-- Level bit 3 of HST_IRQ. -/
def tmrIrq (s : State) : Bool := tmrIrqBits s &&& s.tmr.irqEn.toNat != 0

/-- HST_IRQ (Table 22-5). -/
def hstIrqWord (s : State) : Word :=
  let h := s.hst
  fields [(bit (!h.responses.isEmpty), 0), (bit (!h.notifies.isEmpty), 1), (bit (adcIrq s), 2), (bit (tmrIrq s), 3),
    (bit h.dispTake, 4), (bit h.safeChg, 5), (bit (hostSeenWord s != 0), 6), (bit h.fail, 7), (bit h.supply, 8), (bit h.reset, 9)]

/-- HIRQ is driven low while HST_IRQ AND HST_IRQEN is non-zero and HOST is in service (R539, R546). -/
def hirqLow (s : State) : Bool := isUp s .host && !padsHeld s && hstIrqWord s &&& (s.hst.irqEn.setWidth 32) != 0

/-- HST_STAT (Table 22-5). -/
def hstStatWord (s : State) : Word :=
  fields [(s.hst.frames.toNat, 0), (s.hst.short.toNat, 16), (bit s.hst.mode3, 23), (s.hst.mbxLost.toNat, 24)]

/-- HST_WSTAT (Table 22-5). -/
def hstWstatWord (s : State) : Word :=
  fields [(s.hst.pending.toNat, 0), (s.hst.failSt.toNat, 9), (bit s.hst.fail, 12), (s.hst.failAddr.toNat, 16)]

/-- HST_MBX_STAT (Table 22-5). -/
def mbxStatWord (s : State) : Word :=
  let h := s.hst
  fields [(bit h.request.isSome, 0), (bit (!h.responses.isEmpty), 1), (bit (!h.notifies.isEmpty), 2), (bit h.mbxErr, 3),
    ((h.responses.headD []).length, 8), ((h.notifies.headD []).length, 16), (h.responses.length, 24), (h.notifies.length, 28)]

/-- Word k of a mailbox buffer that shows a PDU (R537). -/
def pduWord (b : Bytes) (k : Nat) : Word := BitVec.ofNat 32 (fieldLe (4 * k) 4 b)

end Sys2Proof.Machine
end

