-- ==== Sys2Proof/Machine/BillingOps.lean ====
section
/-! DEFINITION. The open record, closes and adjustments of the clock (13): the shared operations of billing. -/

namespace Sys2Proof.Machine

/-- The next INDEX: one above the last record made (R325); genesis is 0. -/
def nextIndex (s : State) : Word :=
  if s.bil.genesisDone then s.bil.headIndex + BitVec.ofNat 32 (1 + s.bil.held.length + s.bil.closed.length)
  else BitVec.ofNat 32 (s.bil.held.length + s.bil.closed.length)

/-- MET's cumulative import accumulators as IMPORT, and the reactive ones as REACTIVE (R325). -/
def importsNow (s : State) : List (BitVec 48) := s.met.eimp.toList.map (·.setWidth 48)

/-- REACTIVE as MET holds it (R325). -/
def reactivesNow (s : State) : List (BitVec 48) := s.met.evar.toList.map (·.setWidth 48)

/-- A session runs or is paused (PilotStatus.PHASE other than Idle, Connected, Ended). -/
def sessionOn (s : State) : Bool := s.ses.inUse

/-- The ledger's view of it: a session whose end stands in a record is over, although Break still runs (R324, R333). -/
def sessionBilled (s : State) : Bool := sessionOn s && !s.ses.stopMarked

/-- Account of the grant in use. -/
def accountNow (s : State) : Word := if sessionBilled s then s.ses.account else 0

/-- Opens the next record at a time, with the codes in force as its first sub-interval (R320, R329). A new IntervalMinutes applies from
the next boundary on (R321). -/
def openRecord (start : Time) (s : State) : State :=
  { s with bil := { s.bil with
      pendState := .open, pendCrcOk := true, endedInRecord := false
      openRec := { kind := .boundary, trusted := s.bil.trusted, session := sessionBilled s, threePhase := threePhase s
                   default := s.bil.default, start := start, endT := start
                   subs := [⟨0, s.bil.inForce, s.bil.input⟩], intervalMin := s.bil.intervalMin
                   account := accountNow s, sessionWh := s.ses.energyWh, tsCounter := s.bil.tsCounter
                   imports := importsNow s, reactive := reactivesNow s } } }

/-- Bounds of lost energy in Wh add up; FFFFh stands for an unknown loss (R308, R337, Table 13-3). -/
def addLoss (d : Option (BitVec 16)) (b : BitVec 16) : BitVec 16 :=
  match d with
  | none => b
  | some x => if x = 0xFFFF || b = 0xFFFF then 0xFFFF else BitVec.ofNat 16 (min 0xFFFE (x.toNat + b.toNat))

/-- The open record as it closes: kind, end and what stands at END (Table 13-3). -/
def finishedRecord (k : RecordKind) (endT : Time) (s : State) : Record :=
  let r := s.bil.openRec
  { r with
    kind := k, endT := endT, index := nextIndex s
    loss := r.loss || s.bil.lossDue.isSome
    lossWh := match s.bil.lossDue with
      | some b => addLoss (if r.loss then some r.lossWh else none) b
      | none => r.lossWh
    session := r.session || sessionBilled s
    trusted := r.trusted && s.bil.trusted
    default := r.default || s.bil.default
    account := if r.stop != 0 then r.account else if sessionBilled s then s.ses.account else r.account
    sessionWh := if r.stop != 0 then r.sessionWh else s.ses.energyWh
    sflags := r.sflags ||| (if sessionBilled s then (if s.ses.phase == .paused then 4 else 2) else 0)
    tsCounter := s.bil.tsCounter, imports := importsNow s, reactive := reactivesNow s }

/-- The last interval boundary at or before a time (R320). -/
def boundaryAt (t : Time) (s : State) : Nat :=
  let len := 60 * max 1 s.bil.intervalMin.toNat * 65536
  t.toNat / len * len

/-- The last interval boundary at or before the clock (R320). -/
def boundaryNow (s : State) : Nat := boundaryAt s.bil.clock s

/-- A time has just reached a boundary that lies after the open record's start (R320). -/
def boundaryDue (t : Time) (s : State) : Bool :=
  s.bil.pendState == .open && s.bil.openRec.start.toNat < boundaryAt t s && t.toNat - boundaryAt t s < 4

/-- Closes the open record and opens the next one (R322). Its energies are those at the end of the running period, since a period
belongs to the record during which it starts (R320). While four records are held, no close is made (R334); before billing resumes at the
release of the start hold, the area is the restore row's alone (R99, R336). -/
def closeOne (k : RecordKind) (endT next : Time) (adjust : Int) (s : State) : State :=
  if s.bil.pendState != .open || !s.pwr.billing || 4 ≤ s.bil.held.length + s.bil.closed.length then s
  else
    let r := { finishedRecord k endT s with adjusted := k == .step || k == .regainTrust, adjustMs := clampInt 32 adjust }
    openRecord next { s with bil := { s.bil with
      closed := s.bil.closed ++ [r], closedFresh := s.bil.closedFresh + 1, lossDue := none
      intervalMin := if k = .boundary then BitVec.ofNat 8 (setting? s 5 0) else s.bil.intervalMin } }

/-- A boundary that is due at a time is closed first (R329). -/
def closeDue (t : Time) (s : State) : State :=
  if boundaryDue t s then
    let b := BitVec.ofNat 48 (boundaryAt t s)
    closeOne .boundary b b 0 s
  else s

/-- A close of Table 13-4. One that falls exactly on a boundary is made as the boundary close, and the other reason then closes
the record that starts there (R329). -/
def closeRecord (k : RecordKind) (endT next : Time) (adjust : Int) (s : State) : State :=
  closeOne k endT next adjust (if k == .boundary then s else closeDue endT s)

/-- The start of a metrology period: a boundary that is due closes the record first, with its energies complete (R320, R329). -/
def closeDueAtStart (t : Time) (s : State) : State :=
  let d := closeDue t s
  { d with bil := { d.bil with closedFresh := s.bil.closedFresh } }

/-- A close at the start of a metrology period (R323, R324): its energies are complete. One that falls on a boundary is the boundary
close alone: the new code is SUB[0] of the record that starts there, and no session has ended within it (R329). -/
def closeAtPeriodStart (k : RecordKind) (t : Time) (s : State) : State :=
  let d := closeDueAtStart t s
  if d.bil.closed.length != s.bil.closed.length then d
  else
    let c := closeOne k t t 0 d
    { c with bil := { c.bil with closedFresh := s.bil.closedFresh } }

/-- The end of a period completes the records that closed within it (R320). -/
def completeClosed (s : State) : State :=
  let n := s.bil.closed.length - s.bil.closedFresh
  let fill (r : Record) : Record :=
    { r with imports := importsNow s, reactive := reactivesNow s
             sessionWh := if r.stop = 0 && sessionOn s then s.ses.energyWh else r.sessionWh }
  { s with bil := { s.bil with closed := s.bil.closed.take n ++ (s.bil.closed.drop n).map fill, closedFresh := 0 } }

/-- A stop reason that already stands in the open record, or in a record closed within the running period, becomes r (R36). -/
def amendStop (r : BitVec 8) (s : State) : State :=
  let b := s.bil
  let fix (x : Record) : Record := if x.stop == 0 then x else { x with stop := r }
  let n := b.closed.length - b.closedFresh
  { s with bil := { b with openRec := fix b.openRec, closed := b.closed.take n ++ (b.closed.drop n).map fix } }

/-- A session end stands in the open record: STOP, ACCOUNT, SESSION_WH (R324); a reason of higher precedence takes its place (R36). -/
def markStop (r : BitVec 8) (s : State) : State :=
  if s.ses.stopMarked then
    amendStop r { s with bil := { s.bil with openRec := { s.bil.openRec with sessionWh := s.ses.energyWh } } }
  else
    { s with
      bil := { s.bil with
        endedInRecord := true
        openRec := { s.bil.openRec with
          stop := r, sflags := s.bil.openRec.sflags ||| 1, account := s.ses.account, sessionWh := s.ses.energyWh, session := true } }
      ses := { s.ses with stopMarked := true } }

/-- The code in force (R311): the input code while time is trusted, otherwise DefaultTariffCode. -/
def codeNow (s : State) : BitVec 2 :=
  if s.bil.trusted then s.bil.input else BitVec.ofNat 2 (setting? s 4 2)

/-- IN_FORCE and DEFAULT follow R311. -/
def refreshCode (s : State) : State := { s with bil := { s.bil with inForce := codeNow s, default := !s.bil.trusted } }

/-- SLEW_LEFT: the remaining slew in units of 2 ms, rounded toward 0 (Table 13-6). -/
def slewUnits (counts : Int) : BitVec 16 := ofInt 16 (Int.tdiv (counts * 500) 65536)

/-- Begins a slew of d counts; a running one is cancelled (R316). -/
def startSlew (d : Int) (s : State) : State :=
  { s with bil := { s.bil with slewCounts := d, slewLeft := slewUnits d, slewTicks := 0 } }

/-- A step to a new time: the open record closes with the given kind and the next starts at the new time (R317). -/
def stepClock (k : RecordKind) (new : Time) (s : State) : State :=
  let old := s.bil.clock
  let d := diffMs new old
  let s := { s with bil := { s.bil with clock := new, valid := true, slewCounts := 0, slewLeft := 0, lastAdjustMs := d } }
  logEvent (.stepped old new) (closeRecord k old new d s)

/-- Trust becomes b; the code in force follows (R311, R314). A record that runs on through it was not trusted for its whole span. -/
def setTrust (b : Bool) (s : State) : State :=
  refreshCode { s with
    bil := { s.bil with
      openRec := { s.bil.openRec with trusted := s.bil.openRec.trusted && b, default := s.bil.openRec.default || !b }
      trusted := b, untrustedSince := if b then s.bil.untrustedSince else s.bil.running }
    ses := { s.ses with tableLost := s.ses.tableLost && !b
                        grant := s.ses.grant.map fun g => if b || !g.fromTrusted then g else { g with countedFrom := s.bil.running } } }

/-- The record that a change of trust opened takes the new flags and codes; without a close the open record runs on (R314, R334). -/
def trustOpens (before s : State) : State :=
  if s.bil.closed.length = before.bil.closed.length then s
  else { s with bil := { s.bil with trustFresh := true, openRec := { s.bil.openRec with
      trusted := s.bil.trusted, default := s.bil.default, subs := [⟨0, s.bil.inForce, s.bil.input⟩] } } }

/-- An accepted time-set (Table 13-1, R315, R317). -/
def applyTimeSet (new : Time) (s : State) : State :=
  let d := diffMs new s.bil.clock
  if s.bil.trusted then
    if d.natAbs ≤ setting? s 2 3 then
      startSlew ((new.toNat : Int) - s.bil.clock.toNat) { s with bil := { s.bil with lastAdjustMs := d } }
    else stepClock .step new s
  else
    let old := s.bil.clock
    let s' := { s with bil := { s.bil with clock := new, valid := true, slewCounts := 0, slewLeft := 0, lastAdjustMs := d } }
    logEvent (.stepped old new) (trustOpens s (setTrust true (closeRecord .regainTrust old new d s')))

/-- A beacon's time (Table 13-1): beacons never make time trusted (R314). -/
def applyBeaconTime (new : Time) (s : State) : State :=
  let d := diffMs new s.bil.clock
  if d.natAbs ≤ setting? s 2 3 then
    startSlew ((new.toNat : Int) - s.bil.clock.toNat) { s with bil := { s.bil with lastAdjustMs := d } }
  else if s.bil.trusted then
    let now := s.bil.running / 32768
    match s.bil.adjustLogged with
    | some t => if now < t + 3600 then s else logEvent .notApplied { s with bil := { s.bil with adjustLogged := some now } }
    | none => logEvent .notApplied { s with bil := { s.bil with adjustLogged := some now } }
  else stepClock .step new s

/-- Offset of the clock from the open record's START in ms. -/
def offsetMs (s : State) : Word :=
  BitVec.ofNat 32 ((s.bil.clock.toNat - s.bil.openRec.start.toNat) * 1000 / 65536)

/-- MET applies the code in force, and TariffChanges counts a change of TariffCode (R311), also one that came while MET was out: DEDUCED. -/
def applyCode (s : State) : State :=
  { s with
    met := { s.met with code := s.bil.inForce }
    bil := { s.bil with
      applied := s.bil.inForce, changes := if s.bil.inForce = s.bil.applied then s.bil.changes else satInc s.bil.changes } }

/-- A change of the codes opens a sub-interval at a period start; a fifth closes the record (R312, R323). An input change in the period
of a trust change opens the new record's SUB[0] (R332). -/
def noteCodes (s : State) : State :=
  let s := closeDueAtStart s.bil.clock s
  let subs := s.bil.openRec.subs
  let last := subs.getLast?
  if s.bil.pendState != .open then s
  else if last.map (fun x => (x.inForce, x.input)) = some (s.bil.inForce, s.bil.input) then s
  else if 4 ≤ subs.length then closeAtPeriodStart .subFull s.bil.clock s
  else if offsetMs s = 0 || (s.bil.trustFresh && subs.length = 1) then
    { s with bil := { s.bil with openRec := { s.bil.openRec with subs := subs.dropLast ++ [⟨0, s.bil.inForce, s.bil.input⟩] } } }
  else { s with bil := { s.bil with openRec := { s.bil.openRec with
      subs := subs ++ [⟨offsetMs s, s.bil.inForce, s.bil.input⟩], default := s.bil.openRec.default || s.bil.default } } }

/-- KIND as a byte (Table 13-4). -/
def kindCode : RecordKind → Nat
  | .genesis => 0 | .boundary => 1 | .step => 2 | .regainTrust => 3 | .trustLost => 4 | .subFull => 5 | .secondSession => 6
  | .brownOut => 7 | .resetClose => 8 | .incomplete => 9

/-- SUB slots of Table 13-3. -/
def subBytes (l : List SubInterval) : Bytes :=
  padTo 20 (l.flatMap fun x => leBytes 4 x.offsetMs.toNat ++ leBytes 1 (x.inForce.toNat + 4 * x.input.toNat))

/-- TIME of Table 5-1 as six bytes: U32 seconds, then U16 fraction. -/
def timeBytes (t : Time) : Bytes := leBytes 4 (t.toNat / 65536) ++ leBytes 2 (t.toNat % 65536)

/-- TIME from six bytes. -/
def timeOf (b : Bytes) : Time := BitVec.ofNat 48 (fieldLe 0 4 b * 65536 + fieldLe 4 2 b)

/-- Bytes 00h to 9Fh of a record (Table 13-3). -/
def recordHead (r : Record) : Bytes :=
  leBytes 2 0x4C01 ++ leBytes 1 (kindCode r.kind)
  ++ leBytes 1 (bit r.trusted + 2 * bit r.adjusted + 4 * bit r.loss + 8 * bit r.incomplete + 16 * bit r.session
      + 32 * bit r.threePhase + 64 * bit r.default)
  ++ leBytes 4 r.index.toNat ++ timeBytes r.start ++ timeBytes r.endT
  ++ leBytes 1 r.subs.length ++ leBytes 1 r.intervalMin.toNat
  ++ leBytes 2 r.lossWh.toNat ++ subBytes r.subs ++ leBytes 4 r.account.toNat ++ leBytes 4 r.sessionWh.toNat
  ++ leBytes 1 r.stop.toNat ++ leBytes 1 r.sflags.toNat ++ zeros 2 ++ leBytes 4 (ofInt 32 r.adjustMs).toNat
  ++ leBytes 4 r.tsCounter.toNat ++ r.imports.flatMap (fun v => leBytes 6 v.toNat)
  ++ r.reactive.flatMap (fun v => leBytes 6 v.toNat) ++ zeros 6

/-- A whole record of 256 bytes (Table 13-3). -/
def storedBytes (x : Stored) : Bytes := recordHead x.record ++ x.prev ++ x.sig

/-- The ledger scalar d_L and its nonce key K (Table 14-3, R358). -/
def ledgerKeys (s : State) : Nat × Bytes :=
  let t := ofBe (sha256 (ascii "HEDGEROW-LEDGER" ++ devicePublicKey s)) % n256
  ((identity s + t) % n256, hkdf [] (slotKey s 3) (ascii "HL-NONCE-L") 32)

/-- Whether SEC can sign and log flash can be written (R334, Table 14-9). -/
def canSign (s : State) : Bool :=
  isUp s .sec && s.flash.writable && s.sec.slotOk.getLsbD 0 && s.sec.slotOk.getLsbD 3 && !s.sec.signFault && !s.sec.scanLock

/-- PREV of the next record (R325). -/
def prevHash (s : State) : Bytes := if s.bil.genesisDone then s.bil.headHash else zeros 32

/-- The signature of a record (R325, R346). -/
def recordSignature (r : Record) (s : State) : Option Bytes :=
  ecdsaSign (ledgerKeys s).1 (ledgerKeys s).2 (sha256 (recordHead r ++ prevHash s))

/-- A record joins the ledger with its signature, and the LG entries follow (R320, R326); without one it is held. The LEDGER load
leaves Yew empty, since its use counter is 1 (Table 14-3). -/
def appendSigned (r : Record) (sig : Option Bytes) (s : State) : State :=
  match sig with
  | none => { s with sec := { s.sec with signFault := true }, bil := { s.bil with held := s.bil.held ++ [r] } }
  | some sig =>
    let st : Stored := ⟨r, prevHash s, sig, true⟩
    { s with
      sec := { s.sec with ctx := .none, yew := [], usesLeft := 0 }
      bil := { s.bil with
        ledger := s.bil.ledger ++ [st], headIndex := r.index, headHash := sha256 (storedBytes st), genesisDone := true
        untrustedCount := if r.trusted then s.bil.untrustedCount else satInc s.bil.untrustedCount
        oldestIndex := if s.bil.ledger.isEmpty then r.index else s.bil.oldestIndex
        lgImports := r.imports, lgReactive := r.reactive } }

/-- Signs, chains and appends one record (R320, R325, R326). -/
def appendRecord (r : Record) (s : State) : State := appendSigned r (recordSignature r s) s

/-- The next record written after held slots were discarded takes INDEX and START of the first of them (Table 4-7). -/
def afterDiscarded (d : Option (Word × Time)) (r : Record) : Record :=
  match d with
  | some d => { r with index := d.1, start := d.2, incomplete := true }
  | none => r

/-- The event of a record that is held (R334); while log flash cannot be written it waits. -/
def noteHeld (s : State) : State :=
  if s.flash.writable then logEvent .recordHeld s else { s with bil := { s.bil with heldDue := s.bil.heldDue + 1 } }

/-- Events of held records are logged once log flash can be written again (R334). -/
def logHeldDue (s : State) : State :=
  if s.flash.writable then
    (List.range s.bil.heldDue).foldl (fun s _ => logEvent .recordHeld s) { s with bil := { s.bil with heldDue := 0 } }
  else s

/-- Writes a record, or holds it unsigned in retained RAM (R334). -/
def writeRecord (r : Record) (s : State) : State :=
  let r := afterDiscarded s.bil.discarded r
  let s := { s with bil := { s.bil with discarded := none } }
  if canSign s && s.bil.held.isEmpty then appendRecord r s
  else noteHeld { s with bil := { s.bil with held := s.bil.held ++ [r] } }

/-- Held records are signed and written in order, as long as that can be done (R334). -/
def writeHeld (s : State) : State :=
  s.bil.held.foldl (fun s r => if canSign s then appendRecord r { s with bil := { s.bil with held := s.bil.held.drop 1 } } else s) s

end Sys2Proof.Machine
end

