-- ==== Sys2Proof/Machine/SessionOps.lean ====
section
/-! DEFINITION. The shared operations of a charging session (01, 07, 08): the minimum-of rule and the duty, offer, pause, Break,
the end of a session, moves of the lock, prompts (17). -/

namespace Sys2Proof.Machine

/-- A queued prompt (R441): dropped when the queue of 2 is full, while AUD is out of service or the stage is latched. -/
def queuePrompt (n : Nat) (byTest : Bool) (s : State) : State :=
  if !isUp s .aud || s.aud.latched || !s.aud.released || 2 ≤ (s.aud.queue.filter (!·.preempting)).length then s
  else { s with aud := { s.aud with queue := s.aud.queue ++ [⟨BitVec.ofNat 6 n, false, byTest⟩] } }

/-- A preempting prompt: stops the prompt that is playing and clears the queue, or stands behind the first one (R441). -/
def preemptPrompt (n : Nat) (s : State) : State :=
  let p : Prompt := ⟨BitVec.ofNat 6 n, true, false⟩
  if !isUp s .aud || s.aud.latched || !s.aud.released then s
  else
    match s.aud.playing with
    | some q =>
      if q.preempting then
        { s with aud := { s.aud with queue := s.aud.queue.filter (·.preempting) ++ [p] ++ s.aud.queue.filter (!·.preempting) } }
      else { s with aud := { s.aud with playing := none, queue := [p] } }
    | none =>
      { s with aud := { s.aud with
          queue := if s.aud.queue.any (·.preempting) then s.aud.queue.filter (·.preempting) ++ [p] else [p] } }

/-- An event prompt of Table 17-3, while PromptEnable is 1 (R440). -/
def eventPrompt (n : Nat) (s : State) : State :=
  if setting? s 0x15 1 = 0 then s else if n = 7 ∨ n = 8 then preemptPrompt n s else queuePrompt n false s

/-- Energy left under the cap (R351). -/
def remainingWh (s : State) : Nat :=
  match s.ses.grant with
  | some g => if s.ses.inUse then g.remaining.toNat - s.ses.energyWh.toNat else g.remaining.toNat
  | none => 0

/-- A grant has expired (R352): by the clock, or after 24 h of running time while time is untrusted. -/
def grantExpired (s : State) (g : Grant) : Bool :=
  g.expiry.toNat ≤ s.bil.clock.toNat || (!s.bil.trusted && 86400 * 32768 ≤ s.bil.running - g.countedFrom)

/-- The rating of the cable band, in 0.1 A. -/
def bandDeciA : Band → Option Nat
  | .a13 => some 130 | .a20 => some 200 | .a32 => some 320 | .a63 => some 630
  | .notMeasured => none | .open => none | .outside => none

/-- The band whose rating holds: within a session that of its start, while the contact reads a valid band (R185, R192). -/
def cableNow (s : State) : Band := if sessionOn s && bandValid s then s.ses.cable else s.plt.band

/-- The minimum-of rule (R185). -/
def allowedNow (s : State) : Nat :=
  match bandDeciA (cableNow s) with
  | none => 0
  | some cable =>
    if s.met.mainsLoss then 0
    else
      let a := min (min (sealAmps s * 10) (setting? s 8 1)) cable
      let b := match s.ses.grant with
        | some g => if g.limitDeciA = 0 then a else min a g.limitDeciA.toNat
        | none => a
      if s.net.curtail = 0xFFFF then b else min b s.net.curtail.toNat

/-- AllowedCurrentDeciA follows its inputs (R185). -/
def refreshAllowed (s : State) : State := { s with ses := { s.ses with allowed := BitVec.ofNat 16 (allowedNow s) } }

/-- The duty in steps of 0.5 ‰ for an allowed current in 0.1 A (R186). -/
def dutyFor (deciA : Nat) : Nat :=
  if deciA ≤ 510 then deciA * 10 / 3 else if deciA < 525 then 1700 else deciA * 4 / 5 + 1280

/-- The duty to offer: 50.0 ‰ in digital mode (R186, R189). -/
def dutyNow (s : State) : BitVec 11 := if setting? s 8 2 = 1 then 100 else BitVec.ofNat 11 (dutyFor s.ses.allowed.toNat)

/-- The offered current that the duty in force codes under IEC 61851-1, in 0.01 A (Table 7-3). -/
def offeredCentiA (d : Nat) : Nat := if d ≤ 1700 then d * 3 else (d - 1280) * 25 / 2

/-- The PWM phases of Table 7-1. -/
def inOffer (s : State) : Bool := s.ses.phase == .offered || s.ses.phase == .make || s.ses.phase == .charging

/-- An opposite move waits until the running one has ended (R216): the command joins the lock. -/
def commandMove (toLocked : Bool) (s : State) : State :=
  if lockFitted s then { s with lck := { s.lck with queued := some toLocked } } else s

/-- LOCKED is confirmed for condition 4 of R30, or no lock is declared (R217, R224). -/
def lockProven (s : State) : Bool := !lockFitted s || (s.lck.state == 2 && s.lck.limLocked) || (s.lck.state == 2 && s.ses.lockExcused)

/-- Paused is entered (R33). -/
def enterPaused (s : State) : State := eventPrompt 5 { s with ses := { s.ses with phase := .paused, breakStep := 0 } }

/-- Offered: PWM starts at the duty for the allowed current (R31, R178). -/
def enterOffered (s : State) : State :=
  { s with ses := { s.ses with phase := .offered, diodePassed := 0, makeStep := 0, breakStep := 0 }
           plt := { s.plt with nextLevel := .pwm, next := dutyNow s, digital := setting? s 8 2 == 1, diodeCount := 0 } }

/-- Once Authorised and Locked are complete, PWM starts, or the session pauses below 6 A (R31, R33). -/
def offerOrPause (s : State) : State :=
  let s := { s with ses := { s.ses with phase := .locked } }
  if 60 ≤ s.ses.allowed.toNat then enterOffered s else enterPaused s

/-- The grant table with a grant's remaining energy (R350, R351). -/
def putTable (g : Grant) (rem : Nat) (l : List GrantLine) : List GrantLine :=
  l.map fun x => if x.grantId == g.grantId then { x with remaining := BitVec.ofNat 32 rem } else x

/-- The grant in use is released and GrantState becomes 0 (R41, R351). A grant that only waits stays. -/
def releaseGrant (s : State) : State :=
  match s.ses.grant with
  | none => { s with ses := { s.ses with inUse := false } }
  | some g =>
    if s.ses.inUse then
      { s with ses := { s.ses with grant := none, inUse := false, table := putTable g (remainingWh s) s.ses.table } }
    else s

/-- The session is over with its one stop reason (R34): it stands in the record and in SessionStatus, and the grant is released. -/
def closeSession (r : BitVec 8) (s : State) : State :=
  if !sessionOn s then s
  else
    let s := releaseGrant (markStop r s)
    refreshAllowed { s with ses := { s.ses with stop := r, stopFresh := true, stopMarked := false } }

/-- The phase Ended: the lock as R217 lays down, and the prompts of Table 17-3. -/
def enterEnded (r : BitVec 8) (s : State) : State :=
  let s := { s with
    ses := { s.ses with phase := .ended, breakStep := 0, makeStep := 0, breakStop := 0 }
    plt := { s.plt with next := 0, digital := false } }
  let s := if r = 6 || s.safe.active then s
    else if !lockFitted s || s.lck.state == 5 || s.lck.faults != 0 then s
    else if setting? s 10 3 = 1 then commandMove false s
    else { s with ses := { s.ses with unlockWaits := true } }
  if r = 5 then eventPrompt 8 s else if 1 ≤ r.toNat ∧ r.toNat ≤ 4 then eventPrompt 6 s else s

/-- The session ends (R34). After a safe-state entry it was closed already, and only its Break ends here (R41). -/
def endSession (r : BitVec 8) (s : State) : State := enterEnded r (closeSession r s)

/-- Break is complete: the session is paused or ends (R33, R34). A pause whose cause is gone resumes (R33). -/
def finishBreak (s : State) : State :=
  let s := { s with ses := { s.ses with breakStep := 0 } }
  let s := if s.ses.breakStop = 0 then
      let s := enterPaused s
      if 60 ≤ s.ses.allowed.toNat && !s.safe.active then enterOffered s else s
    else endSession s.ses.breakStop s
  if s.plt.holdDue then
    { s with plt := { s.plt with holdDue := false, holdF := true, level := .stateF, nextLevel := .stateF, duty := 0, next := 0 } }
  else s

/-- Break step 5: PWM is stopped at the end of the running period (R178), or at once where none runs. -/
def breakStepFive (s : State) : State :=
  let s := { s with ses := { s.ses with breakStep := 5 }, plt := { s.plt with next := 0 } }
  if s.plt.level == .pwm || s.plt.nextLevel == .pwm then { s with plt := { s.plt with nextLevel := .steady } } else finishBreak s

/-- Break step 3: the coil is released, unless the interlock holds the command (R207, R210); then step 4. -/
def releaseCoil (s : State) : State :=
  if s.swg.coilCmd then
    if s.swg.gateFb = 0 then
      let s := { s with
        swg := { s.swg with coilCmd := false, coilDuty := 0, openLoop := false, recent := []
                            heldCoil := none, interlock := s.swg.heldGates != 0 }
        ses := { s.ses with breakStep := 4 } }
      if s.swg.aux then s else breakStepFive s
    else { s with swg := { s.swg with heldCoil := some false, interlock := true }, ses := { s.ses with breakStep := 3 } }
  else if s.swg.aux then { s with ses := { s.ses with breakStep := 4 } }
  else breakStepFive s

/-- Break begins (R207): every phase gate and then GATE_N is turned off. Before the first gate of Make, steps 1 and 2
complete at once (R219), and a command that the interlock holds back is dropped (R210). The reason 0 is a pause (R33). -/
def startBreak (r : BitVec 8) (s : State) : State :=
  let gatesOn := s.swg.gateCmd != 0
  let s := { s with
    ses := { s.ses with phase := .break, breakStop := r, stopFresh := true, makeStep := 0, breakStep := 1 }
    swg := { s.swg with gateCmd := 0, heldGates := 0, heldCoil := none, interlock := false } }
  let s := if r = 0 then s else markStop r s
  if gatesOn then { s with ses := { s.ses with breakStep := if s.swg.gateFb = 0 then 2 else 1 } }
  else releaseCoil s

/-- Precedence of Table 1-3: a smaller number is higher. -/
def stopRank (r : BitVec 8) : Nat := if r = 0 then 7 else 7 - min 6 r.toNat

/-- A stop reason arises (R30, R34, R36, R193). Of several in one metrology period the one with the highest precedence stands, also where
the session has just ended; a safe state's stands over that of a Break still under way, unless its record has closed (R41). -/
def stopSession (r : BitVec 8) (s : State) : State :=
  if !sessionOn s then
    if s.ses.phase == .ended && s.ses.stopFresh && stopRank r < stopRank s.ses.stop then
      amendStop r { s with ses := { s.ses with stop := r } }
    else s
  else match s.ses.phase with
    | .break =>
      if s.ses.breakStop = 0 || (s.ses.stopFresh && stopRank r < stopRank s.ses.breakStop) || (r = 6 && s.bil.openRec.stop != 0) then
        markStop r { s with ses := { s.ses with breakStop := r, stopFresh := s.ses.stopFresh || s.ses.breakStop = 0 } }
      else s
    | .offered => startBreak r s
    | .make => startBreak r s
    | .charging => startBreak r s
    | _ => endSession r s

/-- The allowed current has fallen below 6 A (R33, R187). -/
def pauseSession (s : State) : State :=
  if sessionOn s && inOffer s then startBreak 0 s else s

/-- An input of R185 changed: the rule is recomputed, and the duty, a pause or a resumption follows (R33, R186, R187). -/
def recompute (s : State) : State :=
  let s := refreshAllowed s
  if !sessionOn s then s
  else if inOffer s then
    if s.ses.allowed.toNat < 60 then pauseSession s
    else if dutyNow s = s.plt.duty then { s with plt := { s.plt with next := 0 } }
    else { s with plt := { s.plt with next := dutyNow s } }
  else if s.ses.phase == .paused && 60 ≤ s.ses.allowed.toNat && !s.safe.active then enterOffered s
  else s

/-- Nothing bars a new session (R193, R223, R224, R250); a commanded move of the lock, homing too, comes first (R218, R221). -/
def mayStart (s : State) : Bool :=
  !s.safe.active && !pilotFault s && !s.plt.holdF && !s.ses.lockBarred && !s.lck.lockedLost && s.lck.faults == 0
    && s.lck.queued.isNone && !s.lck.homing && bandValid s && isUp s .seq && s.pwr.billing

/-- A vehicle in state B, C or D. -/
def vehicleSeen (s : State) : Bool := s.plt.state == .b || s.plt.state == .c || s.plt.state == .d

/-- Authorised: a waiting grant goes into use and the session starts, in Connected or after an ended session (Table 1-2, R42).
When a session starts is DEDUCED: at the grant going into use. -/
def tryStart (s : State) : State :=
  match s.ses.grant with
  | none => s
  | some _ =>
    if s.ses.inUse || !mayStart s || !vehicleSeen s || !(s.ses.phase == .connected || s.ses.phase == .ended) then s
    else
      let s := { s with
        ses := { s.ses with
          phase := .authorised, inUse := true, stop := 0, breakStop := 0, energyWh := 0, start := s.bil.clock, cable := s.plt.band
          gatesSeen := false, counting := false, account := (s.ses.grant.map (·.account)).getD 0
          grantId := (s.ses.grant.map (·.grantId)).getD 0, overdrawLogged := 0, clipLogged := false
          unlockWaits := false, lockExcused := false, stopMarked := false }
        met := { s.met with session := 0, sessionRes := {}, reverse := false, clip := false }
        bil := { s.bil with openRec := { s.bil.openRec with session := true } } }
      if !lockFitted s then offerOrPause s
      else if s.lck.state == 2 && s.lck.limLocked && s.lck.moving.isNone then offerOrPause s
      else commandMove true { s with ses := { s.ses with phase := .locked } }

/-- Every condition of R30 for energising, a seal change included (R267). -/
def makeConditions (s : State) : Bool :=
  sessionOn s && 0 < remainingWh s && (s.plt.state == .c || s.plt.state == .d) && bandValid s && lockProven s
    && 60 ≤ s.ses.allowed.toNat && s.safe.sealValid && !s.safe.sealChanged && !s.safe.active

/-- Make may begin (R96, R184, R204, R240): the kill-latch test runs only while the latch is clear (R236). -/
def mayMake (s : State) : Bool :=
  s.ses.phase == .offered && s.plt.level == .pwm && 3 ≤ s.ses.diodePassed && makeConditions s && s.pwr.mainsPresent
    && !s.glt.kill && !s.ses.windingDue && !s.rcd.windingRun

/-- The motor stops with BRAKE, and the move's time stands in LCK_MOVE (R216, R221, R223). -/
def stopMotor (s : State) : State :=
  { s with lck := { s.lck with
      moving := none, drive := .brake, homing := false
      elapsedMs := if s.lck.moving.isSome then elapsedNow s else s.lck.elapsedMs } }

/-- A lock fault (R223): its bit, the motor braked, LockState 5, logged; a session ends with reason 5. No command for the lock outlasts
it (R225). -/
def lockFault (n : Nat) (s : State) : State :=
  let s := stopMotor (logEvent (.lockFault (setBit 0 n)) s)
  let s := { s with
    lck := { s.lck with faults := setBit s.lck.faults n, state := 5, queued := none, homingDue := false, afterBrake := 5 }
    ses := { s.ses with unlockWaits := false }
    pwr := { s.pwr with homingDone := s.pwr.homingDone || s.pwr.homingStarted } }
  let s := if sessionOn s || s.ses.lockExcused then { s with ses := { s.ses with lockBarred := true } } else s
  if s.safe.active then s else stopSession 5 s

/-- A running move is stopped with BRAKE (R221). -/
def brakeMove (s : State) : State :=
  let s := { s with lck := { s.lck with queued := none, homingDue := false } }
  match s.lck.moving with
  | none => s
  | some t =>
    let proven := if t then s.lck.limLocked else s.lck.limUnlocked
    let s := stopMotor s
    { s with lck := { s.lck with afterBrake := if proven then (if t then 2 else 1) else 0 } }

end Sys2Proof.Machine
end

