-- ==== Sys2Proof/Machine/PduOps.lean ====
section
/-! DEFINITION. OD PDUs (05): their layout, MAC and sequence numbers, and sending responses and NOTIFYs. Loads of Yew (14). -/

namespace Sys2Proof.Machine

/-- A load replaces what Yew holds (R345). Nothing loads while SCAN_LOCK is set (R343). -/
def loadYew (c : YewCtx) (key : Bytes) (uses : Nat) (s : State) : State :=
  if s.sec.scanLock then s
  else { s with sec := { s.sec with ctx := c, yew := key, usesLeft := BitVec.ofNat 16 uses } }

/-- KEYSEL as CTL carries it (Table 5-4). -/
def keyselCode : KeySel → Nat
  | .none => 0 | .link => 1 | .session => 2 | .reserved => 3

/-- The path byte of the MAC prefix (R140). -/
def pathCode : Path → Nat
  | .line => 0 | .field => 1 | .mailbox => 2

/-- The MAC prefix (R140): segment, source, destination, path, 0000h. -/
def macPrefix (seg src dst : Nat) (p : Path) : Bytes :=
  leBytes 1 seg ++ leBytes 1 src ++ leBytes 1 dst ++ leBytes 1 (pathCode p) ++ [0, 0]

/-- The prefix of a PDU that the controller sends (R140). -/
def txPrefix (s : State) (p : Path) : Bytes :=
  match p with
  | .mailbox => macPrefix 0 (nodeAddress s) 0xFF .mailbox
  | q => macPrefix (segmentNumber s) (nodeAddress s) 0 q

/-- The CMAC key that KEYSEL selects; none where there is none (R138, Table 14-9). -/
def macKey (s : State) (k : KeySel) : Option Bytes :=
  if s.sec.scanLock || !s.sec.slotOk.getLsbD 4 || !isUp s .sec then none
  else match k with
    | .link => some (linkKey s)
    | .session => s.od.session.map fun x => sessionKey s x.nonce x.counter
    | .none => none
    | .reserved => none

/-- Yew context of a KEYSEL. -/
def keyselCtx : KeySel → YewCtx
  | .session => .session | .link => .link | .none => .none | .reserved => .none

/-- The sender's next SEQ under a key (R142, R143). -/
def txSeqOf (s : State) (k : KeySel) : Word :=
  match k with
  | .link => s.od.txSeq
  | .session => s.od.txSession
  | .none => s.od.txPlain
  | .reserved => 0

/-- A mark that holds the last multiple of m crossed (R142, R355). -/
def advanceMark (m : Nat) (mark v : Word) : Word :=
  if mark.toNat < v.toNat / m * m then BitVec.ofNat 32 (v.toNat / m * m) else mark

/-- The SEQ is used (R142): the counter increases by 1, and OdTxSeq's mark follows. -/
def useSeq (k : KeySel) (s : State) : State :=
  match k with
  | .link =>
    let n := s.od.txSeq + 1
    { s with od := { s.od with txSeq := n, markTx := advanceMark 4096 s.od.markTx n } }
  | .session => { s with od := { s.od with txSession := s.od.txSession + 1 } }
  | .none => { s with od := { s.od with txPlain := s.od.txPlain + 1 } }
  | .reserved => s

/-- Header and payload of a PDU (Table 5-4). -/
def pduBody (op : Nat) (resp : Bool) (k : KeySel) (status : Nat) (xid : BitVec 16) (seq : Word) (session : Nat) (payload : Bytes) :
    Bytes :=
  leBytes 1 (op + 16 * keyselCode k + 64 * bit resp) ++ leBytes 1 status ++ leBytes 2 xid.toNat ++ leBytes 4 seq.toNat
  ++ leBytes 2 session ++ leBytes 2 payload.length ++ payload

/-- Current session number, or 0 (OdSessionId). -/
def sessionNumber (s : State) : Nat := (s.od.session.map fun x => x.number.toNat).getD 0

/-- The controller builds a PDU and queues it for its carrier (R137, R140, R142). Without a key for its MAC none is built. -/
def sendPdu (p : Path) (prio : BitVec 2) (isNotify : Bool) (op : Nat) (k : KeySel) (status : Nat) (xid : BitVec 16)
    (payload : Bytes) (s : State) : State :=
  let session := if k = .session then sessionNumber s else 0
  let body := pduBody op (!isNotify) k status xid (txSeqOf s k) session payload
  let out (b : Bytes) (s : State) : State := { s with od := { s.od with out := s.od.out ++ [⟨p, prio, isNotify, b⟩] } }
  match k with
  | .none => if p = .mailbox then out body (useSeq .none s) else s
  | .reserved => s
  | k =>
    match macKey s k with
    | none => s
    | some key => out (body ++ cmac64 key (txPrefix s p ++ body)) (useSeq k (loadYew (keyselCtx k) key 0 s))

/-- The path to node 0: the one it was last heard on, within what LinkPath allows (R413). -/
def node0Path (s : State) : Path :=
  if s.plc.linkPath = 1 then .field
  else if s.plc.linkPath = 0 then .line
  else if (s.plc.modes.find? fun m => m.node == 0).elim true (·.lastField) then .field else .line

/-- A NOTIFY to node 0, under the link key (R153). -/
def notifyNode0 (prio : BitVec 2) (payload : Bytes) (s : State) : State :=
  sendPdu (node0Path s) prio true 6 .link 0 0 payload s

/-- One result record (Table 5-6, READ): address, ST, length, value. -/
def resultRecord (a : BitVec 16) (st : Nat) (v : Bytes) : Bytes :=
  leBytes 2 a.toNat ++ leBytes 1 st ++ (if st = 0 then leBytes 1 v.length ++ v else [0])

end Sys2Proof.Machine
end

