-- ==== Sys2Proof/Machine/FwOps.lean ====
section
/-! DEFINITION. Images and manifests (21): the checks of R510 and R512, the entry to the loader state, FwUpdateStatus. -/

namespace Sys2Proof.Machine

/-- The bytes of a manifest that was written; none while the block is blank or the shipped one, whose bytes the spec does not
give. -/
def manifestBytes? : ManifestBlock → Option Bytes
  | .bytes b => some b
  | .blank => none
  | .shipped => none

/-- One section entry (R510): TYPE, LANG, OFFSET, LENGTH. -/
structure SectionEntry where
  type : Nat
  lang : Nat
  offset : Nat
  length : Nat
  resvOk : Bool
deriving DecidableEq, Repr

/-- Section entry i of a manifest (Table 21-2). -/
def sectionAt (b : Bytes) (i : Nat) : SectionEntry :=
  let o := 0x80 + 16 * i
  ⟨fieldLe o 1 b, fieldLe (o + 1) 1 b, fieldLe (o + 4) 4 b, fieldLe (o + 8) 4 b, allZero (slice (o + 2) 2 b) && allZero (slice (o + 12) 4 b)⟩

/-- Two sections do not overlap. -/
def apart (x y : SectionEntry) : Bool := x.offset + x.length ≤ y.offset || y.offset + y.length ≤ x.offset

/-- The section table meets R510. -/
def sectionsOk (b : Bytes) : Bool :=
  let n := fieldLe 0x10 1 b
  let l := (List.range n).map (sectionAt b)
  1 ≤ n && n ≤ 16
    && l.all (fun x => x.resvOk && x.offset + x.length ≤ fieldLe 3 1 b * 4096
        && ((1 ≤ x.type && x.type ≤ 6 && x.lang == 0xFF) || ((x.type == 7 || x.type == 8) && x.lang ≤ 7)))
    && [1, 2, 3, 4, 5, 6].all (fun t => (l.filter (·.type == t)).length == 1)
    && [7, 8].all (fun t => (List.range 8).all (fun g => (l.filter fun x => x.type == t && x.lang == g).length ≤ 1)
        && l.any (fun x => x.type == t && x.lang == 0))
    && decide (l.Pairwise fun x y => apart x y = true)
    && (List.range (16 - n)).all (fun i => allZero (slice (0x80 + 16 * (n + i)) 16 b))

/-- Item 1 of R512. -/
def formatOk (b : Bytes) : Bool :=
  let n := fieldLe 3 1 b
  b.length == 4096 && fieldLe 0 2 b == 0x4601 && fieldLe 2 1 b ≤ 1 && 1 ≤ n && n ≤ 250 && allZero (slice 0x11 3 b)
    && allZero (slice 0x3C 4 b) && allZero (slice (0x180 + 4 * n) (4 * (250 - n)) b) && allZero (slice 0x568 (0xFC0 - 0x568) b)
    && sectionsOk b

/-- Item 2 of R512: the signer's hash equals slot 2. -/
def signerOk (s : State) (b : Bytes) : Bool := s.sec.slotOk.getLsbD 2 && sha256 (slice 0x40 64 b) == slotKey s 2

/-- Item 3 of R512. -/
def manifestSigOk (b : Bytes) : Bool := ecdsaVerify (slice 0x40 64 b) (sha256 (b.take 0xFC0)) (slice 0xFC0 64 b)

/-- Item 5 of R512. -/
def fitsDevice (s : State) (b : Bytes) : Bool :=
  let h := s.otp.hardwareRevision.toNat
  fieldLe 0x0C 2 b ≤ h && h ≤ fieldLe 0x0E 2 b && fieldLe 8 4 b ≤ s.fw.loaderVersion.toNat

/-- ERROR of the manifest checks: 00h when items 1, 2, 3 and 5 of R512 hold (Table 21-5). -/
def manifestError (s : State) (b : Bytes) : Byte :=
  if !formatOk b then 1 else if !signerOk s b then 2 else if !manifestSigOk b then 3 else if !fitsDevice s b then 4 else 0

/-- ERROR of the checks of R515, the downgrade rule included. -/
def updateError (s : State) (b : Bytes) : Byte :=
  let e := manifestError s b
  if e != 0 then e else if fieldLe 4 4 b < s.fw.lastVersion.toNat && fieldLe 2 1 b % 2 = 0 then 5 else 0

/-- The content of image block i, none where it no longer reads back. -/
def imageBlock (s : State) (i : Nat) : Option Bytes :=
  if s.fw.corrupt.contains i then none
  else match s.fw.written.find? fun x => x.1 == i with
    | some x => some x.2
    | none => some ((List.range 4096).map (Config.shippedImage i))

/-- Image block i matches BCRC[i] of a manifest (R512 item 4). -/
def blockMatches (s : State) (b : Bytes) (i : Nat) : Bool :=
  match imageBlock s i with
  | some x => crc32c x == fieldLe (0x180 + 4 * i) 4 b
  | none => false

/-- NBLOCKS of a manifest. -/
def nblocks (b : Bytes) : Nat := fieldLe 3 1 b

/-- The image is valid (R512). The image that the part ships with is valid (R529). -/
def imageValid (s : State) : Bool :=
  match s.fw.manifest with
  | .shipped => s.sec.slotOk.getLsbD 2 && s.fw.corrupt.isEmpty
  | .blank => false
  | .bytes b => manifestError s b == 0 && (List.range (nblocks b)).all (blockMatches s b)

/-- A number as a hash of 32 bytes. -/
def hashBytes (h : BitVec 256) : Bytes := beBytes 32 h.toNat

/-- Staging holds a FORMAT 4601h manifest (R520). -/
def stagingBytes? (s : State) : Option Bytes :=
  match s.fw.staging with
  | .bytes b => if fieldLe 0 2 b == 0x4601 then some b else none
  | .blank => none
  | .shipped => none

/-- FwManifestHash (R512, R518). -/
def manifestHash (s : State) : Bytes :=
  let m := match s.fw.manifest with
    | .shipped => hashBytes Config.shippedManifestHash
    | .bytes b => sha256 b
    | .blank => zeros 32
  if s.pwr.loaderState && !imageValid s then
    match stagingBytes? s with
    | some b => sha256 b
    | none => zeros 32
  else m

/-- VERSION of M. -/
def imageVersion (s : State) : Word :=
  match s.fw.manifest with
  | .shipped => Config.shippedVersion
  | .bytes b => BitVec.ofNat 32 (fieldLe 4 4 b)
  | .blank => 0

/-- FirmwareVersion (Table 6-4): 0 in the loader state. -/
def firmwareVersion (s : State) : Word := if s.pwr.loaderState then 0 else imageVersion s

/-- FwUpdateStatus (Table 21-5). -/
def fwStatusWord (s : State) : Word :=
  let f := s.fw
  fields [(f.phase.toNat, 0), (bit f.mode, 4), (f.error.toNat, 8), (f.next.toNat, 16), (f.total.toNat, 24)]

/-- The final check of a staged manifest (R519 step 3): every block and the signature, in Checked mode. -/
def finalPasses (b : Bytes) (s : State) : Bool :=
  s.fw.mode || ((List.range (nblocks b)).all (blockMatches s b) && manifestSigOk b)

/-- One flash erase, program and read-back, retried once (R526). The medium's own faults decide: true where it succeeds. -/
def flashTry (s : State) : Bool × State :=
  (s.fw.faults < 2, { s with fw := { s.fw with faults := s.fw.faults - (if s.fw.faults < 2 then 1 else 2) } })

/-- Staging is copied to M and read back where the final check passes (R519 step 4, R526). -/
def finalTaken (pass : Bool) (b : Bytes) (s : State) : State :=
  if pass then
    let r := flashTry s
    { r.2 with fw := if r.1 then { r.2.fw with phase := 5, manifest := .bytes b } else { r.2.fw with phase := 7, error := 7 } }
  else { s with fw := { s.fw with phase := 7, error := 9 } }

/-- What staging holds; none while it is blank. -/
def stagingContent? (s : State) : Option Bytes := manifestBytes? s.fw.staging

/-- Steps 3 and 4 of R519: the final check in Checked mode, and staging copied to M. -/
def finalCheck (s : State) : State :=
  match stagingContent? s with
  | none => s
  | some b => finalTaken (finalPasses b s) b s

/-- The first image block that fails staging's BCRC, or N (R520). -/
def firstBad (s : State) (b : Bytes) : Nat :=
  ((List.range (nblocks b)).find? fun i => !blockMatches s b i).getD (nblocks b)

/-- R520 at an entry to the loader state. -/
def resumeCheck (s : State) : State :=
  match stagingBytes? s, s.fw.manifest with
  | some b, .blank =>
    let k := firstBad s b
    let s := { s with fw := { s.fw with
      next := BitVec.ofNat 8 (1 + k), total := BitVec.ofNat 8 (nblocks b + 1), mode := s.fw.areaMode == 1
      phase := if s.fw.phase = 7 then 7 else 3 } }
    if k = nblocks b then finalCheck s else s
  | _, _ => { s with fw := { s.fw with next := 0 } }

/-- The loader state is entered (R517, R519, R520, R529): SEQ is held in reset and six islands are powered down. -/
def enterLoader (s : State) : State :=
  let s := [Island.adc, .met, .tmr, .disp, .aud, .bgd].foldl (fun s i => setPort s i { port s i with state := .poweredDown }) s
  let s := setPort s .seq { port s .seq with state := .resetting }
  let s := { s with pwr := { s.pwr with loaderState := true }, boot := { s.boot with stage := 8 } }
  let s :=
    if s.fw.request = 1 then
      let r := flashTry s
      { r.2 with fw := { r.2.fw with
          request := 0, manifest := .blank, mode := s.fw.areaMode == 1, next := 1, total := s.fw.areaTotal
          phase := if r.1 then 3 else 7, error := if r.1 then s.fw.error else 7 } }
    else if s.fw.manifest = .blank then resumeCheck { s with fw := { s.fw with phase := 3 } }
    else resumeCheck { s with fw := { s.fw with phase := 7, error := 8 } }
  if s.fw.loaderOk then s else { s with fw := { s.fw with error := 0x0A } }

/-- IMAGE_CHECK's decision (R529): the loader state, or the start continues. -/
def imageChecked (good : Bool) (s : State) : State :=
  if good then
    { s with pwr := { s.pwr with imageOk := true }, boot := { s.boot with stage := if s.boot.stage = 0xF then 0xF else 3 } }
  else enterLoader s

/-- An update area whose CRC fails reads as all 0 (Table 21-4). -/
def readUpdateArea (s : State) : State :=
  if s.areas.update then s
  else
    let s := if s.pwr.fromNothing then s else logEvent (.persistence 8) s
    { s with areas := { s.areas with update := true }, fw := { s.fw with request := 0, areaMode := 0, areaTotal := 0, lastVersion := 0 } }

/-- IMAGE_CHECK (R529): no update is requested and the image is valid. -/
def imageCheck (s0 : State) : State :=
  let s := readUpdateArea s0
  imageChecked (s.fw.request != 1 && imageValid s) s

end Sys2Proof.Machine
end

