-- ==== Sys2Proof/Machine/SafeOps.lean ====
section
/-! DEFINITION. The shared operations of the safety function (10): entry into the safe state, evidence, release, and the start
of billing at a release (R91, R99). -/

namespace Sys2Proof.Machine

/-- IMAX: the largest half-cycle RMS current of the declared conductors (Table 10-9). -/
def imaxDeciA (s : State) : Nat := (conductors s).foldl (fun m c => max m (s.live.halfDeciA.toList.getD c 0).toNat) 0

/-- A safe-state event record (Table 10-9). -/
def evidenceBytes (type : Nat) (cause : BitVec 16) (s : State) : Bytes :=
  leBytes 1 type ++ leBytes 1 (bit s.bil.trusted + 2 * bit (sessionOn s) + 4 * bit (s.glt.trip != 0) + 8 * min 31 s.safe.lost)
  ++ leBytes 2 cause.toNat ++ timeBytes s.bil.clock ++ leBytes 4 (sealWordOf s).toNat ++ leBytes 4 (gltStatWord s).toNat
  ++ leBytes 4 (rcdStatWord s).toNat ++ leBytes 4 (swgStatWord s).toNat ++ leBytes 2 (imaxDeciA s)
  ++ leBytes 4 (diagWord s).toNat

/-- Writes one evidence record to group 28, or holds it: eight at most, an older one overwritten and counted (R265, R270). A seal change
is recorded with it, so the next start compares with this word (R106, R271). -/
def writeEvidence (type : Nat) (cause : BitVec 16) (s : State) : State :=
  let b := evidenceBytes type cause s
  let s := if cause == 0x301 && type != 0x12 then { s with safe := { s.safe with posRecorded := s.safe.pos } } else s
  if s.flash.writable then logEvent (.safeState b) { s with safe := { s.safe with lost := 0 } }
  else if s.safe.evidence.length < 8 then { s with safe := { s.safe with evidence := s.safe.evidence ++ [b], lost := 0 } }
  else { s with safe := { s.safe with evidence := s.safe.evidence.drop 1 ++ [b], lost := min 31 (s.safe.lost + 1) } }

/-- The cause that governs an entry: that of the comparator in FIRST, else the lowest code (R242, R266). -/
def governing (s : State) (l : List (BitVec 16)) : BitVec 16 :=
  let first := if s.glt.first = 1 then 0x102 else if s.glt.first = 2 then 0x103 else if s.glt.first = 4 then 0x104 else 0x105
  if s.glt.first != 0 && l.contains first then first
  else l.foldl (fun a b => if b.toNat < a.toNat then b else a) (l.headD 0)

/-- State F level at once, stop reason 6, the grant in use released, Break for what is energised (R41, R179, R220, R250); what the interlock
still held back to energise is dropped. The PWM stops at
once (R196), so Break step 5 completes with it, and a pilot fault hold that waited for that begins (R193). The session is over here, and
only its Break goes on. A grant that merely waits is kept: DEDUCED, since R41 releases the grant of the session that it ends. -/
def stopForSafe (s : State) : State :=
  let s := { s with
    plt := { s.plt with level := .stateF, nextLevel := .stateF, duty := 0, next := 0, digital := false, lowMv := 0, diodeCount := 0
                        holdF := s.plt.holdF || s.plt.holdDue, holdDue := false }
    swg := { s.swg with heldGates := 0, heldCoil := s.swg.heldCoil.filter (!·), interlock := s.swg.heldCoil == some false } }
  if s.ses.phase == .break then
    let s := stopSession 6 s
    let s := closeSession s.ses.breakStop s
    if s.ses.breakStep = 5 then finishBreak s else s
  else if s.ses.phase == .make || s.swg.coilCmd then closeSession 6 (startBreak 6 s)
  else closeSession 6 (stopSession 6 s)

/-- The session side of an entry (R250): a running lock move is stopped too (R221). -/
def safeStop (s : State) : State := stopForSafe (brakeMove s)

/-- The causes of a window, each once, in order of arrival. -/
def distinctCauses (l : List (BitVec 16)) : List (BitVec 16) := l.foldl (fun a x => if a.contains x then a else a ++ [x]) []

/-- Entry into the safe state, or further causes while it is in force, with one record for each cause (R250, R265, R266). -/
def safeEntry (l : List (BitVec 16)) (s : State) : State :=
  if l.isEmpty then s
  else
    let l := distinctCauses l
    let fresh := !safeInForce s
    let c := governing s l
    let s := setKill { s with glt := { s.glt with srcSafe := true } }
    let s := if fresh then
        let s := setActive true { s with
          boot := if s.safe.startHold && !s.pwr.billing then { s.boot with stage := 0xF } else s.boot
          safe := { s.safe with cause := c, startHold := false, entries := satInc s.safe.entries, seen := [], autoSpent := false } }
        eventPrompt 7 s
      else s
    let s := { s with safe := { s.safe with
      seen := s.safe.seen ++ l.filter (fun x => !s.safe.seen.contains x), passed := 0
      needsReset := s.safe.needsReset || l.any (fun x => releaseClass x == 3) } }
    let s := { s with safe := { s.safe with autoSpent := s.safe.autoSpent || (s.safe.autoLeft == 0 && l.any fun x => releaseClass x == 0) } }
    let s := l.foldl (fun s x => writeEvidence (if fresh && x == c then 0x10 else 0x11) x s) s
    if fresh then safeStop s else s

/-- A comparator's output is diverted from the latch: in its blind window, or FC0 in step 4 of the check (R238, R239). -/
def diverted (s : State) (n : Nat) : Bool := s.glt.testing.getLsbD n || (n == 0 && s.rcd.windingStep == 4)

/-- A comparator sets the kill latch (R201, R235, R242, R243): its counters, the report with its own cause. An input that merely
stays present after its trip (fresh is false) sets the latch and counts nothing. During a brown-out sequence without the safe state the
trip is latched, counted and logged, and nothing else changes. -/
def comparatorTrip (fresh : Bool) (n : Nat) (s : State) : State :=
  let s := killByComparator n s
  let s := if n = 3 then { s with swg := { s.swg with desat := s.swg.desat ||| s.glt.desatNow } } else s
  if !fresh then s
  else
    let s :=
      if n = 0 then { s with rcd := { s.rcd with trips := satInc s.rcd.trips } }
      else if n = 3 then { s with swg := { s.swg with desatTrips := satInc s.swg.desatTrips } }
      else s
    let s := if safeInForce s || s.pwr.brown.active then logEvent (.tripInForce (setBit 0 n)) s else s
    if s.pwr.brown.active && !safeInForce s then s else report (BitVec.ofNat 16 (0x102 + n)) s

/-- A diversion has ended: an input still present sets the latch at that moment (R238, R245). -/
def reconnect (n : Nat) (s : State) : State :=
  if s.glt.active.getLsbD n && !diverted s n then comparatorTrip (!s.glt.trip.getLsbD n) n s else s

/-- Billing starts or resumes with a partial interval at the release (R99); a record that the restore row let run on goes on (R334). A stop
reason 7 is carried by this record (R324). -/
def resumeBilling (s : State) : State :=
  if s.pwr.billing then s
  else
    let cut := s.pwr.sessionCut
    let s := { s with
      pwr := { s.pwr with billing := true, sessionCut := false }
      bil := { s.bil with intervalMin := BitVec.ofNat 8 (setting? s 5 0) } }
    let s := if s.bil.pendState == .open then s else openRecord s.bil.clock s
    if cut then
      let s := markStop 7 { s with ses := { s.ses with stopMarked := false } }
      { s with bil := { s.bil with openRec := { s.bil.openRec with session := false } }, ses := { s.ses with stopMarked := false } }
    else s

/-- What both releases do: the latch is cleared, the pilot returns to steady +12 V and is classified (R199, R236, R263); a pilot fault stays latched
until state A is classified, and its hold lasts its 3 s (R193). -/
def commonRelease (s : State) : State :=
  let s := setActive false (clearKill s)
  let s := { s with
    safe := { s.safe with startHold := false, sealChanged := false, needsReset := false, seen := [], autoSpent := false, failed := 0 }
    boot := { s.boot with stage := if s.boot.stage = 8 then 8 else 7 }
    rcd := { s.rcd with excLost := false }
    plt := { s.plt with level := if s.plt.holdF then .stateF else .steady, nextLevel := if s.plt.holdF then .stateF else .steady
                        classifying := true, count := 0, candidate := s.plt.state, diodeCount := 0 }
    plc := { s.plc with mayTransmit := true }
    bgd := { s.bgd with released := true }
    aud := { s.aud with released := true, latched := s.aud.faults.getLsbD 1 } }
  let seen := s.plt.state == .b || s.plt.state == .c || s.plt.state == .d
  let s := if s.ses.phase == .break then s else { s with ses := { s.ses with phase := if seen then .connected else .idle } }
  resumeBilling (refreshDriver s)

/-- One P1 NOTIFY of OdServiceEpoch and LastResetCause to node 0 (R163). -/
def epochNotify (s : State) : State :=
  notifyNode0 1 (leBytes 2 s.od.serviceEpoch.toNat ++ resultRecord (od 1 0x80) 0 (leBytes 2 s.od.serviceEpoch.toNat)
    ++ resultRecord (od 0x28 0x10) 0 (leBytes 4 (rstCauseWord s).toNat)) s

/-- What a start's release adds (R521): the running image's version is kept and logged. -/
def versionKept (s : State) : State :=
  logEvent (.imageVersion (imageVersion s)) { s with fw := { s.fw with lastVersion := imageVersion s } }

/-- What a start's release adds, node 0's NOTIFY included (R163, R521). -/
def startReleased (s : State) : State := epochNotify (versionKept s)

/-- A release now is also that of the start hold of a start that failed (R91). -/
def releasesStart (s : State) : Bool := s.boot.stage == 0xF

/-- Release of the safe state (R263), but for the NOTIFY that follows the release of a start. -/
def releaseQuietly (automatic : Bool) (s : State) : State :=
  let firstStart := releasesStart s
  let withheld := s.safe.seen.any fun c => (0x101 ≤ c.toNat && c.toNat ≤ 0x106) || c == 0x201 || c == 0x202
  let cause := s.safe.cause
  let s := writeEvidence 0x12 cause s
  let s := { s with ses := { s.ses with windingDue := s.ses.windingDue || withheld || firstStart } }
  let s := if automatic then { s with safe := { s.safe with autoLeft := s.safe.autoLeft - 1, autoTimes := s.bil.running :: s.safe.autoTimes } } else s
  let s := commonRelease s
  let s := if s.lck.faults = 0 && s.lck.state != 1 then commandMove false s else s
  if firstStart then versionKept s else s

/-- Release of the safe state (R263). A release from a start that failed is also that of the start hold (R91, R163). -/
def releaseSafe (automatic : Bool) (s : State) : State :=
  if releasesStart s then epochNotify (releaseQuietly automatic s) else releaseQuietly automatic s

end Sys2Proof.Machine
end

