-- ==== Sys2Proof/Machine/ResetOps.lean ====
section
/-! DEFINITION. Whole-device resets, the reset close, and an island's leaving and returning to service (02, 03, 13). -/

namespace Sys2Proof.Machine

/-- The pending close: accumulators with the partial period, END and STATE 2 in retained RAM (R98 step 2, R300, R328, R335). -/
def pendingClose (k : RecordKind) (s : State) : State :=
  if s.bil.pendState != .open then s
  else { s with bil := { s.bil with
    pendState := .pending, pendCrcOk := true, lossDue := none, openRec := { finishedRecord k s.bil.clock s with imports := importsWithPartial s } } }

/-- The reset close at the onset of a RESETN, restart, SAFE_REQ or loader reset (R335). -/
def resetClose (s : State) : State := if s.pwr.billing then pendingClose .resetClose s else s

/-- The bit of AON_RST_CAUSE that a source sets (Table 3-2). -/
def markCause (c : ResetCause) (r : RstCause) : RstCause :=
  match c with
  | .porSupply => { r with porSupply := true }
  | .pin => { r with pin := true }
  | .odRestart => { r with odRestart := true }
  | .safeReq => { r with safeReq := true }
  | .pfailRec => { r with pfailRec := true }
  | .loader => { r with loader := true }

/-- OdServiceEpoch rises at every whole-device reset and at every return of SEQ (Table 5-11). -/
def nextServiceEpoch (e : BitVec 16) : BitVec 16 := if e = 0xFFFF then 1 else e + 1

/-- The row at which settings are restored has come: the OD is served from it (R163). -/
def restoreRowDone (s : State) : Bool := s.pwr.settingsRestored || s.pwr.restoreFailed

/-- What a whole-device reset leaves of OD state (R142, R159, R161): retained RAM and log flash. PDUs that no carrier has taken are lost. -/
def odAfterReset (o : Od) : Od :=
  { ({} : Od) with
    winNode0 := o.winNode0, winMbx := o.winMbx, floor := o.floor, txSeq := o.txSeq, serviceEpoch := o.serviceEpoch
    tokenCounter := o.tokenCounter, lastSession := o.lastSession
    markTx := o.markTx, markNode0 := o.markNode0, markToken := o.markToken, lastStatus := o.lastStatus }

/-- Break under way carries a stop reason: a reset then cuts no session, since its one reason stands (R34). -/
def stopStands (s : State) : Bool := sessionOn s && s.ses.phase == .break && s.ses.breakStop != 0

/-- What it leaves of the session: stop reason, grant, table, last energy and start (R42, R350, Table 6-8). No session survives: the grant
in use waits with its remaining energy, or is released where the session's reason stands already. -/
def sesAfterReset (s : State) : Session :=
  let x := if sessionOn s then
      (if stopStands s then (closeSession s.ses.breakStop s).ses
       else
        { s.ses with
          grant := s.ses.grant.map fun g => { g with remaining := BitVec.ofNat 32 (remainingWh s) }
          table := match s.ses.grant with | some g => putTable g (remainingWh s) s.ses.table | none => s.ses.table })
    else s.ses
  { ({} : Session) with
    phase := .idle, stop := x.stop, grant := x.grant, table := x.table, tableLost := x.tableLost, grantId := x.grantId
    start := x.start, energyWh := x.energyWh, account := x.account }

/-- What it leaves of SAFE: the cause, counters, the seal word kept in AON and held evidence (Table 10-7, R270, R271). -/
def safeAfterReset (x : Safe) : Safe :=
  { ({} : Safe) with
    cause := x.cause, entries := x.entries, pos := x.pos, sealChanged := x.sealChanged, evidence := x.evidence, lost := x.lost
    posAtPowerDown := x.posRecorded, posRecorded := x.posRecorded, posKept := x.posKept || x.sealAccepted }

/-- What it leaves of self-test: fields retained VBAT and the RT results. -/
def tstAfterReset (x : Tst) (bist : Bool) : Tst :=
  { ({} : Tst) with
    code := x.code, outcome := if x.pending && !bist then 3 else x.outcome
    pending := x.pending && bist, logicFail := x.logicFail, memFail := x.memFail, misr := x.misr
    endSec := x.endSec, result := x.result
    time := x.time, copyDue := x.copyDue || (x.pending && !bist), todo := if bist then x.todo else [], bistBoot := bist && x.pending }

/-- The state after a whole-device reset: AON, retained RAM, OTP and flash keep theirs; everything else takes its Reset value. AON goes on
with the tariff settings applied to it (R120, R339). A start cut before its restore row still counts in OdServiceEpoch (Table 5-11). -/
def afterReset (bist : Bool) (s : State) : State :=
  { ({} : State) with
    pending := s.pending, free := s.free, rst := s.rst, sup := s.sup, otp := s.otp, copyA := s.copyA, copyB := s.copyB
    areas := s.areas
    pwr := { resetHeld := true, vdd3Up := s.pwr.vdd3Up, fromNothing := s.pwr.fromNothing
             sessionCut := s.pwr.sessionCut || (sessionOn s && !stopStands s), heldResets := [] }
    set := { running := s.set.running.filter fun e => groupOf e.addr = 4, generation := 0, dirty := s.set.dirty, commit := none, otpFaults := s.set.otpFaults }
    bil := { s.bil with closedFresh := 0, trustFresh := false, cursor := 0 }
    od := odAfterReset { s.od with serviceEpoch := if restoreRowDone s then s.od.serviceEpoch else nextServiceEpoch s.od.serviceEpoch }
    ses := sesAfterReset s, safe := safeAfterReset s.safe, tst := tstAfterReset s.tst bist
    swg := { contactorOps := s.swg.contactorOps, desatTrips := s.swg.desatTrips }
    lck := { faults := s.lck.faults }
    rcd := { trips := s.rcd.trips }
    adc := { converterErrors := s.adc.converterErrors }
    sec := { mirrorCount := s.sec.mirrorCount }
    net := { bcastSeq := s.net.bcastSeq, bcastLost := s.net.bcastLost }
    aud := { faults := s.aud.faults }
    bgd := { corrected := s.bgd.corrected, uncorrectable := s.bgd.uncorrectable }
    flash := s.flash
    fw := { s.fw with stream := none, phase := 0, mode := false, error := 0, next := 0, total := 0 } }

/-- A result word (R492). -/
def resultWord (code : Byte) (outcome : BitVec 4) (items : Nat) : Word := fields [(code.toNat, 0), (outcome.toNat, 8), (items, 16)]

/-- A reset that is not part of a BIST run discards the request that is held, with outcome 3, which takes ClockTime and is logged
(R490, R492). -/
def discardTest (s : State) : State :=
  match s.tst.held with
  | none => s
  | some c => logEvent (.selfTest c 3) { s with tst := { s.tst with
      held := none, code := c, outcome := 3, result := resultWord c 3 0, time := s.bil.clock } }

/-- A whole-device reset begins (R81, R86): its cause bit and COUNT, then the reset values. A source that arrives while one is
held sets its bit. -/
def wholeReset (c : ResetCause) (s : State) : State :=
  if s.pwr.resetHeld then { s with rst := markCause c s.rst }
  else
    let s := discardTest s
    afterReset false { s with rst := { markCause c s.rst with count := satInc s.rst.count } }

/-- A whole-device reset of a BIST run: it sets OD_RESTART, and AON keeps TST_STAT.PENDING (R498). -/
def bistReset (s : State) : State :=
  afterReset true { s with rst := { markCause .odRestart s.rst with count := satInc s.rst.count } }

/-- Whether a reset that can be held back waits: any behind a COMMIT (R577), a RESETN or a restart behind the brown-out sequence (R102). -/
def resetWaits (c : ResetCause) (s : State) : Bool := s.set.commit.isSome || (s.pwr.brown.active && (c == .pin || c == .odRestart))

/-- A reset joins those that wait for HELD_RESET_RELEASE. -/
def awaitReset (c : ResetCause) (s : State) : State :=
  { s with pwr := { s.pwr with heldResets := s.pwr.heldResets ++ [c] } }

/-- A reset that the controller can hold back, with the close of R335 at its onset (R102, R335, R577). -/
def heldBackReset (c : ResetCause) (s : State) : State :=
  if resetWaits c s then awaitReset c s
  else wholeReset c (resetClose s)

/-- The request is a posted write. -/
def isPosted (f : Flight) : Bool := f.op == .writePosted

/-- One posted write dropped at a port (R58): LOSS_COUNT saturates at FFFFh and LOSS_SAT shows it. -/
def dropPosted (dst src : Island) (s : State) : State :=
  let p := port s dst
  let c := satInc p.lossCount
  let s := setPort s dst { p with lossCount := c, lossSat := c == 0xFFFF }
  { s with fab := { s.fab with postedLost := pset s.fab.postedLost src true } }

/-- A completion on its way to its source. -/
def complete (f : Flight) (st : FabricStatus) (data : Word) (s : State) : State :=
  { s with fab := { s.fab with completions := s.fab.completions ++ [⟨f.req.tag, f.req.src, f.req.dst, f.op, st, data⟩] } }

/-- A request that failed at its port: a posted write is dropped, any other draws its status (R58, R79). -/
def failAt (i : Island) (st : FabricStatus) (f : Flight) (s : State) : State :=
  if isPosted f then dropPosted i f.req.src s else complete f st 0 s

/-- What the port answers one outstanding request when its island leaves (R56, R58): a parity error is still answered PARITY and logged
(R79). -/
def answerAbsent (dst : Island) (f : Flight) (s : State) : State :=
  if parityOk f then failAt dst .absent f s else logEvent (.parity f.req.dst) (failAt dst .parity f s)

/-- Fences whose earlier requests are all settled complete, with FENCE-LOSS if a posted write was dropped (R54, R74). -/
def settleFences (s : State) : State :=
  s.fab.fences.foldl (fun s w =>
    if s.fab.flights.any fun f => f.req.src == w.src then s
    else
      let lost := pget s.fab.postedLost w.src
      { s with fab := { s.fab with
          fences := s.fab.fences.filter (· != w), postedLost := pset s.fab.postedLost w.src false
          completions := s.fab.completions ++ [⟨w.tag, w.src, w.dst, .fence, if lost then .fenceLoss else .ok, 0⟩] } }) s

/-- The fabric side of an island's leaving (R56 to R60, R66, R67, R74, R75). -/
def fabricLeave (i : Island) (s : State) : State :=
  let toI (f : Flight) : Bool := f.req.dst.toNat == islandNum i
  let out := s.fab.flights.filter toI
  let s := { s with fab := { s.fab with flights := s.fab.flights.filter fun f => !toI f } }
  let s := out.foldl (fun s f => answerAbsent i f s) s
  let owner (a : BitVec 16) : Bool := a.toNat / 0x1000 == islandNum i
  settleFences { s with fab := { s.fab with
    completions := s.fab.completions.filter fun c => c.src != i
    held := s.fab.held.filter fun f => f.req.src != i
    fences := s.fab.fences.filter fun w => w.src != i
    snapshots := s.fab.snapshots.filter fun x => !owner x.addr
    heldWrites := s.fab.heldWrites.filter fun x => !owner x.addr
    views := pset s.fab.views i (pconst 0) } }

/-- What a user list keeps as "Island" (Tables 11-7, 11-9). -/
def userListKept (u : UserList) : UserList :=
  { ({} : UserList) with en := u.en, pair := u.pair, trig := u.trig, tmrCh := u.tmrCh, last := u.last, period := u.period
                         inputs := u.inputs, avgs := u.avgs }

/-- What a window keeps as "Island" (Table 11-12). -/
def windowKept (w : WinComp) : WinComp :=
  { ({} : WinComp) with en := w.en, src := w.src, count := w.count, hys := w.hys, low := w.low, high := w.high }

/-- What a timer channel keeps as "Island" (Table 18-5). -/
def channelKept (c : Channel) : Channel :=
  { c with run := false, count := 0, topNext := none, cmpNext := none, capt := 0, overrun := false, cmpLate := false
           full := false, matched := false }

/-- The diversions that stood in s end (R238): ADC, which made them, leaves service. -/
def reconnectAll (s t : State) : State := [0, 1, 2, 3].foldl (fun t n => if diverted s n then reconnect n t else t) t

/-- The event of a SHORT_HOLD or THERMAL period that ends now, with its start and its duration in RTC ticks (R387). -/
def logHold (thermal : Bool) (since : Time × Nat) (s : State) : State :=
  logEvent (.driverHold thermal since.1 (s.bil.running - since.2)) s

/-- The periods that PLC's departure ends are logged (R387). -/
def holdsEnd (s : State) : State :=
  let s := if s.plc.shortHold then logHold false s.plc.shortSince s else s
  if s.plc.thermal then logHold true s.plc.thermalSince s else s

/-- The registers and engines of one island take their Reset values, except fields retained as "Island" (R13, R56). -/
def resetIsland (i : Island) (s : State) : State :=
  match i with
  | .aon => s
  | .safe =>
    let s := setActive true s
    { s with glt := { s.glt with kill := true, srcSafeAbsent := true }
             safe := safeAfterReset s.safe, live := { s.live with standing := [], auxDiffers := 0 } }
  | .seq =>
    { s with od := { odAfterReset s.od with
        displayMessage := s.od.displayMessage, fwUpdateMode := s.od.fwUpdateMode }
             bil := { s.bil with cursor := 0 }
             plc := { s.plc with reloadDue := false }, disp := { s.disp with reloadDue := false, redrawDue := false }
             aud := { s.aud with queue := [] }
             tst := { s.tst with waiting := none, held := none, part := 0 } }
  | .met =>
    refreshAllowed
    { s with met := { ({} : Met) with
        session := s.met.session, eimp := s.met.eimp, evar := s.met.evar, erev := s.met.erev
        sessionRes := s.met.sessionRes, eimpRes := s.met.eimpRes, evarRes := s.met.evarRes, erevRes := s.met.erevRes
        gap := !adcRuns s, cal := s.met.cal, calNext := s.met.calNext }
             plc := { s.plc with mainsRef := false }
             live := { s.live with overCounts := Vector.replicate 4 0, lowHalves := Vector.replicate 3 0, highHalf := Vector.replicate 3 false
                                   halfDeciA := Vector.replicate 4 0 } }
  | .adc =>
    reconnectAll s
    { s with adc := { ({} : Adc) with
        converterErrors := s.adc.converterErrors, u0 := userListKept s.adc.u0, u1 := userListKept s.adc.u1
        capInput := s.adc.capInput, capPair := s.adc.capPair, capIlv := s.adc.capIlv, capTrigTmr := s.adc.capTrigTmr
        capTrigCh := s.adc.capTrigCh, capLength := s.adc.capLength, wins := s.adc.wins.map windowKept, irqEn := s.adc.irqEn }
             rcd := { ({} : Rcd) with trips := s.rcd.trips }
             glt := { s.glt with testing := 0, testFail := 0 }
             plt := { s.plt with count := 0 }
             met := { s.met with valid := false, samples := [], half := Vector.replicate 4 {}, beyond10 := Vector.replicate 3 false, gap := true } }
  | .plc =>
    let s := holdsEnd s
    { s with plc := { ({} : Plc) with
        limited := s.plc.limited, att := s.plc.att, mayTransmit := s.plc.mayTransmit, sentLog := s.plc.sentLog }
             net := { ({} : Net) with fpFraming := s.net.fpFraming, bcastSeq := s.net.bcastSeq, bcastLost := s.net.bcastLost } }
  | .sec =>
    { s with sec := { ({} : Sec) with mirrorCount := s.sec.mirrorCount, mirror := s.sec.mirror, scanLock := s.sec.scanLock }
             cfg := {}, od := { s.od with fwUpdateMode := 0 } }
  | .disp =>
    { s with od := { s.od with displayMessage := ({} : Od).displayMessage }
             disp := { ({} : Disp) with
        hostOwn := s.disp.hostOwn, owner := s.disp.hostOwn, div := s.disp.divNext, divNext := s.disp.divNext, contrast := s.disp.contrast
        preV := s.disp.preV } }
  | .aud => { s with aud := { ({} : Aud) with faults := s.aud.faults, released := s.aud.released, stageOn := s.aud.stageOn } }
  | .host => { s with hst := { ({} : Hst) with irqEn := s.hst.irqEn } }
  | .bgd =>
    { s with flash := { s.flash with
               ledger := { s.flash.ledger with suspended := false }, events := { s.flash.events with suspended := false }
               marks := { s.flash.marks with suspended := false } }
             bgd := { ({} : Bgd) with
        enabled := s.bgd.enabled, codeFail := s.bgd.codeFail, zoneShrunk := s.bgd.zoneShrunk, sramWord := s.bgd.sramWord
        codeBlock := s.bgd.codeBlock, released := s.bgd.released, corrected := s.bgd.corrected
        uncorrectable := s.bgd.uncorrectable } }
  | .tmr =>
    { s with tmr := { ({} : Tmr) with ch := s.tmr.ch.map channelKept, irqEn := s.tmr.irqEn }
             plt := { s.plt with level := .stateF, nextLevel := .stateF, digital := false, duty := 0, next := 0, highMv := 0, lowMv := 0
                                 state := .none, diodeFault := false, eFault := false, bandFault := false, holdF := false
                                 count := 0, candidate := .none, diodeCount := 0, holdDue := false, classifying := false }
             swg := { ({} : Switching) with contactorOps := s.swg.contactorOps, desatTrips := s.swg.desatTrips }
             lck := { ({} : Lock) with faults := s.lck.faults } }

/-- Energy lost while MET is out: at most one period plus 1 ms at the last power, rounded up to a Wh (R308). -/
def lossBound (s : State) : Nat :=
  let w := (s.met.power.toList.map fun x => x.toInt.toNat).foldl (· + ·) 0
  (w * (s.met.period.toNat + 10000) + 35999999999) / 36000000000

/-- The absence reaction of Table 10-5: the safe state for five islands, an event for the others. Without SAFE the latch is set (R65),
condition 6 of R30 fails, and the start hold of SAFE_STAT's Reset values is in force until R91 releases it: DEDUCED. -/
def absenceReaction (i : Island) (s : State) : State :=
  if i == .aon || i == .seq || i == .met || i == .adc || i == .tmr then report (BitVec.ofNat 16 (0x400 + islandNum i)) s
  else if i == .safe then stopForSafe (setKill s)
  else logEvent (.islandAbsent i) s

/-- An island leaves service (R56): its port's STATE, the fabric's answers, its registers and engines. -/
def leaveQuietly (i : Island) (st : PortState) (s : State) : State :=
  let p := port s i
  let s := setPort s i { p with state := st, reloadAtReturn := (st == .reloading) || (st == .poweredDown) }
  let s := fabricLeave i s
  let s := if i == .met && s.pwr.billing then
      let b := BitVec.ofNat 16 (min 0xFFFE (lossBound s))
      logEvent (.energyLoss b) { s with bil := { s.bil with lossDue := some (addLoss s.bil.lossDue b) } }
    else s
  let s := resetIsland i s
  if i == .seq then
      { s with od := { s.od with session := none, queue := [], transfers := [], snapshots := [], subs := [], out := [] }
               set := { s.set with commit := none }, cfg := { s.cfg with busy := false } }
    else s

/-- An island leaves service, and the other parts react (R56, R73, Table 10-5). -/
def leaveService (i : Island) (st : PortState) (s : State) : State := absenceReaction i (leaveQuietly i st s)

/-- A port sees no clock of its island (R78): an island in service leaves it, and one that resets or reloads shows the lost clock. SAFE then
resets the island, which is logged (Table 3-2); AON is never reset singly (Table 2-15). -/
def clockLoss (i : Island) (s : State) : State :=
  let p := port s i
  let safeResets (s : State) : State := if isUp s .safe && i != .aon then logEvent (.islandReset i) s else s
  if p.state == .up then safeResets (leaveService i .clockLost s)
  else if p.state == .resetting || p.state == .reloading then safeResets (setPort s i { p with state := .clockLost })
  else s

/-- R309 for MET, R450 for AUD, R163 for SEQ, R160 and R279 at an island's return (R61). With a loader sector that fails its CRC, the
loader state runs without the line link (R527). -/
def afterReturn (i : Island) (s : State) : State :=
  match i with
  | .seq =>
    epochNotify { s with od := { s.od with serviceEpoch := nextServiceEpoch s.od.serviceEpoch, txPlain := 1 } }
  | .host => { s with hst := { s.hst with reset := true } }
  | .sec => s
  | .aud => { s with aud := { s.aud with latched := s.aud.faults.getLsbD 1, released := s.pwr.billing
                                         level := BitVec.ofNat 8 (setting? s 0x15 0) } }
  | .plc => { s with plc := { s.plc with
      bandC := setting? s 1 2 == 1
      linkPath := if s.pwr.loaderState && !s.fw.loaderOk then 1 else BitVec.ofNat 8 (setting? s 1 3)
      mainsRef := s.met.freqValid, reloadDue := false } }
  | .disp => { s with disp := { s.disp with
      pixelMode := setting? s 0x14 0 == 1, duty := setting? s 0x14 1 == 1, bias := setting? s 0x14 2 == 1
      isink := BitVec.ofNat 8 (setting? s 0x14 3), pumpOk := setting? s 0x14 0 == 0, redrawDue := !s.disp.owner
      reloadDue := false } }
  | .adc => { s with rcd := { s.rcd with dcArmed := dcEnabled s } }
  | _ => s

/-- The islands with loadable content: SEQ's microcode, the tables of PLC, MET, ADC and DISP (Table 2-6). -/
def loadable (i : Island) : Bool := i == .seq || i == .plc || i == .met || i == .adc || i == .disp

/-- The content that an island holds as it comes up: loaded from the running image at its boot row, and where a reload or a power-up brings
it back; kept over a reset (Table 2-6, R71). -/
def contentAt (i : Island) (s : State) : Option Word :=
  let p := port s i
  if loadable i && (p.state == .notYetUp || p.reloadAtReturn) then some (imageVersion s) else p.content

/-- An island comes up: its epoch increases by one, wrapping from 255 to 1, and STATE reads up (R61). -/
def comeUp (i : Island) (s : State) : State :=
  let p := port s i
  setPort s i { p with state := .up, epoch := if p.epoch = 0xFF then 1 else p.epoch + 1, reloadAtReturn := false
                       content := contentAt i s }

end Sys2Proof.Machine
end

