-- ==== Sys2Proof/Machine/DisplayOps.lean ====
section
/-! DEFINITION. The shared operations of the display (17): the frame buffers, areas and overlap of rectangles, submission, commits. -/

namespace Sys2Proof.Machine

/-- Width and height of the grid of the mode in force (R429). -/
def gridOf (s : State) : Nat × Nat := if s.disp.pixelMode then (128, 48) else (48, 8)

/-- A frame buffer with one pixel replaced; only pixels that are not 0 are listed, in rising order (R429). -/
def setPixel (k : Nat) (v : BitVec 4) : List (Nat × BitVec 4) → List (Nat × BitVec 4)
  | [] => if v = 0 then [] else [(k, v)]
  | (a, b) :: r =>
    if k < a then (if v = 0 then (a, b) :: r else (k, v) :: (a, b) :: r)
    else if k = a then (if v = 0 then r else (k, v) :: r)
    else (a, b) :: setPixel k v r

/-- One pixel of a frame buffer. -/
def pixelAt (l : List (Nat × BitVec 4)) (k : Nat) : BitVec 4 :=
  match l with
  | [] => 0
  | (a, b) :: r => if a = k then b else pixelAt r k

/-- The number of a pixel: x runs left to right, y top to bottom (R429). -/
def pixelNo (x y : Nat) : Nat := y * 128 + x

/-- Frame buffer 0 or 1. -/
def frameBuf (s : State) (b : Bool) : List (Nat × BitVec 4) := if b then s.disp.fb1 else s.disp.fb0

/-- s with a frame buffer replaced. -/
def setFrameBuf (b : Bool) (l : List (Nat × BitVec 4)) (s : State) : State :=
  if b then { s with disp := { s.disp with fb1 := l } } else { s with disp := { s.disp with fb0 := l } }

/-- SX and SY of a COPY (R431). -/
def sourceXY (arg : BitVec 16) : Nat × Nat := (bits arg.toNat 0 7, bits arg.toNat 8 6)

/-- The asset number of an ASSET rectangle (R431). -/
def assetNo (arg : BitVec 16) : Nat := bits arg.toNat 0 12

/-- The version and the set that bitmaps come from: the running image and DisplayLanguage (R429, R431). -/
def assetSet (s : State) : Nat × Nat := ((imageVersion s).toNat, setting? s 0x14 0x04)

/-- Words per row of a WRITE rectangle (R435). -/
def wordsPerRow (w : Nat) : Nat := (w + 7) / 8

/-- Words a WRITE rectangle takes (R435). -/
def wordsNeeded (r : Rect) : Nat := wordsPerRow r.w * r.h

/-- A rectangle that still needs data (R435). -/
def needsData (r : Rect) : Bool := r.op == .write && r.words.length < wordsNeeded r

/-- The level that a rectangle gives its pixel (i, j); none where it leaves it unchanged (R431, R435). -/
def rectPixel (s : State) (r : Rect) (i j : Nat) : Option (BitVec 4) :=
  match r.op with
  | .fill => some (r.arg.setWidth 4)
  | .copy =>
    let (sx, sy) := sourceXY r.arg
    some (pixelAt (frameBuf s !r.buf) (pixelNo (sx + i) (sy + j)))
  | .asset => some (Config.assetPixel (assetSet s).1 (assetSet s).2 (assetNo r.arg) i j)
  | .write =>
    match r.words[j * wordsPerRow r.w + i / 8]? with
    | some w => some (BitVec.ofNat 4 (bits w.toNat (4 * (i % 8)) 4))
    | none => none

/-- A finished rectangle's pixels in its destination buffer. -/
def drawRect (r : Rect) (s : State) : State :=
  let draw (l : List (Nat × BitVec 4)) (k : Nat) : List (Nat × BitVec 4) :=
    match rectPixel s r (k % r.w) (k / r.w) with
    | some v => setPixel (pixelNo (r.x + k % r.w) (r.y + k / r.w)) v l
    | none => l
  setFrameBuf r.buf ((List.range (r.w * r.h)).foldl draw (frameBuf s r.buf)) s

/-- An area of one buffer: buffer, left, top, width, height. -/
structure Area where
  buf : Bool
  x : Nat
  y : Nat
  w : Nat
  h : Nat
deriving DecidableEq, Repr

/-- The areas of a rectangle: its destination, and its source if it is a COPY (R432). -/
def areas (r : Rect) : List Area :=
  let d : Area := ⟨r.buf, r.x, r.y, r.w, r.h⟩
  if r.op = .copy then [d, ⟨!r.buf, (sourceXY r.arg).1, (sourceXY r.arg).2, r.w, r.h⟩] else [d]

/-- Two areas share a pixel of the same buffer (R432). -/
def shares (a b : Area) : Bool :=
  a.buf == b.buf && a.x < b.x + b.w && b.x < a.x + a.w && a.y < b.y + b.h && b.y < a.y + a.h

/-- Two rectangles overlap (R432). -/
def overlap (p q : Rect) : Bool := (areas p).any fun a => (areas q).any (shares a)

/-- A rectangle lies within what R431 allows. -/
def inBounds (s : State) (r : Rect) : Bool :=
  let (gw, gh) := gridOf s
  let (sx, sy) := sourceXY r.arg
  let (v, g) := assetSet s
  let n := assetNo r.arg
  r.x + r.w ≤ gw && r.y + r.h ≤ gh
    && (r.op != .copy || (sx + r.w ≤ gw && sy + r.h ≤ gh))
    && (r.op != .asset || (Config.assetExists v g n && r.w ≤ (Config.assetWidth v g n).toNat && r.h ≤ (Config.assetHeight v g n).toNat))

/-- Whether a party may draw: the host while OWNER is 1, Laurel-B while it is 0 (R429). -/
def isOwner (s : State) (byHost : Bool) : Bool := s.disp.owner == byHost

/-- An access to the rectangle and commit registers by a party: ignored with NOT_OWNER unless it is the owner (R429). -/
def ownerOnly (byHost : Bool) (f : State → State) (s : State) : State :=
  if !isUp s .disp then s
  else if isOwner s byHost then f s
  else { s with disp := { s.disp with notOwner := true } }

/-- The rectangle that the registers describe (R431). -/
def rectOf (op : RectOp) (s : State) : Rect :=
  let d := s.disp
  ⟨d.lastSeq + 1, op, d.dstBuf, d.dstX.toNat, d.dstY.toNat, d.sizeW.toNat, d.sizeH.toNat, d.srcArg, [], d.pending && d.dstBuf == d.shown⟩

/-- The destination is the buffer of the pending commit (R433). -/
def pendingDest (s : State) : Bool := s.disp.pending && s.disp.dstBuf == s.disp.buf

/-- The destination is the shown buffer while no commit is pending (R433). -/
def shownDest (s : State) : Bool := !s.disp.pending && s.disp.dstBuf == s.disp.shown

/-- Nothing refuses a submission (R431 to R433). -/
def submitOk (op : RectOp) (s : State) : Bool :=
  inBounds s (rectOf op s) && !pendingDest s && !shownDest s && s.disp.queue.length < 8

/-- A submission (R431 to R433): queued, or refused with every flag whose reason holds. -/
def submit (op : RectOp) (s : State) : State :=
  let r := rectOf op s
  let d := s.disp
  if submitOk op s then { s with disp := { d with queue := d.queue ++ [r], lastSeq := r.seq } }
  else { s with disp := { d with
    bounds := d.bounds || !inBounds s r, pendingDst := d.pendingDst || pendingDest s, shownDst := d.shownDst || shownDest s
    queueFull := d.queueFull || decide (8 ≤ d.queue.length) } }

/-- The next word goes to the first rectangle of a list that needs data. -/
def feed (w : Word) : List Rect → Option (List Rect)
  | [] => none
  | r :: l =>
    if needsData r then some ({ r with words := r.words ++ [w] } :: l)
    else (feed w l).map (r :: ·)

/-- Words leave the FIFO for the rectangles in flight (R435). -/
def drainFifo : List Word → List Rect → List Word × List Rect
  | [], l => ([], l)
  | w :: q, l =>
    match feed w l with
    | some l' => drainFifo q l'
    | none => (w :: q, l)

/-- The FIFO drains as far as the rectangles in flight take words. -/
def feedAll (s : State) : State :=
  let (q, l) := drainFifo s.disp.fifo s.disp.flight
  { s with disp := { s.disp with fifo := q, flight := l } }

/-- A push to DISP_RECT_DATA (R435). -/
def pushData (w : Word) (s : State) : State :=
  if 64 ≤ s.disp.fifo.length then { s with disp := { s.disp with dataOvf := true } }
  else feedAll { s with disp := { s.disp with fifo := s.disp.fifo ++ [w] } }

/-- Every rectangle up to a number has finished: a difference in half the number range. -/
def finishedUpTo (s : State) (n : Byte) : Bool := (s.disp.doneSeq - n).toNat < 128

/-- The pending commit completes once every rectangle before it has finished (R436), and TAKE_SEQ says when it takes effect (R437). -/
def completeCommit (afterWindow : Bool) (s : State) : State :=
  let d := s.disp
  if d.pending && !d.commitDone && finishedUpTo s d.commitSeq then
    { s with disp := { d with
      commitDone := true, commitLate := afterWindow, takeSeq := d.frameSeq.setWidth 16 + (if afterWindow then 2 else 1) } }
  else s

/-- A commit (R436 to R438). -/
def commitBuf (buf afterWindow : Bool) (s : State) : State :=
  let d := s.disp
  if d.pending then { s with disp := { d with commitBusy := true } }
  else completeCommit afterWindow { s with disp := { d with
    buf := buf, pending := true, commitDone := false, commitSeq := d.lastSeq
    takeSeq := d.frameSeq.setWidth 16 + (if afterWindow then 2 else 1) } }

/-- DONE_SEQ follows the contiguous run of finished rectangles, with fuel (Table 17-6). -/
def advanceDone : Nat → Byte → List Byte → Byte × List Byte
  | 0, d, l => (d, l)
  | f + 1, d, l => if l.contains (d + 1) then advanceDone f (d + 1) (l.filter (· != d + 1)) else (d, l)

/-- A rectangle in flight is finished: it leaves, and DONE_SEQ and the pending commit advance (R434, R436). -/
def finishRect (r : Rect) (afterWindow : Bool) (s : State) : State :=
  let (dn, fin) := advanceDone 12 s.disp.doneSeq (r.seq :: s.disp.finished)
  feedAll (completeCommit afterWindow { s with disp := { s.disp with
    flight := s.disp.flight.filter (· != r), doneSeq := dn, finished := fin } })

end Sys2Proof.Machine
end

