-- ==== Sys2Proof/Machine/Audio.lean ====
section
/-! DEFINITION. The annunciator family (17): prompts, the current limit's shutdowns and retries. -/

namespace Sys2Proof.Machine

/-- n bytes of the running image from an offset of its image blocks; none where a block does not read back. -/
def imageBytes (s : State) (off n : Nat) : Option Bytes :=
  let block (k : Nat) : Option Bytes := imageBlock s (off / 4096 + k)
  let l := (List.range (off % 4096 + n + 4095) |>.filter (· % 4096 == 0)).map fun i => block (i / 4096)
  if l.any (·.isNone) then none else some (slice (off % 4096) n (l.flatMap fun b => b.getD []))

/-- The prompt section of a set: its own, else that of set 0 (R510). -/
def promptSection (m : Bytes) (lang : Nat) : Option SectionEntry :=
  let l := ((List.range (fieldLe 0x10 1 m)).map (sectionAt m)).filter (·.type == 8)
  match l.find? (·.lang == lang) with
  | some x => some x
  | none => l.find? (·.lang == 0)

/-- The running image's set holds a prompt (R511). -/
def promptExists (s : State) (n : Nat) : Bool :=
  let lang := setting? s 0x14 0x04
  match s.fw.manifest with
  | .shipped => Config.shippedPrompt lang n
  | .blank => false
  | .bytes m =>
    match promptSection m lang with
    | none => false
    | some x =>
      match imageBytes s x.offset 4 with
      | none => false
      | some h =>
        match imageBytes s (x.offset + 4) (12 * fieldLe 0 2 h) with
        | none => false
        | some e => (List.range (fieldLe 0 2 h)).any fun i => fieldLe (12 * i) 1 e == n

/-- PROMPT_START (R441, R511): the first prompt that waits plays; one that the set lacks ends at once. -/
def execPromptStart (s : State) : Host.Outcome State Fault Refusal :=
  match s.aud.queue with
  | [] => done s
  | p :: q =>
    done (guarded (isUp s .aud && s.aud.playing.isNone && s.aud.released && !s.aud.latched) (fun s =>
      let there := promptExists s p.number.toNat
      { s with aud := { s.aud with
        queue := q, playing := if there then some p else none, prompt := if there then p.number else s.aud.prompt } }) s)

/-- PROMPT_END (R441, R442). -/
def execPromptEnd (s : State) : Host.Outcome State Fault Refusal :=
  done (guarded (isUp s .aud) (fun s => { s with aud := { s.aud with playing := none, limit := false } }) s)

/-- AUD_SHORT (R442, R443): a shutdown; after five retries the stage is latched off. -/
def execAudShort (s : State) : Host.Outcome State Fault Refusal :=
  done (guarded (isUp s .aud && s.aud.stageOn && s.aud.released && !s.aud.hold && !s.aud.latched) (fun s =>
    let s := logEvent .audioShutdown { s with aud := { s.aud with hold := true, limit := true, faults := setBit s.aud.faults 0 } }
    if s.aud.retries.toNat < 5 then s
    else logEvent .audioLatched { s with aud := { s.aud with
      latched := true, faults := setBit s.aud.faults 1, playing := none, queue := [] } }) s)

/-- SHUTDOWN_END (R442): the stage restarts, an automatic retry, unless it is latched off. -/
def execShutdownEnd (s : State) : Host.Outcome State Fault Refusal :=
  done (guarded (isUp s .aud && s.aud.hold) (fun s => { s with aud := { s.aud with
    hold := false, limit := false, retries := if s.aud.latched then s.aud.retries else s.aud.retries + 1 } }) s)

/-- RETRIES_RESET (R443): 10 s without a shutdown. -/
def execRetriesReset (s : State) : Host.Outcome State Fault Refusal :=
  done (guarded (isUp s .aud && !s.aud.hold) (fun s => { s with aud := { s.aud with retries := 0 } }) s)

end Sys2Proof.Machine
end

