-- ==== Sys2Proof/Machine/FlashOps.lean ====
section
/-! DEFINITION. The zones of log flash (19): taking, erasing and retiring blocks, and the map as SEC comes up. -/

namespace Sys2Proof.Machine

/-- A zone of log flash. -/
def zoneOf (f : Flash) : Zone → FlashZone
  | .ledger => f.ledger | .events => f.events | .marks => f.marks

/-- s with a zone replaced. -/
def setZone (z : Zone) (x : FlashZone) (s : State) : State :=
  { s with flash := match z with
    | .ledger => { s.flash with ledger := x }
    | .events => { s.flash with events := x }
    | .marks => { s.flash with marks := x } }

/-- Records in one block of a zone (Table 19-2). -/
def perBlock : Zone → Nat
  | .ledger => 15 | .events => 127 | .marks => 127

/-- The three zones. -/
def allZones : List Zone := [.ledger, .events, .marks]

/-- A zone holds fewer than two erased blocks (RESERVE_LOW, Table 19-6). -/
def reserveLow (s : State) : Bool := allZones.any fun z => (zoneOf s.flash z).free.length < 2

/-- Blocks that a zone holds (R475). -/
def zoneBlocks (x : FlashZone) : Nat := x.used.length + x.free.length + x.dirty.length + (if x.erasing.isSome then 1 else 0)

/-- Erase counts of a zone's blocks. -/
def zoneCounts (x : FlashZone) : List Nat := x.used.map (·.erases) ++ x.free ++ x.dirty ++ x.erasing.toList

/-- Erase counts of every block of log flash (R475). -/
def allCounts (s : State) : List Nat :=
  zoneCounts s.flash.ledger ++ zoneCounts s.flash.events ++ zoneCounts s.flash.marks ++ s.flash.reserve

/-- The least of a list of erase counts; 0 of none. -/
def leastOf : List Nat → Nat
  | [] => 0
  | a :: l => l.foldl min a

/-- The block with the lowest erase count, and the others (R476); none of an empty list. -/
def takeLeast (l : List Nat) : Option (Nat × List Nat) := if l.isEmpty then none else some (leastOf l, l.erase (leastOf l))

/-- The records of the oldest block of a zone are removed, and the oldest index advances (R477). -/
def dropOldest (z : Zone) (s : State) : State :=
  match z with
  | .ledger =>
    let o := satAdd s.bil.oldestIndex 15
    { s with bil := { s.bil with oldestIndex := o, ledger := s.bil.ledger.filter fun x => o.toNat ≤ x.record.index.toNat } }
  | .events =>
    let o := satAdd s.flash.eventOldest 127
    { s with flash := { s.flash with eventOldest := o, log := s.flash.log.filter fun x => o.toNat ≤ x.1.toNat } }
  | .marks => s

/-- Each retirement sets ZONE_SHRUNK and is logged (R479). -/
def noteRetired (z : Zone) (s : State) : State := logEvent (.zoneShrunk z) { s with bgd := { s.bgd with zoneShrunk := true } }

/-- A block to replace a retired one: from the reserve, then from the events zone down to 32 blocks, then from the ledger zone down
to 280 (R479). -/
def replacement (s : State) : Option (Nat × State) :=
  match takeLeast s.flash.reserve with
  | some x => some (x.1, { s with flash := { s.flash with reserve := x.2 } })
  | none =>
    let give (z : Zone) (least : Nat) : Option (Nat × State) :=
      let b := zoneOf s.flash z
      if zoneBlocks b ≤ least then none else (takeLeast b.free).map fun x => (x.1, setZone z { b with free := x.2 } s)
    match give .events 32 with
    | some x => some x
    | none => give .ledger 280

/-- The newest block of a zone fails to program (R479): its records move to the replacement. Without one, writes fail. -/
def retireNewest (z : Zone) (s : State) : State :=
  match replacement s with
  | none => noteRetired z { s with flash := { s.flash with writable := false } }
  | some r => 
    let x := zoneOf r.2.flash z
    noteRetired z (setZone z { x with used := x.used.dropLast ++ x.used.getLast?.toList.map ({ · with erases := r.1, headerOk := true }) } r.2)

/-- A free block of a zone is retired (R479): its replacement is erased. -/
def retireFree (z : Zone) (s : State) : State :=
  match replacement s with
  | none => noteRetired z { s with flash := { s.flash with writable := false } }
  | some r => let x := zoneOf r.2.flash z; noteRetired z (setZone z { x with free := x.free ++ [r.1] } r.2)

/-- The header of the block that follows the newest one (R475, R477): the next logical block. -/
def nextBlock (x : FlashZone) (erases : Nat) : FlashBlock :=
  ⟨match x.used.getLast? with | none => 0 | some b => b.logical + 1, erases, true⟩

/-- One record takes its place in the newest block of its zone, or in the erased block with the lowest erase count (R476). Without one
it cannot be written. -/
def takePlace (z : Zone) (s : State) : State :=
  let x := zoneOf s.flash z
  let ok (b : Bool) : State := logHeldDue { s with flash := { s.flash with writable := b } }
  if x.fill < perBlock z then setZone z { x with fill := x.fill + 1 } (ok true)
  else match takeLeast x.free with
    | none => ok false
    | some r => setZone z { x with fill := 1, used := x.used ++ [nextBlock x r.1], free := r.2 } (ok true)

/-- The erase count of the block that an erase takes: the free one of the lowest erase count that is not erased, else the oldest, whose
records are removed first (R476, R477). -/
def takeForErase (z : Zone) (s : State) : Option (Nat × State) :=
  let x := zoneOf s.flash z
  match takeLeast x.dirty with
  | some r => some (r.1, setZone z { x with dirty := r.2 } s)
  | none => match x.used with
    | c :: d :: r => some (c.erases, setZone z { x with used := d :: r } (dropOldest z s))
    | _ => none

/-- The block map keeps a block (R487): its header passes its CRC, and no other block with a valid header claims the same logical block
with a higher erase count. -/
def keepsPlace (l : List FlashBlock) (b : FlashBlock) : Bool :=
  b.headerOk && !l.any fun o => o.headerOk && o.logical == b.logical && b.erases < o.erases

/-- The records of the logical blocks that a zone still maps; the others are no longer there to read (R475, R487). -/
def dropUnmapped (z : Zone) (gone : List Nat) (s : State) : State :=
  match z with
  | .ledger => { s with bil := { s.bil with ledger := s.bil.ledger.filter fun x => !gone.contains (x.record.index.toNat / 15) } }
  | .events => { s with flash := { s.flash with log := s.flash.log.filter fun x => !gone.contains ((x.1.toNat - 1) / 127) } }
  | .marks => s

/-- A zone's map rebuilt from its headers (R487): a block that it does not keep is free and unerased. -/
def judgeHeaders (z : Zone) (s : State) : State :=
  let x := zoneOf s.flash z
  let kept := x.used.filter (keepsPlace x.used)
  let lost := x.used.filter fun b => !keepsPlace x.used b
  let gone := (lost.map (·.logical)).filter fun n => !kept.any fun b => b.logical == n
  dropUnmapped z gone (setZone z { x with used := kept, dirty := x.dirty ++ lost.map (·.erases) } s)

/-- SEC's flash controller rebuilds the block map from the headers: an erase cut short is done again, and a zone without an erased block
erases one as foreground work (R485, R487, R488). -/
def flashStart (s : State) : State :=
  allZones.foldl (fun s z =>
    let s := judgeHeaders z s
    let x := zoneOf s.flash z
    let again := x.erasing.toList.map (· + 1)
    let s := setZone z { x with erasing := none, suspended := false, free := x.free ++ again } s
    if (zoneOf s.flash z).free.isEmpty then
      match takeForErase z s with
      | none => s
      | some r => setZone z { zoneOf r.2.flash z with free := [r.1 + 1] } r.2
    else s) s

/-- Every running erase stops with the engines in the brown-out sequence and is abandoned (R485). -/
def abandonErases (s : State) : State :=
  allZones.foldl (fun s z =>
    let x := zoneOf s.flash z
    setZone z { x with suspended := x.erasing.isSome } s) { s with bgd := { s.bgd with active := 0 } }

/-- LogFlashWearPct (R478). -/
def wearPct (s : State) : Nat := min 255 ((allCounts s).foldl max 0 * 100 / 100000)

/-- BGD_STAT (Table 19-6). -/
def bgdStatWord (s : State) : Word :=
  let b := s.bgd
  fields [(b.enabled.toNat, 0), (b.suspended.toNat, 4), (b.active.toNat, 8), (bit b.scrubLate, 12), (bit b.codeFail, 13),
    (bit (reserveLow s), 14), (bit b.zoneShrunk, 15)]

/-- BGD_SCRUB (Table 19-7). -/
def bgdScrubWord (s : State) : Word := fields [(s.bgd.sramWord.toNat, 0), (s.bgd.codeBlock.toNat, 18)]

/-- BGD_FLASH (Table 19-7): counts beyond a field read as its highest value; 0, its reset value, until BGD comes up. -/
def bgdFlashWord (s : State) : Word :=
  if !isUp s .bgd then 0
  else fields [(s.flash.reserve.length, 0), (min 255 s.flash.ledger.free.length, 8), (min 255 s.flash.events.free.length, 16)]

end Sys2Proof.Machine
end

