-- ==== Sys2Proof/Machine/RestoreOps.lean ====
section
/-! DEFINITION. What a start restores (03, 04, 13, 14): SEC's load of OTP, the precedence of R122, pending closes, the clock, grants
and sequence numbers. -/

namespace Sys2Proof.Machine

/-- A majority of three copies, bit by bit (R113, R341). -/
def majority (v : Vector Byte 3) : Byte := (v[0] &&& v[1]) ||| (v[0] &&& v[2]) ||| (v[1] &&& v[2])

/-- The three copies disagree. -/
def disagree (v : Vector Byte 3) : Bool := v[0] != v[1] || v[0] != v[2]

/-- Entry records parse exactly: lengths 1 to 32, addresses strictly ascending (R575). -/
def recordsParse (l : List Entry) : Bool :=
  l.all (fun e => 1 ≤ e.value.length && e.value.length ≤ 32)
    && (l.zip (l.drop 1)).all (fun p => p.1.addr.toNat < p.2.addr.toNat)

/-- A configuration block's content is valid (R575). -/
def blockValid (n : Nat) (b : ConfigBlock) : Bool :=
  b.crcOk && b.format == 0x4801 && b.gen.toNat == n && b.restZero && b.flags.toNat ≤ 1 && b.count.toNat == b.records.length
    && recordsParse b.records && b.length.toNat == (recordsBytes b.records).length && b.length.toNat ≤ 488

/-- A retained copy is valid (R575). -/
def copyValid (c : RetCopy) : Bool :=
  c.crcOk && c.format == 0x5201 && c.restZero && c.count.toNat == c.records.length && recordsParse c.records
    && c.length.toNat == (recordsBytes c.records).length && c.length.toNat ≤ 1008

/-- Bit n: generation n is valid: begun, done, and its block valid. -/
def validMap (o : Otp) : Byte :=
  (List.range 8).foldl (fun m n =>
    if (majority o.begun).getLsbD n && (majority o.done).getLsbD n && blockValid n (o.blocks.toList.getD n {}) then setBit m n else m) 0

/-- The highest bit set of a byte, 0 where none is. -/
def highest (b : Byte) : Nat := (List.range 8).foldl (fun a n => if b.getLsbD n then n else a) 0

/-- TYPE and LENGTH of each slot (Table 14-2). -/
def slotForm (n : Nat) : Nat × Nat := [(1, 32), (2, 64), (3, 32), (4, 32), (4, 32), (0, 0)].getD n (0, 0)

/-- Slot n passes R364. -/
def slotPasses (o : Otp) (n : Nat) : Bool :=
  let k := o.slots.toList.getD n {}
  k.crcOk && k.reservedZero && k.type.toNat == (slotForm n).1 && k.length.toNat == (slotForm n).2
    && k.key.length == (slotForm n).2

/-- SEC_CFG_STAT's fields from OTP (Table 4-4). -/
def loadCfgStat (s : State) : State :=
  let o := s.otp
  let v := validMap o
  { s with cfg := { s.cfg with
    begun := majority o.begun, done := majority o.done, valid := v, newest := BitVec.ofNat 3 (highest v)
    ptrCorr := disagree o.begun || disagree o.done } }

/-- SEC comes up (R341, R364, R365, Table 4-4): pointers, locks and slots are checked, and Yew is empty. -/
def secLoad (s : State) : State :=
  let o := s.otp
  let s := loadCfgStat s
  let ok : BitVec 6 := [0, 1, 2, 3, 4].foldl (fun m n => if slotPasses o n then setBit m n else m) 0
  let s := { s with sec := { s.sec with
    locked := (majority o.locks).setWidth 6, lockCorr := disagree o.locks, slotOk := ok, ctx := .none, yew := [], usesLeft := 0
    signFault := false, jobs := [], wait := false } }
  let s := if s.cfg.ptrCorr then logEvent (.persistence 4) s else s
  flashStart ([0, 1, 2, 3, 4].foldl (fun s n => if slotPasses o n then s else logEvent (.keyFault n) s) s)

/-- SOURCE, lineage and entries that R122 chooses; none when generation 0 is invalid (Table 4-6). copiesToo is false for
ConfigRevert (R124). -/
def chooseSource (copiesToo : Bool) (s : State) : Option (BitVec 3 × Nat × List Entry) :=
  let newest := s.cfg.newest.toNat
  let usable (c : RetCopy) : Bool := copiesToo && copyValid c && newest ≤ c.gen.toNat
  let a := usable s.copyA
  let b := usable s.copyB
  if !s.cfg.valid.getLsbD 0 then none
  else if a && (!b || !(0 < (s.copyB.seq - s.copyA.seq).toInt)) then some (0, s.copyA.gen.toNat, s.copyA.records)
  else if b then some (1, s.copyB.gen.toNat, s.copyB.records)
  else if 0 < newest then some (2, newest, generationEntries s newest)
  else some (3, 0, generationEntries s 0)

/-- The SEQ of the next write of the copies: above that of the later valid copy (Table 4-3). DESIGN CHOICE: where neither copy is valid it
is 1; R122 names no value. -/
def nextCopySeq (s : State) : Word :=
  if copyValid s.copyA && (!copyValid s.copyB || !(0 < (s.copyB.seq - s.copyA.seq).toInt)) then s.copyA.seq + 1
  else if copyValid s.copyB then s.copyB.seq + 1
  else 1

/-- The running settings take a choice, and both copies are rewritten from it (R122). -/
def takeChoice (c : BitVec 3 × Nat × List Entry) (rewrite : Bool) (s : State) : State :=
  let seq := nextCopySeq s
  let s := { s with
    set := { s.set with
      running := c.2.2.foldl putEntry (generationEntries s 0), generation := BitVec.ofNat 8 c.2.1 }
    boot := { s.boot with source := c.1, gen := BitVec.ofNat 3 c.2.1 } }
  let s := { s with set := { s.set with dirty := computeDirty s } }
  if rewrite then { s with copyA := copyOf s seq, copyB := copyOf s seq } else s

/-- R123 after a choice, once a seal word has been accepted (R90). -/
def boundIfSealed (s : State) : State := if s.safe.sealAccepted then sealBounding s else s

/-- What Table 4-6 logs at a restore (R129). -/
def logChoice (s0 : State) (s : State) : State :=
  let a := copyValid s0.copyA
  let b := copyValid s0.copyB
  let newest := s0.cfg.newest.toNat
  let gone (c : RetCopy) : Bool := !copyValid c || c.gen.toNat < newest
  let s := if a != b then logEvent (.persistence 1) s else s
  let s := if gone s0.copyA && gone s0.copyB && !s0.pwr.fromNothing then logEvent (.persistence 2) s else s
  if newest < highest s0.cfg.done then logEvent (.persistence 3) s else s

/-- The accumulators that MET starts from: those of the newest record, held and pending ones included (R309). -/
def loadAccumulators (s : State) : State :=
  let r := (s.bil.held ++ s.bil.closed).getLast?
  let im := (r.map (·.imports)).getD s.bil.lgImports
  let re := (r.map (·.reactive)).getD s.bil.lgReactive
  { s with met := { s.met with
      eimp := Vector.ofFn fun i => (im.getD i.val 0).setWidth 64
      evar := Vector.ofFn fun i => (re.getD i.val 0).setWidth 64 } }

/-- The newest record: held, closed or in the ledger. -/
def newestRecord (s : State) : Option Record :=
  match (s.bil.held ++ s.bil.closed).getLast? with
  | some r => some r
  | none => s.bil.ledger.getLast?.map (·.record)

/-- A record of KIND 09h (R336): START is the END of the newest record, IMPORT and REACTIVE are those of the newest record. -/
def incompleteRecord (s : State) : Record :=
  let n := newestRecord s
  let start := (n.map (·.endT)).getD s.bil.openRec.start
  { kind := .incomplete, trusted := s.bil.trusted, loss := true, incomplete := true, threePhase := threePhase s
    default := s.bil.default, index := nextIndex s, start := start, endT := s.bil.clock
    subs := [⟨0, s.bil.inForce, s.bil.input⟩], intervalMin := BitVec.ofNat 8 (setting? s 5 0), lossWh := 0xFFFF
    tsCounter := s.bil.tsCounter
    imports := (n.map (·.imports)).getD (List.replicate 12 0), reactive := (n.map (·.reactive)).getD (List.replicate 3 0) }

/-- The genesis record of a new part (R338, Table 13-4). -/
def genesisRecord (s : State) : Record :=
  { kind := .genesis, trusted := s.bil.trusted, threePhase := threePhase s, default := s.bil.default
    start := s.bil.clock, endT := s.bil.clock, subs := [⟨0, s.bil.inForce, s.bil.input⟩]
    intervalMin := BitVec.ofNat 8 (setting? s 5 0), tsCounter := s.bil.tsCounter }

/-- Closed records are written, oldest first (R320, R331). -/
def writeClosed (s : State) : State :=
  s.bil.closed.foldl (fun s r => writeRecord r s) { s with bil := { s.bil with closed := [], closedFresh := 0 } }

/-- No record can be signed now and four are held already (R334). -/
def noSpace (s : State) : Bool := 4 ≤ s.bil.held.length

/-- With four records held, a start makes no fifth one (R334): the record of the area runs on as the open one, with its LOSS unknown where
its accumulators were lost. DEDUCED. -/
def areaRunsOn (s : State) : State :=
  let lost := s.bil.pendState == .open || !s.bil.pendCrcOk
  { s with bil := { s.bil with
    pendState := .open, pendCrcOk := true
    openRec := if lost then { s.bil.openRec with incomplete := true, loss := true, lossWh := 0xFFFF } else s.bil.openRec } }

/-- The pending-close area at a start (R100, R335, R336, R338); its failed check is logged (R121). After an AON start from nothing no
incomplete record is made: DEDUCED from Table 13-7. -/
def completeArea (s : State) : State :=
  let s := writeClosed (writeHeld s)
  let s := if !s.bil.pendCrcOk && s.bil.genesisDone && !s.pwr.fromNothing then logEvent (.persistence 8) s else s
  if s.pwr.fromNothing then s
  else if noSpace s && (s.bil.pendState == .pending || s.bil.pendState == .open || !s.bil.pendCrcOk) then areaRunsOn s
  else if s.bil.pendState == .pending && s.bil.pendCrcOk then
    let s := writeRecord s.bil.openRec s
    { s with bil := { s.bil with pendState := .written }, boot := { s.boot with pendingClose := true } }
  else if s.bil.pendState == .open || (!s.bil.pendCrcOk && s.bil.genesisDone) then
    let s := writeRecord (incompleteRecord s) s
    { s with bil := { s.bil with pendState := .written, pendCrcOk := true } }
  else s

/-- The clock after an AON start from nothing (R338), and the genesis record of a new part. -/
def seedClock (s : State) : State :=
  let n := newestRecord s
  let s := if s.pwr.fromNothing then
      { s with bil := { s.bil with
        clock := (n.map (·.endT)).getD 0, valid := true, trusted := false, untrustedSince := s.bil.running
        tsCounter := (n.map (·.tsCounter)).getD 0 } }
    else s
  let s := refreshCode s
  if n.isNone then writeRecord (genesisRecord s) s else s

/-- A failed check of one area is logged, except after an AON start from nothing (R121). -/
def noteArea (code : Nat) (s : State) : State := if s.pwr.fromNothing then s else logEvent (.persistence code) s

/-- The grant area was lost (R352, R355, R365): no grant, an empty table, and the token counter resumes at its mark plus 256. -/
def loseGrants (s : State) : State :=
  { s with
    od := { s.od with tokenCounter := s.od.markToken + 256 }
    ses := { s.ses with grant := none, inUse := false, table := [], tableLost := !s.bil.trusted } }

/-- The protocol area was lost (R142, R159, R420). OdServiceEpoch restarts from 0, and TS_COUNTER is that of the newest record. -/
def loseProtocol (s : State) : State :=
  { s with
    od := { s.od with
      txSeq := s.od.markTx + 4096, floor := some (s.od.markNode0 + 4096), winNode0 := {}, winMbx := {}, serviceEpoch := 0 }
    bil := { s.bil with tsCounter := ((newestRecord s).map (·.tsCounter)).getD 0 }
    net := { s.net with bcastSeq := 0, bcastLost := true } }

/-- The device RT area was lost: each of its entries takes its Default (Table 4-7). ClockTrusted and LastResetCause are in AON. -/
def loseDeviceRt (s : State) : State :=
  { s with
    bil := { s.bil with lastAdjustMs := 0, changes := 0 }
    ses := { s.ses with stop := 0, energyWh := 0, start := 0 }
    swg := { s.swg with contactorOps := 0, desatTrips := 0 }
    lck := { s.lck with faults := 0 }
    rcd := { s.rcd with trips := 0 }
    safe := { s.safe with cause := 0, entries := 0 }
    adc := { s.adc with converterErrors := 0 }
    aud := { s.aud with faults := 0 }
    sec := { s.sec with mirrorCount := 0 }
    bgd := { s.bgd with corrected := 0, uncorrectable := 0 }
    tst := { s.tst with result := 0, time := 0 }
    flash := { s.flash with eventCount := 0 } }

/-- Held-ledger slots in INDEX order, each with its check: a record behind discarded slots takes INDEX and START of the first of them,
and what no record has taken yet waits for the next record written (Table 4-7). -/
def keepSlots (d : Option (Word × Time)) : List (Record × Bool) → List Record × Option (Word × Time)
  | [] => ([], d)
  | (r, true) :: l => let p := keepSlots none l; (afterDiscarded d r :: p.1, p.2)
  | (r, false) :: l => keepSlots (some (d.getD (r.index, r.start))) l

/-- The slots of held ledger records are checked (R121, R334): held records, then closed ones that are not yet written. -/
def checkSlots (s : State) : State :=
  let keep := keepSlots s.bil.discarded ((s.bil.held ++ s.bil.closed).zip s.areas.held.toList)
  let n := ((s.bil.held.zip s.areas.held.toList).filter (·.2)).length
  let bad := (List.range 4).filter fun i => i < s.bil.held.length + s.bil.closed.length && !s.areas.held.toList.getD i true
  bad.foldl (fun s _ => noteArea 12 s)
    { s with bil := { s.bil with held := keep.1.take n, closed := keep.1.drop n, discarded := keep.2 } }

/-- The areas of Table 4-7 are checked at the row where settings are restored: a failed check affects only its area (R121). -/
def checkAreas (s : State) : State :=
  let a := s.areas
  let s := readUpdateArea s
  let s := if a.grant then s else noteArea 7 (loseGrants s)
  let s := if a.protocol then s else noteArea 9 (loseProtocol s)
  let s := if a.deviceRt then s else noteArea 10 (loseDeviceRt s)
  let s := if a.evidence then s else noteArea 11 { s with safe := { s.safe with evidence := [], lost := 0 } }
  let s := if a.held = Vector.replicate 4 true then s else checkSlots s
  { s with areas := {} }

/-- Sequence numbers, token counter and grant table after retained RAM was lost (R142, R159, R352, R355, R420). -/
def recoverNumbers (s : State) : State :=
  if s.pwr.fromNothing && s.od.txSeq = 0 then loseProtocol (loseGrants s) else s

/-- Stop reason 7 for a session that the reset cut, and its grant (R42, R93). No grant is in use here: a reset leaves none (R42). -/
def recordCut (s : State) : State :=
  let s := if s.pwr.sessionCut then { s with ses := { s.ses with stop := 7 } } else s
  match s.ses.grant with
  | none => s
  | some g =>
    let inTable := ((s.ses.table.find? fun x => x.grantId == g.grantId).map (·.remaining.toNat)).getD g.remaining.toNat
    let rem := min g.remaining.toNat inTable
    let g' := { g with remaining := BitVec.ofNat 32 rem }
    let keep := 0 < rem && !grantExpired s g
    let s := { s with ses := { s.ses with grant := if keep then some g' else none, table := putTable g rem s.ses.table } }
    if keep then s else logEvent .grantDiscarded s

/-- ITEMS of a BIST run: islands that failed march or scan (Table 20-2). -/
def bistItems (s : State) : Nat := (s.tst.logicFail ||| s.tst.memFail).toNat

/-- Results of a BIST run are copied (R498 step 6, R505). -/
def copyBist (s : State) : State :=
  if s.tst.copyDue then
    logEvent (.selfTest s.tst.code s.tst.outcome) { s with tst := { s.tst with
      copyDue := false, result := resultWord s.tst.code s.tst.outcome (bistItems s), time := s.tst.endSec.setWidth 48 <<< 16 } }
  else s

/-- Calibration constants as the settings hold them (R303, R309). -/
def calFromSettings (s : State) : MetCal :=
  { vGain := Vector.ofFn fun p => BitVec.ofNat 32 (setting? s 0x10 (0x40 + p.val))
    iGain := Vector.ofFn fun c => BitVec.ofNat 32 (setting? s 0x10 (0x44 + c.val))
    trim := Vector.ofFn fun c => BitVec.ofNat 32 (setting? s 0x10 (0x48 + c.val))
    ledConstant := BitVec.ofNat 16 (setting? s 0x10 0x30) }

/-- Generation 0 is invalid (Table 4-6): the failure is logged and the start hold becomes the safe state with cause 0601h. -/
def restoreFails (s : State) : State :=
  let s := logEvent (.persistence 5) s
  report 0x601 { s with
    live := { s.live with standing := 0x601 :: s.live.standing }, pwr := { s.pwr with restoreFailed := true } }

/-- What every start's restore does beside the settings: the retained areas are checked, sequence numbers recovered, and OdServiceEpoch
rises for this reset (R121, R142, R159, Table 5-11). The OD is served from here on (R163). -/
def restoreProtocol (s : State) : State :=
  let s := recoverNumbers (checkAreas s)
  { s with od := { s.od with serviceEpoch := nextServiceEpoch s.od.serviceEpoch } }

/-- What a normal start's restore does with the settings in force (R90, R93, R100, R309, R336, R338, R365, R498). -/
def restoreBilling (s : State) : State :=
  let s := loadAccumulators (completeArea s)
  let s := copyBist (recordCut (seedClock s))
  let cal := calFromSettings s
  recompute { s with met := { s.met with cal := cal, calNext := cal }, pwr := { s.pwr with fromNothing := false } }

/-- SETTINGS_RESTORE at a normal start (R90, R93, R100, R122, R129, R336, R338, R365, R498). -/
def restoreNormal (s : State) : State :=
  match chooseSource true s with
  | none => restoreBilling (restoreFails (restoreProtocol s))
  | some c =>
    let s := restoreProtocol (boundIfSealed (logChoice s (takeChoice c true s)))
    restoreBilling { s with
      pwr := { s.pwr with settingsRestored := true }
      boot := { s.boot with stage := if s.boot.stage = 0xF then 0xF else 5 } }

/-- In the loader state the settings are restored and only read (R517): neither copy is rewritten and the ledger stays as it is.
DESIGN CHOICE: the restore itself is not bounded by the seal, since R517 names R122 alone; a seal word accepted later bounds the running
settings as R123 says. -/
def restoreLoader (s : State) : State :=
  match chooseSource true s with
  | none => restoreFails (restoreProtocol s)
  | some c =>
    let s := restoreProtocol (logChoice s (takeChoice c false s))
    { s with pwr := { s.pwr with settingsRestored := true } }

end Sys2Proof.Machine
end

