-- ==== Sys2Proof/Machine/Billing.lean ====
section
/-! DEFINITION. The tariffs, clock and billing family (13): tariff inputs, the RTC, interval boundaries, the ledger's writes. -/

namespace Sys2Proof.Machine

/-- Samples over which RAW must be unchanged: TariffDebounceMs in whole samples of 32 AON cycles, rounded up (R310). -/
def debounceSamples (s : State) : Nat := (setting? s 4 3 * 1024 + 999) / 1000

/-- TARIFF_SAMPLE (R310): a pad read low gives 1, before TariffInputInvert. -/
def execTariffSample (tariff0High tariff1High : Bool) (s : State) : Host.Outcome State Fault Refusal :=
  let raw := BitVec.ofNat 2 (bit (!tariff0High) + 2 * bit (!tariff1High)) ^^^ BitVec.ofNat 2 (setting? s 4 4)
  done { s with bil := { s.bil with raw := raw, rawSame := if raw = s.bil.raw then min 5120 (s.bil.rawSame + 1) else 0 } }

/-- TARIFF_DEBOUNCE (R310, R311): a raw change that is shorter than the debounce is ignored. -/
def execTariffDebounce (s : State) : Host.Outcome State Fault Refusal :=
  done (guarded (debounceSamples s ≤ s.bil.rawSame) (fun s => refreshCode { s with bil := { s.bil with input := s.bil.raw } }) s)

/-- The slew's share of one tick (R316): one count of 2 / 65 536 s is added or withheld in every 200 ticks. -/
def slewTick (s : State) : State :=
  let b := s.bil
  if b.slewCounts = 0 then { s with bil := { b with clock := b.clock + 2 } }
  else if b.slewTicks.toNat + 1 < 200 then { s with bil := { b with clock := b.clock + 2, slewTicks := b.slewTicks + 1 } }
  else
    let c := b.slewCounts
    let left : Int := if 2 ≤ c then c - 2 else if c ≤ -2 then c + 2 else 0
    let step : Time := if 2 ≤ c then 4 else if c ≤ -2 then 0 else 2
    let left := if left.natAbs < 2 then 0 else left
    { s with bil := { b with clock := b.clock + step, slewTicks := 0, slewCounts := left, slewLeft := slewUnits left } }

/-- AUTO_LEFT rises again as 60 min move on (R261, Table 10-10). -/
def autoRecover (s : State) : State :=
  let l := s.safe.autoTimes.filter fun t => s.bil.running < t + 3600 * 32768
  { s with safe := { s.safe with autoTimes := l, autoLeft := BitVec.ofNat 2 (3 - min 3 l.length) } }

/-- RTC_TICK (R313, R316). -/
def execRtcTick (s : State) : Host.Outcome State Fault Refusal :=
  let s := slewTick s
  done (autoRecover { s with bil := { s.bil with running := s.bil.running + 1 } })

/-- TRUST_LOST (R314, Table 13-4): the record closes with KIND 04h at the moment of the loss. -/
def execTrustLost (s : State) : Host.Outcome State Fault Refusal :=
  done (guarded (s.bil.trusted && !s.sup.rtcXtalOk) (fun s =>
    trustOpens s (setTrust false (closeRecord .trustLost s.bil.clock s.bil.clock 0 s))) s)

/-- INTERVAL_BOUNDARY (R320, R321). -/
def execIntervalBoundary (s : State) : Host.Outcome State Fault Refusal := done (closeDue s.bil.clock s)

/-- LEDGER_RECORD_WRITE (R320, R334): the oldest closed record whose period has ended, or any while MET is out of service. -/
def execLedgerRecordWrite (s : State) : Host.Outcome State Fault Refusal :=
  match s.bil.closed with
  | [] => done s
  | r :: l => done (guarded (isUp s .seq && (s.bil.closedFresh ≤ l.length || !isUp s .met)) (fun s =>
      writeRecord r { s with bil := { s.bil with closed := l, closedFresh := min s.bil.closedFresh l.length } }) s)

/-- HELD_RECORD_WRITE (R334): the oldest held record is signed and written. -/
def execHeldRecordWrite (s : State) : Host.Outcome State Fault Refusal :=
  match s.bil.held with
  | [] => done s
  | r :: l => done (guarded (canSign s) (fun s => appendRecord r { s with bil := { s.bil with held := l } }) s)

end Sys2Proof.Machine
end

