-- ==== Sys2Proof/Machine/PilotSession.lean ====
section
/-! DEFINITION. The pilot and proximity family (07): pilot periods, measurement windows, the pilot fault hold, proximity and
the logs of R188 and R198. -/

namespace Sys2Proof.Machine

/-- A PWM stop or start and a new duty take effect at a period start (R178). Break step 5 completes with the stop. -/
def periodStart (s : State) : State :=
  let s := { s with plt := { s.plt with faultFresh := false } }
  let was := s.plt.level
  if was == .stateF then s
  else
    let lv := s.plt.nextLevel
    let d := if lv == .pwm then (if s.plt.next = 0 then s.plt.duty else s.plt.next) else 0
    let s := { s with plt := { s.plt with
      level := lv, duty := d, next := 0, digital := lv == .pwm && d == 100
      lowMv := if lv == .pwm then s.plt.lowMv else 0, diodeCount := if lv == .pwm then s.plt.diodeCount else 0 } }
    if s.ses.phase == .break && s.ses.breakStep = 5 && lv != .pwm then finishBreak s else s

/-- PILOT_PERIOD_START (R178). -/
def execPilotPeriodStart (s : State) : Host.Outcome State Fault Refusal := done (guarded (isUp s .tmr) periodStart s)

/-- Lower boundaries of Table 7-2 from A to E; below the last one lies out of band. -/
def pilotBand (mv : Int) : PilotState :=
  if 10500 ≤ mv then .a else if 7500 ≤ mv then .b else if 4500 ≤ mv then .c else if 1500 ≤ mv then .d
  else if -1500 ≤ mv then .e else .outOfBand

/-- The band of the present state, widened by 300 mV on both sides (R182). -/
def inPresentBand (st : PilotState) (mv : Int) : Bool :=
  match st with
  | .a => 10200 < mv
  | .b => 7200 < mv && mv < 10800
  | .c => 4200 < mv && mv < 7800
  | .d => 1200 < mv && mv < 4800
  | .e => -1800 < mv && mv < 1800
  | .outOfBand => mv < -1200
  | .f => false
  | .none => false

/-- What a positive reading counts as (R182). -/
def readingOf (st : PilotState) (mv : Int) : PilotState := if inPresentBand st mv then st else pilotBand mv

/-- A pilot fault (R193): latched, Break or the end of a paused session with reason 5, then state F level for 3 s. -/
def raisePilotFault (n : Nat) (s : State) : State :=
  let already := (n = 0 && s.plt.diodeFault) || (n = 1 && s.plt.eFault) || (n = 2 && s.plt.bandFault)
  if already then s
  else
    let s := logEvent (.pilotFault (setBit 0 n)) { s with plt := { s.plt with
      faultFresh := true, diodeFault := s.plt.diodeFault || n == 0, eFault := s.plt.eFault || n == 1, bandFault := s.plt.bandFault || n == 2 } }
    if s.plt.level == .pwm || s.plt.nextLevel == .pwm then stopSession 5 { s with plt := { s.plt with holdDue := true } }
    else
      let s := stopSession 5 s
      { s with plt := { s.plt with holdF := true, level := .stateF, nextLevel := .stateF, duty := 0, next := 0 } }

/-- A session runs or is paused, or a pilot or proximity fault has ended it in this pilot period: a second such fault is logged too (R195). -/
def faultCounts (s : State) : Bool := sessionOn s || s.plt.faultFresh

/-- What a new classification brings about (R30, R187, R193, R196, Table 1-2, Table 17-3). -/
def onClassified (old new : PilotState) (s : State) : State :=
  let s := if new == .a then
      let s := { s with plt := { s.plt with diodeFault := false, eFault := false, bandFault := false } }
      if s.ses.phase == .connected || s.ses.phase == .ended then { s with ses := { s.ses with phase := .idle } } else s
    else s
  let s := if (new == .b || new == .c || new == .d) && s.ses.phase == .idle then { s with ses := { s.ses with phase := .connected } } else s
  let s := if new == .b && s.ses.grant.isNone && old != .b then eventPrompt 1 s else s
  if new == .e && (s.plt.level == .pwm || faultCounts s) then raisePilotFault 1 s
  else if new == .outOfBand && faultCounts s then raisePilotFault 2 s
  else if !sessionOn s then s
  else match s.ses.phase with
    | .charging => if new == .c || new == .d then s else stopSession 1 s
    | .make => if new == .c || new == .d then s else stopSession 1 s
    | .break => if new == .c || new == .d || s.ses.breakStop != 0 || new != .a then s else stopSession 1 s
    | _ => if new == .a then stopSession 1 s else s

/-- Three consecutive readings change the classification (R183). -/
def classify (x : PilotState) (s : State) : State :=
  if x == s.plt.state then { s with plt := { s.plt with count := 0, candidate := x } }
  else
    let n := if x == s.plt.candidate then s.plt.count.toNat + 1 else 1
    if 3 ≤ n then
      onClassified s.plt.state x { s with plt := { s.plt with state := x, count := 3, candidate := x } }
    else { s with plt := { s.plt with count := BitVec.ofNat 2 n, candidate := x } }

/-- The diode check of a negative plateau (R184). -/
def diodeCheck (mv : Int) (s : State) : State :=
  if mv ≤ -10500 then
    { s with plt := { s.plt with diodeCount := 0 }, ses := { s.ses with diodePassed := s.ses.diodePassed + 1 } }
  else if 2 ≤ s.plt.diodeCount.toNat then
    raisePilotFault 0 { s with plt := { s.plt with diodeCount := 3 }, ses := { s.ses with diodePassed := 0 } }
  else { s with plt := { s.plt with diodeCount := s.plt.diodeCount + 1 }, ses := { s.ses with diodePassed := 0 } }

/-- A reading at state F level (R183): three of −10 500 mV or below classify F; a reading above that is of no state and counts
as the present one. No fault of R193 and no session rule follows (R196). DEDUCED: R183's count holds for F as for the rest. -/
def classifyF (mv : Int) (s : State) : State :=
  if s.plt.state == .f || -10500 < mv then { s with plt := { s.plt with count := 0, candidate := s.plt.state } }
  else
    let n := if s.plt.candidate == .f then s.plt.count.toNat + 1 else 1
    if 3 ≤ n then { s with plt := { s.plt with state := .f, count := 3, candidate := .f } }
    else { s with plt := { s.plt with count := BitVec.ofNat 2 n, candidate := .f } }

/-- A positive or negative plateau reading (R180 to R184, R196); at state F level the pilot line has one reading a period. -/
def measure (positive : Bool) (mv : BitVec 16) (s : State) : State :=
  if !s.plt.classifying then s
  else if s.plt.level == .stateF then classifyF mv.toInt s
  else if positive then
    let s := { s with plt := { s.plt with highMv := mv } }
    tryStart (classify (readingOf s.plt.state mv.toInt) s)
  else if s.plt.level == .pwm then diodeCheck mv.toInt { s with plt := { s.plt with lowMv := mv } }
  else s

/-- MEASUREMENT_WINDOW (R180). Measurement needs TMR in service and list P running (R197, R279). -/
def execMeasurementWindow (positive : Bool) (mv : BitVec 16) (s : State) : Host.Outcome State Fault Refusal :=
  done (guarded (isUp s .tmr && adcRuns s) (measure positive mv) s)

/-- The 3 s are over (R193): the pilot returns to steady +12 V and is classified again, unless the safe state, the start hold or a
brown-out sequence holds it at state F level (R98, R179). -/
def faultHoldEnds (s : State) : State :=
  if s.safe.active || s.pwr.brown.active then { s with plt := { s.plt with holdF := false } }
  else { s with plt := { s.plt with holdF := false, level := .steady, nextLevel := .steady, count := 0, candidate := s.plt.state } }

/-- PILOT_FAULT_HOLD_END (R193). -/
def execPilotFaultHoldEnd (s : State) : Host.Outcome State Fault Refusal := done (guarded s.plt.holdF faultHoldEnds s)

/-- The resistance of a PP code in Ω: V is code × 2.500 V / 65 536; FFFFh where it has no
bound (R191). -/
def ppOhms (code : Nat) : Nat := if 393216 ≤ 5 * code then 0xFFFF else min 0xFFFF (5000 * code / (393216 - 5 * code))

/-- The band of a resistance (Table 7-4). -/
def ohmsBand (r : Nat) : Band :=
  if r < 75 then .outside else if r < 160 then .a63 else if r < 440 then .a32 else if r < 1100 then .a20
  else if r < 2460 then .a13 else if r ≤ 4500 then .outside else .open

/-- The bounds of the present band, in Ω; a band outside every cable band is judged by the boundary nearest to it (R191). -/
def stillInBand (b : Band) (r : Nat) : Bool :=
  match b with
  | .a63 => 75 * 95 < r * 100 && r * 100 < 160 * 105
  | .a32 => 160 * 95 < r * 100 && r * 100 < 440 * 105
  | .a20 => 440 * 95 < r * 100 && r * 100 < 1100 * 105
  | .a13 => 1100 * 95 < r * 100 && r * 100 < 2460 * 105
  | .open => 4500 * 95 < r * 100
  | .outside => r * 100 < 75 * 105 || (2460 * 95 < r * 100 && r * 100 < 4500 * 105)
  | .notMeasured => false

/-- What a taken band brings about (R185, R192, R195, R198). Within a session the rating of its start stays, and a change of a valid band ends
it; outside one the new rating counts at once. -/
def onBand (old new : Band) (s : State) : State :=
  let s := if (bandCode new).2 || new == .open then { s with plt := { s.plt with outsideLogged := false } } else s
  let s := refreshAllowed s
  if faultCounts s && (bandCode old).2 then
    let s := logEvent .bandLost s
    stopSession 5 { s with plt := { s.plt with faultFresh := true } }
  else if sessionOn s then s
  else tryStart (recompute s)

/-- A proximity reading (R191, R192): three that agree take a band. -/
def proximity (code : BitVec 16) (s : State) : State :=
  let r := ppOhms code.toNat
  let b := if stillInBand s.plt.band r then s.plt.band else ohmsBand r
  let n := if b == s.plt.bandCand then s.plt.bandCount + 1 else 1
  let s := { s with plt := { s.plt with bandCand := b, bandCount := min 3 n, ohms := BitVec.ofNat 16 r } }
  let s := if 3 ≤ n && b != s.plt.band then
      let old := s.plt.band
      onBand old b { s with plt := { s.plt with band := b } }
    else s
  if s.plt.band == .open then { s with plt := { s.plt with ohms := 0xFFFF } } else s

/-- PROXIMITY_READ (R191): the result of list S reaches TMR (R275, R279); withheld under R570 and while ADC is out of service (R197). -/
def execProximityRead (code : BitVec 16) (s : State) : Host.Outcome State Fault Refusal :=
  done (guarded (isUp s .tmr && adcRuns s && !s.plt.vrefWithheld) (proximity code) s)

/-- A phase current more than 10 % above the offered current of the running duty (R188, Table 7-3): the Q16.16 current in A against 1.1 times
the offer in 0.01 A. In digital mode the duty codes no current, and the command alone speaks for it. -/
def overdrawn (p : Nat) (s : State) : Bool :=
  s.plt.digital || offeredCentiA s.plt.duty.toNat * 11 * 65536 < (s.met.iRms.toList.getD p 0).toNat * 1000

/-- OVERDRAW_LOG (R188): each declared phase once per session, after 5 s above. -/
def execOverdrawLog (p : Phase3) (s : State) : Host.Outcome State Fault Refusal :=
  let n := phaseNum p
  done (guarded (sessionOn s && !s.ses.overdrawLogged.getLsbD n && (phases s).contains n && overdrawn n s)
    (fun s => logEvent (.overdraw p) { s with ses := { s.ses with overdrawLogged := setBit s.ses.overdrawLogged n } }) s)

/-- PROXIMITY_OUT_OF_BAND_LOG (R198): once, and again only after a valid band or an open reading. -/
def execProximityOutOfBandLog (s : State) : Host.Outcome State Fault Refusal :=
  done (guarded (s.plt.band == .outside && !sessionOn s && !s.plt.outsideLogged)
    (fun s => logEvent .proximityOutside { s with plt := { s.plt with outsideLogged := true } }) s)

end Sys2Proof.Machine
end

