-- ==== Sys2Proof/Machine/SelfTestOps.lean ====
section
/-! DEFINITION. Self-test requests and results (20): Tables 20-1 to 20-3, the parts of code 06h, the resets of a BIST run. -/

namespace Sys2Proof.Machine

/-- A BIST code: 22h to 2Bh or 2Fh (Table 20-1). -/
def isBist (code : Byte) : Bool := (0x22 ≤ code.toNat && code.toNat ≤ 0x2B) || code == 0x2F

/-- A code of Table 20-1. -/
def testCodeOk (code : Nat) : Bool := (1 ≤ code && code ≤ 6) || isBist (BitVec.ofNat 8 code)

/-- Codes that draw BUSY in a session (Table 20-1). -/
def barredInSession (code : Byte) : Bool := code == 1 || code == 3 || code == 6 || isBist code

/-- An outcome is set (R492): SelfTestResult and TST_STAT; outcomes 0 to 4 take ClockTime and are logged. -/
def setOutcome (code : Byte) (o : BitVec 4) (items : Nat) (s : State) : State :=
  let s := { s with tst := { s.tst with code := code, outcome := o, result := resultWord code o items } }
  if o.toNat ≤ 4 then logEvent (.selfTest code o) { s with tst := { s.tst with time := s.bil.clock, waiting := none, part := 0 } }
  else s

/-- The rank of an outcome in code 06h: 1, 3, 2, 4, 0, worst first (R491). -/
def outcomeRank (o : BitVec 4) : Nat := if o = 1 then 4 else if o = 3 then 3 else if o = 2 then 2 else if o = 4 then 1 else 0

/-- The loopback test that waits or runs now, 1 to 5; 0 when none does (R491). -/
def testDue (s : State) : Nat :=
  match s.tst.waiting with
  | none => 0
  | some c => if c == 6 then s.tst.part else if c.toNat ≤ 5 then c.toNat else 0

/-- Test k ends with an outcome: alone, or as a part of code 06h (R491). -/
def testEnds (k : Nat) (o : BitVec 4) (items : Nat) (s : State) : State :=
  if testDue s != k || k == 0 then s
  else if s.tst.waiting == some 6 then
    let w := if outcomeRank s.tst.worst < outcomeRank o then o else s.tst.worst
    let m := if o = 0 then s.tst.items else setBit s.tst.items (k - 1)
    let s := { s with tst := { s.tst with worst := w, items := m, part := k + 1 } }
    if k = 5 then setOutcome 6 w m.toNat s else s
  else setOutcome (BitVec.ofNat 8 k) o items s

/-- The islands of a BIST run in the order of R498. -/
def bistOrder : List Island := [.bgd, .aud, .disp, .plc, .met, .adc, .tmr, .sec, .host, .seq]

/-- The islands that a BIST code requests (Table 20-1). -/
def bistIslands (code : Byte) : List Island :=
  if code == 0x2F then bistOrder else bistOrder.filter fun i => islandNum i + 0x20 == code.toNat

/-- An accepted test starts or waits for its condition (R490, R491). That it shows outcome 6 while it waits is DEDUCED. -/
def beginTest (code : Byte) (s : State) : State :=
  setOutcome code 6 0 { s with tst := { s.tst with
    waiting := some code, held := none, part := if code == 6 then 1 else 0, worst := 0, items := 0 } }

/-- AON keeps PENDING for a BIST run that has been asked for (R498 item 1). -/
def bistRequested (code : Byte) (s : State) : State :=
  { s with tst := { s.tst with pending := true, todo := bistIslands code, logicFail := 0, memFail := 0 } }

/-- The first reset of a BIST run (R498 item 1): it sets OD_RESTART, R335 closes the open record, and AON keeps PENDING. -/
def bistFirstReset (code : Byte) (s : State) : State :=
  let s := bistRequested code s
  if resetWaits .odRestart s then awaitReset .odRestart s else bistReset (resetClose s)

/-- The run ends (R498 item 5): PENDING clears, TST_END is written, and the second whole-device reset follows. -/
def bistFinish (s : State) : State :=
  let o : BitVec 4 := if s.tst.outcome = 3 then 3 else if (s.tst.logicFail ||| s.tst.memFail) = 0 then 0 else 1
  wholeReset .odRestart { s with tst := { s.tst with
    pending := false, outcome := o, endSec := BitVec.ofNat 32 (s.bil.clock.toNat / 65536), copyDue := true, awaiting := none } }

/-- The island under test has returned or been given up: the run goes on, or ends (R498, R505). -/
def bistNext (s : State) : State :=
  let s := { s with tst := { s.tst with awaiting := none, island := 0 } }
  if s.tst.todo.isEmpty then bistFinish s else s

/-- The scan stops before its next island, with outcome 3 (R504, R505). -/
def scanStops (s : State) : State := { s with tst := { s.tst with todo := [], outcome := 3 } }

/-- The run ends at once where no island is under test (R504, R505). -/
def endStoppedScan (s : State) : State :=
  if s.tst.scanning && s.tst.todo.isEmpty && s.tst.awaiting.isNone then bistFinish s else s

end Sys2Proof.Machine
end

