-- ==== Sys2Proof/Machine/WindowOps.lean ====
section
/-! DEFINITION. The window comparators (11): the rule of R281 and the windows that the controller itself sets (Table 11-3). -/

namespace Sys2Proof.Machine

/-- A value in its source's coding: signed for S, unsigned otherwise (R281). -/
def codeValue (signed : Bool) (v : BitVec 16) : Int := if signed then v.toInt else v.toNat

/-- Back inside the band by the hysteresis; a bound at the end of the coding is not judged (R281). -/
def backInside (signed : Bool) (w : WinComp) (v : Int) : Bool :=
  let lo := codeValue signed w.low
  let hi := codeValue signed w.high
  let lowest : Int := if signed then -32768 else 0
  let highest : Int := if signed then 32767 else 65535
  (lo == lowest || lo + w.hys.toNat ≤ v) && (hi == highest || v ≤ hi - w.hys.toNat)

/-- One new value (R281): the window, and whether it fires. -/
def evalWindow (signed : Bool) (v : Int) (w : WinComp) : WinComp × Bool :=
  if !w.en then (w, false)
  else
    let n :=
      if !w.out then
        if v < codeValue signed w.low || codeValue signed w.high < v then { w with out := true, cnt := 1 } else w
      else if backInside signed w v then { w with out := false, cnt := 0 }
      else { w with cnt := satInc w.cnt }
    if n.cnt != w.cnt && n.cnt == n.count && n.out then ({ n with exits := satInc n.exits }, true) else (n, false)

/-- The window of index i. -/
def winAt (s : State) (i : Nat) : WinComp := s.adc.wins.toList.getD i {}

/-- s with window i replaced. -/
def setWin (i : Nat) (w : WinComp) (s : State) : State :=
  { s with adc := { s.adc with wins := s.adc.wins.setIfInBounds i w } }

/-- What firing does (Table 11-3): the host's FIRED bit for windows 0 to 7, an event for window 8. -/
def onFire (i : Nat) (s : State) : State :=
  if i < 8 then { s with adc := { s.adc with fired := setBit s.adc.fired i } }
  else if i = 8 then logEvent .window8 s
  else s

/-- A value reaches one window (R281, R286). -/
def feedWindow (signed : Bool) (v : Int) (i : Nat) (s : State) : State :=
  let r := evalWindow signed v (winAt s i)
  let s := setWin i r.1 s
  if r.2 then onFire i s else s

/-- A value of the source with code src reaches every window 0 to 7 that watches it. -/
def feedSource (signed : Bool) (src : Nat) (v : Int) (s : State) : State :=
  (List.range 8).foldl (fun s i => if (winAt s i).src.toNat = src then feedWindow signed v i s else s) s

/-- The stated points of Table 9-2 in mA: DC6, DC60, DC200, AC1, AC2, AC5. -/
def statedPoint (s : State) (n : Nat) : Nat :=
  [6, 60, 200, setting? s 12 2, 2 * setting? s 12 2, 5 * setting? s 12 2].getD n 0

/-- The window of a level, 0.85 times its stated point, rounded to 0.1 mA, in units of 10 µA (R232). -/
def levelWindow (s : State) (n : Nat) : Nat := roundDiv (85 * statedPoint s n) 10 * 10

/-- The count of a level (Table 9-2). -/
def levelCount (n : Nat) : Nat := [100, 10, 2, 40, 20, 3].getD n 0

/-- A level is armed: DC levels while SW7 enables detection, AC levels up to 300 mA (R231). -/
def levelArmed (s : State) (n : Nat) : Bool := if n < 3 then s.rcd.dcArmed else statedPoint s n ≤ 300

/-- SAFE sets the band of one of windows 10 to 15 (R282); its count starts again. -/
def levelBand (s : State) (n : Nat) (w : WinComp) : WinComp :=
  { w with en := levelArmed s n, src := if n < 3 then 0x11 else 0x10, count := BitVec.ofNat 8 (levelCount n)
           low := 0, high := BitVec.ofNat 16 (levelWindow s n - 1), hys := BitVec.ofNat 16 (levelWindow s n / 10)
           out := false, cnt := 0 }

/-- SAFE sets the bands of the given levels (R244, R282). -/
def setLevels (l : List Nat) (s : State) : State :=
  l.foldl (fun s n => { setWin (10 + n) (levelBand s n (winAt s (10 + n))) s with
    rcd := { s.rcd with counts := s.rcd.counts.setIfInBounds n 0, above := clearBit s.rcd.above n } }) s

/-- The upper junction limit of the grade in units of 1/128 °C (R568, Table 23-4): 115 °C for I, 135 °C for X. -/
def junctionLimit (s : State) : BitVec 16 := if s.otp.gradeX then 17280 else 14720

/-- The controller's own windows 8 and 9 (Table 11-3); 3000 mA is code 39 322 of COIL_SENSE (R558). -/
def ownWindows (s : State) : State :=
  let w8 := winAt s 8
  let w9 := winAt s 9
  setWin 9 { w9 with en := true, low := 0, high := 39321, count := 1 }
    (setWin 8 { w8 with en := true, low := 0x8000, high := junctionLimit s, count := 1 } s)

/-- ADC has come up: DC_ARMED follows SW7, and the controller's windows are set. -/
def adcConfigure (s : State) : State :=
  setLevels [0, 1, 2, 3, 4, 5] (ownWindows { s with
    rcd := { s.rcd with dcArmed := dcEnabled s }
    adc := { s.adc with offset := s.otp.offset, gain := s.otp.gain, skew := s.otp.skew } })

end Sys2Proof.Machine
end

