-- ==== Sys2Proof/Machine/SafetyFunction.lean ====
section
/-! DEFINITION. The safety family (10): windows of SAFE, heartbeats, the seal, reference checks, automatic release, the reset of
R264, evidence, and a fault of SAFE itself. -/

namespace Sys2Proof.Machine

/-- The crystal has run at this start: HOST has come up (Table 3-4), so diagnostic 8 is judged (R107, R578). -/
def xtalHasRun (s : State) : Bool := (port s .host).epoch != 0

/-- Diagnostic 8 in one window (Table 10-3): two consecutive windows outside 24 500 to 25 500 cycles fail it,
and the die holds the latch (R269). -/
def clockWindow (xtalCycles : Nat) (s : State) : State :=
  if !xtalHasRun s then s
  else if 24500 ≤ xtalCycles && xtalCycles ≤ 25500 then diagPass 8 { s with safe := { s.safe with clockBad := 0 } }
  else
    let n := min 2 (s.safe.clockBad + 1)
    let s := { s with safe := { s.safe with clockBad := n } }
    if 2 ≤ n then diagFail 8 (holdKill s) else diagPass 8 s

/-- Diagnostic 4 in one window, outside Make and Break (R253): it passes while AUX_IN agrees with COIL_CMD, and fails when they have
differed for 150 ms, which is 150 windows of R251. -/
def auxWindow (s : State) : State :=
  if s.ses.phase == .make || s.ses.phase == .break || !isUp s .tmr then { s with live := { s.live with auxDiffers := 0 } }
  else if s.swg.aux == s.swg.coilCmd then diagPass 4 { s with live := { s.live with auxDiffers := 0 } }
  else
    let n := min 150 (s.live.auxDiffers + 1)
    let s := { s with live := { s.live with auxDiffers := n } }
    if 150 ≤ n then diagFail 4 s else s

/-- The end of a window of 1 ms (R251): its reports are judged together. -/
def judgeWindow (xtalCycles : Nat) (s : State) : State :=
  let s := auxWindow (clockWindow xtalCycles s)
  safeEntry s.safe.reports { s with safe := { s.safe with reports := [] } }

/-- SAFE_WINDOW (R251). -/
def execSafeWindow (xtalCycles : Nat) (s : State) : Host.Outcome State Fault Refusal :=
  done (guarded (isUp s .safe) (judgeWindow xtalCycles) s)

/-- The third miss in a row (R256, Table 10-5): the reaction, and SAFE resets an island other than AON that is still in service. -/
def heartbeatLost (i : Island) (s : State) : State :=
  let s := { s with safe := { s.safe with failed := setBit s.safe.failed 7 } }
  if !isUp s i then s
  else if i == .aon then report 0x400 s
  else logEvent (.islandReset i) (leaveService i .resetting s)

/-- One heartbeat read (Table 10-3, diagnostic 7). -/
def heartbeat (i : Island) (advanced : Bool) (s : State) : State :=
  if advanced && isUp s i then
    { s with safe := { s.safe with misses := pset s.safe.misses i 0, passed := setBit s.safe.passed 7 } }
  else
    let n := pget s.safe.misses i + 1
    let s := { s with safe := { s.safe with misses := pset s.safe.misses i (min 3 n) } }
    if n = 3 then heartbeatLost i s
    else if 3 < n then { s with safe := { s.safe with failed := setBit s.safe.failed 7 } }
    else { s with safe := { s.safe with passed := setBit s.safe.passed 7 } }

/-- The island under test of a BIST run is not judged (R499). -/
def underTest (s : State) (i : Island) : Bool := s.tst.scanning && s.tst.island.toNat == islandNum i

/-- ISLAND_HEARTBEAT (R256): SAFE reads every island that has come up at this start, other than itself. -/
def execIslandHeartbeat (i : Island) (advanced : Bool) (s : State) : Host.Outcome State Fault Refusal :=
  done (guarded (isUp s .safe && i != .safe && (port s i).state != .notYetUp && !underTest s i
    && (isUp s i || !s.pwr.loaderState)) (heartbeat i advanced) s)

/-- One line's three samples (Table 10-4): open, or closed on its own pulse output; none is no column of the table. SWn hangs on
SEAL_PA for odd n (R257). -/
def linePosition (i : Nat) (p1 p2 p3 : Byte) : Option Bool :=
  let x := (p1.getLsbD i, p2.getLsbD i, p3.getLsbD i)
  if x = (false, false, true) then some false
  else if i % 2 = 0 then (if x = (true, false, false) then some true else none)
  else if x = (false, true, false) then some true
  else none

/-- Bit n − 1: the line of SWn is invalid in the read (R258). -/
def invalidLines (p1 p2 p3 : Byte) : Byte :=
  (List.range 8).foldl (fun b i => if (linePosition i p1 p2 p3).isNone then setBit b i else b) 0

/-- POS as a read shows it: bit n − 1 is SWn closed. -/
def positions (p1 p2 p3 : Byte) : Byte :=
  (List.range 8).foldl (fun b i => if linePosition i p1 p2 p3 = some true then setBit b i else b) 0

/-- SW6 declares no lock: its pads stay at FREE and LockState reads 0 (R217). -/
def noLock (s : State) : State :=
  if lockFitted s then s
  else { s with lck := { s.lck with state := 0, drive := .free, moving := none, queued := none, homing := false, homingDue := false, afterBrake := 0 } }

/-- What follows a new seal word: R123's bounding, DC_ARMED (SW7) and its levels, the lock (SW6), and R185. -/
def sealFollow (s : State) : State :=
  let s := noLock s
  let s := if s.pwr.settingsRestored then sealBounding s else s
  let s := if isUp s .adc && s.rcd.dcArmed != dcEnabled s then
      setLevels [0, 1, 2] { s with rcd := { s.rcd with dcArmed := dcEnabled s } }
    else s
  recompute s

/-- The seal word is first accepted at this start (R258). One that differs from the word kept in AON is logged as a change with a
TYPE 10h record, and no safe state follows (R271). -/
def sealWordAccepted (pos : Byte) (s : State) : State :=
  let differs := s.safe.posKept && pos != s.safe.posAtPowerDown
  let s := { s with safe := { s.safe with
    pos := pos, posRecorded := pos, sealAccepted := true, posKept := true, sealChanged := s.safe.sealChanged || differs } }
  sealFollow (if differs then writeEvidence 0x10 0x301 s else s)

/-- A seal fault is judged: in the loader state it is logged and nothing else changes (R525); in the scan phase of a BIST run it
stops the run with outcome 3 (R504); otherwise it is a cause. -/
def sealReport (c : BitVec 16) (s : State) : State :=
  if s.pwr.loaderState then writeEvidence 0x10 c s
  else if s.tst.scanning then endStoppedScan (scanStops s)
  else report c { s with safe := { s.safe with failed := setBit s.safe.failed 6 } }

/-- A confirmed different word (R258, R268): cause 0301h, and CHANGED. -/
def sealChange (pos : Byte) (s : State) : State :=
  sealFollow (sealReport 0x301 { s with safe := { s.safe with
    pos := pos, sealChanged := true, sealStable := 1, sealCandidate := none } })

/-- A read whose eight lines are valid (R258). -/
def validRead (pos : Byte) (s : State) : State :=
  let again := s.safe.sealCandidate = some pos
  let s := { s with
    safe := { s.safe with lineFault := 0, sealFault := false, sealCandidate := some pos, sealValid := s.safe.sealAccepted || again }
    live := { s.live with standing := s.live.standing.filter (· != 0x302) } }
  if !s.safe.sealAccepted then
    if again then sealWordAccepted pos { s with safe := { s.safe with sealStable := 2 } } else s
  else if pos = s.safe.pos then { s with safe := { s.safe with sealStable := s.safe.sealStable + 1, sealCandidate := none } }
  else if again then sealChange pos s
  else { s with safe := { s.safe with sealStable := 0 } }

/-- A read with an invalid line (R258): a line invalid in two consecutive reads is cause 0302h. -/
def invalidRead (bad : Byte) (s : State) : State :=
  let twice := s.safe.lineFault &&& bad != 0
  let known := s.live.standing.contains 0x302
  let s := { s with safe := { s.safe with
    lineFault := bad, sealFault := true, sealValid := false, sealCandidate := none, sealStable := 0 } }
  if twice && !known then
    let s := { s with live := { s.live with standing := 0x302 :: s.live.standing } }
    sealReport 0x302 (if s.pwr.settingsRestored && s.safe.sealAccepted then sealBounding s else s)
  else s

/-- A read that is not valid takes condition 6 of R30 away: Break follows where gates may be on. Table 1-3 names no reason for it outside the
safe state, and 6 is taken: DESIGN CHOICE. -/
def sealLost (s : State) : State :=
  if s.ses.phase == .make || s.ses.phase == .charging then stopSession 6 s else s

/-- One read of three phases (R257, R258). Diagnostic 6 passes at a read that raises no cause (R253). -/
def sealReading (p1 p2 p3 : Byte) (s : State) : State :=
  let bad := invalidLines p1 p2 p3
  let n := s.safe.reports.length
  let s := if bad = 0 then validRead (positions p1 p2 p3) s else sealLost (invalidRead bad s)
  if s.safe.reports.length = n && !s.live.standing.contains 0x302 then
    { s with safe := { s.safe with passed := setBit s.safe.passed 6 } }
  else s

/-- SEAL_READ (R257): the test pulses run, and SAFE reads AON's samples. -/
def execSealRead (phase1 phase2 phase3 : Byte) (s : State) : Host.Outcome State Fault Refusal :=
  done (guarded (isUp s .safe && isUp s .aon && s.safe.pulses) (sealReading phase1 phase2 phase3) s)

/-- Number of a converter. -/
def convNum : Converter → Nat
  | .a0 => 0 | .a1 => 1 | .a2 => 2 | .a3 => 3

/-- A reading within ±0.1 % of the calibrated value (Table 10-3, diagnostic 2). -/
def refNear (ref code : BitVec 16) : Bool :=
  ((code.toNat : Int) - ref.toNat).natAbs * 1000 ≤ ref.toNat

/-- A reference check (R253, R288): a failed one counts and sets REF_FAIL; two in a row fail diagnostic 2. Its
first pass after ADC comes up is complete with the first check of each converter (R290). -/
def refChecked (n : Nat) (conv : Converter) (good : Bool) (s : State) : State :=
  let s := { s with adc := { s.adc with refSeen := setBit s.adc.refSeen n } }
  let pass (s : State) : State := if s.adc.refSeen == 0xF then { s with safe := { s.safe with passed := setBit s.safe.passed 2 } } else s
  if good then
    let s := pass { s with
      safe := { s.safe with refBad := s.safe.refBad.setIfInBounds n 0 }
      adc := { s.adc with refFail := clearBit s.adc.refFail n } }
    if s.safe.refBad.toList.all (· < 2) then
      { s with live := { s.live with standing := s.live.standing.filter (· != diagCause 2) } }
    else s
  else
    let k := min 2 (s.safe.refBad.toList.getD n 0 + 1)
    let s := { s with
      safe := { s.safe with refBad := s.safe.refBad.setIfInBounds n k }
      adc := { s.adc with refFail := setBit s.adc.refFail n, converterErrors := satInc s.adc.converterErrors, calFirst := some conv } }
    if 2 ≤ k then diagFail 2 s else pass s

/-- REFERENCE_CHECK (R253): the reading reaches SAFE. While SAFE is out of service it is dropped where LIST_S makes it (R275). -/
def execReferenceCheck (conv : Converter) (code : BitVec 16) (s : State) : Host.Outcome State Fault Refusal :=
  let n := convNum conv
  done (guarded (isUp s .safe && adcRuns s)
    (fun s => refChecked n conv (refNear (s.adc.refValue.toList.getD n 0) code) s) s)

/-- AUTOMATIC_RELEASE (R261): every condition of R262 has held for 5 s and only Automatic causes were seen. -/
def execAutomaticRelease (s : State) : Host.Outcome State Fault Refusal :=
  done (guarded (isUp s .safe && safeInForce s && releaseOk true s) (releaseSafe true) s)

/-- SAFE_RESET (R264, R269): a whole-device reset with SAFE_REQ, held back behind a running COMMIT (R577). A fault of SAFE itself leads to it
through the die's own hold, also where SAFE has lost its registers since. -/
def execSafeReset (s : State) : Host.Outcome State Fault Refusal :=
  done (guarded ((safeInForce s && s.safe.needsReset) || s.glt.safeFault) (heldBackReset .safeReq) s)

/-- EVIDENCE_FLUSH (R270): held records are written, oldest first. -/
def execEvidenceFlush (s : State) : Host.Outcome State Fault Refusal :=
  done (guarded (s.flash.writable && !s.safe.evidence.isEmpty) (fun s =>
    s.safe.evidence.foldl (fun s b => logEvent (.safeState b) s) { s with safe := { s.safe with evidence := [] } }) s)

/-- SAFE_SELF_FAULT (R269): the mixed-signal die holds the kill latch, and cause 0502h is judged. -/
def execSafeSelfFault (s : State) : Host.Outcome State Fault Refusal :=
  done (guarded (isUp s .safe) (fun s => report 0x502 (holdKill s)) s)

end Sys2Proof.Machine
end

