-- ==== Sys2Proof/Machine/Switching.lean ====
section
/-! DEFINITION. The switching family (08): Make, Break, the interlock and the economiser. -/

namespace Sys2Proof.Machine

/-- Gates turn on, or the interlock holds them while AUX_IN does not read closed (R210). -/
def turnOn (g : BitVec 4) (s : State) : State :=
  let g := g &&& declaredGates s
  if s.swg.aux then { s with swg := { s.swg with gateCmd := s.swg.gateCmd ||| g } }
  else { s with swg := { s.swg with heldGates := s.swg.heldGates ||| g, interlock := true } }

/-- Make step 2 (R204, R211): the coil is energised at full voltage, or the interlock holds the command while the read-back has not shown
off for 50 µs (R210). -/
def makeStepTwo (held : Bool) (s : State) : State :=
  let s := { s with ses := { s.ses with makeStep := 3, pulledIn := false }
                    swg := { s.swg with contactorOps := satInc s.swg.contactorOps } }
  if held then { s with swg := { s.swg with heldCoil := some true, interlock := true } }
  else { s with swg := { s.swg with coilCmd := true, coilDuty := 255, openLoop := false, recent := [] } }

/-- Make step 1 (R204): every gate is off and its read-back agrees; until it does, the step is not complete. -/
def beginMake (s : State) : State :=
  let s := diagPass 10 s
  let s := { s with ses := { s.ses with phase := .make, makeStep := 1, pulledIn := false } }
  if s.swg.gateFb = 0 then makeStepTwo false s else s

/-- MAKE (R204): the kill-latch test of diagnostic 10 first; a failure is cause 0209h (R236, R253). -/
def execMake (killTestPass : Bool) (s : State) : Host.Outcome State Fault Refusal :=
  done (guarded (mayMake s && s.swg.gateCmd == 0) (fun s => if killTestPass then beginMake s else diagFail 10 s) s)

/-- The reason with which Make stops when a condition of R30 fails; 0 is the pause of R33 (R36, R206). For condition 6 Table 1-3 names one only
in the safe state; for an invalid seal read without it 6 is taken too: DESIGN CHOICE. -/
def makeStopReason (s : State) : BitVec 8 :=
  if s.safe.active || !s.safe.sealValid || s.safe.sealChanged then 6
  else if !bandValid s || !lockProven s then 5
  else if remainingWh s = 0 then 2
  else if !(s.plt.state == .c || s.plt.state == .d) then 1
  else 0

/-- What keeps a gate from turning on (R38, R206): the reason with which Make stops. -/
def gateBar (s : State) : Option (BitVec 8) :=
  if !makeConditions s then some (makeStopReason s)
  else if (s.ses.grant.map (grantExpired s)).getD true then some 3
  else none

/-- The first gate of Make turns on (R299, R324): session energy counts from this period, and a record in which a session has ended
closes at its start. -/
def firstGate (s : State) : State :=
  let s := if !s.ses.gatesSeen && s.bil.endedInRecord then closeAtPeriodStart .secondSession s.met.periodStart s else s
  { s with ses := { s.ses with gatesSeen := true, counting := true } }

/-- Make step 4 (R204, R206): the hold loop takes the coil and GATE_N turns on, if every condition still holds. -/
def makeStepFour (s : State) : State :=
  if s.ses.phase == .make && s.ses.makeStep = 3 && s.swg.aux && s.ses.pulledIn then
    match gateBar s with
    | some r => startBreak r s
    | none =>
      let (n, s) := nextFree (firstGate s)
      turnOn 0x8 { s with
        ses := { s.ses with makeStep := 5 }, swg := { s.swg with coilDuty := if s.swg.openLoop then 255 else Config.economiserDuty n } }
  else s

/-- PULL_IN_ELAPSED (R204). -/
def execPullInElapsed (s : State) : Host.Outcome State Fault Refusal :=
  done (guarded (s.ses.phase == .make && s.ses.makeStep == 3)
    (fun s => makeStepFour { s with ses := { s.ses with pulledIn := true } }) s)

/-- Held gates go on once AUX_IN reads closed (R210). -/
def releaseHeldGates (s : State) : State :=
  if s.swg.heldGates = 0 || !s.swg.aux then s
  else
    let g := s.swg.heldGates
    turnOn g { s with swg := { s.swg with heldGates := 0, interlock := s.swg.heldCoil.isSome } }

/-- AUX_IN confirmed (R204, R207, R253): Make step 3, Break step 4, or diagnostic 4's evaluation. A contact that opens under a
commanded coil fails condition 7 of R30, and Break follows; Table 1-3 names no reason for it, and 5 is taken: DEDUCED. -/
def auxConfirmed (closed : Bool) (s : State) : State :=
  let s := { s with swg := { s.swg with aux := closed } }
  let s := if closed == s.swg.coilCmd then diagPass 4 s else s
  if closed then makeStepFour s
  else if s.ses.phase == .break && s.ses.breakStep = 4 then breakStepFive s
  else if s.swg.coilCmd && (s.ses.phase == .charging || (s.ses.phase == .make && s.ses.makeStep = 5)) then stopSession 5 s
  else s

/-- AUX_IN_CONFIRMED (R204). -/
def execAuxInConfirmed (closed : Bool) (s : State) : Host.Outcome State Fault Refusal :=
  done (guarded (isUp s .tmr) (auxConfirmed closed) s)

/-- A phase gate turns on in Make step 5, every condition of R30 checked again (R38, R204, R206). -/
def phaseGate (p : Phase3) (s : State) : State :=
  if s.ses.phase == .make && s.ses.makeStep = 5 && (phases s).contains (phaseNum p) && !s.swg.gateCmd.getLsbD (phaseNum p) then
    match gateBar s with
    | some r => startBreak r s
    | none => turnOn (setBit 0 (phaseNum p)) (firstGate s)
  else s

/-- ZERO_CROSSING (R204, R295): taken when the voltage has been beyond ±10 V since the last one. The report reaches TMR while MET and TMR are
in service. -/
def execZeroCrossing (p : Phase3) (s : State) : Host.Outcome State Fault Refusal :=
  done (guarded (isUp s .met && s.met.beyond10.toList.getD (phaseNum p) false) (fun s =>
    let s := { s with met := { s.met with beyond10 := s.met.beyond10.setIfInBounds (phaseNum p) false } }
    if isUp s .tmr then phaseGate p s else s) s)

/-- ZERO_CROSSING_TIMEOUT (R205): the gate is turned on at once and the event logged. -/
def execZeroCrossingTimeout (p : Phase3) (s : State) : Host.Outcome State Fault Refusal :=
  done (guarded (s.ses.phase == .make && s.ses.makeStep == 5 && (phases s).contains (phaseNum p) && !s.swg.gateCmd.getLsbD (phaseNum p))
    (fun s => phaseGate p (logEvent (.crossingTimeout p) s)) s)

/-- AUX_CLOSE_TIMEOUT (R205): Make fails, the coil is released and diagnostic 4 fails. -/
def execAuxCloseTimeout (s : State) : Host.Outcome State Fault Refusal :=
  done (guarded (s.ses.phase == .make && s.ses.makeStep == 3 && !s.swg.aux)
    (fun s => startBreak 6 (diagFail 4 { s with swg := { s.swg with auxFault := true } })) s)

/-- ZERO_CURRENT_WINDOW_END (R207): Break step 2 is complete, and the coil is released. -/
def execZeroCurrentWindowEnd (s : State) : Host.Outcome State Fault Refusal :=
  done (guarded (isUp s .met && s.ses.phase == .break && s.ses.breakStep == 2) releaseCoil s)

/-- STUCK_ON (R208): a read-back that shows on, or a zero current not reached, 20 ms on; SAFE releases the coil without waiting for zero current. The cause is that of diagnostic 3: DEDUCED. -/
def execStuckOn (s : State) : Host.Outcome State Fault Refusal :=
  done (guarded (s.ses.phase == .break && 1 ≤ s.ses.breakStep && s.ses.breakStep ≤ 3) (fun s =>
    let s := diagFail 3 { s with
      swg := { s.swg with stuckOn := true, coilCmd := false, coilDuty := 0, openLoop := false, recent := [], heldCoil := none, interlock := false }
      ses := { s.ses with breakStep := 4 } }
    if s.swg.aux then s else breakStepFive s) s)

/-- AUX_OPEN_TIMEOUT (R209): AUX_FAULT and a failure of diagnostic 4; Break goes on to step 5: DEDUCED. -/
def execAuxOpenTimeout (s : State) : Host.Outcome State Fault Refusal :=
  done (guarded (s.ses.phase == .break && s.ses.breakStep == 4 && s.swg.aux)
    (fun s => breakStepFive (diagFail 4 { s with swg := { s.swg with auxFault := true } })) s)

/-- Make step 5 completes when every declared gate is on and its read-back agrees: Charging (R204). -/
def makeComplete (s : State) : State :=
  if s.ses.phase == .make && s.ses.makeStep = 5 && s.swg.gateCmd = declaredGates s && s.swg.gateFb = s.swg.gateCmd then
    eventPrompt 4 { s with ses := { s.ses with phase := .charging, makeStep := 0 } }
  else s

/-- The read-back comparison (R200, R202, R203): against the command, which gate-kill overrides. A read-back that shows off completes step 1 of
Break, or of Make, whose coil command the interlock then holds for its 50 µs (R210). -/
def readback (gfb : BitVec 4) (s : State) : State :=
  let fb := gfb &&& declaredGates s
  let cmd := if s.glt.kill then 0 else s.swg.gateCmd
  let s := { s with swg := { s.swg with gateFb := fb } }
  let s := if fb = cmd then diagPass 3 s else diagFail 3 { s with swg := { s.swg with fbMismatch := true } }
  let s := makeComplete s
  if s.ses.phase == .break && s.ses.breakStep = 1 && fb = 0 then
    { s with ses := { s.ses with breakStep := 2 } }
  else if s.ses.phase == .make && s.ses.makeStep = 1 && fb = 0 then makeStepTwo true s
  else s

/-- READBACK_CHECK (R202). -/
def execReadbackCheck (gfb : BitVec 4) (s : State) : Host.Outcome State Fault Refusal :=
  done (guarded (isUp s .tmr) (readback gfb) s)

/-- INTERLOCK_RELEASE (R210): the held command proceeds once its condition holds. -/
def execInterlockRelease (s : State) : Host.Outcome State Fault Refusal :=
  done (guarded s.swg.interlock (fun s =>
    let s := match s.swg.heldCoil with
      | some true =>
        if s.swg.gateFb = 0 then
          { s with swg := { s.swg with
              coilCmd := true, coilDuty := 255, openLoop := false, recent := [], heldCoil := none, interlock := s.swg.heldGates != 0 } }
        else s
      | some false => if s.swg.gateFb = 0 then releaseCoil { s with swg := { s.swg with heldCoil := none } } else s
      | none => s
    releaseHeldGates s) s)

/-- INTERLOCK_HOLD_TIMEOUT (R210): a failure of the gate read-back diagnostic. -/
def execInterlockHoldTimeout (s : State) : Host.Outcome State Fault Refusal := done (guarded s.swg.interlock (diagFail 3) s)

/-- The coil sense is lost (R213): open loop at duty 255, logged. -/
def senseLost (s : State) : State :=
  logEvent .senseLost { s with swg := { s.swg with coilDuty := 255, openLoop := true } }

/-- The span of a list of numbers. -/
def span (l : List Nat) : Nat := l.foldl max 0 - l.foldl min (l.headD 0)

/-- The sense is lost (R213): over ten samples of 1 ms the reading stays within ±2 mA of one value while the duty moves across 16 steps or
more, or at 2 mA or below with the duty at 16 or more; or it exceeds 3000 mA. -/
def senseFails (l : List (BitVec 16 × BitVec 8)) (ma : BitVec 16) : Bool :=
  let full := 10 ≤ l.length
  (full && span (l.map (·.1.toNat)) ≤ 4 && 16 ≤ span (l.map (·.2.toNat)))
    || (full && l.all (fun x => x.1.toNat ≤ 2 && 16 ≤ x.2.toNat)) || 3000 < ma.toNat

/-- A COIL_SENSE sample (R212, R213): the loop's duty is a free value in closed loop. -/
def economiser (ma : BitVec 16) (s : State) : State :=
  let s := { s with swg := { s.swg with
    senseMa := ma, recent := if s.swg.coilCmd then ((ma, s.swg.coilDuty) :: s.swg.recent).take 10 else [] } }
  if !s.swg.coilCmd || s.swg.openLoop then s
  else if senseFails s.swg.recent ma then senseLost s
  else if s.ses.phase == .make && s.ses.makeStep ≤ 3 then { s with swg := { s.swg with coilDuty := 255 } }
  else
    let (n, s) := nextFree s
    { s with swg := { s.swg with coilDuty := Config.economiserDuty n } }

/-- ECONOMISER_SAMPLE (R212): list S brings it to TMR (R289). -/
def execEconomiserSample (senseMa : BitVec 16) (s : State) : Host.Outcome State Fault Refusal :=
  done (guarded (isUp s .tmr && adcRuns s) (economiser senseMa) s)

end Sys2Proof.Machine
end

