-- ==== Sys2Proof/Machine/Converters.lean ====
section
/-! DEFINITION. The converters family (11): the fixed lists, the user lists, window writes, captures and calibration. -/

namespace Sys2Proof.Machine

/-- A posted result of ADC to an island that is out of service is dropped and counted (R275). -/
def resultDropped (dst : Island) (n : Nat) (s : State) : State :=
  if isUp s dst then s else (List.range n).foldl (fun s _ => dropPosted dst .adc s) s

/-- The level that PILOT_DRV is commanded to in a window, in mV: while PWM runs, that of the plateau the window lies on (R177, R180,
Table 10-3). -/
def commandedMv (s : State) (positive : Bool) : Int :=
  match s.plt.level with
  | .steady => 12000
  | .stateF => -12000
  | .pwm => if positive then 12000 else -12000

/-- Diagnostic 0 of one pilot period (Table 10-3): three bad ones in a row fail it. -/
def pilotLoopback (good : Bool) (s : State) : State :=
  if good then diagPass 0 { s with safe := { s.safe with pilotBad := 0 } }
  else
    let n := min 3 (s.safe.pilotBad + 1)
    let s := { s with safe := { s.safe with pilotBad := n } }
    if 3 ≤ n then diagFail 0 s else { s with safe := { s.safe with passed := setBit s.safe.passed 0 } }

/-- A window within 1.0 V of its commanded level, with its edge within 2 µs (Table 10-3). -/
def windowGood (positive : Bool) (drvMv : BitVec 16) (edgeErrNs : Nat) (s : State) : Bool :=
  (drvMv.toInt - commandedMv s positive).natAbs ≤ 1000 && edgeErrNs ≤ 2000

/-- One window (R180, R181): a period of PWM is judged at its negative window, over both; without PWM at its one window. -/
def pilotWindow (positive good : Bool) (s : State) : State :=
  if s.plt.level == .pwm && positive then { s with safe := { s.safe with pilotWindowBad := !good } }
  else pilotLoopback (good && !s.safe.pilotWindowBad) { s with safe := { s.safe with pilotWindowBad := false } }

/-- LIST_P (R274, R275, Table 11-2): PILOT_DRV reaches SAFE, which judges it for diagnostic 0 against the level that TMR commands. The reading
of PILOT_SENSE is taken by MEASUREMENT_WINDOW. -/
def execListP (positive : Bool) (drvMv : BitVec 16) (edgeErrNs : Nat) (s : State) : Host.Outcome State Fault Refusal :=
  done (guarded (adcRuns s) (fun s =>
    let good := windowGood positive drvMv edgeErrNs s
    let judged := if isUp s .safe && isUp s .tmr then pilotWindow positive good s else s
    resultDropped .safe 1 (resultDropped .tmr 1 judged)) s)

/-- A converter of the pair A0/A1 is borrowed (R280, R293). -/
def pairBorrowed (s : State) : Bool := s.adc.borrowed.getLsbD 0 || s.adc.borrowed.getLsbD 1

/-- The voltage of a channel in a tick after its gain; the neutral has none. -/
def tickVolts (x : TickSamples) (m : Met) (c : Nat) : Int := if c < 3 then gained (m.cal.vGain.toList.getD c 0) (voltCode x c) else 0

/-- The sums of a half-cycle take one tick (R295): L1 to L3 with voltage and current, N with its current. A voltage beyond ±10 V, of ±500 V
at 2^31, lets the next crossing count. -/
def addHalves (x : TickSamples) (m : Met) : Met :=
  let f (c : Nat) (h : HalfSum) : HalfSum :=
    let v := tickVolts x m c
    let i := gained (m.cal.iGain.toList.getD c 0) (ampCode x c)
    ⟨h.n + 1, h.v2 + (v * v).toNat, h.i2 + (i * i).toNat⟩
  { m with half := Vector.ofFn fun c => f c.val (m.half.toList.getD c.val {})
           beyond10 := Vector.ofFn fun p => m.beyond10.toList.getD p.val false || 2 ^ 31 < 50 * (tickVolts x m p.val).natAbs }

/-- A code at an end of the S coding (R307). -/
def atEnd (c : BitVec 16) : Bool := c == 0x7FFF || c == 0x8000

/-- A clipped sample of a channel that SW5 declares (R292, R307): CLIP, and one event in each session. -/
def noteClip (x : TickSamples) (s : State) : State :=
  let l := if threePhase s then [x.v1, x.v2, x.v3, x.i1, x.i2, x.i3, x.inn] else [x.v1, x.i1, x.inn]
  if l.any atEnd then
    let known := s.ses.clipLogged
    let s := { s with met := { s.met with clip := true }, ses := { s.ses with clipLogged := true } }
    if known then s else logEvent .clip s
  else s

/-- LIST_M (R273, R275, R307): one tick of samples reaches MET. -/
def execListM (x : TickSamples) (s : State) : Host.Outcome State Fault Refusal :=
  done (guarded (adcRuns s) (fun s =>
    if isUp s .met then
      let m := addHalves x s.met
      noteClip x { s with met := { m with samples := (x, pairBorrowed s) :: m.samples, skewNow := m.skewNow || pairBorrowed s } }
    else resultDropped .met 4 s) s)

/-- LIST_E (R228, R273): one sample of the residual stream in units of 10 µA, the operand's unit being the model's choice; one mains period is
kept, at most 356 values of 62.5 µs. -/
def execListE (code : BitVec 16) (s : State) : Host.Outcome State Fault Refusal :=
  done (guarded (adcRuns s) (fun s => { s with rcd := { s.rcd with stream := (code :: s.rcd.stream).take 356 } }) s)

/-- A VREF_PX monitor reading within 1 % of 3.000 V (R570). The code that 3.000 V gives is not stated: a constant of Config. -/
def vrefGoodCode (code : BitVec 16) : Bool :=
  let n := Config.vrefNominal.toNat
  ((code.toNat : Int) - n).natAbs * 100 ≤ n

/-- One VREF_PX reading (R570). -/
def vrefReading (code : BitVec 16) (s : State) : State :=
  let good := vrefGoodCode code
  if s.plt.vrefWithheld then
    let n := if good then s.plt.vrefGood + 1 else 0
    if 3 ≤ n then { s with plt := { s.plt with vrefWithheld := false, vrefGood := 0, vrefBad := 0 } }
    else { s with plt := { s.plt with vrefGood := n } }
  else
    let n := if good then 0 else s.plt.vrefBad + 1
    if n < 3 then { s with plt := { s.plt with vrefBad := n } }
    else
      let old := s.plt.band
      let s := logEvent .vrefOut { s with plt := { s.plt with
        vrefWithheld := true, vrefBad := 0, vrefGood := 0, band := .notMeasured, bandCand := .notMeasured, bandCount := 0 } }
      if old == .notMeasured then s else onBand old .notMeasured s

/-- A COIL_SENSE code reaches window 9 in ADC; its firing is the sense loss of R213 in TMR (Table 11-3). -/
def coilWindow (code : BitVec 16) (s : State) : State :=
  let r := evalWindow false code.toNat (winAt s 9)
  let s := setWin 9 r.1 s
  if r.2 && isUp s .tmr && s.swg.coilCmd && !s.swg.openLoop then senseLost s else s

/-- LIST_S (R274, R275): the die temperature and window 8, VREF_PX, COIL_SENSE and window 9. A result for an island that is out of service is
dropped here; in service, the rows that judge the other inputs are its arrival: REFERENCE_CHECK for input 12, PROXIMITY_READ for PP_SENSE,
ECONOMISER_SAMPLE for COIL_SENSE, HALL_SENSOR_ABSENT for HALL_PWR. -/
def execListS (input : BitVec 5) (_conv : Converter) (code : BitVec 16) (s : State) : Host.Outcome State Fault Refusal :=
  done (guarded (adcRuns s) (fun s =>
    if input = 13 then feedWindow true code.toInt 8 { s with adc := { s.adc with dieTemp := code } }
    else if input = 12 then resultDropped .safe 1 s
    else if input = 10 then coilWindow code (resultDropped .tmr 1 s)
    else if input = 8 || input = 15 || input = 16 then
      if input = 15 && isUp s .tmr then vrefReading code s else resultDropped .tmr 1 s
    else s) s)

/-- User list k. -/
def userList (s : State) (k : Bool) : UserList := if k then s.adc.u1 else s.adc.u0

/-- s with user list k replaced. -/
def setUserList (k : Bool) (u : UserList) (s : State) : State :=
  if k then { s with adc := { s.adc with u1 := u } } else { s with adc := { s.adc with u0 := u } }

/-- A trigger or GO of a user list (R274, R287): a run starts, or the trigger is skipped and counted. -/
def triggerList (k : Bool) (s : State) : State :=
  let u := userList s k
  setUserList k (if u.running then { u with missed := satInc u.missed } else { u with running := true }) s

/-- USER_LIST_TRIGGER (R274): periodic, or a compare of TMR_CH, of an enabled list. -/
def execUserListTrigger (k : Bool) (s : State) : Host.Outcome State Fault Refusal :=
  let u := userList s k
  done (guarded (adcRuns s && u.en && u.trig.toNat ≤ 1 && (u.trig = 0 || isUp s .tmr)) (triggerList k) s)

/-- GO (R287, Table 11-7): one run starts. -/
def execGo (k : Bool) (s : State) : Host.Outcome State Fault Refusal := done (guarded (adcRuns s) (triggerList k) s)

/-- Whether an entry of a list converts the die temperature, in T coding (Table 11-1). -/
def entrySigned (u : UserList) (e : Nat) : Bool := u.inputs.toList.getD e 0 = 13

/-- One result goes to its ADC_URES register and to the windows that watch its slot (Table 11-10, R281). -/
def takeResult (k : Bool) (e : Nat) (v : BitVec 16) (clip : Bool) (s : State) : State :=
  let u := userList s k
  let s := setUserList k { u with
    values := u.values.setIfInBounds e v, clips := u.clips.setIfInBounds e clip
    seqs := u.seqs.setIfInBounds e (u.seqs.toList.getD e 0 + 1) } s
  let signed := entrySigned u e
  feedSource signed (8 * bit k + e) (codeValue signed v) s

/-- USER_LIST_COMPLETE (R274): LAST + 1 results in entry order. -/
def execUserListComplete (k : Bool) (values : List (BitVec 16 × Bool)) (s : State) : Host.Outcome State Fault Refusal :=
  done (guarded (adcRuns s && (userList s k).running) (fun s =>
    let n := (userList s k).last.toNat + 1
    let s := ((values.take n).zipIdx).foldl (fun s x => takeResult k x.2 x.1.1 x.1.2 s) s
    let u := userList s k
    setUserList k { u with running := false, runs := u.runs + 1 } s) s)

/-- A write of ADC_WINw_CFG (R20, R283). -/
def winCfgWrite (w : Nat) (v : Nat) (s : State) : State :=
  let x := winAt s w
  let src := bits v 1 5
  let count := bits v 8 8
  let s := setWin w { x with
    en := hasBit v 0, src := if src ≤ 0x11 then BitVec.ofNat 5 src else x.src
    count := if count = 0 then x.count else BitVec.ofNat 8 count, hys := BitVec.ofNat 16 (bits v 16 16), out := false, cnt := 0 } s
  { s with adc := { s.adc with cfgErr := s.adc.cfgErr || 0x11 < src || count = 0 } }

/-- Whether the source of a window is signed: the residual DC value, or a result of the die temperature. -/
def sourceSigned (s : State) (w : Nat) : Bool :=
  let n := (winAt s w).src.toNat
  if n = 0x11 then true else if n < 16 then entrySigned (userList s (8 ≤ n)) (n % 8) else false

/-- A write of ADC_WINw_BAND (R283): LOW above HIGH, in the source's coding, changes nothing and sets CFG_ERR. -/
def winBandWrite (w : Nat) (v : Nat) (s : State) : State :=
  let lo := BitVec.ofNat 16 (bits v 0 16)
  let hi := BitVec.ofNat 16 (bits v 16 16)
  let g := sourceSigned s w
  if codeValue g hi < codeValue g lo then { s with adc := { s.adc with cfgErr := true } }
  else setWin w { winAt s w with low := lo, high := hi, out := false, cnt := 0 } s

/-- A host write to a window register: windows 8 to 15 ignore it (R282). -/
def windowWrite (w : Nat) (band : Bool) (v : Word) (s : State) : State :=
  if 8 ≤ w then s else if band then winBandWrite w v.toNat s else winCfgWrite w v.toNat s

/-- WINDOW_CONFIG_WRITE (R283). -/
def execWindowConfigWrite (w : Fin 16) (band : Bool) (value : Word) (s : State) : Host.Outcome State Fault Refusal :=
  done (guarded (isUp s .adc) (windowWrite w band value) s)

/-- START (R276, Table 11-11): refused while a capture runs; it waits for a compare or for the end of the start-up calibration (R279), or
begins. -/
def startCapture (s : State) : State :=
  let a := s.adc
  if a.capBusy then { s with adc := { a with capRefused := true } }
  else if a.capTrigTmr || !a.listsRun then { s with adc := { a with capStart := true } }
  else captureBegins s

/-- A write of ADC_CAP_CTRL, field by field (R20, Table 11-11). -/
def capCtrlWrite (v : Nat) (s : State) : State :=
  let a := s.adc
  let input := bits v 0 5
  let len := bits v 11 11
  let lenOk := 1 ≤ len && len ≤ 1024
  let s := { s with adc := { a with
    capInput := if input ≤ 23 then BitVec.ofNat 5 input else a.capInput, capPair := hasBit v 5, capIlv := hasBit v 6
    capTrigTmr := hasBit v 7, capTrigCh := BitVec.ofNat 3 (bits v 8 3), capLength := if lenOk then BitVec.ofNat 11 len else a.capLength
    cfgErr := a.cfgErr || 23 < input || !lenOk } }
  if hasBit v 31 then startCapture s else s

/-- CAPTURE_START (R276): the write of ADC_CAP_CTRL that carries START. -/
def execCaptureStart (ctrl : Word) (s : State) : Host.Outcome State Fault Refusal :=
  done (guarded (isUp s .adc) (capCtrlWrite (ctrl.toNat ||| 0x80000000)) s)

/-- CAPTURE_DONE (R276): LENGTH samples; one that another list took is 8000h and counts in GAPS. -/
def execCaptureDone (samples : List (Option (BitVec 16))) (s : State) : Host.Outcome State Fault Refusal :=
  done (guarded (adcRuns s && s.adc.capBusy) (fun s =>
    let l := (List.range s.adc.capLength.toNat).map fun i => (samples.getD i none)
    { s with adc := { s.adc with
      capBusy := false, capDone := true, interleaved := 0, capBuf := l.map fun x => x.getD 0x8000
      capGaps := BitVec.ofNat 11 (l.filter (·.isNone)).length } }) s)

/-- The converter that the calibrator takes next: the one that R288 puts first, else in turn. -/
def calibratorNext (s : State) : Converter := s.adc.calFirst.getD s.adc.calNext

/-- The converter after one, in turn. -/
def convAfter : Converter → Converter
  | .a0 => .a1 | .a1 => .a2 | .a2 => .a3 | .a3 => .a0

/-- The calibrator may run: at ADC's start-up always, later while it is enabled and not suspended (R279, R474). -/
def mayCalibrate (s : State) : Bool :=
  !s.adc.listsRun || (isUp s .bgd && s.bgd.released && s.bgd.enabled.getLsbD 1 && !s.bgd.suspended.getLsbD 1 && !s.pwr.brown.active)

/-- CALIBRATION_RUN (R278, R279): at start-up the converters come one after the other. -/
def execCalibrationRun (conv : Converter) (s : State) : Host.Outcome State Fault Refusal :=
  done (guarded (isUp s .adc && s.adc.calRun.isNone && mayCalibrate s && conv == calibratorNext s) (fun s => { s with
    adc := { s.adc with calRun := some conv }
    bgd := { s.bgd with active := if s.adc.listsRun then setBit s.bgd.active 1 else s.bgd.active } }) s)

/-- The run of the upper converter of a pair measures its skew too (R278). -/
def upperOfPair : Converter → Bool
  | .a1 => true | .a3 => true | .a0 => false | .a2 => false

/-- The trims that a run has found in their range; none where it has not. Of the skew the range is ±500 ps in steps of 2 ps (R277); the
operand speaks for the others, whose range the spec does not give. -/
def trimsFound (conv : Converter) (x : Option Trims) : Option Trims :=
  x.filter fun t => !upperOfPair conv || decide (t.skew.toInt.natAbs ≤ 250)

/-- A run's trims: in range they are set; out of range the previous ones stay, CALIBRATED clears and the event is logged (R278, R288). -/
def trimsTaken (conv : Converter) (x : Option Trims) (s : State) : State :=
  let n := convNum conv
  match trimsFound conv x with
  | some t => { s with adc := { s.adc with
      calibrated := setBit s.adc.calibrated n
      offset := s.adc.offset.setIfInBounds n t.offset, gain := s.adc.gain.setIfInBounds n t.gain
      skew := if upperOfPair conv then s.adc.skew.setIfInBounds (n / 2) t.skew else s.adc.skew } }
  | none => logEvent (.calibrationOut conv) { s with adc := { s.adc with calibrated := clearBit s.adc.calibrated n } }

/-- The start-up calibration has ended (R279): a capture that START armed without a trigger begins. -/
def listsStart (s : State) : State :=
  if s.adc.listsRun then s
  else
    let s := { s with adc := { s.adc with listsRun := true } }
    if s.adc.capStart && !s.adc.capTrigTmr then captureBegins s else s

/-- CALIBRATION_DONE (R278): the trims; the reading of input 12 becomes the calibrated value and counts as a reference check. -/
def execCalibrationDone (conv : Converter) (reference : BitVec 16) (trims : Option Trims) (s : State) :
    Host.Outcome State Fault Refusal :=
  let n := convNum conv
  done (guarded (isUp s .adc && s.adc.calRun == some conv) (fun s =>
    let s := trimsTaken conv trims { s with
      adc := { s.adc with
        calRun := none, borrowed := clearBit s.adc.borrowed n, refValue := s.adc.refValue.setIfInBounds n reference
        calFirst := if s.adc.calFirst == some conv then none else s.adc.calFirst
        calNext := if s.adc.calFirst == some conv then s.adc.calNext else convAfter conv }
      bgd := { s.bgd with active := clearBit s.bgd.active 1 } }
    let s := if conv == .a3 then listsStart s else s
    if isUp s .safe then refChecked n conv true s else s) s)

/-- BORROW (R280): only the converter of the run under way, and one at a time. -/
def execBorrow (conv : Converter) (begins : Bool) (s : State) : Host.Outcome State Fault Refusal :=
  let n := convNum conv
  done (guarded (adcRuns s && s.adc.calRun == some conv) (fun s =>
    let s := { s with adc := { s.adc with borrowed := if begins then setBit 0 n else clearBit s.adc.borrowed n } }
    { s with met := { s.met with skewNow := s.met.skewNow || (begins && pairBorrowed s) } }) s)

end Sys2Proof.Machine
end

