-- ==== Sys2Proof/Machine/LinkCode.lean ====
section
/-! DEFINITION. Link frames (15): header, FCS, durations, and the coding of R371 down to the bits on the carriers. -/

namespace Sys2Proof.Machine

/-- MODE code of Table 15-3. -/
def modeCode : LinkMode → Nat
  | .q => 0 | .b => 1 | .r => 2

/-- The fields of a frame control header (Table 15-4). -/
structure Fch where
  type : Nat
  prio : Nat
  mode : Nat
  ackReq : Bool
  seg : Nat
  src : Byte
  dst : Byte
  orig : Byte
  fid : Byte
  len : Nat
  hops : Nat
  attempt : BitVec 3
deriving DecidableEq, Repr

/-- The fields of ten received bytes (Table 15-4). -/
def parseFch (b : Bytes) : Fch :=
  let f (i : Nat) : Byte := b.getD i 0
  let n (i : Nat) : Nat := (f i).toNat
  ⟨bits (n 0) 0 3, bits (n 0) 3 2, bits (n 0) 5 2, hasBit (n 0) 7, n 1, f 2, f 3, f 4, f 5, n 6, bits (n 7) 0 3, BitVec.ofNat 3 (bits (n 7) 3 3)⟩

/-- Nine header bytes with their CRC8 (Table 15-4). -/
def withCrc8 (b : Bytes) : Bytes := b ++ [BitVec.ofNat 8 (crc8 b)]

/-- The header that carries the fields (Table 15-4). -/
def fchBytes (x : Fch) : Bytes :=
  withCrc8 [BitVec.ofNat 8 (x.type + 8 * x.prio + 32 * x.mode + 128 * bit x.ackReq), BitVec.ofNat 8 x.seg, x.src, x.dst, x.orig, x.fid,
    BitVec.ofNat 8 x.len, BitVec.ofNat 8 (x.hops + 8 * x.attempt.toNat), 0]

/-- CRC8 is correct (R375). -/
def crc8Ok (b : Bytes) : Bool := b.length == 10 && crc8 (b.take 9) == (b.getD 9 0).toNat

/-- The FCS over FCH bytes 0 to 8 and the payload (R371 step 1), least significant byte first (R9). -/
def frameFcs (fch payload : Bytes) : Bytes := leBytes 4 (crc32c (fch.take 9 ++ payload))

/-- A copy's payload has the length LEN says, and its FCS is correct (R375). -/
def fcsOk (c : Copy) : Bool := c.payload.length == (parseFch c.fch).len && c.fcs == frameFcs c.fch c.payload

/-- Carriers of a band (Table 15-2). -/
def carriers (bandC : Bool) : Nat := if bandC then 8 else 24

/-- Symbols of the FCH (R372). -/
def fchSymbols (bandC : Bool) : Nat := if bandC then 43 else 15

/-- Blocks of a payload and its FCS (R371 step 2). -/
def rsBlocks (len : Nat) : Nat := (len + 4 + 121) / 122

/-- Repetition of the coded bits (Table 15-3). -/
def repetition (m : LinkMode) : Nat := if m = .r then 4 else 1

/-- Bits per carrier and symbol (Table 15-3). -/
def bitsPerCarrier (m : LinkMode) : Nat := if m = .q then 2 else 1

/-- P of R374: symbols of the payload; none in an ACK. -/
def payloadSymbols (bandC : Bool) (m : LinkMode) (len : Nat) : Nat :=
  if len = 0 then 0
  else
    let per := carriers bandC * bitsPerCarrier m
    (2 * (8 * (len + 4 + 8 * rsBlocks len) + 6) * repetition m + per - 1) / per

/-- A frame's duration in µs (R374, Table 15-2). -/
def frameUs (bandC : Bool) (m : LinkMode) (len : Nat) : Nat :=
  let n := 10 + fchSymbols bandC + payloadSymbols bandC m len
  if bandC then n * 5000 / 3 else n * 1000

/-- Twice an element of GF(2⁸) with polynomial 11Dh (R371). -/
def gfDouble (a : Nat) : Nat := if a < 128 then 2 * a else (2 * a) ^^^ 0x11D

/-- A product in GF(2⁸). -/
def gfMul (a b : Nat) : Nat := (List.range 8).foldl (fun x i => if b.testBit i then x ^^^ gfDouble^[i] a else x) 0

/-- The generator with roots α⁰ to α⁷ (R371), highest coefficient first, without the leading 1. -/
def rsGenerator : List Nat :=
  ((List.range 8).foldl (fun g i => List.zipWith (· ^^^ ·) (g ++ [0]) (0 :: g.map (gfMul (gfDouble^[i] 1)))) [1]).tail

/-- One byte of the division by the generator. -/
def rsStep (g r : List Nat) (b : Byte) : List Nat :=
  let f := b.toNat ^^^ r.headD 0
  List.zipWith (fun x c => x ^^^ gfMul f c) (r.tail ++ [0]) g

/-- The 8 parity bytes of a block (R371 step 2). -/
def rsParity (b : Bytes) : Bytes := (b.foldl (rsStep rsGenerator) (List.replicate 8 0)).map (BitVec.ofNat 8)

/-- Blocks of equal length, or differing by one byte with the longer blocks first (R371 step 2). -/
def splitBlocks : Nat → Bytes → List Bytes
  | 0, _ => []
  | n + 1, b => let k := (b.length + n) / (n + 1); b.take k :: splitBlocks n (b.drop k)

/-- Payload and FCS with their parity (R371 steps 1 and 2). -/
def rsCode (fch payload : Bytes) : Bytes :=
  (splitBlocks (rsBlocks payload.length) (payload ++ frameFcs fch payload)).flatMap fun x => x ++ rsParity x

/-- The bits of bytes, most significant first: the spec states no order. -/
def bitStream (b : Bytes) : List Bool := b.flatMap fun x => (List.range 8).map fun i => x.getLsbD (7 - i)

/-- The parity of the bits of a number below 128. -/
def parity7 (n : Nat) : Bool := (List.range 7).foldl (fun p i => p ^^ n.testBit i) false

/-- One bit through the encoder of constraint length 7: generators 171 and 133 octal (R371 step 3). -/
def convStep (w : Nat) (b : Bool) : Nat × List Bool :=
  let w := w / 2 + (if b then 64 else 0)
  (w, [parity7 (w &&& 0o171), parity7 (w &&& 0o133)])

/-- The convolutional code over a stream. -/
def convStream : Nat → List Bool → List Bool
  | _, [] => []
  | w, b :: r => let x := convStep w b; x.2 ++ convStream x.1 r

/-- Six tail bits and the rate 1/2 code (R371 step 3). -/
def convCode (b : Bytes) : List Bool := convStream 0 (bitStream b ++ List.replicate 6 false)

/-- Every coded bit n times (R371 step 4, R372). -/
def repeatBits (n : Nat) (l : List Bool) : List Bool := l.flatMap (List.replicate n)

/-- The last symbol is padded with 0 bits (R371 step 5). -/
def padSymbols (per : Nat) (l : List Bool) : List Bool := l ++ List.replicate ((per - l.length % per) % per) false

/-- The bits of a frame's symbols after the preamble: the FCH in DBPSK with every coded bit twice, then the payload in its mode (R371,
R372). -/
def lineBits (bandC : Bool) (m : LinkMode) (fch payload : Bytes) : List Bool :=
  let n := carriers bandC
  padSymbols n (repeatBits 2 (convCode fch))
  ++ (if payload.isEmpty then [] else padSymbols (n * bitsPerCarrier m) (repeatBits (repetition m) (convCode (rsCode fch payload))))

end Sys2Proof.Machine
end

