-- ==== Sys2Proof/Machine/Operands.lean ====
section
/-! DEFINITION. The operand forms of OD requests (05): the PDU header of Table 5-4 and the payloads of Table 5-6. -/

namespace Sys2Proof.Machine

/-- A PDU's header fields (Table 5-4). -/
structure PduHeader where
  op : Nat
  keysel : KeySel
  resp : Bool
  reserved : Bool
  status : Nat
  xid : BitVec 16
  seq : Word
  session : BitVec 16
  len : Nat
deriving DecidableEq, Repr

/-- KEYSEL by its code. -/
def keyselOf (n : Nat) : KeySel := if n = 0 then .none else if n = 1 then .link else if n = 2 then .session else .reserved

/-- The header of a PDU of at least 12 bytes. -/
def parseHeader (b : Bytes) : PduHeader :=
  let ctl := fieldLe 0 1 b
  { op := bits ctl 0 4, keysel := keyselOf (bits ctl 4 2), resp := hasBit ctl 6, reserved := hasBit ctl 7, status := fieldLe 1 1 b
    xid := BitVec.ofNat 16 (fieldLe 2 2 b), seq := BitVec.ofNat 32 (fieldLe 4 4 b), session := BitVec.ofNat 16 (fieldLe 8 2 b)
    len := fieldLe 10 2 b }

/-- The addresses of a READ: 1 to 32, with no bytes left (R136, R162). -/
def parseAddrs (b : Bytes) : Option (List (BitVec 16)) :=
  if b.length % 2 = 0 && 2 ≤ b.length && b.length ≤ 64 then
    some ((List.range (b.length / 2)).map fun i => BitVec.ofNat 16 (fieldLe (2 * i) 2 b))
  else none

/-- Records one after the other (R115, R136), with fuel. -/
def parseRecordsFrom : Nat → Bytes → Option (List Entry)
  | _, [] => some []
  | 0, _ => none
  | f + 1, b =>
    let n := fieldLe 2 1 b
    if b.length < 3 || n = 0 || 32 < n || b.length < 3 + n then none
    else (parseRecordsFrom f (b.drop (3 + n))).map fun l => ⟨BitVec.ofNat 16 (fieldLe 0 2 b), slice 3 n b⟩ :: l

/-- The records of a WRITE: 1 to 32 (R136, R162). -/
def parseRecords (b : Bytes) : Option (List Entry) :=
  match parseRecordsFrom 33 b with
  | some l => if 1 ≤ l.length && l.length ≤ 32 then some l else none
  | none => none

/-- A READ-BLOCK request (Table 5-6). -/
structure ReadBlockReq where
  addr : BitVec 16
  offset : Nat
  maximum : Nat
deriving DecidableEq, Repr

/-- Its payload. -/
def parseReadBlock (b : Bytes) : Option ReadBlockReq :=
  let m := fieldLe 6 2 b
  if b.length = 8 && 1 ≤ m && m ≤ 200 then some ⟨BitVec.ofNat 16 (fieldLe 0 2 b), fieldLe 2 4 b, m⟩ else none

/-- A WRITE-BLOCK request (Table 5-6). -/
structure WriteBlockReq where
  addr : BitVec 16
  first : Bool
  last : Bool
  offset : Nat
  total : Nat
  crc : Nat
  data : Bytes
deriving DecidableEq, Repr

/-- Its payload; the flags beside [1:0] are reserved. -/
def parseWriteBlock (b : Bytes) : Option WriteBlockReq :=
  let f := fieldLe 2 1 b
  let n := fieldLe 15 2 b
  if 17 ≤ b.length && f < 4 && 1 ≤ n && n ≤ 200 && b.length = 17 + n then
    some ⟨BitVec.ofNat 16 (fieldLe 0 2 b), hasBit f 0, hasBit f 1, fieldLe 3 4 b, fieldLe 7 4 b, fieldLe 11 4 b, b.drop 17⟩
  else none

/-- A SUBSCRIBE request (Table 5-6). -/
structure SubscribeReq where
  addr : BitVec 16
  onChange : Bool
  periodic : Bool
  period : BitVec 16
  lease : BitVec 16
deriving DecidableEq, Repr

/-- Its payload; the mode bits beside [1:0] are reserved. -/
def parseSubscribe (b : Bytes) : Option SubscribeReq :=
  let m := fieldLe 2 1 b
  if b.length = 7 && m < 4 then
    some ⟨BitVec.ofNat 16 (fieldLe 0 2 b), hasBit m 0, hasBit m 1, BitVec.ofNat 16 (fieldLe 3 2 b), BitVec.ofNat 16 (fieldLe 5 2 b)⟩
  else none

/-- Whether a request's payload parses exactly under Table 5-6 (R162). -/
def payloadOk (op : Nat) (b : Bytes) : Bool :=
  match op with
  | 0 => (parseAddrs b).isSome
  | 1 => (parseRecords b).isSome
  | 2 => (parseReadBlock b).isSome
  | 3 => (parseWriteBlock b).isSome
  | 4 => b.isEmpty
  | 5 => (parseSubscribe b).isSome
  | _ => false

/-- The length that LEN and the MAC make (R162). -/
def pduLength (h : PduHeader) : Nat := 12 + h.len + (if h.keysel = .none || h.keysel = .reserved then 0 else 8)

/-- A request that is well formed under R162 and R135: reserved bit, KEYSEL, lengths, OP and payload. -/
def requestOk (h : PduHeader) (b : Bytes) : Bool :=
  !h.reserved && h.keysel != .reserved && !h.resp && b.length == pduLength h && b.length ≤ 240 && h.len ≤ 220 && h.op ≤ 5
    && payloadOk h.op (slice 12 h.len b)

end Sys2Proof.Machine
end

