-- ==== Sys2Proof/Machine/FlagsB.lean ====
section
/-! DEFINITION. The register words of ADC, MET, PLC, NET, DISP, AUD, TMR and TST, assembled from the state. -/

namespace Sys2Proof.Machine

/-- ConverterStatus[9:0] (Table 6-15). -/
def convStatus (s : State) : Nat := s.adc.calibrated.toNat + s.adc.borrowed.toNat * 16 + s.adc.interleaved.toNat * 256

/-- ADC_CONV_STAT (Table 11-5). -/
def convStatWord (s : State) : Word := fields [(convStatus s, 0), (s.adc.refFail.toNat, 10)]

/-- ADC_ERR (Table 11-6). -/
def adcErrWord (s : State) : Word := fields [(bit s.adc.cfgErr, 0), (bit s.adc.capRefused, 1)]

/-- ADC_ULISTk_CTRL (Table 11-7). -/
def ulistCtrlWord (u : UserList) : Word :=
  fields [(bit u.en, 0), (bit u.pair, 1), (u.trig.toNat, 2), (u.tmrCh.toNat, 4), (u.last.toNat, 8), (u.period.toNat, 16)]

/-- ADC_ULISTk_STAT (Table 11-8). -/
def ulistStatWord (u : UserList) : Word := fields [(u.runs.toNat, 0), (u.missed.toNat, 16)]

/-- ADC_ULISTk_ENTe (Table 11-9). -/
def ulistEntWord (u : UserList) (e : Nat) : Word := fields [((u.inputs.toList.getD e 0).toNat, 0), ((u.avgs.toList.getD e 0).toNat, 5)]

/-- ADC_URESk_e (Table 11-10). -/
def uresWord (u : UserList) (e : Nat) : Word :=
  fields [((u.values.toList.getD e 0).toNat, 0), ((u.seqs.toList.getD e 0).toNat, 16), (bit (u.clips.toList.getD e false), 24)]

/-- ADC_CAP_CTRL (Table 11-11). -/
def capCtrlWord (s : State) : Word :=
  let a := s.adc
  fields [(a.capInput.toNat, 0), (bit a.capPair, 5), (bit a.capIlv, 6), (bit a.capTrigTmr, 7), (a.capTrigCh.toNat, 8),
    (a.capLength.toNat, 11), (bit a.capStart, 31)]

/-- ADC_CAP_STAT (Table 11-11). -/
def capStatWord (s : State) : Word := fields [(bit s.adc.capBusy, 0), (bit s.adc.capDone, 1), (s.adc.capGaps.toNat, 16)]

/-- Word k of the capture buffer (Table 11-4): two samples, the earlier one low; unwritten samples read 8000h. -/
def capBufWord (s : State) (k : Nat) : Word :=
  fields [((s.adc.capBuf.getD (2 * k) 0x8000).toNat, 0), ((s.adc.capBuf.getD (2 * k + 1) 0x8000).toNat, 16)]

/-- ADC_WINw_CFG (Table 11-12). -/
def winCfgWord (w : WinComp) : Word := fields [(bit w.en, 0), (w.src.toNat, 1), (w.count.toNat, 8), (w.hys.toNat, 16)]

/-- ADC_WINw_BAND (Table 11-12). -/
def winBandWord (w : WinComp) : Word := fields [(w.low.toNat, 0), (w.high.toNat, 16)]

/-- ADC_WINw_STAT, WindowStatus (Table 6-15). -/
def winStatWord (w : WinComp) : Word := fields [(bit w.en, 0), (bit w.out, 1), (w.cnt.toNat, 8), (w.exits.toNat, 16)]

/-- MET_STAT (Table 12-4). -/
def metStatWord (s : State) : Word :=
  let m := s.met
  fields [(bit m.valid, 0), (bit m.freqValid, 1), (bit m.mainsLoss, 2), (m.code.toNat, 3), (bit m.threePhase, 5), (bit m.clip, 6),
    (bit m.skewCorr, 7), (bit m.reverse, 8)]

/-- PLC_STAT (Table 15-8). -/
def plcStatWord (s : State) : Word :=
  let p := s.plc
  let f := p.current
  fields [(bit p.bandC, 0), (bit p.busy, 1), (bit p.tx.isSome, 2), (bit (p.access != .none), 3), ((f.map (·.prio.toNat)).getD 0, 4),
    ((f.map (·.attempt.toNat)).getD 0, 6), (bit p.mainsRef, 9)]

/-- PLC_QUEUE (Table 15-10). -/
def plcQueueWord (s : State) : Word :=
  let p := s.plc
  fields [(p.q0.length, 0), (p.q1.length, 8), (p.q2.length, 16), (p.refused.toNat, 24)]

/-- A frame stands in PLC's queues, or an ACK window or relayed window runs (Table 16-4). -/
def linkBusy (s : State) : Bool :=
  let p := s.plc
  !p.q0.isEmpty || !p.q1.isEmpty || !p.q2.isEmpty || p.current.isSome || p.tx.isSome || p.ackWindow.isSome || !p.repeats.isEmpty
    || !p.acks.isEmpty || !p.relays.isEmpty

/-- A condition of Table 16-4 keeps the post awake. -/
def keptAwake (s : State) : Bool :=
  setting? s 1 0x10 == 0 || s.pwr.loaderState || s.plt.state != .a || sessionOn s || s.od.session.isSome || !s.od.queue.isEmpty
    || !s.od.transfers.isEmpty || s.fw.stream.isSome || linkBusy s || s.net.pendingForUs || s.net.repeater || 2 ≤ s.net.sync.toNat

/-- AWAKE (Table 16-6): the receiver is on, by a condition of Table 16-4 or in a wake window (R406). -/
def awake (s : State) : Bool := keptAwake s || s.net.windowOpen

/-- PLC_LD (Table 15-9). An asleep post's driver is on for its own copies alone (R406). LIMIT is an analogue level that no command carries: free while a frame is sent. -/
def plcLdWord (s : State) : Word :=
  let p := s.plc
  fields [(bit (p.drvOn && (awake s || p.tx.isSome)), 0), (bit (p.tx.isSome && Config.freeBit s.free), 1), (bit p.shortHold, 2), (bit p.thermal, 3), (p.aborts.toNat, 4), (p.limited.toNat, 16)]

/-- NET_STAT (Table 16-6). -/
def netStatWord (s : State) : Word :=
  let n := s.net
  fields [(n.sync.toNat, 0), (n.misses.toNat, 2), (bit (awake s), 4), (bit n.repeater, 5), (bit n.conflict, 6), (n.lastBsn.toNat, 8),
    (n.lastPath.toNat, 16), (n.lastHops.toNat, 18)]

/-- NET_FP (Table 16-7). -/
def netFpWord (s : State) : Word := fields [(s.net.fpFrames.toNat, 0), (s.net.fpFraming.toNat, 16)]

/-- DISP_CTRL (Table 17-5). -/
def dispCtrlWord (s : State) : Word :=
  let d := s.disp
  fields [(bit d.pixelMode, 0), (bit d.duty, 1), (bit d.bias, 2), (bit d.hostOwn, 3), (bit d.owner, 4), (bit d.driveOn, 5)]

/-- DISP_LCD (Table 17-5). -/
def dispLcdWord (s : State) : Word := fields [(s.disp.contrast.toNat, 0), (bit s.disp.pumpOk, 8)]

/-- DISP_OLED (Table 17-5). -/
def dispOledWord (s : State) : Word := fields [(s.disp.isink.toNat, 0), (s.disp.preV.toNat, 8)]

/-- DISP_FRAME_BASE (Table 17-5). -/
def frameBaseWord (s : State) : Word :=
  let d := s.disp
  fields [(bit d.buf, 0), (bit d.shown, 1), (bit d.pending, 2), (d.takeSeq.toNat, 16)]

/-- DISP_RECT_DST (Table 17-6). -/
def rectDstWord (s : State) : Word := fields [(s.disp.dstX.toNat, 0), (s.disp.dstY.toNat, 8), (bit s.disp.dstBuf, 16)]

/-- DISP_RECT_SIZE (Table 17-6). -/
def rectSizeWord (s : State) : Word := fields [(s.disp.sizeW.toNat, 0), (s.disp.sizeH.toNat, 8)]

/-- DISP_RECT_STAT (Table 17-6). -/
def rectStatWord (s : State) : Word :=
  let d := s.disp
  fields [(d.queue.length, 0), (d.flight.length, 4), (bit (d.queue.any (·.waitShown)), 7), (d.lastSeq.toNat, 8), (d.doneSeq.toNat, 16),
    (64 - d.fifo.length, 24)]

/-- DISP_ERR (Table 17-6). -/
def dispErrWord (s : State) : Word :=
  let d := s.disp
  fields [(bit d.cfgErr, 0), (bit d.notOwner, 1), (bit d.bounds, 2), (bit d.shownDst, 3), (bit d.pendingDst, 4), (bit d.queueFull, 5),
    (bit d.commitBusy, 6), (bit d.dataOvf, 7), (bit d.dataTimeout, 8), (bit d.pumpFault, 9)]

/-- AUD_STAT (Table 17-7). -/
def audStatWord (s : State) : Word :=
  let a := s.aud
  fields [(bit a.playing.isSome, 0), (a.prompt.toNat, 1), (bit a.limit, 7), (bit a.hold, 8), (bit a.latched, 9), (a.retries.toNat, 10),
    (bit (a.faults.getLsbD 0), 13), (a.level.toNat, 16)]

/-- Channel n of TMR. -/
def chan (s : State) (n : Nat) : Channel := s.tmr.ch.toList.getD n {}

/-- The level of an input of Table 18-2 for channel n. A pad's level comes from outside: a free value. -/
def sourceLevel (s : State) (n code : Nat) : Bool :=
  if code = 5 then s.swg.aux
  else if code = 7 then !s.glt.kill
  else if code = 8 then n != 0 && (chan s (n - 1)).matched
  else Config.padLevel s.free code

/-- GATED (R455). -/
def gated (s : State) (n : Nat) : Bool :=
  let c := chan s n
  c.gateEn && sourceLevel s n c.gateSrc.toNat != c.gateLvl

/-- The owner code of a channel (R453). -/
def channelOwner (n : Nat) : Nat := if n = 6 then 2 else if n = 7 then 3 else 1

/-- TMR_CHn_CTRL (Table 18-5). -/
def chCtrlWord (c : Channel) : Word := fields [(bit c.run, 0), (bit c.oneshot, 1), (bit c.imm, 2)]

/-- TMR_CHn_CFG (Table 18-5). -/
def chCfgWord (c : Channel) : Word :=
  fields [(c.clk.toNat, 0), (c.pre.toNat, 4), (c.src.toNat, 8), (c.gateSrc.toNat, 12), (bit c.gateEn, 16), (bit c.gateLvl, 17),
    (c.capSrc.toNat, 18), (c.capEdge.toNat, 22), (c.filt.toNat, 24)]

/-- TMR_CHn_STAT (Table 18-5). -/
def chStatWord (s : State) (n : Nat) : Word :=
  let c := chan s n
  fields [(bit c.run, 0), (bit (gated s n), 1), (bit c.overrun, 2), (bit c.cmpLate, 3), (channelOwner n, 4), (bit c.full, 8),
    (bit c.matched, 9), (bit c.cmpNext.isSome, 10), (bit c.topNext.isSome, 11)]

/-- TMR_IRQ (Table 18-6). -/
def tmrIrqWord (s : State) : Word := BitVec.ofNat 32 (tmrIrqBits s)

/-- TMR_ERR (Table 18-6). -/
def tmrErrWord (s : State) : Word := fields [(bit s.tmr.cfgErr, 0), (bit s.tmr.notOwner, 1)]

/-- TST_STAT (Table 20-3). -/
def tstStatWord (s : State) : Word :=
  let t := s.tst
  fields [(t.code.toNat, 0), (t.outcome.toNat, 8), (bit t.pending, 12), (bit t.scanning, 13), (t.island.toNat, 14)]

/-- TST_ISLAND (Table 20-3). -/
def tstIslandWord (s : State) : Word := fields [(s.tst.logicFail.toNat, 0), (s.tst.memFail.toNat, 16)]

end Sys2Proof.Machine
end

