-- ==== Sys2Proof/Machine/OdValue.lean ====
section
/-! DEFINITION. What a read of each object dictionary entry gives (05, 06): values of Tables 6-4 to 6-22, and the status of a read. -/

namespace Sys2Proof.Machine

/-- Status codes of Table 5-8. -/
def stOk : Nat := 0
/-- UNKNOWN_ENTRY. -/
def stUnknown : Nat := 1
/-- ACCESS_DENIED. -/
def stDenied : Nat := 2
/-- TYPE_MISMATCH. -/
def stType : Nat := 3
/-- OUT_OF_RANGE. -/
def stRange : Nat := 4
/-- BUSY. -/
def stBusy : Nat := 5
/-- AUTH_FAILURE. -/
def stAuth : Nat := 6
/-- NO_SPACE. -/
def stSpace : Nat := 7
/-- HARDWARE_FAULT. -/
def stHardware : Nat := 8
/-- ABSENT. -/
def stAbsent : Nat := 9
/-- SEQ_RESYNC. -/
def stResync : Nat := 10
/-- BLOCK_ORDER. -/
def stOrder : Nat := 11
/-- BLOCK_CHECK. -/
def stCheck : Nat := 12
/-- SNAPSHOT_LOST. -/
def stSnapshot : Nat := 13
/-- FRAME_ERROR. -/
def stFrame : Nat := 14
/-- TOO_MANY. -/
def stTooMany : Nat := 15

/-- The item of an address (R11). -/
def itemOf (a : BitVec 16) : Nat := a.toNat % 1024

/-- ConfigSparesLeft (R114): 8 minus the number of BEGUN bits set. -/
def sparesLeft (s : State) : Nat := 8 - ((List.range 8).filter s.cfg.begun.getLsbD).length

/-- ConfigSpoilt (Table 4-5): begun and not done, or done and failing its check. -/
def configSpoilt (s : State) : Byte := (s.cfg.begun &&& ~~~s.cfg.done) ||| (s.cfg.done &&& ~~~s.cfg.valid)

/-- ConfigHash (Table 4-5). -/
def configHash (s : State) : Bytes := sha256 (recordsBytes s.set.running)

/-- GrantState (Table 6-18). -/
def grantState (s : State) : Nat := if s.ses.inUse then 2 else if s.ses.grant.isSome then 1 else 0

/-- A signed 16-bit reading as S32. -/
def s32Of (v : BitVec 16) : Nat := (v.signExtend 32).toNat

/-- A residual in units of 10 µA as Q16.16 mA. -/
def residualQ16 (v : Int) : Nat := (ofInt 32 (Int.tdiv (v * 65536) 100)).toNat

/-- Numbers of group 00. -/
def num00 (s : State) (i : Nat) : Nat :=
  if i = 2 then s.otp.hardwareRevision.toNat
  else if i = 3 then (if s.pwr.loaderState then 0 else (firmwareVersion s).toNat)
  else if i = 4 then s.fw.loaderVersion.toNat
  else if i = 0x20 then s.set.generation.toNat
  else if i = 0x21 then s.boot.source.toNat
  else if i = 0x22 then sparesLeft s
  else if i = 0x23 then bit s.set.dirty
  else (configSpoilt s).toNat

/-- Numbers of group 01. -/
def num01 (s : State) (i : Nat) : Nat :=
  if i = 0x12 then s.net.sync.toNat
  else if i = 0x20 then s.net.curtail.toNat
  else if i = 0x30 then s.plc.framesSent.toNat
  else if i = 0x31 then s.plc.retries.toNat
  else if i = 0x32 then s.plc.framesLost.toNat
  else if i = 0x80 then s.od.serviceEpoch.toNat
  else if i = 0x81 then s.od.txSeq.toNat
  else if i = 0x82 then s.od.rxAccepted.toNat
  else if i = 0x83 then s.od.macFailures.toNat
  else if i = 0x84 then s.od.replayDrops.toNat
  else if i = 0x85 then s.od.busyRefusals.toNat
  else if i = 0x86 then s.od.subs.length
  else sessionNumber s

/-- Numbers of groups 04 and 05. -/
def num0405 (s : State) (g i : Nat) : Nat :=
  if g = 4 then (if i = 0 then s.met.code.toNat else if i = 1 then s.bil.input.toNat else s.bil.changes.toNat)
  else if i = 1 then (sessionStatusWord s).toNat
  else if i = 2 then s.ses.energyWh.toNat
  else if i = 0x10 then s.bil.headIndex.toNat
  else if i = 0x12 then s.bil.untrustedCount.toNat
  else if i = 0x13 then s.bil.cursor.toNat
  else s.bil.oldestIndex.toNat

/-- Numbers of groups 08 to 0A. -/
def num080A (s : State) (g i : Nat) : Nat :=
  if g = 8 then
    if i = 0 then s.ses.allowed.toNat
    else if i = 3 then (if s.plt.level == .pwm then s.plt.duty.toNat * 32768 else 0)
    else if i = 4 then s32Of s.plt.highMv
    else if i = 5 then s32Of s.plt.lowMv
    else if i = 6 then s.plt.ohms.toNat
    else (pilotStatusWord s).toNat
  else if g = 9 then
    if i = 0 then (switchStateWord s).toNat else if i = 3 then s.swg.contactorOps.toNat else s.swg.desatTrips.toNat
  else if i = 0 then s.lck.state.toNat
  else s.lck.faults.toNat

/-- Numbers of groups 0C to 11. -/
def num0C11 (s : State) (g i : Nat) : Nat :=
  if g = 0x0C then
    if i = 0 then residualQ16 s.rcd.ac.toNat else if i = 1 then residualQ16 s.rcd.dc.toInt else if i = 3 then 6 else s.rcd.trips.toNat
  else if g = 0x0D then
    if i = 0 then (sealWordOf s).toNat
    else if i = 1 then bit s.safe.active
    else if i = 2 then s.safe.cause.toNat
    else if i = 4 then s.safe.entries.toNat
    else s.safe.failed.toNat
  else if g = 0x10 then
    let l23 := i == 1 || i == 2 || i == 5 || i == 6 || i == 9 || i == 0x0A || (0x14 ≤ i && i < 0x1C) || i == 0x21 || i == 0x22
    if l23 && !threePhase s then 0
    else if i < 3 then (s.met.vRms.toList.getD i 0).toNat
    else if i < 8 then (s.met.iRms.toList.getD (i - 4) 0).toNat
    else if i < 0x0B then (s.met.power.toList.getD (i - 8) 0).toNat
    else if i = 0x0C then s.met.freq.toNat
    else if i < 0x1C then (s.met.eimp.toList.getD (i - 0x10) 0).toNat / 1000
    else if i < 0x23 then (s.met.evar.toList.getD (i - 0x20) 0).toNat / 1000
    else bit s.met.valid
  else if i = 0 then convStatus s
  else if i < 0x20 then (winStatWord (s.adc.wins.toList.getD (i - 0x10) {})).toNat
  else s.adc.converterErrors.toNat

/-- Numbers of groups 14 to 28. -/
def num1428 (s : State) (g i : Nat) : Nat :=
  if g = 0x14 then s.disp.frameSeq.toNat
  else if g = 0x15 then s.aud.faults.toNat
  else if g = 0x18 then (if i = 8 then 1000000 else (chStatWord s i).toNat % 256)
  else if g = 0x1C then
    if i = 1 then grantState s
    else if i = 2 then (match s.ses.grant with | some x => x.account.toNat | none => 0)
    else if i = 3 then remainingWh s
    else if i = 0x11 then (if s.sec.scanLock then 0x3F else s.sec.locked.toNat)
    else yewState s
  else if g = 0x1D then s.sec.mirrorCount.toNat
  else if g = 0x20 then (if i = 2 then s.od.fwUpdateMode.toNat else (fwStatusWord s).toNat)
  else if g = 0x22 then
    if i = 1 then s.bgd.suspended.toNat
    else if i = 2 then s.bgd.corrected.toNat
    else if i = 3 then s.bgd.uncorrectable.toNat
    else wearPct s
  else if g = 0x24 then s.tst.result.toNat
  else if i = 0 then s.flash.eventCount.toNat
  else if i = 1 then s.od.eventCursor.toNat
  else if i = 4 then s.flash.eventOldest.toNat
  else if i = 0x10 then (rstCauseWord s).toNat
  else if i = 0x11 then (bootWord s).toNat
  else (supplyWord s).toNat

/-- The number that an unstored entry reads as. -/
def odNumber (s : State) (a : BitVec 16) : Nat :=
  let g := groupOf a
  let i := itemOf a
  if g = 0 then num00 s i
  else if g = 1 then num01 s i
  else if g ≤ 5 then num0405 s g i
  else if g ≤ 0x0A then num080A s g i
  else if g ≤ 0x11 then num0C11 s g i
  else num1428 s g i

/-- TIME entries (Tables 6-6, 6-8, 6-18, 6-21): GrantExpiry reads 0 without a grant. -/
def odTime? (s : State) (a : BitVec 16) : Option Time :=
  if a == od 2 0 then some s.bil.clock
  else if a == od 5 3 then some s.ses.start
  else if a == od 0x1C 4 then some ((s.ses.grant.map (·.expiry)).getD 0)
  else if a == od 0x24 2 then some s.tst.time
  else none

/-- The 32 bytes of a group 28 event. Those that the spec does not lay out are free values. -/
def eventBytes (n : Word) : EventKind → Bytes
  | .safeState b => b
  | _ => (List.range 32).map (Config.eventByte n.toNat)

/-- The record that LedgerCursor names (R172). -/
def ledgerAtCursor (s : State) : Option Stored := s.bil.ledger.find? fun x => x.record.index == s.bil.cursor

/-- The event that EventCursor names (R172). -/
def eventAtCursor (s : State) : Option (Word × EventKind) := s.flash.log.find? fun x => x.1 == s.od.eventCursor

/-- STR and BLOB entries with the status of their read (Tables 6-4, 6-8, 6-16, 6-19, 6-20, 6-22, R172). -/
def odBytes? (s : State) (a : BitVec 16) : Option (Nat × Bytes) :=
  if a == od 0 0 then some (0, s.otp.serial)
  else if a == od 0 1 then some (0, ascii (if s.otp.gradeX then "BL-420-X" else "BL-420-I"))
  else if a == od 0 5 then some (0, devicePublicKey s)
  else if a == od 0 0x25 then some (0, configHash s)
  else if a == od 5 0x11 then some (0, s.bil.headHash)
  else if a == od 5 0x14 then
    match ledgerAtCursor s with
    | none => some (stRange, [])
    | some x => some (if x.readable then (0, storedBytes x) else (stHardware, []))
  else if a == od 0x14 5 then some (0, s.od.displayMessage)
  else if a == od 0x1D 1 then some (0, s.sec.mirror)
  else if a == od 0x20 0 then some (0, manifestHash s)
  else if a == od 0x28 2 then
    match eventAtCursor s with
    | none => some (stRange, [])
    | some x => some (if s.flash.badEvents.contains x.1 then (stHardware, []) else (0, eventBytes x.1 x.2))
  else none

/-- The size of a number's type. -/
def OdType.size : OdType → Nat
  | .num k => k
  | .signed k => k
  | .str _ => 0
  | .blob _ _ => 0

/-- Whether the running settings hold an entry (R115). -/
def isSetting (r : OdRow) : Bool := r.persistence == .otp

/-- The value of an entry whose row is r, with the status of the read. An action entry of class RWA reads 0 (R167). -/
def odValue (s : State) (r : OdRow) : Nat × Bytes :=
  if isSetting r then (0, settingBytes s r.addr)
  else if r.action then (0, zeros r.type.size)
  else match odBytes? s r.addr with
    | some v => v
    | none => match odTime? s r.addr with
      | some t => (0, timeBytes t)
      | none =>
        if r.addr == od 2 1 then (0, leBytes 1 (bit s.bil.trusted))
        else if r.addr == od 2 4 then (0, leBytes 4 (ofInt 32 s.bil.lastAdjustMs).toNat)
        else (0, leBytes r.type.size (odNumber s r.addr))

/-- The owning island is out of service (R172). LG entries are readable from the restored settings on (R175); the loader stands
in for SEQ (R517). -/
def ownerOut (s : State) (r : OdRow) : Bool :=
  let i := ownerOf r.addr
  !isUp s i && !(i == .seq && s.pwr.loaderState)
    && !(r.persistence == .lg && restoreRowDone s && (port s i).state == .notYetUp)

/-- The row of a readable or writable address: group 3F is refused, and the loader state knows only the entries marked [L] (R22, R23,
R164, R517). -/
def odEntry (s : State) (a : BitVec 16) : Nat × Option OdRow :=
  if groupOf a = 0x3F then (stDenied, none)
  else match odRow? a with
    | none => (stUnknown, none)
    | some r => if s.pwr.loaderState && !r.loader then (stUnknown, none) else (0, some r)

/-- A read that block transfer alone may serve is not allowed (R132), nor one of a W entry (Table 5-2). -/
def odRead (long : Bool) (s : State) (a : BitVec 16) : Nat × Bytes :=
  match odEntry s a with
  | (st, none) => (st, [])
  | (_, some r) =>
    if r.access == .w then (stDenied, [])
    else if r.long && !long then (stType, [])
    else if ownerOut s r then (stAbsent, [])
    else odValue s r

end Sys2Proof.Machine
end

