-- ==== Sys2Proof/Machine/OdWrite.lean ====
section
/-! DEFINITION. How a value is checked and applied by a WRITE (05, 06): the checks of R145, ranges, state conditions, the settings'
effects, the retained copies, and the replies. -/

namespace Sys2Proof.Machine

/-- What follows once a write has been answered (R139, R158, R170, R498, R521). -/
inductive Later where
  | nothing
  | reset (c : ResetCause)
  | bist (code : Byte)
  | notify
  | opened (a : AuthSession)
deriving DecidableEq, Repr

/-- The answer to a write: its status, the state before the response is sent, and what follows the response. -/
structure Reply where
  status : Nat
  state : State
  later : Later := .nothing

/-- A refusal that changes nothing. -/
def refused (st : Nat) (s : State) : Reply := ⟨st, s, .nothing⟩

/-- The OD is served (R161, R163, R500): the settings are restored, SEQ or the loader runs, and no COMMIT holds the queue (R144). -/
def odServed (s : State) : Bool :=
  restoreRowDone s && (isUp s .seq || s.pwr.loaderState) && s.set.commit.isNone && !s.tst.scanning

/-- An authenticated session under which the requester wrote (R139). -/
def inAuth (s : State) (rq : Requester) : Bool := rq.keysel == .session && s.od.session.isSome

/-- Check 2 of R145 for a write (Table 5-2, R133). -/
def mayWrite (s : State) (rq : Requester) : Access5 → Bool
  | .r => false
  | .rw => true
  | .w => true
  | .rwa => inAuth s rq
  | .rwk => sw8Open s

/-- The seal's bound of an entry, once a seal word has been accepted at this start: until then the catalogue's range stands alone (R90, R134). -/
def boundInForce (s : State) (a : BitVec 16) : Option Nat := if s.safe.sealAccepted then sealBound s a else none

/-- A number in the range its row gives, the seal's bound included (R134, R165, R167). -/
def rangeOk (s : State) (r : OdRow) (v : Bytes) : Bool :=
  let n := ofLe v
  match r.range with
  | .any => true
  | .upTo lo hi => lo ≤ n && n ≤ (match boundInForce s r.addr with | some b => min hi b | none => hi)
  | .signedUpTo lo hi => let i := (BitVec.ofNat 32 n).toInt; lo ≤ i && i ≤ hi
  | .divisorOf60 => 1 ≤ n && n ≤ 60 && 60 % n == 0
  | .coppice => n ≤ 15 && n.testBit 0 && n.testBit 2
  | .selfTest => n < 512 && testCodeOk (n % 256)
  | .ledgerCursor => s.bil.oldestIndex.toNat ≤ n && n ≤ s.bil.headIndex.toNat
  | .eventCursor => s.flash.eventOldest.toNat ≤ n && n ≤ s.flash.eventCount.toNat

/-- The value of a number entry once a WRITE of these records has been applied (R169). -/
def standing (s : State) (l : List Entry) (a : BitVec 16) : Nat :=
  match (l.filter fun e => e.addr == a).getLast? with
  | some e => ofLe e.value
  | none => ofLe (settingBytes s a)

/-- AcTripMa stays below InstantTripMa, judged on the values that would stand (R169). -/
def tripsOk (s : State) (l : List Entry) (a : BitVec 16) : Bool :=
  if a == od 12 2 || a == od 12 4 then standing s l (od 12 2) < standing s l (od 12 4) else true

/-- Check 5 of R145 for a stored entry: BUSY in session (Tables 6-8, 6-9), R482, R514, R518. -/
def stateOk (s : State) (r : OdRow) (v : Bytes) : Bool :=
  if r.addr == od 5 0 || r.addr == od 8 2 then !inSession s
  else if r.addr == od 0x22 1 then !((ofLe v).testBit 2 && reserveLow s)
  else if r.addr == od 0x20 2 then s.fw.stream.isNone && !s.pwr.handoverDue && !(s.pwr.loaderState && s.fw.phase == 3 && s.fw.next != 0)
  else !(s.pwr.loaderState && (r.persistence == .otp || r.persistence == .rt))

/-- The checks of R145 on one record of a WRITE, in order, and then the owner's absence (R160). -/
def checkRecord (rq : Requester) (long : Bool) (all : List Entry) (e : Entry) (s : State) : Nat :=
  match odEntry s e.addr with
  | (st, none) => st
  | (_, some r) =>
    if !mayWrite s rq r.access then stDenied
    else if (r.long && !long) || !r.typeOk e.value then stType
    else if !rangeOk s r e.value || !tripsOk s all e.addr then stRange
    else if !stateOk s r e.value then stBusy
    else if ownerOut s r then stAbsent
    else stOk

/-- The first failing record of a WRITE, with its index and address (R145). Absence is met while the records are applied, after
every check has passed (R160). -/
def firstFailure (rq : Requester) (long : Bool) (all : List Entry) (s : State) : Option (Nat × Nat × BitVec 16) :=
  let found := all.zipIdx.map fun x => (checkRecord rq long all x.1 s, x.2, x.1.addr)
  match found.find? fun x => x.1 != stOk && x.1 != stAbsent with
  | some x => some x
  | none => found.find? fun x => x.1 == stAbsent

/-- A calibration constant is written (R304): it applies from the next period, and the write is logged. -/
def calWritten (a : BitVec 16) (before after : Bytes) (s : State) : State :=
  let s := { s with met := { s.met with calNext := calFromSettings s } }
  if 0x40 ≤ itemOf a then logEvent (.calWrite a before after) s else s

/-- What a new value of a setting starts beside being stored. -/
def settingFollow (a : BitVec 16) (before after : Bytes) (s : State) : State :=
  if a == od 1 2 || a == od 1 3 then { s with plc := { s.plc with reloadDue := true } }
  else if a == od 4 2 then refreshCode s
  else if a == od 8 1 || a == od 8 2 then recompute s
  else if a == od 12 2 then (if before == after then s else { s with rcd := { s.rcd with levelsDue := true } })
  else if groupOf a = 0x10 then calWritten a before after s
  else if a == od 0x14 0 then { s with disp := { s.disp with reloadDue := true } }
  else if a == od 0x14 1 || a == od 0x14 2 then { s with disp := { s.disp with lcdDue := true } }
  else if a == od 0x14 3 then { s with disp := { s.disp with isink := BitVec.ofNat 8 (ofLe after) } }
  else if a == od 0x15 0 then { s with aud := { s.aud with level := BitVec.ofNat 8 (ofLe after) } }
  else if a == od 0x22 0 then { s with bgd := { s.bgd with enabled := BitVec.ofNat 4 (ofLe after) } }
  else s

/-- One bit of CoppiceSuspend changes whether a zone's erase runs (R482). -/
def suspendErases (on : Bool) (s : State) : State :=
  allZones.foldl (fun s z =>
    let x := zoneOf s.flash z
    setZone z { x with suspended := on && x.erasing.isSome } s) s

/-- CoppiceSuspend takes a value (R482, R484). -/
def setSuspend (v : Nat) (s : State) : State :=
  suspendErases (v.testBit 2) { s with bgd := { s.bgd with suspended := BitVec.ofNat 4 v } }

/-- One record is applied: an OTP-class value with its effect and ConfigDirty (R120), or a volatile one. -/
def applyRecord (e : Entry) (s : State) : State :=
  match odRow? e.addr with
  | none => s
  | some r =>
    if isSetting r then
      let before := settingBytes s e.addr
      settingFollow e.addr before e.value { s with set := { s.set with running := putEntry s.set.running e, dirty := true } }
    else if e.addr == od 5 0x13 then { s with bil := { s.bil with cursor := BitVec.ofNat 32 (ofLe e.value) } }
    else if e.addr == od 0x14 5 then { s with od := { s.od with displayMessage := e.value } }
    else if e.addr == od 0x20 2 then { s with od := { s.od with fwUpdateMode := BitVec.ofNat 8 (ofLe e.value) } }
    else if e.addr == od 0x22 1 then setSuspend (ofLe e.value) s
    else if e.addr == od 0x28 1 then { s with od := { s.od with eventCursor := BitVec.ofNat 32 (ofLe e.value) } }
    else s

/-- A checked WRITE is applied in request order, and the copies are written once if it held a setting (R120, R145). -/
def applyRecords (l : List Entry) (s : State) : State :=
  let s := l.foldl (fun s e => applyRecord e s) s
  if l.any fun e => otpRows.any fun r => r.addr == e.addr then writeCopies s else s

/-- The address of an action entry (Table 6-2), or of Grant and SessionToken, whose writes are rows of their own. -/
def isAction (a : BitVec 16) : Bool :=
  match odRow? a with
  | some r => r.action || a == od 0x1C 0 || a == od 0x1C 0x10
  | none => false

/-- A refusal payload (Table 5-7). -/
def refusal (index : Nat) (a : BitVec 16) : Bytes := leBytes 1 index ++ leBytes 2 a.toNat

/-- A response leaves, its status is kept as the last one answered, and BUSY refusals are counted (Table 5-11). -/
def respond (rq : Requester) (op st : Nat) (payload : Bytes) (s : State) : State :=
  let s := { s with od := { s.od with
    lastStatus := BitVec.ofNat 8 st, busyRefusals := if st = stBusy then satInc s.od.busyRefusals else s.od.busyRefusals } }
  sendPdu rq.path rq.prio false op rq.keysel st rq.xid payload s

/-- The authenticated session ends (R139): its key leaves Yew. -/
def endAuth (s : State) : State :=
  { s with od := { s.od with session := none }
           sec := if s.sec.ctx == .session then { s.sec with ctx := .none, yew := [], usesLeft := 0 } else s.sec }

/-- What follows a response. A reset waits until the response has left (R170): HELD_RESET_RELEASE is its moment, within 10 ms. -/
def runLater (l : Later) (s : State) : State :=
  match l with
  | .nothing => s
  | .reset c => awaitReset c s
  | .bist code => awaitReset .odRestart (bistRequested code s)
  | .notify => epochNotify s
  | .opened a =>
    let s := endAuth s
    { s with od := { s.od with
      session := some a, lastSession := a.number, txSession := 1, winNode0Session := {}, winMbxSession := {} } }

/-- A reply is sent, and what follows it happens. A refusal carries Table 5-7, for the record of index i at address a. -/
def answer (rq : Requester) (op : Nat) (okPayload : Bytes) (i : Nat) (a : BitVec 16) (r : Reply) : State :=
  runLater r.later (respond rq op r.status (if r.status = stOk then okPayload else refusal i a) r.state)

end Sys2Proof.Machine
end

