-- ==== Sys2Proof/Machine/OdActions.lean ====
section
/-! DEFINITION. The action entries of the object dictionary and the signed writes (01, 04, 08, 10, 13, 14, 17, 20, 21): ConfigRevert,
TimeSet, SessionStop, Grant, GrantDiscard, SessionToken, LockFaultClear, SafeStateRelease, AudioFaultClear, PromptTest, MirrorNonce,
FwActivate, SelfTestRequest, Restart. -/

namespace Sys2Proof.Machine

/-- Serial and segment fields that match this post (Tables 13-2, 14-6): SCOPE 00h names the device, 01h the segment. -/
def scopeMatches (s : State) (b : Bytes) : Bool :=
  let serial := slice 4 12 b
  if fieldLe 2 1 b = 0 then serial == s.otp.serial
  else fieldLe 2 1 b == 1 && fieldLe 3 1 b == segmentNumber s && allZero serial

/-- The signature of a signed write over its first n bytes, under the operator root key of slot 1 (R319, R349, R353). -/
def operatorSigned (s : State) (n : Nat) (b : Bytes) : Bool := ecdsaVerify (slotKey s 1) (sha256 (b.take n)) (slice n 64 b)

/-- What stops every signed write (Table 14-9): SEC out of service, or slot 1 failing or blank. -/
def signedStop (s : State) : Option Nat :=
  if !isUp s .sec then some stAbsent else if !s.sec.slotOk.getLsbD 1 then some stHardware else none

/-- A signed write: stopped by Table 14-9, refused with AUTH_FAILURE and logged, or accepted. -/
def signedWrite (code : Nat) (ok : Bool) (accept : Reply) (s : State) : Reply :=
  match signedStop s with
  | some st => refused st s
  | none => if ok then accept else refused stAuth (logEvent (.authRefused code) s)

/-- R319. -/
def timeSetOk (s : State) (b : Bytes) : Bool :=
  b.length == 96 && fieldLe 0 2 b == 0x5401 && allZero (slice 0x16 2 b) && allZero (slice 0x1C 4 b) && scopeMatches s b
    && s.bil.tsCounter.toNat < fieldLe 0x18 4 b && operatorSigned s 0x20 b

/-- TimeSet (R319). The record that the step closes carries the COUNTER just accepted: DEDUCED from "every later record". -/
def timeSet (b : Bytes) (s : State) : Reply :=
  signedWrite 3 (timeSetOk s b)
    ⟨stOk, applyTimeSet (timeOf (slice 0x10 6 b)) { s with bil := { s.bil with tsCounter := BitVec.ofNat 32 (fieldLe 0x18 4 b) } }, .nothing⟩ s

/-- Fields of a grant within Table 14-6 (R349 items 1 to 3). -/
def grantForm (s : State) (b : Bytes) : Bool :=
  let limit := fieldLe 0x1C 2 b
  let cap := fieldLe 0x18 4 b
  b.length == 112 && fieldLe 0 2 b == 0x4701 && fieldLe 3 1 b == segmentNumber s && scopeMatches s b
    && fieldLe 0x10 4 b != 0 && fieldLe 0x14 4 b != 0 && 1 ≤ cap && cap ≤ 1000000 && (limit == 0 || (60 ≤ limit && limit ≤ 630))
    && allZero (slice 0x1E 2 b) && allZero (slice 0x2C 4 b)
    && (timeOf (slice 0x20 6 b)).toNat < (timeOf (slice 0x26 6 b)).toNat

/-- R349 item 5: judged as R352 says. -/
def grantInTime (s : State) (b : Bytes) : Bool :=
  s.bil.clock.toNat < (timeOf (slice 0x26 6 b)).toNat
    && (!s.bil.trusted || (timeOf (slice 0x20 6 b)).toNat ≤ s.bil.clock.toNat)

/-- The line of the grant table for a GRANT_ID. -/
def tableLine (s : State) (id : Word) : Option GrantLine := s.ses.table.find? fun x => x.grantId == id

/-- R349 item 6. -/
def grantHasEnergy (s : State) (id : Word) : Bool :=
  match tableLine s id with
  | some x => x.remaining != 0
  | none => true

/-- R349, and R352 after the table was lost. -/
def grantOk (s : State) (b : Bytes) : Bool :=
  grantForm s b && operatorSigned s 0x30 b && grantInTime s b && grantHasEnergy s (BitVec.ofNat 32 (fieldLe 0x14 4 b))
    && !(s.ses.tableLost && !s.bil.trusted)

/-- The grant table with a new line (R350): a full table loses the line with the earliest EXPIRY, which an expired one has. -/
def addLine (x : GrantLine) (l : List GrantLine) : List GrantLine :=
  if l.length < 32 then l ++ [x]
  else
    let first := l.foldl (fun a y => if y.expiry.toNat < a then y.expiry.toNat else a) (2 ^ 48)
    match l.findIdx? fun y => y.expiry.toNat == first with
    | some i => l.eraseIdx i ++ [x]
    | none => l ++ [x]

/-- The grant that 112 accepted bytes hold, with its remaining energy (R350). -/
def grantOf (s : State) (b : Bytes) : Grant :=
  let id := BitVec.ofNat 32 (fieldLe 0x14 4 b)
  { account := BitVec.ofNat 32 (fieldLe 0x10 4 b), grantId := id
    remaining := match tableLine s id with
      | some x => x.remaining
      | none => BitVec.ofNat 32 (fieldLe 0x18 4 b)
    limitDeciA := BitVec.ofNat 16 (fieldLe 0x1C 2 b), notBefore := timeOf (slice 0x20 6 b), expiry := timeOf (slice 0x26 6 b)
    countedFrom := s.bil.running, fromTrusted := s.bil.trusted }

/-- The table with the line of a grant that is accepted: a line that holds its GRANT_ID takes its ACCOUNT and EXPIRY (R350). -/
def lineTaken (g : Grant) (s : State) : List GrantLine :=
  if (tableLine s g.grantId).isSome then
    s.ses.table.map fun y => if y.grantId == g.grantId then { y with account := g.account, expiry := g.expiry } else y
  else addLine ⟨g.grantId, g.account, g.expiry, g.remaining⟩ s.ses.table

/-- A verified grant becomes the waiting grant (R28, R39); a session may start, and R185 follows. -/
def holdGrant (b : Bytes) (s : State) : State :=
  let g := grantOf s b
  let table := lineTaken g s
  tryStart (recompute { s with ses := { s.ses with grant := some g, inUse := false, table := table } })

/-- Grant (R349). A refusal plays prompt 3 (Table 17-3). -/
def grantWrite (b : Bytes) (s : State) : Reply :=
  let r := signedWrite 1 (grantOk s b) ⟨stOk, holdGrant b s, .nothing⟩ s
  if r.status = stOk then { r with state := eventPrompt 2 r.state }
  else if r.status = stAuth then { r with state := eventPrompt 3 r.state }
  else r

/-- GrantDiscard (Table 6-18): a waiting grant is discarded. -/
def grantDiscard (s : State) : Reply := ⟨stOk, recompute { s with ses := { s.ses with grant := none } }, .nothing⟩

/-- R353, R354. -/
def tokenOk (s : State) (b : Bytes) : Bool :=
  b.length == 112 && fieldLe 0 2 b == 0x5301 && allZero (slice 2 2 b) && slice 4 12 b == s.otp.serial && allZero (slice 0x16 2 b)
    && allZero (slice 0x2C 4 b) && s.od.tokenCounter.toNat < fieldLe 0x18 4 b && operatorSigned s 0x30 b
    && s.bil.clock.toNat < (timeOf (slice 0x10 6 b)).toNat

/-- The SESSION number (R354). -/
def sessionNumberFor (previous : BitVec 16) (counter : Nat) : BitVec 16 :=
  let n := BitVec.ofNat 16 counter
  if n != 0 && n != previous then n else if previous = 0xFFFF then 1 else previous + 1

/-- SessionToken (R139, R354, R355). The session opens after the response. -/
def tokenWrite (b : Bytes) (s : State) : Reply :=
  let c := BitVec.ofNat 32 (fieldLe 0x18 4 b)
  let a : AuthSession :=
    { number := sessionNumberFor s.od.lastSession c.toNat, counter := c, nonce := slice 0x1C 16 b, notAfter := timeOf (slice 0x10 6 b)
      acceptedAt := s.bil.running }
  signedWrite 2 (tokenOk s b)
    ⟨stOk, { s with od := { s.od with tokenCounter := c, markToken := advanceMark 256 s.od.markToken c } }, .opened a⟩ s

/-- Every setting that changed between two lists takes its effect. -/
def followAll (before : State) (s : State) : State :=
  otpRows.foldl (fun s r =>
    let x := settingBytes before r.addr
    let y := settingBytes s r.addr
    if x == y then s else settingFollow r.addr x y s) s

/-- ConfigRevert (R122, R124): the newest generation is loaded, bounded by the seal, and copied. DESIGN CHOICE: with generation 0 invalid, or
SEC out of service so that SEC_CFG_STAT shows none, it draws HARDWARE_FAULT; R124 names no status for it. -/
def configRevert (s : State) : Reply :=
  match chooseSource false s with
  | none => refused stHardware s
  | some c => ⟨stOk, followAll s (boundIfSealed (takeChoice c true s)), .nothing⟩

/-- LockFaultClear (R218, R223): LockFaults, LOCKED_LOST and the bar clear, and the lock is homed. -/
def lockFaultClear (s : State) : Reply :=
  let s := { s with lck := { s.lck with faults := 0, lockedLost := false }
                    ses := { s.ses with lockBarred := false, lockExcused := false } }
  ⟨stOk, if lockFitted s then commandMove false { s with lck := { s.lck with homingDue := true } } else s, .nothing⟩

/-- The homing of an earlier LockFaultClear waits or runs; that of the start is none (R170, R218). -/
def clearRuns (s : State) : Bool := s.lck.homingDue || (s.lck.homing && s.pwr.homingDone)

/-- SafeStateRelease (R262): a release, or no effect where neither the safe state nor the start hold is in force. The NOTIFY of a start's
release follows the response (R158). -/
def safeStateRelease (s : State) : Reply :=
  if safeInForce s then ⟨stOk, releaseQuietly false s, if releasesStart s then .notify else .nothing⟩ else ⟨stOk, s, .nothing⟩

/-- AudioFaultClear (R443). -/
def audioFaultClear (s : State) : Reply := ⟨stOk, { s with aud := { s.aud with faults := 0, latched := false, retries := 0 } }, .nothing⟩

/-- A prompt of PromptTest waits or plays (R441). -/
def testPromptOn (s : State) : Bool :=
  s.aud.queue.any (·.byTest) || (match s.aud.playing with | some p => p.byTest | none => false)

/-- MirrorNonce (R356, Table 14-9): the build of a statement begins. -/
def mirrorNonce (nonce : Bytes) (s : State) : Reply :=
  if !s.sec.slotOk.getLsbD 0 || !s.sec.slotOk.getLsbD 3 || s.sec.signFault then refused stHardware s
  else ⟨stOk, { s with sec := { s.sec with mirrorNonce := some nonce, jobs := s.sec.jobs ++ [.mirrorSign] } }, .nothing⟩

/-- A test is requested already: it waits, is held or runs (R490). -/
def testOn (s : State) : Bool := s.tst.waiting.isSome || s.tst.held.isSome || s.tst.pending

/-- What makes a SelfTestRequest draw BUSY (R490, Table 20-1). -/
def testBusy (s : State) (code : Byte) (queue : Bool) : Bool :=
  testOn s || (isBist code && safeInForce s) || (inSession s && barredInSession code && !queue)

/-- SelfTestRequest (R490): held until the session ends, or begun; a BIST run resets the device after the answer (R498). -/
def selfTestRequest (code : Byte) (queue : Bool) (s : State) : Reply :=
  if inSession s && barredInSession code && queue then
    ⟨stOk, setOutcome code 5 0 { s with tst := { s.tst with held := some code } }, .nothing⟩
  else if isBist code then ⟨stOk, setOutcome code 6 0 s, .bist code⟩
  else ⟨stOk, beginTest code s, .nothing⟩

/-- Whether an action write draws BUSY: check 5 of R145 and R170. -/
def actionBusy (s : State) (a : BitVec 16) (v : Bytes) : Bool :=
  if a == od 0 0x26 then inSession s
  else if a == od 5 4 then !inSession s || (s.ses.phase == .break && s.ses.breakStop == 4)
  else if a == od 0x0A 4 then inSession s || clearRuns s
  else if a == od 0x0D 3 then s.safe.startHold || (safeInForce s && !releaseOk false s)
  else if a == od 0x15 4 then inSession s || testPromptOn s
  else if a == od 0x1C 0 || a == od 0x1C 5 then s.ses.inUse
  else if a == od 0x1D 0 then s.sec.mirrorNonce.isSome
  else if a == od 0x20 4 then !(s.pwr.loaderState && s.fw.phase == 5)
  else if a == od 0x24 0 then testBusy s (BitVec.ofNat 8 (ofLe v)) ((ofLe v).testBit 8)
  else if a == od 0x28 3 then s.pwr.heldResets.contains .odRestart
  else false

/-- The effect of an action write whose checks have passed. -/
def actionEffect (a : BitVec 16) (v : Bytes) (s : State) : Reply :=
  if a == od 0 0x26 then configRevert s
  else if a == od 2 2 then timeSet v s
  else if a == od 5 4 then ⟨stOk, stopSession 4 s, .nothing⟩
  else if a == od 0x0A 4 then lockFaultClear s
  else if a == od 0x0D 3 then safeStateRelease s
  else if a == od 0x15 3 then audioFaultClear s
  else if a == od 0x15 4 then ⟨stOk, queuePrompt (ofLe v) true s, .nothing⟩
  else if a == od 0x1C 0 then grantWrite v s
  else if a == od 0x1C 5 then grantDiscard s
  else if a == od 0x1C 0x10 then tokenWrite v s
  else if a == od 0x1D 0 then mirrorNonce v s
  else if a == od 0x20 4 then ⟨stOk, { s with fw := { s.fw with phase := 6 } }, .reset .loader⟩
  else if a == od 0x24 0 then selfTestRequest (BitVec.ofNat 8 (ofLe v)) ((ofLe v).testBit 8) s
  else if a == od 0x28 3 then ⟨stOk, s, .reset .odRestart⟩
  else refused stUnknown s

/-- A write of one entry, by WRITE or by the last block of a WRITE-BLOCK: the checks of R145, then the effect (R145, R149). -/
def writeEntry (rq : Requester) (long : Bool) (a : BitVec 16) (v : Bytes) (s : State) : Reply :=
  let st := checkRecord rq long [⟨a, v⟩] ⟨a, v⟩ s
  if st != stOk && st != stAbsent then refused st s
  else if isAction a then
    if actionBusy s a v then refused stBusy s
    else if st = stAbsent then refused stAbsent s
    else actionEffect a v s
  else if st = stAbsent then refused stAbsent s
  else ⟨stOk, applyRecords [⟨a, v⟩] s, .nothing⟩

/-- A row that writes one action entry: answered as the WRITE or WRITE-BLOCK that carries it (R132). -/
def actionRowWrite (rq : Requester) (a : BitVec 16) (v : Bytes) (s : State) : State :=
  let long := match odRow? a with
    | some r => r.long
    | none => false
  if odServed s then
    answer rq (if long then 3 else 1) (if long then leBytes 2 a.toNat ++ leBytes 4 v.length else []) 0 a (writeEntry rq long a v s)
  else s

/-- RESTART (R170). -/
def execRestart (rq : Requester) (value : Byte) (s : State) : Host.Outcome State Fault Refusal :=
  done (actionRowWrite rq (od 0x28 3) [value] s)

/-- CONFIG_REVERT (R124). -/
def execConfigRevert (rq : Requester) (value : Byte) (s : State) : Host.Outcome State Fault Refusal :=
  done (actionRowWrite rq (od 0 0x26) [value] s)

/-- SESSION_TOKEN (R139, R353). -/
def execSessionToken (rq : Requester) (token : Bytes) (s : State) : Host.Outcome State Fault Refusal :=
  done (actionRowWrite rq (od 0x1C 0x10) token s)

/-- TIME_SET (R319). -/
def execTimeSet (rq : Requester) (bytes : Bytes) (s : State) : Host.Outcome State Fault Refusal :=
  done (actionRowWrite rq (od 2 2) bytes s)

/-- SESSION_STOP (R34). -/
def execSessionStop (rq : Requester) (value : Byte) (s : State) : Host.Outcome State Fault Refusal :=
  done (actionRowWrite rq (od 5 4) [value] s)

/-- GRANT (R349). -/
def execGrant (rq : Requester) (bytes : Bytes) (s : State) : Host.Outcome State Fault Refusal :=
  done (actionRowWrite rq (od 0x1C 0) bytes s)

/-- GRANT_DISCARD (R28). -/
def execGrantDiscard (rq : Requester) (value : Byte) (s : State) : Host.Outcome State Fault Refusal :=
  done (actionRowWrite rq (od 0x1C 5) [value] s)

/-- LOCK_FAULT_CLEAR (R223). -/
def execLockFaultClear (rq : Requester) (value : Byte) (s : State) : Host.Outcome State Fault Refusal :=
  done (actionRowWrite rq (od 0x0A 4) [value] s)

/-- SAFE_STATE_RELEASE (R262). -/
def execSafeStateRelease (rq : Requester) (value : Byte) (s : State) : Host.Outcome State Fault Refusal :=
  done (actionRowWrite rq (od 0x0D 3) [value] s)

/-- AUDIO_FAULT_CLEAR (R443). -/
def execAudioFaultClear (rq : Requester) (value : Byte) (s : State) : Host.Outcome State Fault Refusal :=
  done (actionRowWrite rq (od 0x15 3) [value] s)

/-- PROMPT_TEST (R440). -/
def execPromptTest (rq : Requester) (prompt : Byte) (s : State) : Host.Outcome State Fault Refusal :=
  done (actionRowWrite rq (od 0x15 4) [prompt] s)

/-- MIRROR_NONCE (R356). -/
def execMirrorNonce (rq : Requester) (nonce : Bytes) (s : State) : Host.Outcome State Fault Refusal :=
  done (actionRowWrite rq (od 0x1D 0) nonce s)

/-- FW_ACTIVATE (R521). -/
def execFwActivate (rq : Requester) (value : Byte) (s : State) : Host.Outcome State Fault Refusal :=
  done (actionRowWrite rq (od 0x20 4) [value] s)

/-- COPPICE_SUSPEND (R482): a write of CoppiceSuspend. -/
def execCoppiceSuspend (rq : Requester) (value : Byte) (s : State) : Host.Outcome State Fault Refusal :=
  done (actionRowWrite rq (od 0x22 1) [value] s)

/-- COPPICE_ENABLE (R484): a write of CoppiceEnable. -/
def execCoppiceEnable (rq : Requester) (value : Byte) (s : State) : Host.Outcome State Fault Refusal :=
  done (actionRowWrite rq (od 0x22 0) [value] s)

/-- A row that writes SelfTestRequest with a code and the queue bit (R489). -/
def selfTestRow (rq : Requester) (code : Nat) (queue : Bool) (s : State) : State :=
  actionRowWrite rq (od 0x24 0) (leBytes 2 (code + 256 * bit queue)) s

/-- SELF_TEST_PILOT_LOOPBACK (R494). -/
def execSelfTestPilotLoopback (rq : Requester) (queue : Bool) (s : State) : Host.Outcome State Fault Refusal :=
  done (selfTestRow rq 1 queue s)

/-- SELF_TEST_REFERENCE (R495). -/
def execSelfTestReference (rq : Requester) (queue : Bool) (s : State) : Host.Outcome State Fault Refusal :=
  done (selfTestRow rq 2 queue s)

/-- SELF_TEST_WINDING (R240). -/
def execSelfTestWinding (rq : Requester) (queue : Bool) (s : State) : Host.Outcome State Fault Refusal :=
  done (selfTestRow rq 3 queue s)

/-- SELF_TEST_LINE_LOOPBACK (R496). -/
def execSelfTestLineLoopback (rq : Requester) (queue : Bool) (s : State) : Host.Outcome State Fault Refusal :=
  done (selfTestRow rq 4 queue s)

/-- SELF_TEST_CLASS_D (R497). -/
def execSelfTestClassD (rq : Requester) (queue : Bool) (s : State) : Host.Outcome State Fault Refusal :=
  done (selfTestRow rq 5 queue s)

/-- SELF_TEST_ALL (R491). -/
def execSelfTestAll (rq : Requester) (queue : Bool) (s : State) : Host.Outcome State Fault Refusal :=
  done (selfTestRow rq 6 queue s)

/-- ISLAND_BIST (R498): codes 22h to 2Bh; another code draws OUT_OF_RANGE (R489). -/
def execIslandBist (rq : Requester) (code : Byte) (queue : Bool) (s : State) : Host.Outcome State Fault Refusal :=
  done (selfTestRow rq code.toNat queue s)

/-- ISLAND_BIST_ALL (R498): code 2Fh. -/
def execIslandBistAll (rq : Requester) (queue : Bool) (s : State) : Host.Outcome State Fault Refusal :=
  done (selfTestRow rq 0x2F queue s)

end Sys2Proof.Machine
end

