-- ==== Sys2Proof/Machine/FwStream.lean ====
section
/-! DEFINITION. Streams into FwImage (21): the rules of R513 to R516 in running code, and the loader's writes of R519, R520, R526. -/

namespace Sys2Proof.Machine

/-- Whether a stream can start in running code (R516). -/
def mayStream (s : State) : Bool :=
  !inSession s && s.set.commit.isNone && !s.pwr.brown.active && !s.pwr.handoverDue && !s.tst.pending
    && !(match s.tst.held with | some c => isBist c | none => false)

/-- One PDU to FwImage as the row gives it. -/
structure FwPdu where
  first : Bool
  last : Bool
  offset : Nat
  total : Nat
  data : Bytes

/-- The form rules of R513 that every PDU meets. -/
def fwFormOk (p : FwPdu) : Bool :=
  p.total % 4096 == 0 && 8192 ≤ p.total && p.total ≤ 1028096 && p.offset / 4096 == (p.offset + p.data.length - 1) / 4096
    && p.offset + p.data.length ≤ p.total && p.last == (p.offset + p.data.length == p.total)

/-- A new stream at offset 0 (R513, R514, R522); a stream of the loader state keeps its mode in the update area at once. -/
def newStream (mailbox : Bool) (p : FwPdu) (s : State) : State :=
  let d := s.od.fwUpdateMode == 1
  { s with fw := { s.fw with
      stream := some ⟨mailbox, d, BitVec.ofNat 32 p.total, 0, []⟩, phase := if s.pwr.loaderState then 3 else 1, mode := d, error := 0, next := 0, total := 0
      areaMode := if s.pwr.loaderState then bit d else s.fw.areaMode } }

/-- A PDU at offset 4096·NEXT resumes the stream in the loader state, with the first flag or where no stream is under way (R513, R520,
R526). -/
def resumes (p : FwPdu) (s : State) : Bool :=
  s.pwr.loaderState && (p.first || s.fw.stream.isNone) && s.fw.next != 0 && s.fw.phase != 5 && p.offset == 4096 * s.fw.next.toNat
    && p.total == 4096 * s.fw.total.toNat

/-- The stream that a resume continues in the loader state (R513, R520). -/
def resumedStream (mailbox : Bool) (p : FwPdu) (s : State) : State :=
  let x : Stream := ⟨mailbox, s.fw.mode, BitVec.ofNat 32 p.total, BitVec.ofNat 32 (4096 * s.fw.next.toNat), []⟩
  { s with fw := { s.fw with stream := some x, phase := 3 } }

/-- The stream ends with an ERROR; PHASE 7 only in the loader state and for ERROR 07h to 09h (R522). -/
def streamFails (e : Byte) (s : State) : State :=
  { s with fw := { s.fw with
      stream := none, error := e
      phase := if s.pwr.loaderState then (if 7 ≤ e.toNat then 7 else s.fw.phase) else 0 } }

/-- ERROR of the checks of stream block 0: those of R515, or only NBLOCKS in Deferred mode. -/
def manifestCheck (x : Stream) (b : Bytes) (s : State) : Byte :=
  if x.deferred then (if 1 ≤ nblocks b && nblocks b ≤ 250 then 0 else 1) else updateError s b

/-- Stream block 0 is complete (R515, R516, R519): checked, written to staging, and in running code the hand-over falls due; in the
loader M is erased. -/
def manifestTaken (e : Byte) (x : Stream) (b : Bytes) (s : State) : Nat × State :=
  if e != 0 then (stAuth, streamFails e s)
  else
    let r := flashTry s
    if !r.1 then (stHardware, streamFails 7 r.2)
    else
      let f := { r.2.fw with staging := .bytes b, next := 1, total := BitVec.ofNat 8 (nblocks b + 1), stream := some { x with part := [] } }
      if s.pwr.loaderState then (stOk, { r.2 with fw := { f with manifest := .blank, request := 0, areaTotal := f.total } })
      else (stOk, { r.2 with fw := { f with stream := none, phase := 2 }, pwr := { r.2.pwr with handoverDue := true } })

/-- Stream block 0 with its checks (R515). -/
def manifestComplete (x : Stream) (b : Bytes) (s : State) : Nat × State := manifestTaken (manifestCheck x b s) x b s

/-- An image block's content replaced in code flash. -/
def writeImage (i : Nat) (b : Bytes) (s : State) : State :=
  { s with fw := { s.fw with
      written := (i, b) :: s.fw.written.filter (fun x => x.1 != i), corrupt := s.fw.corrupt.filter (· != i) } }

/-- Stream block k differs from BCRC of the manifest in staging (R515). -/
def blockBad (k : Nat) (b : Bytes) (s : State) : Bool :=
  match stagingBytes? s with
  | some m => crc32c b != fieldLe (0x180 + 4 * (k - 1)) 4 m
  | none => true

/-- Stream block k from 1 on is complete and its check has been made (R515, R519, R526). -/
def blockTaken (bad : Bool) (k : Nat) (x : Stream) (b : Bytes) (s : State) : Nat × State :=
  if !x.deferred && bad then
    (stCheck, { s with fw := { s.fw with error := 6, stream := some { x with received := BitVec.ofNat 32 (4096 * k), part := [] } } })
  else
    let r := flashTry s
    if !r.1 then (stHardware, streamFails 7 r.2)
    else
      let s := writeImage (k - 1) b r.2
      let s := { s with fw := { s.fw with next := BitVec.ofNat 8 (k + 1), stream := some { x with part := [] } } }
      if x.received = x.total then (stOk, finalCheck { s with fw := { s.fw with phase := 4, stream := none } }) else (stOk, s)

/-- Stream block k from 1 on with its check (R515). -/
def blockComplete (k : Nat) (x : Stream) (b : Bytes) (s : State) : Nat × State := blockTaken (blockBad k b s) k x b s

/-- Data are added to the stream, and a complete stream block is dealt with. -/
def addToStream (x : Stream) (p : FwPdu) (s : State) : Nat × State :=
  let part := x.part ++ p.data
  let x := { x with part := part, received := BitVec.ofNat 32 (p.offset + p.data.length) }
  if part.length < 4096 then (stOk, { s with fw := { s.fw with stream := some x } })
  else if p.offset < 4096 then
    if x.total.toNat != 4096 * (nblocks part + 1) && 1 ≤ nblocks part then (stOrder, s) else manifestComplete x part s
  else blockComplete (p.offset / 4096) x part s

/-- A PDU of a stream (R513 to R516, R519). -/
def streamPdu (mailbox : Bool) (p : FwPdu) (s : State) : Nat × State :=
  let deferred := match s.fw.stream with
    | some x => if p.first && p.offset = 0 then s.od.fwUpdateMode == 1 else x.deferred
    | none => if p.first && p.offset = 0 then s.od.fwUpdateMode == 1 else s.fw.mode
  let other := match s.fw.stream with
    | some x => x.mailbox != mailbox
    | none => false
  if deferred && !sw8Open s then (stDenied, s)
  else if other then (if p.first then stBusy else stOrder, s)
  else if p.first && p.offset = 0 then
    if !s.pwr.loaderState && !mayStream s then (stBusy, s)
    else if !fwFormOk p then (stOrder, s)
    else
      let s := newStream mailbox p s
      match s.fw.stream with
      | some x => addToStream x p s
      | none => (stOrder, s)
  else if !fwFormOk p then (stOrder, s)
  else if resumes p s then
    let s := resumedStream mailbox p s
    match s.fw.stream with
    | some x => addToStream x p s
    | none => (stOrder, s)
  else match s.fw.stream with
    | some x => if p.offset = x.received.toNat && x.total.toNat = p.total then addToStream x p s else (stOrder, s)
    | none => (stOrder, s)

/-- The answer to a WRITE-BLOCK to FwImage: address and bytes received, or a refusal. -/
def fwImageBlock (rq : Requester) (p : FwPdu) (s : State) : State :=
  let a := od 0x20 1
  let out := !isUp s .sec
  let r := if out then (stAbsent, s) else streamPdu (rq.path = .mailbox) p s
  answer rq 3 (leBytes 2 a.toNat ++ leBytes 4 (p.offset + p.data.length)) 0 a ⟨r.1, r.2, .nothing⟩

/-- FW_IMAGE_BLOCK (R513). A PDU without 1 to 200 data bytes is malformed (R162). -/
def execFwImageBlock (rq : Requester) (first last : Bool) (offset total : Word) (data : Bytes) (s : State) :
    Host.Outcome State Fault Refusal :=
  done (guarded (odServed s) (fun s =>
    if data.length = 0 || 200 < data.length then respond rq 3 stFrame (refusal 0xFF 0) s
    else fwImageBlock rq ⟨first, last, offset.toNat, total.toNat, data⟩ s) s)

/-- LOADER_HANDOVER (R516): the update area is written, and a reset with LOADER follows. -/
def execLoaderHandover (s : State) : Host.Outcome State Fault Refusal :=
  done (guarded (s.pwr.handoverDue && !s.pwr.loaderState) (fun s =>
    heldBackReset .loader { s with
      pwr := { s.pwr with handoverDue := false }
      fw := { s.fw with request := 1, areaMode := if s.fw.mode then 1 else 0, areaTotal := s.fw.total } }) s)

/-- STREAM_STALL (R516): a stream that stalls before stream block 0 is complete is discarded. -/
def execStreamStall (s : State) : Host.Outcome State Fault Refusal :=
  match s.fw.stream with
  | none => done s
  | some x =>
    done (guarded (x.received.toNat < 4096) (fun s => { s with fw := { s.fw with
      stream := none, phase := if s.pwr.loaderState then s.fw.phase else 0 } }) s)

end Sys2Proof.Machine
end

