-- ==== Sys2Proof/Machine/Settings.lean ====
section
/-! DEFINITION. COMMIT (04): acceptance, the burn of a generation, and its end. The command stands for both ends of a COMMIT: the
first one accepts it at the head of the OD queue, the next one ends it. -/

namespace Sys2Proof.Machine

/-- The entries of OTP class whose running value differs from a generation. -/
def changedFrom (s : State) (n : Nat) : List Entry :=
  let g := generationEntries s n
  (otpOnly s.set.running).filter fun e => !g.any fun x => x.addr == e.addr && x.value == e.value

/-- An RWK-class entry differs from the newest generation (R116 item 2). -/
def rwkChanged (s : State) : Bool :=
  (changedFrom s s.cfg.newest.toNat).any fun e => otpRows.any fun r => r.addr == e.addr && r.access == .rwk

/-- The next free generation (R114): the lowest one whose BEGUN bit is clear; 8 when none is left. -/
def nextFreeGeneration (s : State) : Nat := ((List.range 8).find? fun n => !s.cfg.begun.getLsbD n).getD 8

/-- Why a COMMIT is refused; OK when it is accepted (R116, R117 item 1, R518). DESIGN CHOICE: while SEC is out of service it draws ABSENT,
after the denied and busy checks; R116 and R117 name no status for it. -/
def commitStatus (rq : Requester) (s : State) : Nat :=
  if s.pwr.loaderState then stBusy
  else if !inAuth s rq || (rwkChanged s && !sw8Open s) then stDenied
  else if s.set.commit.isSome || s.pwr.brown.active then stBusy
  else if !isUp s .sec then stAbsent
  else if nextFreeGeneration s = 8 || 488 < (recordsBytes (changedFrom s 0)).length then stSpace
  else stOk

/-- Acceptance (R117): the snapshot is taken, BEGUN bit n is burned, and the OD queue waits. -/
def commitBegins (rq : Requester) (s : State) : State :=
  let n := nextFreeGeneration s
  let job : CommitJob :=
    { gen := BitVec.ofNat 8 n, records := changedFrom s 0, ctime := s.bil.clock, trusted := s.bil.trusted, sealWord := sealWordOf s
      requester := rq }
  { s with
    set := { s.set with commit := some job }
    otp := { s.otp with begun := s.otp.begun.map fun b => setBit b n }
    cfg := { s.cfg with busy := true, begun := setBit s.cfg.begun n } }

/-- The block that a COMMIT burns (Table 4-2). -/
def commitBlock (s : State) (j : CommitJob) (good : Bool) : ConfigBlock :=
  { format := 0x4801, gen := j.gen, parent := s.set.generation, count := BitVec.ofNat 16 j.records.length
    length := BitVec.ofNat 16 (recordsBytes j.records).length, sealWord := j.sealWord, ctime := j.ctime
    flags := if j.trusted then 1 else 0, records := j.records, restZero := true, crcOk := good }

/-- Block n is burned and read back (R117 item 2). -/
def burnBlock (j : CommitJob) (good : Bool) (s : State) : State :=
  { s with
    otp := { s.otp with blocks := s.otp.blocks.setIfInBounds j.gen.toNat (commitBlock s j good) }
    set := { s.set with commit := none, otpFaults := s.set.otpFaults - 1 }
    cfg := { s.cfg with busy := false } }

/-- Items 3 and 4 of R117: DONE bit n, and both retained copies with generation n. -/
def commitDone (j : CommitJob) (s : State) : State :=
  let n := j.gen.toNat
  let s := { s with
    otp := { s.otp with done := s.otp.done.map fun b => setBit b n }
    cfg := { s.cfg with done := setBit s.cfg.done n, valid := setBit s.cfg.valid n, newest := BitVec.ofNat 3 n }
    set := { s.set with generation := j.gen } }
  writeCopies { s with set := { s.set with dirty := computeDirty s } }

/-- The end of a COMMIT (R117, Table 4-6, R129): a failing read-back leaves the generation spoilt. DESIGN CHOICE: with SEC out of service
at its end it draws ABSENT, and with SEC reset and back meanwhile the burn goes on and ends as it would have, SEC_CFG_STAT.BUSY reading 0
since the reset; the spec does not say what becomes of it. -/
def commitEnds (j : CommitJob) (s : State) : State :=
  if !isUp s .sec then
    respond j.requester 4 stAbsent (refusal 0xFF 0) { s with set := { s.set with commit := none }, cfg := { s.cfg with busy := false } }
  else if s.set.otpFaults = 0 then
    respond j.requester 4 stOk [j.gen] (commitDone j (burnBlock j true s))
  else respond j.requester 4 stHardware (refusal 0xFF 0) (logEvent (.persistence 6) (burnBlock j false s))

/-- The request at the head of the OD queue, where its operation is op, with the rest (R144). -/
def headOf (op : Nat) (s : State) : Option (QueuedPdu × List QueuedPdu) :=
  match s.od.queue with
  | [] => none
  | q :: r => if q.op.toNat = op then some (q, r) else none

/-- A queued request whose session has ended meanwhile (R361). -/
def stale (s : State) (q : QueuedPdu) : Bool := q.requester.keysel == .session && q.session.toNat != sessionNumber s

/-- The row of an operation: the request at the head of the queue is taken and executed; one of an ended session is dropped and
counted (R144, R361). -/
def serveHead (op : Nat) (f : Requester → Bytes → State → State) (s : State) : State :=
  match headOf op s with
  | none => s
  | some (q, r) =>
    if !odServed s then s
    else
      let s := { s with od := { s.od with queue := r } }
      if stale s q then { s with od := { s.od with macFailures := satInc s.od.macFailures } } else f q.requester q.payload s

/-- COMMIT (R117): its acceptance or refusal at the head of the queue, or the end of the one under way. -/
def execCommit (s : State) : Host.Outcome State Fault Refusal :=
  match s.set.commit with
  | some j => done (commitEnds j s)
  | none => done (serveHead 4 (fun rq _ s =>
      let st := commitStatus rq s
      if st = stOk then commitBegins rq s else respond rq 4 st (refusal 0xFF 0) s) s)

end Sys2Proof.Machine
end

