-- ==== Sys2Proof/Machine/OdProtocol.lean ====
section
/-! DEFINITION. The OD protocol (05): receiving PDUs, READ, WRITE, the block operations, SUBSCRIBE, NOTIFY, time-outs and the end of
sessions. -/

namespace Sys2Proof.Machine

/-- Laurel-B, or the loader, takes PDUs (R161, R163, R500, R517). -/
def odListens (s : State) : Bool := restoreRowDone s && (isUp s .seq || s.pwr.loaderState) && !s.tst.scanning

/-- A PDU is dropped without a response and counted in OdMacFailures (R138, R140). -/
def macFails (s : State) : State := { s with od := { s.od with macFailures := satInc s.od.macFailures } }

/-- A PDU is dropped and counted in OdReplayDrops (R141). -/
def replayed (s : State) : State := { s with od := { s.od with replayDrops := satInc s.od.replayDrops } }

/-- A window after a SEQ was accepted; none where R141 does not accept it. -/
def windowTake (w : Window32) (seq : Word) : Option Window32 :=
  if seq = 0 then none
  else if w.high.toNat < seq.toNat then
    let d := seq.toNat - w.high.toNat
    some ⟨seq, (if d < 32 then w.map <<< d else 0) ||| 1⟩
  else
    let d := w.high.toNat - seq.toNat
    if d < 32 && !w.map.getLsbD d then some ⟨w.high, setBit w.map d⟩ else none

/-- The window of a pair of requester and key (R141). -/
def windowOf (s : State) (mailbox session : Bool) : Window32 :=
  if mailbox then (if session then s.od.winMbxSession else s.od.winMbx)
  else if session then s.od.winNode0Session else s.od.winNode0

/-- s with that window replaced; node 0's link-key window advances its mark (R142). -/
def setWindow (mailbox session : Bool) (w : Window32) (s : State) : State :=
  if mailbox then
    (if session then { s with od := { s.od with winMbxSession := w } } else { s with od := { s.od with winMbx := w } })
  else if session then { s with od := { s.od with winNode0Session := w } }
  else { s with od := { s.od with winNode0 := w, markNode0 := advanceMark 4096 s.od.markNode0 w.high } }

/-- A request joins the queue of 8, or draws FRAME_ERROR or BUSY (R144, R162). -/
def enqueue (rq : Requester) (h : PduHeader) (b : Bytes) (s : State) : State :=
  if !requestOk h b then respond rq h.op stFrame (refusal 0xFF 0) s
  else if 8 ≤ s.od.queue.length + (if s.set.commit.isSome then 1 else 0) then respond rq h.op stBusy (refusal 0xFF 0) s
  else { s with od := { s.od with queue := s.od.queue ++ [⟨rq, if rq.keysel = .session then h.session else 0, BitVec.ofNat 4 h.op, slice 12 h.len b⟩] } }

/-- The prefix of the MAC of a received PDU (R140). -/
def rxPrefix (s : State) (d : Delivered) : Bytes :=
  match d.path with
  | .mailbox => macPrefix 0 0xFF (nodeAddress s) .mailbox
  | p => macPrefix d.seg.toNat d.orig.toNat d.dst.toNat p

/-- The MAC of a PDU under the key of its KEYSEL is right (R140). -/
def macRight (s : State) (k : KeySel) (d : Delivered) : Bool :=
  match macKey s k with
  | none => false
  | some key =>
    let n := d.bytes.length - 8
    cmac64 key (rxPrefix s d ++ d.bytes.take n) == d.bytes.drop n

/-- The receive window judges a PDU whose MAC is right (R141, R159). -/
def windowJudges (rq : Requester) (h : PduHeader) (b : Bytes) (s : State) : State :=
  let mailbox := rq.path == .mailbox
  let session := rq.keysel == .session
  let below := !mailbox && !session && (match s.od.floor with
    | some f => h.seq.toNat ≤ f.toNat
    | none => false)
  if below then respond rq h.op stResync (leBytes 4 ((s.od.floor.getD 0).toNat + 1)) s
  else match windowTake (windowOf s mailbox session) h.seq with
    | none => replayed s
    | some w =>
      let s := setWindow mailbox session w s
      enqueue rq h b { s with od := { s.od with rxAccepted := satInc s.od.rxAccepted } }

/-- A PDU whose MAC has been judged: it goes on to its window, or is dropped and counted (R140, R141). -/
def macJudged (right : Bool) (d : Delivered) (h : PduHeader) (s : State) : State :=
  if right then
    windowJudges ⟨d.path, h.keysel, h.xid, d.prio⟩ h d.bytes (loadYew (keyselCtx h.keysel) ((macKey s h.keysel).getD []) 0 s)
  else macFails s

/-- A PDU with a key: SEC's absence, session, MAC, window (R139, R140, R141, Table 14-9). -/
def keyedReceive (d : Delivered) (h : PduHeader) (s : State) : State :=
  if !isUp s .sec then s
  else if h.keysel = .session && h.session.toNat != sessionNumber s then macFails s
  else macJudged (macRight s h.keysel d) d h s

/-- A plain mailbox PDU (R143); KEYSEL 11b is malformed (R162). -/
def plainReceive (d : Delivered) (h : PduHeader) (s : State) : State := enqueue ⟨.mailbox, .none, h.xid, d.prio⟩ h d.bytes s

/-- A PDU that Laurel-B or the loader takes (R138 to R143). -/
def pduTaken (d : Delivered) (s : State) : State :=
  let h := parseHeader d.bytes
  let keyed := h.keysel = .link || h.keysel = .session
  if d.path = .mailbox then
    if keyed then (if d.bytes.length < 20 then macFails s else keyedReceive d h s)
    else if d.bytes.length < 12 then macFails s
    else plainReceive d h s
  else if d.orig != 0 then s
  else if !keyed || d.bytes.length < 20 then macFails s
  else keyedReceive d h s

/-- A PDU is delivered by its carrier (R140, R163): mailbox requests wait until the OD is served; network PDUs do not. -/
def pduReceive (d : Delivered) (s : State) : State :=
  if odListens s then pduTaken d s
  else if d.path = .mailbox then { s with od := { s.od with waiting := s.od.waiting ++ [d] } }
  else s

/-- Mailbox requests that waited are taken in order (R163). -/
def drainWaiting (s : State) : State :=
  if odListens s then s.od.waiting.foldl (fun s d => pduReceive d s) { s with od := { s.od with waiting := [] } } else s

/-- A mailbox PDU as HOST hands it over (R537). -/
def mailboxPdu (b : Bytes) : Delivered := ⟨.mailbox, 0, 0, 0, 1, b⟩

/-- HOST hands the mailbox request to Laurel-B, or to the loader, once one of them is there to take it (R537). -/
def handRequest (s : State) : State :=
  match s.hst.request with
  | none => s
  | some b =>
    if isUp s .host && (if s.pwr.loaderState then isUp s .sec else isUp s .seq) then
      pduReceive (mailboxPdu b) { s with hst := { s.hst with request := none } }
    else s

/-- PDU_RECEIVE (R140). -/
def execPduReceive (d : Delivered) (s : State) : Host.Outcome State Fault Refusal := done (pduReceive d s)

/-- A READ (R148): results in request order; more than the payload limit draws FRAME_ERROR. -/
def readRequest (rq : Requester) (b : Bytes) (s : State) : State :=
  let p := ((parseAddrs b).getD []).flatMap fun a =>
    let r := odRead false s a
    resultRecord a r.1 r.2
  if p.length ≤ 220 then respond rq 0 stOk p s else respond rq 0 stFrame (refusal 0xFF 0) s

/-- OD_READ (R148). -/
def execOdRead (s : State) : Host.Outcome State Fault Refusal := done (serveHead 0 readRequest s)

/-- The catalogue marks an entry as an action entry (Table 6-2). -/
def isMarkedAction (a : BitVec 16) : Bool := (odRow? a).elim false (·.action)

/-- A WRITE (R145, R146). -/
def writeRequest (rq : Requester) (b : Bytes) (s : State) : State :=
  match (parseRecords b).getD [] with
  | [] => respond rq 1 stFrame (refusal 0xFF 0) s
  | [e] => answer rq 1 [] 0 e.addr (writeEntry rq false e.addr e.value s)
  | l =>
    match l.findIdx? fun e => isMarkedAction e.addr with
    | some i => respond rq 1 stFrame (refusal i (l.getD i ⟨0, []⟩).addr) s
    | none =>
      match firstFailure rq false l s with
      | some f => respond rq 1 f.1 (refusal f.2.1 f.2.2) s
      | none => respond rq 1 stOk [] (applyRecords l s)

/-- OD_WRITE (R145). -/
def execOdWrite (s : State) : Host.Outcome State Fault Refusal := done (serveHead 1 writeRequest s)

/-- The snapshot of a requester for an entry (R151). -/
def snapshotOf (s : State) (mailbox : Bool) (a : BitVec 16) : Option Bytes :=
  (s.od.snapshots.find? fun x => x.mailbox == mailbox && x.addr == a).map (·.data)

/-- s without the snapshot of a requester. -/
def dropSnapshot (mailbox : Bool) (s : State) : State :=
  { s with od := { s.od with snapshots := s.od.snapshots.filter fun x => x.mailbox != mailbox } }

/-- Data of a snapshot from an offset on (R151): it ends with its last byte. An offset past the end draws BLOCK_ORDER: DEDUCED. -/
def serveSnapshot (rq : Requester) (q : ReadBlockReq) (v : Bytes) (s : State) : State :=
  if v.length ≤ q.offset then respond rq 2 stOrder (refusal 0 q.addr) s
  else
    let x := slice q.offset q.maximum v
    let s := if q.offset + x.length = v.length then dropSnapshot (rq.path == .mailbox) s else s
    respond rq 2 stOk (leBytes 2 q.addr.toNat ++ leBytes 4 v.length ++ leBytes 4 q.offset ++ leBytes 2 x.length ++ x) s

/-- The value that a READ-BLOCK at offset 0 takes, and its status (R151, R356). -/
def blockValue (s : State) (a : BitVec 16) : Nat × Bytes :=
  let r := odRead true s a
  if r.1 = stOk && a == od 0x1D 1 && s.sec.mirrorNonce.isSome then (stBusy, []) else r

/-- A READ-BLOCK (R151). -/
def readBlockRequest (rq : Requester) (b : Bytes) (s : State) : State :=
  match parseReadBlock b with
  | none => respond rq 2 stFrame (refusal 0xFF 0) s
  | some q =>
    let mbx := rq.path == .mailbox
    if q.offset = 0 then
      let r := blockValue s q.addr
      if r.1 != stOk then respond rq 2 r.1 (refusal 0 q.addr) s
      else
        let s := dropSnapshot mbx s
        serveSnapshot rq q r.2 { s with od := { s.od with snapshots := s.od.snapshots ++ [⟨mbx, q.addr, r.2⟩] } }
    else match snapshotOf s mbx q.addr with
      | some v => serveSnapshot rq q v s
      | none =>
        let r := odEntry s q.addr
        respond rq 2 (if r.1 = stOk then stSnapshot else r.1) (refusal 0 q.addr) s

/-- READ_BLOCK (R151). -/
def execReadBlock (s : State) : Host.Outcome State Fault Refusal := done (serveHead 2 readBlockRequest s)

/-- s with a transfer in place of the one to its address, or without it. -/
def putTransfer (a : BitVec 16) (t : Option Transfer) (s : State) : State :=
  let l := s.od.transfers.filter fun x => x.addr != a
  { s with od := { s.od with transfers := match t with
    | some x => l ++ [x]
    | none => l } }

/-- The transfer that a block continues or begins, or the refusal it draws (R149, R150). -/
def transferFor (s : State) (mbx : Bool) (q : WriteBlockReq) : Except Nat Transfer :=
  let mine := s.od.transfers.find? fun x => x.addr == q.addr
  if q.first then
    if q.offset != 0 then .error stOrder
    else match mine with
      | some x => if x.mailbox == mbx then .ok ⟨mbx, q.addr, BitVec.ofNat 32 q.total, []⟩ else .error stBusy
      | none => if 2 ≤ s.od.transfers.length then .error stBusy else .ok ⟨mbx, q.addr, BitVec.ofNat 32 q.total, []⟩
  else match mine with
    | some x => if x.mailbox == mbx then .ok x else .error stOrder
    | none => .error stOrder

/-- One block of a transfer (R149): it must fit its offset, total and last flag; the last one applies the value. -/
def transferBlock (rq : Requester) (q : WriteBlockReq) (t : Transfer) (s : State) : State :=
  let n := q.offset + q.data.length
  let ok := leBytes 2 q.addr.toNat ++ leBytes 4 n
  if q.offset != t.data.length || q.total != t.total.toNat || q.total < n || q.last != (n == q.total) then
    respond rq 3 stOrder (refusal 0 q.addr) s
  else
    let v := t.data ++ q.data
    if !q.last then respond rq 3 stOk ok (putTransfer q.addr (some { t with data := v }) s)
    else if crc32c v != q.crc then respond rq 3 stCheck (refusal 0 q.addr) (putTransfer q.addr none s)
    else answer rq 3 ok 0 q.addr (writeEntry rq true q.addr v (putTransfer q.addr none s))

/-- A WRITE-BLOCK (R149, R150, R513). -/
def writeBlockRequest (rq : Requester) (b : Bytes) (s : State) : State :=
  match parseWriteBlock b with
  | none => respond rq 3 stFrame (refusal 0xFF 0) s
  | some q =>
    if q.addr == od 0x20 1 then fwImageBlock rq ⟨q.first, q.last, q.offset, q.total, q.data⟩ s
    else
      let e := odEntry s q.addr
      if e.1 != stOk then respond rq 3 e.1 (refusal 0 q.addr) s
      else match transferFor s (rq.path == .mailbox) q with
        | .error st => respond rq 3 st (refusal 0 q.addr) s
        | .ok t => transferBlock rq q t s

/-- WRITE_BLOCK (R149). -/
def execWriteBlock (s : State) : Host.Outcome State Fault Refusal := done (serveHead 3 writeBlockRequest s)

/-- A subscription's key (R152). -/
def isSub (mbx : Bool) (a : BitVec 16) (x : Subscription) : Bool := x.mailbox == mbx && x.addr == a

/-- The result record of an entry as a NOTIFY carries it. -/
def notifyRecord (s : State) (a : BitVec 16) : Bytes := let r := odRead false s a; resultRecord a r.1 r.2

/-- Why a SUBSCRIBE is refused; OK when it is not (R152, R518). An address that draws UNKNOWN_ENTRY or ACCESS_DENIED does so in the loader
state too, before BUSY: DEDUCED from R22, R23 and the first sentence of R518. -/
def subscribeStatus (s : State) (q : SubscribeReq) : Nat :=
  match odEntry s q.addr with
  | (st, none) => st
  | (_, some r) =>
    if s.pwr.loaderState then stBusy
    else if r.access == .w then stDenied
    else if r.long then stType
    else if q.period = 0 then stOk
    else if (!q.onChange && !q.periodic) || q.lease.toNat < 60 then stRange
    else stOk

/-- A SUBSCRIBE (R152). -/
def subscribeRequest (rq : Requester) (b : Bytes) (s : State) : State :=
  match parseSubscribe b with
  | none => respond rq 5 stFrame (refusal 0xFF 0) s
  | some q =>
    let mbx := rq.path == .mailbox
    let st := subscribeStatus s q
    let others := s.od.subs.filter fun x => !isSub mbx q.addr x
    let reply (l : List Subscription) : State := respond rq 5 stOk [BitVec.ofNat 8 l.length] { s with od := { s.od with subs := l } }
    if st != stOk then respond rq 5 st (refusal 0 q.addr) s
    else if q.period = 0 then reply others
    else if 32 ≤ others.length then respond rq 5 stTooMany (refusal 0 q.addr) s
    else reply (others ++ [⟨mbx, rq.keysel = .none, q.addr, q.onChange, q.periodic, q.period, q.lease, notifyRecord s q.addr⟩])

/-- SUBSCRIBE (R152). -/
def execSubscribe (s : State) : Host.Outcome State Fault Refusal := done (serveHead 5 subscribeRequest s)

/-- Table 5-10. -/
def notifyPriority (a : BitVec 16) : Nat :=
  let g := groupOf a
  if g = 0x0C || g = 0x0D || g = 0x28 || a == od 1 0x20 || a == od 1 0x21 then 0
  else if g = 4 || g = 5 || g = 8 || g = 9 || g = 0x0A then 1
  else 2

/-- A subscription is due when its period has run out, or when its value differs from the one last notified (R153). -/
def notifyDue (s : State) (mbx : Bool) (addrs : List (BitVec 16)) (x : Subscription) : Bool :=
  x.mailbox == mbx && addrs.contains x.addr && (x.periodic || (x.onChange && notifyRecord s x.addr != x.last))

/-- Records packed into payloads of at most 218 bytes (R153). -/
def packRecords : List Bytes → Bytes → List Bytes
  | [], acc => if acc.isEmpty then [] else [acc]
  | r :: l, acc => if acc.isEmpty || acc.length + r.length ≤ 218 then packRecords l (acc ++ r) else acc :: packRecords l r

/-- The records of these subscriptions leave in as few PDUs as hold them (R153). -/
def notifyAll (mbx plain : Bool) (prio : Nat) (l : List Subscription) (s : State) : State :=
  (packRecords (l.map fun x => notifyRecord s x.addr) []).foldl (fun s p =>
    let payload := leBytes 2 s.od.serviceEpoch.toNat ++ p
    if mbx then sendPdu .mailbox (BitVec.ofNat 2 prio) true 6 (if plain then .none else .link) 0 0 payload s
    else notifyNode0 (BitVec.ofNat 2 prio) payload s) s

/-- The subscriptions that fall due are notified (R153, R158): the mailbox's in PDUs of each manner of sending, node 0's in PDUs of each
priority, which the mailbox does not know. -/
def notifySubs (mbx : Bool) (addrs : List (BitVec 16)) (s : State) : State :=
  let due := s.od.subs.filter (notifyDue s mbx addrs)
  let sent :=
    if mbx then notifyAll true true 1 (due.filter (·.plain)) (notifyAll true false 1 (due.filter (!·.plain)) s)
    else [0, 1, 2].foldl (fun s p => notifyAll false false p (due.filter fun x => notifyPriority x.addr == p) s) s
  let seen (x : Subscription) : Subscription := if notifyDue s mbx addrs x then { x with last := notifyRecord s x.addr } else x
  { sent with od := { sent.od with subs := sent.od.subs.map seen } }

/-- NOTIFY (R153). -/
def execNotify (mailbox : Bool) (addrs : List (BitVec 16)) (s : State) : Host.Outcome State Fault Refusal :=
  done (guarded (odListens s) (notifySubs mailbox addrs) s)

/-- SUBSCRIPTION_LAPSE (R152). -/
def execSubscriptionLapse (mailbox : Bool) (addr : BitVec 16) (s : State) : Host.Outcome State Fault Refusal :=
  done { s with od := { s.od with subs := s.od.subs.filter fun x => !isSub mailbox addr x } }

/-- BLOCK_TRANSFER_TIMEOUT (R150). -/
def execBlockTransferTimeout (addr : BitVec 16) (s : State) : Host.Outcome State Fault Refusal := done (putTransfer addr none s)

/-- BLOCK_SNAPSHOT_TIMEOUT (R151). -/
def execBlockSnapshotTimeout (mailbox : Bool) (s : State) : Host.Outcome State Fault Refusal := done (dropSnapshot mailbox s)

/-- SESSION_INACTIVITY_END (R139). -/
def execSessionInactivityEnd (s : State) : Host.Outcome State Fault Refusal := done (guarded s.od.session.isSome endAuth s)

/-- The session's time is over (R354): NOT_AFTER by the clock, or one hour after acceptance while time is untrusted. -/
def sessionExpired (s : State) (a : AuthSession) : Bool :=
  a.notAfter.toNat ≤ s.bil.clock.toNat || (!s.bil.trusted && 3600 * 32768 ≤ s.bil.running - a.acceptedAt)

/-- SESSION_EXPIRY (R139, R354). -/
def execSessionExpiry (s : State) : Host.Outcome State Fault Refusal :=
  match s.od.session with
  | none => done s
  | some a => done (guarded (sessionExpired s a) endAuth s)

end Sys2Proof.Machine
end

