-- ==== Sys2Proof/Machine/LinkOps.lean ====
section
/-! DEFINITION. The link layer (15, 16): paths, modes, access, sending frames and ACKs, windows and resends, repeats. -/

namespace Sys2Proof.Machine

/-- Two entries are the same frame; a repeat keeps its ATTEMPT, an own frame does not. -/
def sameFrame (a b : OutFrame) : Bool :=
  a.orig == b.orig && a.fid == b.fid && a.repeats == b.repeats && (!a.repeats || a.attempt == b.attempt)

/-- s with an entry of the queues and of the waiting repeats replaced. -/
def updateFrame (f : OutFrame) (s : State) : State :=
  let up (l : List OutFrame) : List OutFrame := l.map fun x => if sameFrame x f then f else x
  { s with plc := { s.plc with q0 := up s.plc.q0, q1 := up s.plc.q1, q2 := up s.plc.q2, repeats := up s.plc.repeats } }

/-- s without a frame. -/
def removeFrame (f : OutFrame) (s : State) : State :=
  let rm (l : List OutFrame) : List OutFrame := l.filter fun x => !sameFrame x f
  { s with plc := { s.plc with q0 := rm s.plc.q0, q1 := rm s.plc.q1, q2 := rm s.plc.q2, repeats := rm s.plc.repeats } }

/-- The queue of a priority (R384). -/
def queueOf (s : State) (prio : BitVec 2) : List OutFrame :=
  if prio = 0 then s.plc.q0 else if prio = 1 then s.plc.q1 else s.plc.q2

/-- A frame joins the queue of its priority (R384). -/
def pushFrame (f : OutFrame) (s : State) : State :=
  { s with plc :=
    if f.prio = 0 then { s.plc with q0 := s.plc.q0 ++ [f] }
    else if f.prio = 1 then { s.plc with q1 := s.plc.q1 ++ [f] }
    else { s.plc with q2 := s.plc.q2 ++ [f] } }

/-- What stands for a destination; a new one is at B and not yet heard (R376, R413). -/
def destOf (s : State) (n : Byte) : DestMode := (s.plc.modes.find? fun m => m.node == n).getD ⟨n, .b, 0, true⟩

/-- s with a destination's entry replaced. -/
def setDest (d : DestMode) (s : State) : State :=
  { s with plc := { s.plc with modes := (s.plc.modes.filter fun m => m.node != d.node) ++ [d] } }

/-- One level more robust (R376). -/
def moreRobust : LinkMode → LinkMode
  | .q => .b | .b => .r | .r => .r

/-- One level faster (R376). -/
def faster : LinkMode → LinkMode
  | .q => .q | .b => .q | .r => .b

/-- A frame to a node needed a resend or was lost (R376). -/
def stepRobust (n : Byte) (s : State) : State := setDest { destOf s n with mode := moreRobust (destOf s n).mode, run := 0 } s

/-- A frame to a node was acknowledged at attempt 0 (R376): the 16th in a row makes its mode one level faster. -/
def stepClean (n : Byte) (s : State) : State :=
  let d := destOf s n
  if 16 ≤ d.run + 1 then setDest { d with mode := faster d.mode, run := 0 } s else setDest { d with run := d.run + 1 } s

/-- The mode that a frame's next copy uses (R376). A repeat keeps the copy's MODE (R396). -/
def frameMode (s : State) (f : OutFrame) : LinkMode :=
  if f.repeats then f.firstMode
  else
    let m := if f.dst = 0xFF || f.prio = 0 || 2 ≤ f.attempt.toNat then LinkMode.r else f.firstMode
    if s.plc.bandC && m = .r && 48 < f.payload.length then .b else m

/-- The paths a frame's next copy takes (R413). -/
def linkPaths (s : State) (f : OutFrame) : List Path :=
  if s.plc.linkPath = 1 then [.field]
  else if s.plc.linkPath = 2 then
    (if f.dst = 0xFF || f.repeats || 2 ≤ f.attempt.toNat then [.line, .field]
     else if (destOf s f.dst).lastField then [.field] else [.line])
  else [.line]

/-- Whether a path can carry a copy now: the line driver is on, or the field port may send (R84, R387, R394, R98). -/
def pathReady (s : State) (p : Path) : Bool :=
  match p with
  | .line => s.plc.drvOn
  | .field => isUp s .plc && s.plc.mayTransmit && !s.pwr.brown.active
  | .mailbox => false

/-- A frame's copy in one character time of the field port, in µs (R411). -/
def charUs (s : State) : Nat := 10000000 / max 1 (setting? s 1 4)

/-- A copy's duration on a path in µs (R374, R411). -/
def copyUs (s : State) (p : Path) (m : LinkMode) (len : Nat) : Nat :=
  match p with
  | .field => (12 + (if len = 0 then 0 else len + 4)) * charUs s
  | .line => frameUs s.plc.bandC m len
  | .mailbox => 0

/-- The direct ACK window on a path in µs (Table 15-6, R379, R412); none for a frame without ACKREQ. -/
def ackWindowUs (s : State) (p : Path) (ackReq : Bool) : Nat :=
  if !ackReq then 0
  else match p with
    | .field => 20 * charUs s
    | .line => if s.plc.bandC then 93300 else 30000
    | .mailbox => 0

/-- The protected span in RTC ticks: before T0, and after it (Table 16-3). -/
def spanTicks (bandC : Bool) : Int × Int := (164, if bandC then 76569 else 40109)

/-- Something that ends within us microseconds reaches into a protected span of the schedule that the post holds (R403, R417). -/
def reachesSpan (s : State) (us : Nat) : Bool :=
  let p : Int := (s.net.periodMs.toNat : Int) * 32768 / 1000
  let w := spanTicks s.plc.bandC
  if p ≤ 0 then false
  else
    let rel := ((s.bil.running : Int) - s.net.t0 + w.1) % p
    rel < w.1 + w.2 || p - rel < (us : Int) * 32768 / 1000000

/-- The time a copy and its ACK window take on its longest path. -/
def copyAndWindowUs (s : State) (f : OutFrame) : Nat :=
  ((linkPaths s f).map fun p => copyUs s p (frameMode s f) f.payload.length + ackWindowUs s p f.ackReq).foldl max 0

/-- The head of the queues: P0 before P1 before P2 (R384). -/
def queueHead (s : State) : Option OutFrame :=
  match s.plc.q0, s.plc.q1, s.plc.q2 with
  | f :: _, _, _ => some f
  | [], f :: _, _ => some f
  | [], [], f :: _ => some f
  | [], [], [] => none

/-- The frame that takes access next: the head of the queues, unless it waits for its instant, or a repeat of no lower priority. -/
def candidate (s : State) : Option OutFrame :=
  match s.plc.repeats.find? (!·.placed), (queueHead s).filter (!·.placed) with
  | some r, some f => if f.prio.toNat < r.prio.toNat then some f else some r
  | some r, none => some r
  | none, o => o

/-- Access, a copy or a window is under way. -/
def underWay (s : State) : Bool := s.plc.access != .none || s.plc.tx.isSome || s.plc.ackWindow.isSome

/-- Access for a frame begins (R378, R379). -/
def startAccess (f : OutFrame) (s : State) : State :=
  let f := { f with placed := false }
  let a := if s.plc.bandC && (linkPaths s f).contains .line then Access.bandC else .window 0
  updateFrame f { s with plc := { s.plc with access := a, current := some f } }

/-- Access ends; the frame stays queued. -/
def stopAccess (s : State) : State := { s with plc := { s.plc with access := .none, current := none } }

/-- A node that holds a frame begins access once the medium is idle (R378). -/
def beginAccess (s : State) : State :=
  if isUp s .plc && s.plc.idle && !s.plc.spanHold && !underWay s then
    match candidate s with
    | some f => if (linkPaths s f).all (pathReady s) then startAccess f s else s
    | none => s
  else s

/-- The frame defers and begins access again at the next idle (R378). -/
def deferAccess (s : State) : State := stopAccess { s with plc := { s.plc with idle := false } }

/-- The frame waits for the end of a protected span (R403). -/
def holdForSpan (s : State) : State := stopAccess { s with plc := { s.plc with spanHold := true } }

/-- A copy as it leaves on a path (R369, R371, R411). -/
def sentOn (s : State) (m : LinkMode) (fch payload : Bytes) (p : Path) : Sent :=
  let fcs := if payload.isEmpty then [] else frameFcs fch payload
  match p with
  | .field => ⟨.field, [0x55#8, 0xD5#8] ++ fch ++ payload ++ fcs, [], 0⟩
  | .line => ⟨.line, fch ++ payload ++ fcs, lineBits s.plc.bandC m fch payload, s.plc.att⟩
  | .mailbox => ⟨.mailbox, [], [], 0⟩

/-- A copy is put on its paths: TX is set, and the medium is no longer idle. -/
def putOn (ps : List Path) (f : OutFrame) (m : LinkMode) (fch : Bytes) (s : State) : State :=
  { s with plc := { s.plc with
      tx := some f, txPaths := ps, idle := false, sentLog := ps.map (sentOn s m fch f.payload) ++ s.plc.sentLog } }

/-- The header of a frame's copy (Table 15-4, R395, R396): SRC is this node. -/
def headerOf (s : State) (f : OutFrame) : Bytes :=
  fchBytes ⟨f.type.toNat, f.prio.toNat, modeCode (frameMode s f), f.ackReq, segmentNumber s % 256, BitVec.ofNat 8 (nodeAddress s), f.dst,
    f.orig, f.fid, f.payload.length, f.hops.toNat, f.attempt⟩

/-- A copy's attempt is counted once (R383). -/
def countAttempt (f : OutFrame) (s : State) : State :=
  if f.sent || f.repeats then s
  else if f.attempt = 0 then { s with plc := { s.plc with framesSent := satInc s.plc.framesSent } }
  else { s with plc := { s.plc with retries := satInc s.plc.retries } }

/-- A frame's copy starts (R378 step 4, R381, R403): attempt 0 fixes the destination mode (R376). -/
def startFrame (f : OutFrame) (s : State) : State :=
  let f := if !f.repeats && f.attempt = 0 && !f.sent then { f with firstMode := (destOf s f.dst).mode } else f
  if !(linkPaths s f).all (pathReady s) then stopAccess s
  else if reachesSpan s (copyAndWindowUs s f) then holdForSpan s
  else
    let g := { f with sent := true, placed := false, resent := f.resent || f.attempt != 0 }
    let s := updateFrame g (countAttempt f s)
    putOn (linkPaths s g) g (frameMode s g) (headerOf s g) { s with plc := { s.plc with access := .none, current := some g } }

/-- A frame is placed at its next instant by mains phase, which the field port does not use (R381, R412). -/
def placeFrame (f : OutFrame) (s : State) : State := updateFrame { f with placed := (linkPaths s f).contains .line } s

/-- The next attempt of a frame, or its end after attempt 7 (R381, R383). -/
def nextAttempt (f : OutFrame) (s : State) : State :=
  let s := { s with plc := { s.plc with ackWindow := none, relayed := false } }
  if !f.sent then s
  else if f.attempt = 7 then
    stepRobust f.dst (removeFrame f { s with plc := { s.plc with framesLost := satInc s.plc.framesLost } })
  else placeFrame { f with attempt := f.attempt + 1, sent := false } s

/-- A matching ACK delivers the frame (R380). -/
def frameDelivered (f : OutFrame) (s : State) : State :=
  let s := removeFrame f { s with plc := { s.plc with ackWindow := none, relayed := false } }
  if f.resent then stepRobust f.dst s else stepClean f.dst s

/-- The copy on the medium has ended, or was cut. -/
def clearTx (s : State) : State := { s with plc := { s.plc with tx := none, txPaths := [], current := none } }

/-- The end of a copy (R380, R382): a unicast frame's ACK window opens, a P0 broadcast has three copies, others are done. -/
def copyEnds (f : OutFrame) (s : State) : State :=
  let s := clearTx s
  if f.type = 1 then s
  else if f.repeats then removeFrame f s
  else if f.dst = 0xFF then
    (if f.copiesLeft = 0 then removeFrame f s
     else placeFrame { f with attempt := f.attempt + 1, sent := false, copiesLeft := f.copiesLeft - 1 } s)
  else { s with plc := { s.plc with ackWindow := some f, relayed := false } }

/-- A copy that was cut does not count as an attempt: the frame is retried with the same ATTEMPT (R386, R387, R412). An ACK or a repeat
that was cut is not sent again. -/
def copyCut (s : State) : State :=
  match s.plc.tx with
  | none => s
  | some f =>
    let s := clearTx s
    if f.type = 1 then s else if f.repeats then removeFrame f s else placeFrame f s

/-- A frame handed over is refused (R384). -/
def refuseFrame (isNotify : Bool) (s : State) : State :=
  { s with plc := { s.plc with
      refused := satInc s.plc.refused, framesLost := if isNotify then satInc s.plc.framesLost else s.plc.framesLost } }

/-- A new frame of this node (R395, R380, R382). -/
def newFrame (s : State) (h : Handover) : OutFrame :=
  { prio := h.prio, type := 0, dst := h.dst, orig := BitVec.ofNat 8 (nodeAddress s), fid := s.plc.fid, hops := 4, attempt := 0
    copiesLeft := if h.prio = 0 && h.dst = 0xFF then 2 else 0
    firstMode := .b, payload := h.payload, isNotify := h.isNotify, resent := false, sent := false, placed := false, repeats := false
    ackReq := h.dst.toNat < 0x80 }

/-- A part whose slot 4 fails or is blank transmits nothing but ACKs (R394, Table 14-9). -/
def maySend (s : State) : Bool := !isUp s .sec || s.sec.slotOk.getLsbD 4

/-- A producer may hand the frame over: a payload of 1 to 240 bytes, P0 to P2, to a node or to all, while slot 4 holds a key (R394,
Table 14-9). -/
def handoverOk (s : State) (h : Handover) : Bool :=
  isUp s .plc && 1 ≤ h.payload.length && h.payload.length ≤ 240 && h.prio != 3 && (h.dst.toNat < 0x80 || h.dst = 0xFF) && maySend s

/-- A frame is handed over (R384): it joins its queue, or is refused. -/
def handOver (h : Handover) (s : State) : State :=
  if !handoverOk s h then s
  else if 8 ≤ (queueOf s h.prio).length then refuseFrame h.isNotify s
  else
    let f := newFrame s h
    beginAccess (pushFrame f { s with plc := { s.plc with fid := s.plc.fid + 1 } })

/-- The first element of a list that meets p is removed. -/
def dropFirst {α : Type} (p : α → Bool) : List α → List α
  | [] => []
  | x :: r => if p x then r else x :: dropFirst p r

/-- The PDU that a frame carries leaves the OD's list. -/
def takeOut (payload : Bytes) (s : State) : State :=
  { s with od := { s.od with out := dropFirst (fun x => x.path != .mailbox && x.bytes == payload) s.od.out } }

/-- The header of an ACK (R380, R398): it echoes ORIG, FID and the attempt, in MODE 00b with HOPS 4 and LEN 0. -/
def ackFrame (a : AckDue) : OutFrame :=
  { prio := a.prio, type := 1, dst := a.dst, orig := a.orig, fid := a.fid, hops := 4, attempt := a.attempt, copiesLeft := 0
    firstMode := .q, payload := [], isNotify := false, resent := false, sent := true, placed := false, repeats := true, ackReq := false }

/-- An ACK is sent without access (R380, R388): an access under way begins again at the next idle. -/
def sendAckNow (a : AckDue) (s : State) : State :=
  if s.plc.tx.isNone && pathReady s a.path then
    let s := deferAccess s
    putOn [a.path] (ackFrame a) .q (headerOf s (ackFrame a)) s
  else s

/-- The ACK that a received frame asks for goes to that copy's SRC, on its path (R380, R398). -/
def ackFor (p : Path) (h : Fch) (dst : Byte) : AckDue := ⟨dst, h.orig, h.fid, h.attempt, BitVec.ofNat 2 h.prio, p⟩

/-- SRC is this node's address in a copy it did not send (R416): CONFLICT is set and logged at most once an hour. -/
def noteConflict (s : State) : State :=
  let s := { s with net := { s.net with conflict := true } }
  let now := s.bil.running / 32768
  let recent : Bool := match s.net.conflictLogged with
    | some t => decide (now < t + 3600)
    | none => false
  if recent then s else logEvent .addressConflict { s with net := { s.net with conflictLogged := some now } }

/-- The path on which a node was last heard (R413). -/
def noteHeard (n : Byte) (p : Path) (s : State) : State := setDest { destOf s n with lastField := p == .field } s

/-- A copy that this repeater is to repeat (R396, R397, R402): data, or a curtailment message; never an ACK or a beacon. -/
def mustRepeat (s : State) (h : Fch) : Bool :=
  let own := BitVec.ofNat 8 (nodeAddress s)
  s.net.repeater && !s.pwr.loaderState && maySend s && h.seg == segmentNumber s % 256 && h.hops != 0 && h.dst != own && h.dst != h.src && h.src != own
    && (h.type == 0 || (h.type == 2 && h.len == 20))
    && !(s.plc.repeated.any fun x => x.orig == h.orig && x.fid == h.fid && (h.dst == 0xFF || x.attempt == h.attempt))

/-- MODE of a received header as a mode (Table 15-3). -/
def modeOf (n : Nat) : LinkMode := if n = 0 then .q else if n = 1 then .b else .r

/-- A copy that is repeated is noted (R396). Of its originator only the last 128 frame numbers stay known, since FID wraps. -/
def noteRepeated (h : Fch) (l : List Repeated) : List Repeated :=
  (l.filter fun x => x.orig != h.orig || (h.fid - x.fid).toNat < 128) ++ [⟨h.orig, h.fid, h.attempt, h.src⟩]

/-- A repeat is queued (R396, R397): a unicast one waits for the end of the direct ACK window. -/
def queueRepeat (h : Fch) (payload : Bytes) (s : State) : State :=
  let f : OutFrame :=
    { prio := BitVec.ofNat 2 h.prio, type := BitVec.ofNat 3 h.type, dst := h.dst, orig := h.orig, fid := h.fid
      hops := BitVec.ofNat 3 (h.hops - 1), attempt := h.attempt, copiesLeft := 0, firstMode := modeOf h.mode, payload := payload
      isNotify := false, resent := false, sent := false, placed := h.dst != 0xFF, repeats := true, ackReq := h.ackReq }
  { s with plc := { s.plc with
      repeats := s.plc.repeats ++ [f], repeated := noteRepeated h s.plc.repeated } }

/-- A repeat is dropped when an ACK with its ORIG and FID is heard before its copy starts (R397). -/
def dropRepeats (h : Fch) (s : State) : State :=
  let hit (f : OutFrame) : Bool := f.repeats && f.orig == h.orig && f.fid == h.fid
  let s := if s.plc.access != .none && s.plc.current.any hit then stopAccess s else s
  { s with plc := { s.plc with repeats := s.plc.repeats.filter fun f => !hit f } }

/-- An ACK is received (R380, R388, R397, R398). -/
def receiveAck (p : Path) (h : Fch) (s : State) : State :=
  let own := BitVec.ofNat 8 (nodeAddress s)
  let s := dropRepeats h s
  if h.dst != own then s
  else
    match s.plc.ackWindow.filter fun f => h.orig == own && f.fid == h.fid with
    | some f => beginAccess (frameDelivered f s)
    | none =>
      match (s.plc.repeated.filter fun x => x.orig == h.orig && x.fid == h.fid).getLast? with
      | some x => { s with plc := { s.plc with relays := s.plc.relays ++ [ackFor p h x.src] } }
      | none => s

/-- The originator hears a copy of its own unicast frame (R399): its next attempt is held, and a relayed window opens. -/
def hearOwnCopy (h : Fch) (s : State) : State :=
  match (s.plc.q0 ++ s.plc.q1 ++ s.plc.q2).find? fun f => f.fid == h.fid && f.ackReq && (f.sent || f.attempt != 0) with
  | none => s
  | some f =>
    let s := if s.plc.access != .none && s.plc.current.any (sameFrame f) then stopAccess s else s
    if s.plc.ackWindow.isNone || s.plc.ackWindow.any (sameFrame f) then { s with plc := { s.plc with ackWindow := some f, relayed := true } }
    else s

/-- The receiver takes a copy on a path: PLC is up and awake, the path is in use, and this node does not transmit on it (R367, R406,
R413). -/
def receives (s : State) (p : Path) : Bool :=
  isUp s .plc && awake s && (p == .line || p == .field) && (s.plc.linkPath == 2 || (p == .field) == (s.plc.linkPath == 1))
    && !(s.plc.tx.isSome && s.plc.txPaths.contains p)

/-- A copy is for this node and new (R375, R395): DST, ORIG, and the pair ORIG and FID. -/
def addressed (s : State) (h : Fch) : Bool :=
  let own := BitVec.ofNat 8 (nodeAddress s)
  (h.dst == own || h.dst == 0xFF) && h.orig != own

/-- The pair ORIG and FID differs from the last one delivered from that ORIG (R375). -/
def isNew (s : State) (h : Fch) : Bool := !s.plc.lastPairs.contains (h.orig, h.fid)

/-- The pair becomes the last one delivered from that ORIG (R375). -/
def notePair (h : Fch) (s : State) : State :=
  { s with plc := { s.plc with lastPairs := (s.plc.lastPairs.filter fun x => x.1 != h.orig) ++ [(h.orig, h.fid)] } }

end Sys2Proof.Machine
end

