-- ==== Sys2Proof/Machine/Power.lean ====
section
/-! DEFINITION. The supplies, reset and start-up family (03): reset sources, boot rows, the start hold, the brown-out sequence and
the supply monitors. -/

namespace Sys2Proof.Machine

/-- POR_SUPPLY (R86): VDD3 or VDDC falls below its POR threshold; never held back (R577). -/
def execPorSupply (s : State) : Host.Outcome State Fault Refusal :=
  let s := wholeReset .porSupply s
  done { s with pwr := { s.pwr with vdd3Up := false }, sup := { s.sup with vddcOk := false, xtalOk := false } }

/-- What survives the loss of VDD3 and VBAT (R85): OTP, code flash and log flash. -/
def fromNothing (s : State) : State :=
  { ({} : State) with
    pending := s.pending, free := s.free, otp := s.otp, flash := { s.flash with eventCount := 0 }
    set := { otpFaults := s.set.otpFaults }
    bil := { ({} : Billing) with
      ledger := s.bil.ledger, headIndex := s.bil.headIndex, headHash := s.bil.headHash, untrustedCount := s.bil.untrustedCount
      oldestIndex := s.bil.oldestIndex, genesisDone := s.bil.genesisDone, lgImports := s.bil.lgImports
      lgReactive := s.bil.lgReactive }
    od := { ({} : Od) with
      markTx := s.od.markTx, markNode0 := s.od.markNode0, markToken := s.od.markToken, lastStatus := s.od.lastStatus }
    fw := { ({} : Fw) with
      manifest := s.fw.manifest, staging := s.fw.staging, written := s.fw.written, corrupt := s.fw.corrupt
      loaderOk := s.fw.loaderOk, loaderVersion := s.fw.loaderVersion, faults := s.fw.faults } }

/-- AON_START_FROM_NOTHING (R85, R111): the state of a new part, but for what is kept in OTP and flash. -/
def execAonStartFromNothing (s : State) : Host.Outcome State Fault Refusal := done (fromNothing s)

/-- RESETN (R87): shorter than 200 ns ignored, up to 1 µs a free choice, from 1 µs on a reset; held back behind a COMMIT or the
brown-out sequence (R102, R577). -/
def execResetn (lowNs : Nat) (s : State) : Host.Outcome State Fault Refusal :=
  if lowNs < 200 then done s
  else if lowNs < 1000 then
    let (n, s) := nextFree s
    done (if Config.resetPulse n then heldBackReset .pin s else s)
  else done (heldBackReset .pin s)

/-- VDDC_OUT_OF_RANGE (R110): a POR_SUPPLY reset while VDD3 stays up. -/
def execVddcOutOfRange (s : State) : Host.Outcome State Fault Refusal := done (wholeReset .porSupply s)

/-- The monitor bit of a rail; once it is good again, its next fall is a new report. -/
def setRail (r : Rail) (ok : Bool) (s : State) : State :=
  let s := setSupply (fun p => match r with
    | .vld => { p with vldOk := ok }
    | .vaud => { p with vaudOk := ok }
    | .voled => { p with voledOk := ok }) s
  if ok then { s with pwr := { s.pwr with railReported := clearBit s.pwr.railReported (railNum r) } } else s

/-- The stage that a rail feeds follows it (R84): with VLD low a copy that is being sent on the line is cut, and its frame waits (R392). -/
def refreshStageOf (r : Rail) (s : State) : State :=
  match r with
  | .vld => refreshDriver (if s.sup.vldOk || !s.plc.txPaths.contains .line then s else copyCut s)
  | .vaud => refreshStage s | .voled => refreshDrive s

/-- SUPPLY_RAIL_LOW (R84): only the stage is disabled, and the owner reports it. -/
def execSupplyRailLow (r : Rail) (s : State) : Host.Outcome State Fault Refusal :=
  done (refreshStageOf r (reportRail r (setRail r false s)))

/-- SUPPLY_RAIL_RESTORED (R84). -/
def execSupplyRailRestored (r : Rail) (s : State) : Host.Outcome State Fault Refusal :=
  done (refreshStageOf r (setRail r true s))

/-- RESET_RELEASE (R83, R89, R91): the start hold is entered, and the boot sequence begins at STAGE 0h. -/
def execResetRelease (s : State) : Host.Outcome State Fault Refusal :=
  done (guarded s.pwr.resetHeld (fun s => setSupply (fun p => { p with vddcOk := true }) { s with
    pwr := { s.pwr with resetHeld := false, vdd3Up := true, xtalMissed := false } }) s)

/-- An island has come up at this start. -/
def hasCome (s : State) (i : Island) : Bool := (port s i).epoch != 0

/-- XTAL_RETRY (R107): STAGE stays at 1h while the crystal is not stable. -/
def execXtalRetry (stable : Bool) (s : State) : Host.Outcome State Fault Refusal :=
  done (guarded (isUp s .safe && !hasCome s .host) (fun s =>
    setSupply (fun p => { p with xtalOk := stable }) { s with pwr := { s.pwr with xtalMissed := !stable } }) s)

/-- What must have come before an island's boot row (Table 3-4); in the loader state only PLC comes after SEC (R517). -/
def bootDue (s : State) (i : Island) : Bool :=
  match i with
  | .aon => true
  | .safe => hasCome s .aon
  | .host => hasCome s .safe && !s.pwr.xtalMissed
  | .sec => hasCome s .host
  | .seq => hasCome s .sec && s.pwr.imageOk
  | .adc => hasCome s .seq && restoreRowDone s
  | .met => hasCome s .adc
  | .tmr => hasCome s .met
  | .plc => hasCome s .tmr || (s.pwr.loaderState && hasCome s .sec && restoreRowDone s)
  | .disp => hasCome s .plc && !s.pwr.loaderState
  | .aud => hasCome s .disp
  | .bgd => hasCome s .aud

/-- STAGE as a boot row sets it, unless the start failed. -/
def setStage (n : BitVec 4) (s : State) : State :=
  if s.boot.stage = 0xF || s.boot.stage = 8 then s else { s with boot := { s.boot with stage := n } }

/-- The NOTIFY of the loader state (R517). -/
def loaderNotify (s : State) : State :=
  notifyNode0 1 (leBytes 2 s.od.serviceEpoch.toNat ++ resultRecord (od 1 0x80) 0 (leBytes 2 s.od.serviceEpoch.toNat)
    ++ resultRecord (od 0x20 3) 0 (leBytes 4 (fwStatusWord s).toNat)
    ++ resultRecord (od 0x28 0x10) 0 (leBytes 4 (rstCauseWord s).toNat)) s

/-- Whether the 32.768 kHz crystal runs is seen in AON's boot row (Table 3-7): one that ran goes on, of another a free bit says so. DESIGN
CHOICE: the spec says nowhere when it starts (log entry 53). -/
def rtcXtalSeen (s : State) : State :=
  let (n, s) := nextFree s
  { s with sup := { s.sup with rtcXtalOk := s.sup.rtcXtalOk || Config.freeBit n } }

/-- What an island does as it comes up in its boot row (R89, R279, R290, R309, R365, R394, R420, R451, R488). -/
def atBoot (i : Island) (s : State) : State :=
  match i with
  | .aon => rtcXtalSeen s
  | .safe => setStage 1 { s with safe := { s.safe with pulses := true } }
  | .host => setSupply (fun p => { p with xtalOk := true }) s
  | .sec => setStage 2 (secLoad s)
  | .seq => setStage 4 (handRequest s)
  | .adc => adcConfigure s
  | .met => applyCode { s with met := { s.met with
      threePhase := threePhase s, periodStart := s.bil.clock } }
  | .tmr => s
  | .plc =>
    let s := reportRail .vld (afterReturn .plc s)
    if s.pwr.loaderState then loaderNotify (refreshDriver { s with plc := { s.plc with mayTransmit := true } }) else s
  | .disp => reportRail .voled (refreshDrive (afterReturn .disp s))
  | .aud => reportRail .vaud (refreshStage (afterReturn .aud s))
  | .bgd => setStage 6 { s with bgd := { s.bgd with enabled := BitVec.ofNat 4 (setting? s 0x22 0) } }

/-- ISLAND_BOOT_UP (R89, R90): in the order of Table 3-4; the epoch becomes 1. -/
def execIslandBootUp (i : Island) (s : State) : Host.Outcome State Fault Refusal :=
  done (guarded (!s.pwr.resetHeld && (port s i).state == .notYetUp && bootDue s i) (fun s => atBoot i (comeUp i s)) s)

/-- IMAGE_CHECK (R529). -/
def execImageCheck (s : State) : Host.Outcome State Fault Refusal :=
  done (guarded (isUp s .sec && !hasCome s .seq && !s.pwr.imageOk && !s.pwr.loaderState)
    (fun s => handRequest (imageCheck s)) s)

/-- SETTINGS_RESTORE (R122). -/
def execSettingsRestore (s : State) : Host.Outcome State Fault Refusal :=
  if s.pwr.loaderState then done (drainWaiting (guarded (isUp s .sec && !restoreRowDone s) restoreLoader s))
  else done (drainWaiting (guarded (isUp s .seq && isUp s .sec && !restoreRowDone s) restoreNormal s))

/-- Every condition of R91. -/
def startReady (s : State) : Bool :=
  s.safe.startHold && !s.pwr.loaderState && allUp s && s.safe.sealAccepted && s.safe.sealValid
    && s.pwr.settingsRestored && firstPass s && s.pwr.homingDone && !s.sup.pfail && !s.pwr.brown.active && s.safe.reports.isEmpty

/-- The start hold may be released; with a BIST run pending it stays (R498). -/
def mayRelease (s : State) : Bool := startReady s && !s.tst.bistBoot && !s.tst.scanning

/-- START_HOLD_RELEASE (R91, R99, R163, R199, R236). What belongs to a start follows only at the first release after a reset, not at one
that SAFE's return calls for. -/
def execStartHoldRelease (s : State) : Host.Outcome State Fault Refusal :=
  done (guarded (mayRelease s) (fun s => if s.pwr.billing then commonRelease s else startReleased (commonRelease s)) s)

/-- Steps 1, 3 and 4 of R98: gate-kill, the coil drive, the line driver, class-D stage and display, a lock move (R221), the engines
(R485), pending commits and rectangles (R447), a BIST scan (R505). -/
def brownDrives (s : State) : State :=
  let s := setKill { s with glt := { s.glt with srcBrown := true } }
  let s := abandonErases (brakeMove s)
  let s := { s with
    swg := { s.swg with gateCmd := 0, heldGates := 0, coilCmd := false, coilDuty := 0, openLoop := false, heldCoil := none, interlock := false }
    aud := { s.aud with playing := none, queue := [] }
    disp := { s.disp with queue := [], flight := [], fifo := [], pending := false, commitDone := false }
    plc := { s.plc with tx := none, txPaths := [], access := .none, current := none } }
  let s := if s.tst.scanning then scanStops s else s
  refreshStage (refreshDrive (refreshDriver s))

/-- Step 5 of R98 (R331): earlier held and closed records and then the brown-out record are written, and the area is marked. -/
def brownRecord (s : State) : State :=
  let s := writeClosed (writeHeld s)
  if canSign s && s.bil.held.isEmpty && s.bil.pendState == .pending then
    let s := appendRecord s.bil.openRec s
    { s with bil := { s.bil with pendState := .written } }
  else s

/-- After step 5 the pads stand as Table 3-3 says (R98): pilot at state F level, lock motor free, METER_LED off, test pulses low. -/
def brownPads (s : State) : State :=
  { s with
    plt := { s.plt with level := .stateF, nextLevel := .stateF, duty := 0, next := 0, digital := false, lowMv := 0 }
    lck := { s.lck with drive := .free }
    met := { s.met with ledOn := false }
    safe := { s.safe with pulses := false } }

/-- The brown-out sequence (R98, R104). A session stays where it stands until the reset cuts it (R103). Where the supply does not last
until step 5, or only the early warning promises steps 1 and 2 (R97), the pending close stays for the next start (R100, R109). -/
def brownOutSequence (early lasts : Bool) (s : State) : State :=
  let boot := !s.pwr.billing || s.pwr.loaderState
  let s := { s with pwr := { s.pwr with brown := { active := true, earlyWarning := early, duringBoot := boot } } }
  let s := if early then s else setSupply (fun p => { p with pfail := true }) s
  if boot then brownDrives s
  else
    let s := brownDrives (pendingClose .brownOut s)
    let s := { s with ses := if sessionOn s then { s.ses with phase := .break, breakStep := 0, makeStep := 0 } else s.ses }
    brownPads (if lasts then brownRecord s else s)

/-- BROWN_OUT (R98): while a sequence is in force only PFAIL's own bit follows its pad (R101). -/
def execBrownOut (onset : BrownOnset) (s : State) : Host.Outcome State Fault Refusal :=
  if s.pwr.resetHeld then done s
  else if s.pwr.brown.active then done (if onset.earlyWarning then s else setSupply (fun p => { p with pfail := true }) s)
  else done (brownOutSequence onset.earlyWarning onset.lasts s)

/-- Boot goes on after a sequence of R104; homing that it stopped runs again: DEDUCED. -/
def bootGoesOn (s : State) : State :=
  endStoppedScan (refreshStage (refreshDrive (refreshDriver { s with pwr := { s.pwr with
    brown := {}, homingStarted := s.pwr.homingDone } })))

/-- The sequence counts as released (R103, R104): boot goes on, or the sequence runs to its end and a whole-device reset with PFAIL_REC
follows, together with the resets held back. A COMMIT under way holds it back (R126, R577). -/
def brownReleased (s : State) : State :=
  if s.pwr.brown.duringBoot then bootGoesOn s
  else
    let s := brownRecord s
    let held := s.pwr.heldResets
    if s.set.commit.isSome then { s with pwr := { s.pwr with heldResets := held ++ [.pfailRec] } }
    else
      let s := wholeReset .pfailRec s
      { s with rst := held.foldl (fun r c => markCause c r) s.rst }

/-- PFAIL_RELEASE (R103, R104). -/
def execPfailRelease (s : State) : Host.Outcome State Fault Refusal :=
  done (guarded (s.pwr.brown.active && !s.pwr.brown.earlyWarning) brownReleased (setSupply (fun p => { p with pfail := false }) s))

/-- VDD3_RECOVERED (R103, R104). -/
def execVdd3Recovered (s : State) : Host.Outcome State Fault Refusal :=
  done (guarded (s.pwr.brown.active && s.pwr.brown.earlyWarning) brownReleased s)

/-- PFAIL_HOLD_LOG (R108). -/
def execPfailHoldLog (s : State) : Host.Outcome State Fault Refusal :=
  done (guarded (s.safe.startHold && s.sup.pfail && !s.pwr.resetHeld) (logEvent .pfailHold) s)

/-- XTAL_STOP (R578): every port but those of AON and SAFE declares clock loss, diagnostic 8 fails, and the die
holds the latch (R269). -/
def execXtalStop (s : State) : Host.Outcome State Fault Refusal :=
  done (guarded (hasCome s .host && s.sup.xtalOk) (fun s =>
    let s := setSupply (fun p => { p with xtalOk := false }) s
    diagFail 8 (holdKill ((allIslands.filter fun i => i != .aon && i != .safe).foldl (fun s i => clockLoss i s) s))) s)

/-- Every declared phase stands at or above the mains-loss threshold plus 50 ‰ (R94). -/
def mainsGood (s : State) : Bool := (phases s).all fun p => s.live.highHalf.toList.getD p false

/-- MAINS_RESTORE (R94, R95): the restore delay has run out with every declared phase high; mains loss clears, and R185 follows. -/
def execMainsRestore (s : State) : Host.Outcome State Fault Refusal :=
  done (guarded (isUp s .met && s.met.mainsLoss && mainsGood s) (fun s => recompute { s with met := { s.met with mainsLoss := false } }) s)

/-- MAINS_PRESENT_AT_START (R96). -/
def execMainsPresentAtStart (s : State) : Host.Outcome State Fault Refusal :=
  done (guarded (isUp s .met && !s.met.mainsLoss) (fun s => { s with pwr := { s.pwr with mainsPresent := true } }) s)

/-- HELD_RESET_RELEASE (R102, R577): the resets held back take effect, and their causes are recorded. The first reset of a BIST run
that waited is that run's reset (R498). -/
def execHeldResetRelease (s : State) : Host.Outcome State Fault Refusal :=
  match s.pwr.heldResets with
  | [] => done s
  | c :: r =>
    let s := resetClose { s with pwr := { s.pwr with heldResets := [] } }
    if s.tst.pending && (c :: r).all (· == .odRestart) then done (bistReset s) else
    let s := wholeReset c s
    done { s with rst := r.foldl (fun a x => markCause x a) s.rst }

/-- VBAT_LOW (R101, Table 3-7): VBAT_OK at or above 1.90 V, VBAT_LOW below 2.20 V. -/
def execVbatLow (mv : BitVec 16) (s : State) : Host.Outcome State Fault Refusal :=
  done (setSupply (fun p => { p with vbatLow := mv.toNat < 2200, vbatOk := 1900 ≤ mv.toNat }) s)

/-- RTC_XTAL_STOP (R101, R314, Table 3-7): the 32.768 kHz crystal stops, and AON counts on its internal RC. -/
def execRtcXtalStop (s : State) : Host.Outcome State Fault Refusal :=
  done (setSupply (fun p => { p with rtcXtalOk := false }) s)

end Sys2Proof.Machine
end

