-- ==== Sys2Proof/Machine/PortOps.lean ====
section
/-! DEFINITION. The mailbox and the THK commands (02, 22): GO and the acknowledgements, island commands, an island's return. -/

namespace Sys2Proof.Machine

/-- The bytes of the request buffer (R537). -/
def requestBytes (s : State) : Bytes := s.hst.reqBuf.toList.flatMap fun w => leBytes 4 w.toNat

/-- MBX_ERR is set (R537). -/
def mailboxError (s : State) : State := { s with hst := { s.hst with mbxErr := true } }

/-- GO with a length (R537): REQ_BUSY is set, and the PDU goes to Laurel-B or the loader as soon as one takes it. -/
def mailboxGo (len : Byte) (s : State) : State :=
  let s := { s with hst := { s.hst with len := len } }
  if s.hst.request.isSome || len.toNat < 12 || 240 < len.toNat then mailboxError s
  else handRequest { s with hst := { s.hst with request := some ((requestBytes s).take len.toNat) } }

/-- RSP_ACK (R537, R538). -/
def ackResponse (s : State) : State :=
  match s.hst.responses with
  | [] => mailboxError s
  | _ :: r => { s with hst := { s.hst with responses := r } }

/-- NTF_ACK (R537, R538). -/
def ackNotify (s : State) : State :=
  match s.hst.notifies with
  | [] => mailboxError s
  | _ :: r => { s with hst := { s.hst with notifies := r } }

/-- A write of HST_MBX_CTRL (Table 22-5): LEN, then GO, RSP_ACK and NTF_ACK. -/
def mbxCtrlWrite (v : Nat) (s : State) : State :=
  let len := BitVec.ofNat 8 (bits v 0 8)
  let s := if hasBit v 8 then mailboxGo len s else { s with hst := { s.hst with len := len } }
  let s := if hasBit v 9 then ackResponse s else s
  if hasBit v 10 then ackNotify s else s

/-- The islands that answer no THK reset, reload or power-down (R71). -/
def neverCommanded (i : Island) : Bool := i == .aon || i == .safe

/-- A command is refused (R71): REFUSED is set, and nothing else happens. -/
def commandRefused (s : State) : State := { s with fab := { s.fab with cmdRefused := true } }

/-- A command is accepted (R71). -/
def commandAccepted (i : Island) (s : State) : State :=
  { s with fab := { s.fab with cmdRefused := false, cmdIsland := BitVec.ofNat 4 (islandNum i) } }

/-- The island's content is reloaded at its return (R71). -/
def reloadDue (i : Island) (s : State) : State := setPort s i { port s i with reloadAtReturn := true }

/-- Reset or reload of an island (R71): merged where it is out already; refused while it is powered down. A command before an island's
first coming up merges with that. -/
def commandReset (reload : Bool) (i : Island) (s : State) : State :=
  if neverCommanded i || (port s i).state == .poweredDown then commandRefused s
  else
    let s := commandAccepted i s
    match (port s i).state with
    | .up => leaveService i (if reload then .reloading else .resetting) s
    | .notYetUp => s
    | .resetting | .reloading | .clockLost | .poweredDown => if reload then reloadDue i s else s

/-- Power-down of an island (R71). -/
def commandDown (i : Island) (s : State) : State :=
  if neverCommanded i || i == .host then commandRefused s
  else
    let s := commandAccepted i s
    match (port s i).state with
    | .up => leaveService i .poweredDown s
    | .notYetUp | .poweredDown => s
    | .resetting | .reloading | .clockLost => setPort s i { port s i with state := .poweredDown, reloadAtReturn := true }

/-- Power-up of an island (R71): without effect unless it is powered down. DESIGN CHOICE: until the island is back its STATE reads 010b,
reloading (log entry 8). -/
def commandUp (i : Island) (s : State) : State :=
  let s := commandAccepted i s
  let p := port s i
  if p.state == .poweredDown then setPort s i { p with state := .reloading, reloadAtReturn := true } else s

/-- A write of THK_ISL_CMD (R20, R71): ISLAND [3:0] and CMD [6:4]. A reserved ISLAND with CMD 000b is logged with the value written. -/
def islandCommand (v : Word) (s : State) : State :=
  let island := bits v.toNat 0 4
  let cmd := bits v.toNat 4 3
  match islandOf island with
  | none => if cmd = 0 then logEvent (.rejected 0x9444 v) s else commandRefused s
  | some i =>
    if cmd = 0 then { s with fab := { s.fab with cmdIsland := BitVec.ofNat 4 island } }
    else if cmd = 1 then commandReset false i s
    else if cmd = 2 then commandReset true i s
    else if cmd = 3 then commandDown i s
    else if cmd = 4 then commandUp i s
    else commandRefused s

/-- The word of THK_ISL_CMD that gives an island a command (Table 2-10). -/
def commandWord (island : BitVec 4) (cmd : Nat) : Word := fields [(island.toNat, 0), (cmd, 4)]

/-- What an island loads as it returns (R61, R160, R279, R309, R448). -/
def islandReloads (i : Island) (s : State) : State :=
  match i with
  | .adc => adcConfigure (afterReturn .adc s)
  | .plc => reportRail .vld (recompute (refreshDriver (afterReturn .plc s)))
  | .disp => reportRail .voled (refreshDrive (afterReturn .disp s))
  | .aud => reportRail .vaud (refreshStage (afterReturn .aud s))
  | .sec => secLoad s
  | .seq => drainWaiting (handRequest (afterReturn .seq s))
  | .met => noteCodes (applyCode { s with met := { s.met with threePhase := threePhase s, periodStart := s.bil.clock } })
  | .host => afterReturn .host s
  | .safe => { s with safe := { s.safe with pulses := !s.pwr.brown.active } }
  | .aon | .bgd | .tmr => s

/-- An island that is out of service can return (R56, R61, R78, R517, R578). -/
def mayReturn (s : State) (i : Island) : Bool :=
  let st := (port s i).state
  !s.pwr.resetHeld && (st == .resetting || st == .reloading || st == .clockLost)
    && !(i == .seq && s.pwr.loaderState) && (i == .aon || i == .safe || s.sup.xtalOk)

/-- An island returns (R61): its epoch increases, its settings are reapplied, and a BIST run that awaited it goes on (R505). -/
def islandReturn (i : Island) (s : State) : State :=
  let s := islandReloads i (comeUp i s)
  if s.tst.awaiting == some i then bistNext s else s

end Sys2Proof.Machine
end

