-- ==== Sys2Proof/Machine/NetOps.lean ====
section
/-! DEFINITION. Received copies (15, 16): link checks, beacons and curtailment messages, wake windows. -/

namespace Sys2Proof.Machine

/-- The broadcast key: the LINK load of Table 14-3 made with node FFh. -/
def broadcastKey (s : State) : Bytes :=
  hkdf [] (slotKey s 4) (ascii "ZN-LINK" ++ leBytes 1 (segmentNumber s) ++ leBytes 1 0xFF) 16

/-- The MAC of a broadcast is right (Table 16-2, R405): source 00h, destination FFh, the path of the copy. -/
def broadcastMacOk (s : State) (p : Path) (b : Bytes) : Bool :=
  let n := b.length - 8
  cmac64 (broadcastKey s) (macPrefix (segmentNumber s) 0 0xFF p ++ b.take n) == b.drop n

/-- A broadcast's authenticity and SEQ (R401, R418, Table 14-9): the state after the check, and whether it is accepted. After a loss of
retained RAM the first beacon is accepted with any SEQ (R420). -/
def broadcastTaken (beacon : Bool) (p : Path) (b : Bytes) (seq : Word) (s : State) : State × Bool :=
  if !isUp s .sec || !s.sec.slotOk.getLsbD 4 || s.sec.scanLock then (s, false)
  else
    let s := loadYew .link (broadcastKey s) 0 s
    if !broadcastMacOk s p b then (macFails s, false)
    else if !(beacon && s.net.bcastLost) && seq.toNat ≤ s.net.bcastSeq.toNat then (s, false)
    else ({ s with net := { s.net with bcastSeq := seq, bcastLost := s.net.bcastLost && !beacon } }, true)

/-- A curtailment value is 0 to 630, or FFFFh (Table 16-2, R405). -/
def curtailOk (v : Nat) : Bool := v ≤ 630 || v == 0xFFFF

/-- CurtailLimitDeciA takes a value and the minimum-of rule follows (R405, R185). The loader state ignores curtailment (R518). -/
def setCurtail (v : Nat) (s : State) : State :=
  if s.pwr.loaderState then s else recompute { s with net := { s.net with curtail := BitVec.ofNat 16 v } }

/-- R_OFF in ms (Table 16-3). -/
def rOffMs (bandC : Bool) : Nat := if bandC then 500 else 250

/-- PERIOD_MS lies in its range (Table 16-3). -/
def periodOk (bandC : Bool) (v : Nat) : Bool := (if bandC then 3000 else 2000) ≤ v && v ≤ 60000

/-- A bit of PENDING or REPEAT (Table 16-2). -/
def mapBit (b : Bytes) (off n : Nat) : Bool := (b.getD (off + n / 8) 0).getLsbD (n % 8)

/-- FORMAT, reserved fields, PERIOD_MS, CURTAIL_DECIA and the copy's HOPS are valid (R401, R402). -/
def beaconForm (s : State) (h : Fch) (b : Bytes) : Bool :=
  b.length == 60 && fieldLe 0 2 b == 0x4201 && fieldLe 3 1 b < 4 && fieldLe 0x0E 2 b == 0 && periodOk s.plc.bandC (fieldLe 4 2 b)
    && curtailOk (fieldLe 0x0C 2 b) && h.hops ≤ 4

/-- The clock at T0: the start of the copy less R_OFF for each hop it has made (R402). -/
def clockAtT0 (s : State) (h : Fch) (start : Time) : Time := start - BitVec.ofNat 48 ((4 - h.hops) * rOffMs s.plc.bandC * 65536 / 1000)

/-- The timing and roles that an accepted beacon sets (R401, R402, R404, R406, R409, Table 16-6). -/
def beaconTiming (p : Path) (h : Fch) (t0 : Time) (fch b : Bytes) (s : State) : State :=
  let me := nodeAddress s
  let ago : Int := ((s.bil.clock.toNat : Int) - t0.toNat) / 2
  let rep := mapBit b 0x20 me
  let s := if s.net.sync = 2 then logEvent (.resync false) s else s
  { s with
    net := { s.net with
      sync := 0, misses := 0, lastBsn := BitVec.ofNat 8 (fieldLe 2 1 b), lastPath := if p = .field then 1 else 0
      lastHops := BitVec.ofNat 3 h.hops, repeater := rep
      pendingForUs := mapBit b 0x10 me || hasBit (fieldLe 3 1 b) 1, periodMs := BitVec.ofNat 16 (fieldLe 4 2 b)
      t0 := (s.bil.running : Int) - ago, gotBeacon := true
      beaconCopy := if rep && 1 ≤ h.hops && !s.pwr.loaderState then some (fch, b) else none }
    bgd := { s.bgd with snapshotDue := s.bgd.snapshotDue || s.bgd.snapshot.isSome } }

/-- TIME of a beacon is applied as d = TIME − (clock at T0) (R404, Table 13-1); not in the loader state (R518). -/
def beaconTime (t0 : Time) (b : Bytes) (s : State) : State :=
  if hasBit (fieldLe 3 1 b) 0 && !s.pwr.loaderState then applyBeaconTime (s.bil.clock + (timeOf (slice 6 6 b) - t0)) s else s

/-- A beacon copy is judged and, if accepted, sets timing, time, curtailment and SyncState 0 (R401 to R405). -/
def beaconReceived (c : Copy) (h : Fch) (start : Time) (s : State) : State :=
  if !beaconForm s h c.payload then s
  else
    let r := broadcastTaken true c.path c.payload (BitVec.ofNat 32 (fieldLe 0x30 4 c.payload)) s
    if !r.2 then r.1
    else
      let t0 := clockAtT0 r.1 h start
      setCurtail (fieldLe 0x0C 2 c.payload) (beaconTime t0 c.payload (beaconTiming c.path h t0 c.fch c.payload r.1))

/-- The form of a curtailment message (R405). -/
def curtailForm (b : Bytes) : Bool :=
  b.length == 20 && fieldLe 0 2 b == 0x4202 && fieldLe 2 2 b == 0 && fieldLe 6 2 b == 0 && curtailOk (fieldLe 4 2 b)

/-- A curtailment message is judged and, if accepted, sets CurtailLimitDeciA (R405, R415). -/
def curtailReceived (c : Copy) (s : State) : State :=
  if !curtailForm c.payload then s
  else
    let r := broadcastTaken false c.path c.payload (BitVec.ofNat 32 (fieldLe 8 4 c.payload)) s
    if r.2 then setCurtail (fieldLe 4 2 c.payload) r.1 else r.1

/-- A copy that passed R375 goes to its consumer (R373, R395). -/
def deliverCopy (c : Copy) (h : Fch) (start : Time) (s : State) : State :=
  if h.type = 0 then pduReceive ⟨c.path, BitVec.ofNat 8 h.seg, h.orig, h.dst, BitVec.ofNat 2 h.prio, c.payload⟩ s
  else if h.type = 2 then (if c.payload.length = 20 then curtailReceived c s else beaconReceived c h start s)
  else s

/-- A copy that is no ACK: its repeat, the relayed window of R399, its ACK, its delivery (R375, R380, R395, R396, R398). -/
def receiveFrame (c : Copy) (h : Fch) (start : Time) (s : State) : State :=
  let own := BitVec.ofNat 8 (nodeAddress s)
  let s := if mustRepeat s h then queueRepeat h c.payload s else s
  let s := if h.orig = own && h.src != own then hearOwnCopy h s else s
  if !addressed s h || !fcsOk c then s
  else
    let s := if h.type = 0 && h.ackReq && h.dst = own then { s with plc := { s.plc with acks := s.plc.acks ++ [ackFor c.path h h.src] } } else s
    if h.orig = 0 && isNew s h then deliverCopy c h start (notePair h s) else s

/-- A copy is received (R375, R392, R406, R413, R416). start is the clock at the start of the copy. -/
def receiveCopy (c : Copy) (start : Time) (s : State) : State :=
  let h := parseFch c.fch
  if !receives s c.path || !crc8Ok c.fch then s
  else
    let s := if c.path = .field then { s with net := { s.net with fpFrames := s.net.fpFrames + 1 } } else s
    if h.seg != segmentNumber s % 256 then s
    else
      let own := BitVec.ofNat 8 (nodeAddress s)
      let s := if h.src = own then noteConflict s else noteHeard h.src c.path s
      let s := if h.type != 1 && h.orig != own then noteHeard h.orig c.path s else s
      if h.type = 1 then receiveAck c.path h s else receiveFrame c h start s

/-- The clock when a copy that ends now began (R374, R411). -/
def copyStart (s : State) (c : Copy) : Time :=
  s.bil.clock - BitVec.ofNat 48 (copyUs s c.path (modeOf (parseFch c.fch).mode) c.payload.length * 65536 / 1000000)

/-- The wake window closes (R409, Table 16-5, R418): without an accepted beacon it is a miss, and the fourth begins resynchronising. -/
def closeWindow (s : State) : State :=
  let got := s.net.gotBeacon
  let s := { s with net := { s.net with windowOpen := false, preamble := false, closeDue := false } }
  if got then s
  else if s.net.sync = 1 && s.net.misses = 3 then
    logEvent (.resync true) { s with net := { s.net with sync := 2, repeater := false, beaconCopy := none } }
  else { s with net := { s.net with sync := 1, misses := s.net.misses + 1 } }

/-- Access breaks off because the medium turns busy (R378, R388). -/
def mediumTurnsBusy (us : Nat) (s : State) : State :=
  stopAccess { s with
    plc := { s.plc with busy := true, idle := false, busyUs := us }
    net := { s.net with preamble := s.net.preamble || s.net.windowOpen } }

end Sys2Proof.Machine
end

