-- ==== Sys2Proof/Machine/Coppice.lean ====
section
/-! DEFINITION. The background engines and the log flash (19): scrubber, wear manager, telemetry passes. -/

namespace Sys2Proof.Machine

/-- An engine may begin a unit (R482, R484, R485, R486, R488): n is its bit of CoppiceEnable. -/
def engineRuns (s : State) (n : Nat) : Bool :=
  isUp s .bgd && s.bgd.released && s.bgd.enabled.getLsbD n && !s.bgd.suspended.getLsbD n && !s.pwr.brown.active

/-- The sweep goes on with the next word (R470, R473): one that ends within its interval clears SCRUB_LATE. -/
def sweepNext (s : State) : State :=
  let ends := s.bgd.sramWord = 0x1FFFF
  { s with bgd := { s.bgd with
      sramWord := s.bgd.sramWord + 1
      scrubLate := s.bgd.scrubLate && !(ends && !s.bgd.sweepLate)
      sweepLate := s.bgd.sweepLate && !ends } }

/-- What the scrubber does with a word (R470, R471): AON's retained RAM and SAFE's memory are not part of the sweep. -/
def scrubWord (r : ScrubResult) (s : State) : State :=
  match r with
  | .clean => sweepNext s
  | .single true => sweepNext s
  | .single false => sweepNext { s with bgd := { s.bgd with corrected := satInc s.bgd.corrected } }
  | .uncorrectable i =>
    if i == .aon || i == .safe then s
    else
      let w := s.bgd.sramWord
      let s := sweepNext { s with bgd := { s.bgd with uncorrectable := satInc s.bgd.uncorrectable } }
      let s := logEvent (.scrubUncorrectable i w) s
      if isUp s .safe && isUp s i then leaveService i .reloading s else s

/-- SCRUB_WORD (R470). -/
def execScrubWord (result : ScrubResult) (s : State) : Host.Outcome State Fault Refusal := done (guarded (engineRuns s 0) (scrubWord result) s)

/-- Blocks of the running image. -/
def imageBlocks (s : State) : Nat :=
  match manifestBytes? s.fw.manifest with
  | some b => nblocks b
  | none => Config.shippedBlocks

/-- The check goes on with the next block of the image (R472). -/
def nextCodeBlock (s : State) : State :=
  let n := s.bgd.codeBlock.toNat + 1
  { s with bgd := { s.bgd with codeBlock := if n < imageBlocks s then BitVec.ofNat 8 n else 0, codeRepeat := false } }

/-- A block of the running image is checked (R472): a failure is logged and sets CODE_FAIL, and the check is repeated once. A block that
fails again no longer reads back. -/
def codeBlockCheck (matched : Bool) (s : State) : State :=
  if matched then nextCodeBlock s
  else if s.bgd.codeRepeat then nextCodeBlock { s with fw := { s.fw with corrupt := s.bgd.codeBlock.toNat :: s.fw.corrupt } }
  else logEvent (.codeFail s.bgd.codeBlock) { s with bgd := { s.bgd with codeFail := true, codeRepeat := true } }

/-- CODE_BLOCK_CHECK (R472). -/
def execCodeBlockCheck (matched : Bool) (s : State) : Host.Outcome State Fault Refusal := done (guarded (engineRuns s 0) (codeBlockCheck matched) s)

/-- SCRUB_LATE (R473): set, and logged once for a sweep. A suspended scrubber overruns too (Table 19-4). -/
def execScrubLate (s : State) : Host.Outcome State Fault Refusal :=
  done (guarded (isUp s .bgd && s.bgd.released) (fun s =>
    let known := s.bgd.sweepLate
    let s := { s with bgd := { s.bgd with scrubLate := true, sweepLate := true } }
    if known then s else logEvent .scrubLate s) s)

/-- A zone that falls to one erased block ends the suspension of the wear manager, which is logged (Table 19-4). -/
def endWearSuspension (s : State) : State :=
  if s.bgd.suspended.getLsbD 2 && reserveLow s then
    logEvent .wearSuspendCleared (suspendErases false { s with bgd := { s.bgd with suspended := clearBit s.bgd.suspended 2 } })
  else s

/-- LOG_FLASH_WRITE (R476, R479): a foreground record; a running erase is suspended for it and resumes (Table 19-4). -/
def execLogFlashWrite (zone : Zone) (programmed : Bool) (s : State) : Host.Outcome State Fault Refusal :=
  done (guarded (isUp s .sec) (fun s => 
    let s := takePlace zone s
    endWearSuspension (if programmed then s else retireNewest zone s)) s)

/-- An erase begins, or the block that fails to erase is retired (R476, R479). -/
def beginErase (zone : Zone) (erased : Bool) (s : State) : State :=
  match takeForErase zone s with
  | none => s
  | some r =>
    if erased then
      setZone zone { zoneOf r.2.flash zone with erasing := some r.1, suspended := false } { r.2 with bgd := { r.2.bgd with active := setBit r.2.bgd.active 2 } }
    else retireFree zone r.2

/-- ERASE (R476, R477, R482). -/
def execErase (zone : Zone) (erased : Bool) (s : State) : Host.Outcome State Fault Refusal :=
  let x := zoneOf s.flash zone
  done (guarded (isUp s .sec && isUp s .bgd && s.bgd.released && !s.pwr.brown.active && x.free.length ≤ 1 && x.erasing.isNone)
    (fun s => beginErase zone erased (endWearSuspension s)) s)

/-- ERASE_DONE (R476): the block joins the erased reserve with its erase count one higher. -/
def execEraseDone (zone : Zone) (s : State) : Host.Outcome State Fault Refusal :=
  let x := zoneOf s.flash zone
  match x.erasing with
  | none => done s
  | some c =>
    done (guarded (isUp s .sec && !x.suspended && !s.pwr.brown.active) (fun s =>
      let s := setZone zone { x with erasing := none, free := x.free ++ [c + 1] } s
      { s with bgd := { s.bgd with active := if allZones.any fun z => (zoneOf s.flash z).erasing.isSome then s.bgd.active else clearBit s.bgd.active 2 } }) s)

/-- The first block in use whose erase count exceeds the lowest of the flash by more than 2000 (R478). -/
def wornBlock (s : State) (zone : Zone) : Option Nat := (zoneOf s.flash zone).used.findIdx? fun c => leastOf (allCounts s) + 2000 < c.erases

/-- A worn block's content moves to the least-worn free block, and the old block joins the free ones; a copy that fails its check
retires the free block (R478, R479). -/
def wearCopy (zone : Zone) (good : Bool) (i : Nat) (s : State) : State :=
  let x := zoneOf s.flash zone
  match takeLeast x.free with
  | none => s
  | some r =>
    if good then
      let old := x.used.getD i (nextBlock x r.1)
      setZone zone { x with used := x.used.set i { old with erases := r.1 }, free := r.2, dirty := x.dirty ++ [old.erases] } s
    else retireFree zone (setZone zone { x with free := r.2 } s)

/-- WEAR_COPY (R478). -/
def execWearCopy (zone : Zone) (copyGood : Bool) (s : State) : Host.Outcome State Fault Refusal :=
  match wornBlock s zone with
  | none => done s
  | some i => done (guarded (engineRuns s 2 && isUp s .sec) (wearCopy zone copyGood i) s)

/-- The entries of Table 19-3, in ascending address order. -/
def snapshotEntries : List (BitVec 16) :=
  [od 1 0x31, od 1 0x32, od 4 0, od 5 1, od 5 0x10, od 0x0C 0, od 0x0D 2, od 0x0D 5, od 0x10 0, od 0x10 1, od 0x10 2, od 0x10 4,
   od 0x10 5, od 0x10 6, od 0x10 7, od 0x10 0xC, od 0x22 2, od 0x22 5, od 0x28 0, od 0x28 0x12]

/-- TELEMETRY_SNAPSHOT (R480, R481, R483): a pass that falls due while a record is being written starts after it. -/
def execTelemetrySnapshot (s : State) : Host.Outcome State Fault Refusal :=
  done (guarded (engineRuns s 3 && isUp s .seq && s.bil.closed.isEmpty) (fun s =>
    let p := leBytes 2 s.od.serviceEpoch.toNat ++ snapshotEntries.flatMap (notifyRecord s)
    { s with bgd := { s.bgd with snapshot := some p, snapshotDue := false } }) s)

end Sys2Proof.Machine
end

