-- ==== Sys2Proof/Machine/Display.lean ====
section
/-! DEFINITION. The display family (17): rectangles, commits, blankings, ownership, the charge pump, the reload for a new mode. -/

namespace Sys2Proof.Machine

/-- FILL (R431). -/
def execFill (byHost : Bool) (s : State) : Host.Outcome State Fault Refusal := done (ownerOnly byHost (submit .fill) s)

/-- COPY (R431). -/
def execCopy (byHost : Bool) (s : State) : Host.Outcome State Fault Refusal := done (ownerOnly byHost (submit .copy) s)

/-- ASSET (R431). -/
def execAsset (byHost : Bool) (s : State) : Host.Outcome State Fault Refusal := done (ownerOnly byHost (submit .asset) s)

/-- RECT_WRITE (R431, R435). -/
def execRectWrite (byHost : Bool) (s : State) : Host.Outcome State Fault Refusal := done (ownerOnly byHost (submit .write) s)

/-- RECT_DATA (R435): a push by the owner. -/
def execRectData (pixels : Word) (s : State) : Host.Outcome State Fault Refusal := done (guarded (isUp s .disp) (pushData pixels) s)

/-- The head of the queue may go into flight (R432, R433). -/
def mayFly (s : State) (r : Rect) : Bool := !r.waitShown && s.disp.flight.length < 4 && !s.disp.flight.any (overlap r)

/-- RECTANGLE_IN_FLIGHT (R432). -/
def execRectangleInFlight (s : State) : Host.Outcome State Fault Refusal :=
  match s.disp.queue with
  | [] => done s
  | r :: q => done (guarded (isUp s .disp && mayFly s r) (fun s =>
      feedAll { s with disp := { s.disp with queue := q, flight := s.disp.flight ++ [r] } }) s)

/-- RECTANGLE_FINISH (R434, R436, R444): the rectangle's pixels are drawn. A WRITE rectangle finishes once it has all its words. -/
def execRectangleFinish (seq : Byte) (afterWindow : Bool) (s : State) : Host.Outcome State Fault Refusal :=
  match s.disp.flight.find? (·.seq == seq) with
  | none => done s
  | some r => done (guarded (isUp s .disp && !needsData r) (fun s => finishRect r afterWindow (drawRect r s)) s)

/-- WRITE_RECT_TIMEOUT (R435): the rectangle that the words go to has received none for 10 ms. -/
def execWriteRectTimeout (afterWindow : Bool) (s : State) : Host.Outcome State Fault Refusal :=
  match s.disp.flight.find? needsData with
  | none => done s
  | some r => done (guarded (isUp s .disp) (fun s =>
      let s := finishRect r afterWindow (drawRect r s)
      { s with disp := { s.disp with dataTimeout := true } }) s)

/-- DISPLAY_COMMIT (R436, R438). -/
def execDisplayCommit (byHost buf afterWindow : Bool) (s : State) : Host.Outcome State Fault Refusal :=
  done (ownerOnly byHost (fun s =>
    let s := if byHost || s.disp.pending then s else { s with disp := { s.disp with redrawDue := false } }
    commitBuf buf afterWindow s) s)

/-- The pending commit at a blanking (R436, R437, R444): it takes effect, or it waits for a further one. -/
def commitAtBlanking (s : State) : State :=
  let d := s.disp
  if !d.pending then s
  else if d.commitDone && !d.commitLate then
    { s with
      disp := { d with
        shown := d.buf, pending := false, commitDone := false
        queue := d.queue.map fun r => { r with waitShown := false } }
      hst := if isUp s .host then { s.hst with dispTake := true } else s.hst }
  else if d.commitDone then { s with disp := { d with commitLate := false } }
  else { s with disp := { d with takeSeq := if d.takeSeq = d.frameSeq.setWidth 16 then d.takeSeq + 1 else d.takeSeq } }

/-- BLANKING (R422, R428, R436, R437): a new frame begins. -/
def execBlanking (s : State) : Host.Outcome State Fault Refusal :=
  done (guarded (isUp s .disp) (fun s =>
    let d := s.disp
    let s := { s with disp := { d with
      frameSeq := d.frameSeq + 1, div := d.divNext, lcdDue := false
      duty := if d.lcdDue then setting? s 0x14 1 == 1 else d.duty
      bias := if d.lcdDue then setting? s 0x14 2 == 1 else d.bias } }
    commitAtBlanking s) s)

/-- HOST_OWN (R430): the host requests a change of owner. -/
def execHostOwn (value : Bool) (s : State) : Host.Outcome State Fault Refusal :=
  done (guarded (isUp s .disp) (fun s => { s with disp := { s.disp with hostOwn := value } }) s)

/-- OWNER_CHANGE (R430, R445): the requested owner takes effect once no rectangle and no commit is outstanding. -/
def execOwnerChange (s : State) : Host.Outcome State Fault Refusal :=
  done (guarded (isUp s .disp && s.disp.queue.isEmpty && s.disp.flight.isEmpty && !s.disp.pending)
    (fun s => { s with disp := { s.disp with owner := s.disp.hostOwn } }) s)

/-- PUMP_FAULT (R449): in segment mode only; logged once for each fault. -/
def execPumpFault (s : State) : Host.Outcome State Fault Refusal :=
  done (guarded (isUp s .disp && !s.disp.pixelMode) (fun s =>
    let known := s.disp.pumpLogged
    let s := refreshDrive { s with disp := { s.disp with pumpOk := false, pumpFault := true, pumpLogged := true } }
    if known then s else logEvent .pumpFault s) s)

/-- PUMP_RESTART (R449): the drive returns when VLCD is in regulation again. -/
def execPumpRestart (inRegulation : Bool) (s : State) : Host.Outcome State Fault Refusal :=
  done (guarded (isUp s .disp && !s.disp.pixelMode && !s.disp.pumpOk && inRegulation)
    (fun s => refreshDrive { s with disp := { s.disp with pumpOk := true, pumpLogged := false } }) s)

/-- DISPLAY_MODE_RELOAD (R422): Laurel-B commands the reload of DISP. -/
def execDisplayModeReload (s : State) : Host.Outcome State Fault Refusal :=
  done (guarded (isUp s .seq && isUp s .disp && s.disp.reloadDue) (fun s =>
    leaveService .disp .reloading { s with disp := { s.disp with reloadDue := false } }) s)

end Sys2Proof.Machine
end

