-- ==== Sys2Proof/Machine/EarthFault.lean ====
section
/-! DEFINITION. The earth-fault family (09): excitation, residual results and graded trips, the fast comparators and their
tests, the test-winding check. -/

namespace Sys2Proof.Machine

/-- EXC_LOST (R246): lock lost, diagnostic 1 fails. -/
def excitationLost (s : State) : State :=
  let s := { s with rcd := { s.rcd with excLost := true, excLock := false, goodHalves := 0 } }
  diagFail 1 s

/-- One half period (R228, R246, Table 9-8): MISS at 4, or a peak out of its range, loses the excitation each time; otherwise diagnostic 1
passes, and a whole good period locks. -/
def halfPeriod (saturated : Bool) (peak : Byte) (s : State) : State :=
  let inRange := 20 ≤ peak.toNat && peak.toNat ≤ 60
  let miss := if saturated then 0 else satInc s.rcd.miss
  let good := if saturated && inRange then min 2 (s.rcd.goodHalves + 1) else 0
  let s := { s with rcd := { s.rcd with peakMa := peak, miss := miss, goodHalves := good } }
  if 4 ≤ miss.toNat || !inRange then excitationLost s
  else diagPass 1 { s with rcd := { s.rcd with excLock := s.rcd.excLock || good == 2 } }

/-- EXCITATION_HALF_PERIOD (R228). -/
def execExcitationHalfPeriod (saturated : Bool) (peakMa : Byte) (s : State) : Host.Outcome State Fault Refusal :=
  done (guarded (isUp s .adc) (halfPeriod saturated peakMa) s)

/-- A graded level trips (R233): latched, counted, reported to SAFE with cause 0101h; each excursion that fires is a trip. During a
brown-out sequence without the safe state nothing else changes (R243). -/
def gradedTrip (n : Nat) (s : State) : State :=
  let s := { s with rcd := { s.rcd with trip := setBit s.rcd.trip n, trips := satInc s.rcd.trips } }
  let s := if safeInForce s || s.pwr.brown.active then logEvent (.tripInForce ((setBit 0 (n + 4)))) s else s
  if s.pwr.brown.active && !safeInForce s then s else report 0x101 s

/-- One level sees a result (R231, R281): its window, ABOVE and its trip. While the test-winding check runs none latches (R239). -/
def feedLevel (v : Nat) (n : Nat) (s : State) : State :=
  if !levelArmed s n then s
  else
    let r := evalWindow false v (winAt s (10 + n))
    let s := { setWin (10 + n) r.1 s with rcd := { s.rcd with
      counts := s.rcd.counts.setIfInBounds n r.1.cnt.toNat, above := putBit s.rcd.above n (r.1.cnt != 0)
      dc6Counted := s.rcd.dc6Counted || (n == 0 && s.rcd.windingStep == 2 && r.1.cnt != 0) } }
    if r.2 && !s.rcd.windingRun then gradedTrip n s else s

/-- The samples of list E that one result covers: those of the last metrology period that MET reported, or 20 ms, at 62.5 µs each (R229). -/
def residualCount (s : State) : Nat := if isUp s .met && s.met.freqValid then s.met.period.toNat / 625 else 320

/-- The samples that the next result is computed from, newest first. -/
def residualSamples (s : State) : List Int := (s.rcd.stream.take (residualCount s)).map (·.toInt)

/-- The DC value in units of 10 µA: the mean (R229), as one of the two whole numbers next to it. -/
def residualDc (up : Bool) (l : List Int) : Int :=
  let sum := l.foldl (· + ·) 0
  Int.fdiv sum l.length + (if up && Int.fmod sum l.length != 0 then 1 else 0)

/-- The AC value in units of 10 µA: the RMS of the stream minus its mean, as one of the two whole numbers next to it; above 300 mA it reads
300 mA (R229). -/
def residualAc (up : Bool) (l : List Int) : Nat :=
  let n := l.length
  let sum : Int := l.foldl (· + ·) 0
  let sq : Int := l.foldl (fun a x => a + x * x) 0
  let v := (sq * n - sum * sum).toNat
  let r := isqrt (v / (n * n))
  min 30000 (r + (if up && r * r * (n * n) != v then 1 else 0))

/-- What a value of 1 mA or more does to a baseline under way (R239). -/
def noteBaseline (ac dc : BitVec 16) (s : State) : State :=
  { s with rcd := { s.rcd with baseline := s.rcd.baseline && dc.toInt.natAbs < 100 && ac.toNat < 100 } }

/-- A new AcTripMa takes effect with this result (R244). -/
def takeLevels (s : State) : State :=
  if s.rcd.levelsDue then setLevels [3, 4, 5] { s with rcd := { s.rcd with levelsDue := false } } else s

/-- A result (R229, R231): both values, windows 0 to 7 on them, and the six levels. -/
def residual (ac dc : BitVec 16) (s : State) : State :=
  let mag := dc.toInt.natAbs
  let s := noteBaseline ac dc (takeLevels { s with rcd := { s.rcd with ac := ac, dc := dc } })
  let s := feedSource false 0x10 ac.toNat s
  let s := feedSource true 0x11 dc.toInt s
  let s := [0, 1, 2].foldl (fun s n => feedLevel mag n s) s
  [3, 4, 5].foldl (fun s n => feedLevel ac.toNat n s) s

/-- RESIDUAL_RESULT (R229): computed from the stream; the operands say which way the part rounds. The values hold while EXC_LOCK is 0 (R246), ADC's lists do not run (R247, R279), or no
sample has come yet. -/
def execResidualResult (acUp dcUp : Bool) (s : State) : Host.Outcome State Fault Refusal :=
  let l := residualSamples s
  done (guarded (adcRuns s && s.rcd.excLock && !l.isEmpty)
    (residual (BitVec.ofNat 16 (residualAc acUp l)) (ofInt 16 (residualDc dcUp l))) s)

/-- Number of a comparator. -/
def fcNum : Comparator → Nat
  | .fc0 => 0 | .fc1 => 1 | .fc2 => 2 | .fc3 => 3

/-- Bit of a conductor in DESAT (Table 8-6). -/
def conductorNum : Conductor → Nat
  | .l1 => 0 | .l2 => 1 | .l3 => 2 | .n => 3

/-- FAST_COMPARATOR_TRIP (R235). On a conductor that SW5 does not declare, desaturation is ignored (R200). -/
def execFastComparatorTrip (fc : Comparator) (tripped : Conductor) (s : State) : Host.Outcome State Fault Refusal :=
  let n := fcNum fc
  let c := conductorNum tripped
  done (guarded (n != 3 || (conductors s).contains c) (fun s =>
    let s := { s with glt := { s.glt with
      active := setBit s.glt.active n, desatNow := if n = 3 then setBit s.glt.desatNow c else s.glt.desatNow } }
    if diverted s n then s else comparatorTrip true n s) s)

/-- COMPARATOR_TEST (R238): one comparator at a time, diverted for its blind window; a failure is diagnostic 5. It passes with its four
tests. -/
def execComparatorTest (fc : Comparator) (pass : Bool) (s : State) : Host.Outcome State Fault Refusal :=
  done (guarded (isUp s .adc && s.glt.testing == 0) (fun s =>
    let n := fcNum fc
    let s := { s with glt := { s.glt with testing := setBit 0 n, testFail := putBit s.glt.testFail n (!pass) } }
    if !pass then diagFail 5 s else if s.glt.testFail = 0 then diagPass 5 s else s) s)

/-- BLIND_WINDOW_END (R238, R245): reconnected, unless step 4 of the check still diverts FC0; an input still present sets the latch at that
moment. The operand is none where no input is present, and says for FC3 which conductor's is; one that SW5 does not declare is ignored (R200). -/
def execBlindWindowEnd (fc : Comparator) (active : Option Conductor) (s : State) : Host.Outcome State Fault Refusal :=
  let n := fcNum fc
  let c := (active.map conductorNum).getD 0
  let present := active.isSome && (n != 3 || (conductors s).contains c)
  done (guarded (s.glt.testing.getLsbD n) (fun s =>
    reconnect n { s with glt := { s.glt with
      testing := clearBit s.glt.testing n, active := putBit s.glt.active n present
      desatNow := if n = 3 then (if present then setBit s.glt.desatNow c else 0) else s.glt.desatNow } }) s)

/-- The check may run (R240). -/
def windingMay (s : State) : Bool :=
  isUp s .adc && s.swg.gateCmd == 0 && s.swg.gateFb == 0 && s.ses.phase != .make && s.ses.phase != .charging && !s.safe.startHold
    && !s.rcd.windingRun

/-- A baseline attempt begins (R239). -/
def windingBegins (s : State) : State :=
  { s with rcd := { s.rcd with
      windingStep := 1, windingRun := true, dc6Counted := false, fc0Ok := false
      baseline := s.rcd.dc.toInt.natAbs < 100 && s.rcd.ac.toNat < 100 } }

/-- TEST_WINDING_CHECK (R239). -/
def execTestWindingCheck (s : State) : Host.Outcome State Fault Refusal :=
  done (guarded (windingMay s && (s.ses.windingDue || !sessionOn s || testDue s == 3)) windingBegins s)

/-- The check ends: every graded count restarts at 0 (R239). -/
def windingEnd (s : State) : State :=
  setLevels [0, 1, 2, 3, 4, 5] { s with rcd := { s.rcd with windingStep := 0, windingRun := false } }

/-- Step n of the check fails (R240): WINDING_FAIL and diagnostic 9; Make stays withheld. A requested test fails (R492, R493). -/
def windingFailed (n : Nat) (s : State) : State :=
  let s := testEnds 3 1 (2 ^ (n - 1)) (windingEnd s)
  diagFail 9 { s with rcd := { s.rcd with windingFail := true }, ses := { s.ses with windingDue := true } }

/-- The check passes: Make is no longer withheld (R240). -/
def windingPassed (s : State) : State :=
  let s := testEnds 3 0 0 (windingEnd s)
  diagPass 9 { s with rcd := { s.rcd with windingFail := false }, ses := { s.ses with windingDue := false } }

/-- A timed step ends (R239): the baseline on every value of its 20 ms, steps 2 and 3 on the last result. A baseline that fails ends the
attempt, which is retried. Step 4 ends 100 µs after its pulse, when FC0 is reconnected; the wait of 20 ms, step 5 here, ends the check. -/
def windingStepEnd (fc0 : Bool) (s : State) : State :=
  let dc := s.rcd.dc.toInt
  let ac := s.rcd.ac.toNat
  let go (n : Nat) (s : State) : State := { s with rcd := { s.rcd with windingStep := n } }
  match s.rcd.windingStep with
  | 1 => if s.rcd.baseline then go 2 s else windingEnd s
  | 2 => if 800 ≤ dc && dc ≤ 1200 && (!s.rcd.dcArmed || s.rcd.dc6Counted) then go 3 s else windingFailed 2 s
  | 3 => if 800 ≤ ac && ac ≤ 1200 then go 4 s else windingFailed 3 s
  | 4 => reconnect 0 (go 5 { s with rcd := { s.rcd with fc0Ok := fc0 } })
  | 5 => if s.rcd.fc0Ok then windingPassed s else windingFailed 4 s
  | _ => s

/-- TEST_WINDING_STEP_END (R239). -/
def execTestWindingStepEnd (fc0Responded : Bool) (s : State) : Host.Outcome State Fault Refusal :=
  done (guarded (isUp s .adc && s.rcd.windingRun) (windingStepEnd fc0Responded) s)

/-- FC1 and FC2 threshold: 2.5 × √2 × seal-code current, truncated (Table 9-3): √(12.5 × I²). -/
def fc12For (amps : Nat) : Nat := isqrt (25 * amps * amps / 2)

/-- THRESHOLD_LOAD (R234, R244, R248). -/
def execThresholdLoad (s : State) : Host.Outcome State Fault Refusal :=
  done (guarded (isUp s .safe && isUp s .adc) (fun s => { s with glt := { s.glt with
    fc0Ma := BitVec.ofNat 9 (setting? s 12 4), fc12A := BitVec.ofNat 9 (fc12For (sealAmps s)) } }) s)

end Sys2Proof.Machine
end

