-- ==== Sys2Proof/Machine/Timers.lean ====
section
/-! DEFINITION. The timers family (18): ticks, wraps, preloads, the match rule, capture, and the host's writes of channel registers. -/

namespace Sys2Proof.Machine

/-- s with channel n replaced. -/
def setChan (n : Nat) (c : Channel) (s : State) : State := { s with tmr := { s.tmr with ch := s.tmr.ch.setIfInBounds n c } }

/-- A user list or the capture of ADC names channel n (R273, R462). -/
def adcNames (n : Nat) (s : State) : Bool :=
  [s.adc.u0, s.adc.u1].any (fun u => u.en && u.trig = 1 && u.tmrCh.toNat = n) || (s.adc.capTrigTmr && s.adc.capTrigCh.toNat = n)

/-- A match of channel n goes to ADC as a posted write (R276, R462): it is dropped while ADC is out of service (R58), and starts the
capture that waits for it. A user list's trigger is the command USER_LIST_TRIGGER. -/
def matchToCapture (n : Nat) (s : State) : State :=
  if !isUp s .adc then if adcNames n s then dropPosted .adc .tmr s else s
  else if adcRuns s && s.adc.capStart && s.adc.capTrigTmr && s.adc.capTrigCh.toNat = n && !s.adc.capBusy then captureBegins s else s

/-- The match rule (R460); late says that an immediate CMP write caused the evaluation. -/
def matchRule (late : Bool) (n : Nat) (s : State) : State :=
  let c := chan s n
  if !c.matched && c.cmp.toNat ≤ c.count.toNat then
    let s := setChan n { c with matched := true, cmpLate := c.cmpLate || late } s
    matchToCapture n { s with tmr := { s.tmr with irqMatch := setBit s.tmr.irqMatch n } }
  else s

/-- A new period (R456 items 1 to 3): COUNT 0, MATCHED clear, preloads in force. -/
def newPeriod (c : Channel) : Channel :=
  { c with count := 0, matched := false, top := c.topNext.getD c.top, cmp := c.cmpNext.getD c.cmp, topNext := none, cmpNext := none }

/-- A wrap (R456): the new period, WRAP, the end of a shot, and the match rule at 0. -/
def wrapChannel (n : Nat) (s : State) : State :=
  let c := newPeriod (chan s n)
  let s := setChan n { c with run := c.run && !c.oneshot } s
  matchRule false n { s with tmr := { s.tmr with irqWrap := setBit s.tmr.irqWrap n } }

/-- A count-clock event of channel n that its gate judges (R455, R456, R459), and the ticks that a wrap gives the next channel
(CLK 101b), with fuel. -/
def tickChannel : Nat → Nat → State → State
  | 0, _, s => s
  | f + 1, n, s =>
    let c := chan s n
    if !c.run || gated s n then s
    else if c.top.toNat ≤ c.count.toNat then
      let s := wrapChannel n s
      if n + 1 < 8 && (chan s (n + 1)).clk = 5 then tickChannel f (n + 1) s else s
    else matchRule false n (setChan n { c with count := c.count + 1 } s)

/-- TICK (R456): a count-clock event. With CLK 101b the wraps of channel n − 1 are the count clock, and no other event is. -/
def execTick (n : Fin 8) (s : State) : Host.Outcome State Fault Refusal :=
  done (guarded (isUp s .tmr && (chan s n).clk != 5) (fun s => tickChannel 8 n { s with free := s.free + 1 }) s)

/-- A host write to a register of channel n: ignored for channels 6 and 7, with NOT_OWNER (R452). -/
def hostChannel (n : Nat) (f : State → State) (s : State) : State :=
  if !isUp s .tmr then s
  else if n < 6 then f s
  else { s with tmr := { s.tmr with notOwner := true } }

/-- A write is immediate while the channel stands still, or runs one-shot with IMM (R457). -/
def immediate (c : Channel) : Bool := !c.run || (c.oneshot && c.imm)

/-- A write of TOP (R457, R459). -/
def topWrite (n : Nat) (v : Word) (s : State) : State :=
  let c := chan s n
  setChan n (if immediate c then { c with top := v } else { c with topNext := some v }) s

/-- A write of CMP (R457, R460). -/
def cmpWrite (n : Nat) (v : Word) (s : State) : State :=
  let c := chan s n
  if immediate c then matchRule true n (setChan n { c with cmp := v } s) else setChan n { c with cmpNext := some v } s

/-- CLR (R458): a wrap without clearing RUN and without WRAP. -/
def clrChannel (n : Nat) (s : State) : State := matchRule false n (setChan n (newPeriod (chan s n)) s)

/-- RUN takes a value (R458). -/
def runChannel (b : Bool) (n : Nat) (s : State) : State := setChan n { chan s n with run := b } s

/-- A write of CTRL (Table 18-5): CLR first, then the start or stop (R464). -/
def ctrlWrite (n : Nat) (v : Word) (s : State) : State :=
  let s := if v.getLsbD 3 then clrChannel n s else s
  runChannel (v.getLsbD 0) n (setChan n { chan s n with oneshot := v.getLsbD 1, imm := v.getLsbD 2 } s)

/-- A source code of Table 18-2 that channel n may select. -/
def sourceOk (n v : Nat) : Bool := v ≤ 7 || (v = 8 && n != 0)

/-- A clock code of Table 18-1 that channel n may select. -/
def clkOk (n v : Nat) : Bool := v ≤ 4 || (v = 5 && n != 0)

/-- A write of CFG, field by field (R20, R466). -/
def cfgWrite (n : Nat) (v : Word) (s : State) : State :=
  let w := v.toNat
  let c := chan s n
  let src := bits w 8 4
  let gate := bits w 12 4
  let cap := bits w 18 4
  let bad := !clkOk n (bits w 0 3) || !sourceOk n src || !sourceOk n gate || !sourceOk n cap
  let s := setChan n { c with
    clk := if clkOk n (bits w 0 3) then BitVec.ofNat 3 (bits w 0 3) else c.clk
    pre := BitVec.ofNat 4 (bits w 4 4)
    src := if sourceOk n src then BitVec.ofNat 4 src else c.src
    gateSrc := if sourceOk n gate then BitVec.ofNat 4 gate else c.gateSrc
    gateEn := hasBit w 16, gateLvl := hasBit w 17
    capSrc := if sourceOk n cap then BitVec.ofNat 4 cap else c.capSrc
    capEdge := BitVec.ofNat 2 (bits w 22 2), filt := BitVec.ofNat 3 (bits w 24 3) } s
  { s with tmr := { s.tmr with cfgErr := s.tmr.cfgErr || bad } }

/-- A recognised capture edge (R461): CAPT takes COUNT; an unread value makes an overrun. -/
def captureEdge (n : Nat) (s : State) : State :=
  let c := chan s n
  if c.capEdge = 0 then s
  else
    let s := setChan n { c with capt := c.count, overrun := c.overrun || c.full, full := true } s
    { s with tmr := { s.tmr with irqCapt := setBit s.tmr.irqCapt n } }

/-- A read of CAPT clears FULL (R461). -/
def captClear (n : Nat) (s : State) : State := setChan n { chan s n with full := false } s

/-- A write of STAT: W1C of OVERRUN and CMP_LATE (Table 18-5). -/
def chStatWrite (n : Nat) (v : Word) (s : State) : State :=
  let c := chan s n
  setChan n { c with overrun := c.overrun && !v.getLsbD 2, cmpLate := c.cmpLate && !v.getLsbD 3 } s

/-- TOP_WRITE (R457). -/
def execTopWrite (n : Fin 8) (value : Word) (s : State) : Host.Outcome State Fault Refusal := done (hostChannel n (topWrite n value) s)

/-- CMP_WRITE (R457). -/
def execCmpWrite (n : Fin 8) (value : Word) (s : State) : Host.Outcome State Fault Refusal := done (hostChannel n (cmpWrite n value) s)

/-- CLR (R458). -/
def execClr (n : Fin 8) (s : State) : Host.Outcome State Fault Refusal := done (hostChannel n (clrChannel n) s)

/-- RUN_START (R458). -/
def execRunStart (n : Fin 8) (s : State) : Host.Outcome State Fault Refusal := done (hostChannel n (runChannel true n) s)

/-- RUN_STOP (R458). -/
def execRunStop (n : Fin 8) (s : State) : Host.Outcome State Fault Refusal := done (hostChannel n (runChannel false n) s)

/-- CAPTURE (R461). -/
def execCapture (n : Fin 8) (s : State) : Host.Outcome State Fault Refusal := done (guarded (isUp s .tmr) (captureEdge n) s)

/-- CAPT_READ (R461): reads by any source clear FULL. -/
def execCaptRead (n : Fin 8) (s : State) : Host.Outcome State Fault Refusal := done (guarded (isUp s .tmr) (captClear n) s)

/-- CFG_WRITE (R465, R466). -/
def execCfgWrite (n : Fin 8) (value : Word) (s : State) : Host.Outcome State Fault Refusal := done (hostChannel n (cfgWrite n value) s)

end Sys2Proof.Machine
end

