-- ==== Sys2Proof/Machine/Registers.lean ====
section
/-! DEFINITION. The register map (22): what a read of each documented register gives, and what a write of it does. -/

namespace Sys2Proof.Machine

/-- AON registers, by offset (R536, Tables 3-6 to 3-8, 13-5, 13-6). -/
def aonReg (o : Nat) (s : State) : Word :=
  match o with
  | 0x00 => rstCauseWord s | 0x04 => supplyWord s | 0x08 => bootWord s | 0x0C => tariffWord s | 0x10 => clkStatWord s
  | 0x14 => rtcLoWord s | 0x18 => rtcHiWord s | _ => 0

/-- SAFE and TST registers (Tables 10-7, 10-10, 10-11, 20-3). -/
def safeReg (o : Nat) (s : State) : Word :=
  match o with
  | 0x000 => safeStatWord s | 0x004 => sealWordOf s | 0x008 => diagWord s
  | 0x100 => tstStatWord s | 0x104 => tstIslandWord s | 0x108 => s.tst.misr | 0x10C => s.tst.endSec | _ => 0

/-- MET registers (Tables 12-4, 12-5): 64-bit values lowest word first. -/
def metReg (o : Nat) (s : State) : Word :=
  let m := s.met
  if o = 0 then metStatWord s
  else if o = 4 then m.period.setWidth 32
  else if o = 8 then m.session
  else if 0x10 ≤ o ∧ o < 0x70 then BitVec.ofNat 32 (bits (m.eimp.toList.getD ((o - 0x10) / 8) 0).toNat (8 * ((o - 0x10) % 8)) 32)
  else if 0x70 ≤ o ∧ o < 0x88 then BitVec.ofNat 32 (bits (m.evar.toList.getD ((o - 0x70) / 8) 0).toNat (8 * ((o - 0x70) % 8)) 32)
  else if 0x88 ≤ o ∧ o < 0x94 then m.erev.toList.getD ((o - 0x88) / 4) 0
  else 0

/-- Registers of the user lists (Tables 11-7 to 11-10), offsets 010h to 0BCh. -/
def ulistReg (o : Nat) (s : State) : Word :=
  if o = 0x10 then ulistCtrlWord s.adc.u0 else if o = 0x14 then ulistStatWord s.adc.u0
  else if o = 0x18 then ulistCtrlWord s.adc.u1 else if o = 0x1C then ulistStatWord s.adc.u1
  else if 0x40 ≤ o ∧ o < 0x60 then ulistEntWord s.adc.u0 ((o - 0x40) / 4)
  else if 0x60 ≤ o ∧ o < 0x80 then ulistEntWord s.adc.u1 ((o - 0x60) / 4)
  else if 0x80 ≤ o ∧ o < 0xA0 then uresWord s.adc.u0 ((o - 0x80) / 4)
  else if 0xA0 ≤ o ∧ o < 0xC0 then uresWord s.adc.u1 ((o - 0xA0) / 4)
  else 0

/-- Registers of the windows (Tables 11-12, 11-13), offsets 100h to 1FCh. -/
def winReg (o : Nat) (s : State) : Word :=
  let w := winAt s ((o - 0x100) / 0x10)
  match o % 0x10 with
  | 0 => winCfgWord w | 4 => winBandWord w | 8 => winStatWord w | _ => 0

/-- ADC, RCD and GLT registers (Tables 9-6 to 9-10, 11-5 to 11-13). -/
def adcReg (o : Nat) (s : State) : Word :=
  if 0x800 ≤ o then capBufWord s ((o - 0x800) / 4)
  else if 0x100 ≤ o ∧ o < 0x200 then winReg o s
  else match o with
  | 0x000 => convStatWord s | 0x004 => adcErrWord s | 0x0C0 => capCtrlWord s | 0x0C4 => capStatWord s
  | 0x200 => s.adc.fired.setWidth 32 | 0x204 => s.adc.irqEn.setWidth 32
  | 0x400 => rcdStatWord s | 0x404 => rcdMeasWord s | 0x408 => rcdFlxWord s | 0x500 => gltStatWord s | 0x504 => gltThrWord s
  | _ => ulistReg o s

/-- PLC and NET registers (Tables 15-8 to 15-10, 16-6, 16-7). -/
def plcReg (o : Nat) (s : State) : Word :=
  match o with
  | 0x000 => plcStatWord s | 0x004 => plcLdWord s | 0x008 => s.plc.att.setWidth 32 | 0x00C => plcQueueWord s
  | 0x100 => netStatWord s | 0x104 => netFpWord s | _ => 0

/-- SEC registers (Tables 4-4, 14-5). -/
def secReg (o : Nat) (s : State) : Word :=
  match o with
  | 0 => cfgStatWord s | 4 => keyStatWord s | _ => 0

/-- DISP registers (Tables 17-5, 17-6). RECT_GO and RECT_DATA read 0. -/
def dispReg (o : Nat) (s : State) : Word :=
  match o with
  | 0x00 => dispCtrlWord s | 0x04 => s.disp.divNext.setWidth 32 | 0x08 => dispLcdWord s | 0x0C => dispOledWord s
  | 0x10 => frameBaseWord s | 0x14 => s.disp.frameSeq | 0x20 => rectDstWord s | 0x24 => rectSizeWord s
  | 0x28 => s.disp.srcArg.setWidth 32 | 0x30 => rectStatWord s | 0x38 => dispErrWord s | _ => 0

/-- HST registers and mailbox buffers (Table 22-5). -/
def hstReg (o : Nat) (s : State) : Word :=
  let h := s.hst
  if 0x800 ≤ o ∧ o < 0x8F0 then h.reqBuf.toList.getD ((o - 0x800) / 4) 0
  else if 0x900 ≤ o ∧ o < 0x9F0 then pduWord (h.responses.headD []) ((o - 0x900) / 4)
  else if 0xA00 ≤ o ∧ o < 0xAF0 then pduWord (h.notifies.headD []) ((o - 0xA00) / 4)
  else match o with
  | 0x00 => 0x00010420 | 0x04 => hstStatWord s | 0x08 => hstWstatWord s | 0x0C => hstIrqWord s | 0x10 => h.irqEn.setWidth 32
  | 0x14 => h.len.setWidth 32 | 0x18 => mbxStatWord s | _ => 0

/-- THK registers (Tables 2-7 to 2-13). -/
def thkReg (o : Nat) (s : State) : Word :=
  match o with
  | 0x444 => islCmdWord s | 0x448 => tagsWord s | 0x44C => s.fab.reopen.setWidth 32 | 0x450 => hostSeenWord s
  | _ => match islandOf ((o - 0x400) / 4) with
    | some i => portStatWord (port s i)
    | none => 0

/-- BGD registers (Tables 19-6, 19-7). -/
def bgdReg (o : Nat) (s : State) : Word :=
  match o with
  | 0 => bgdStatWord s | 4 => bgdScrubWord s | 8 => bgdFlashWord s | _ => 0

/-- Channel registers of TMR (Table 18-5), offsets 000h to 0FCh. -/
def chanReg (o : Nat) (s : State) : Word :=
  let n := o / 0x20
  let c := chan s n
  match o % 0x20 with
  | 0x00 => chCtrlWord c | 0x04 => chCfgWord c | 0x08 => c.count | 0x0C => c.top | 0x10 => c.cmp | 0x14 => c.capt
  | 0x18 => chStatWord s n | _ => 0

/-- TMR, PLT, SWG and LCK registers (Tables 7-7 to 7-10, 8-6 to 8-9, 18-4 to 18-6). -/
def tmrReg (o : Nat) (s : State) : Word :=
  if o < 0x100 then chanReg o s
  else match o with
  | 0x100 => tmrIrqWord s | 0x104 => s.tmr.irqEn.setWidth 32 | 0x108 => tmrErrWord s
  | 0x200 => pltCtrlWord s | 0x204 => pltDutyWord s | 0x208 => pltMeasWord s | 0x20C => pltStatWord s
  | 0x300 => swgStatWord s | 0x304 => swgCoilWord s | 0x380 => lckStatWord s | 0x384 => lckMoveWord s | _ => 0

/-- What a register holds, by its host address; 0 where the window holds no register (R21, R540, Table 22-6). -/
def regLive (a : Nat) (s : State) : Word :=
  let o := a % 0x1000
  match islandOf (a / 0x1000) with
  | some .aon => aonReg o s | some .safe => safeReg o s | some .met => metReg o s | some .adc => adcReg o s
  | some .plc => plcReg o s | some .sec => secReg o s | some .disp => dispReg o s
  | some .aud => if o = 0 then audStatWord s else 0
  | some .host => if 0x400 ≤ o ∧ o < 0x500 then thkReg o s else hstReg o s
  | some .bgd => bgdReg o s | some .tmr => tmrReg o s | some .seq => 0 | none => 0

/-- The lowest address of the 64-bit value that an address belongs to: AON_RTC, MET_EIMP, MET_EVAR (R66). -/
def multiBase (a : Nat) : Option Nat :=
  if a = 0x14 ∨ a = 0x18 then some 0x14
  else if 0x3010 ≤ a ∧ a < 0x3088 then some (a - (a - 0x3010) % 8)
  else none

/-- The registers that show a level from outside, which no command carries: PLC_LD and the STAT of a timer channel. -/
def showsFree (a : Nat) : Bool := a = 0x5004 || (0xB000 ≤ a && a < 0xB100 && a % 0x20 = 0x18)

/-- A read of a register by a source: the word, and what the read does (R66, R461). The next read of a free level is a fresh one. -/
def regRead (src : Island) (a : Nat) (s : State) : Word × State :=
  match multiBase a with
  | some b =>
    let mine (x : Snapshot) : Bool := x.src == src && x.addr.toNat == b
    let others := s.fab.snapshots.filter fun x => !mine x
    if a = b then
      (regLive a s, { s with fab := { s.fab with snapshots := others ++ [⟨src, BitVec.ofNat 16 b, [regLive (b + 4) s]⟩] } })
    else
      match s.fab.snapshots.find? mine with
      | some x => (x.words.headD 0, { s with fab := { s.fab with snapshots := others } })
      | none => (regLive a s, s)
  | none =>
    let v := regLive a s
    if 0xB000 ≤ a ∧ a < 0xB100 ∧ a % 0x20 = 0x14 then (v, captClear ((a - 0xB000) / 0x20) s)
    else if showsFree a then (v, { s with free := s.free + 1 })
    else (v, s)

/-- A write of AON_RST_CAUSE: W1C of its source bits (Table 3-6). -/
def rstCauseWrite (v : Nat) (s : State) : State :=
  let c := s.rst
  { s with rst := { c with
    porSupply := c.porSupply && !hasBit v 0, porVbat := c.porVbat && !hasBit v 1, pin := c.pin && !hasBit v 2
    odRestart := c.odRestart && !hasBit v 3, safeReq := c.safeReq && !hasBit v 4, pfailRec := c.pfailRec && !hasBit v 5
    loader := c.loader && !hasBit v 6 } }

/-- A write of ADC_ULISTk_CTRL, field by field, then GO (R20, Table 11-7). -/
def ulistCtrlWrite (k : Bool) (v : Nat) (s : State) : State :=
  let u := userList s k
  let trig := bits v 2 2
  let period := bits v 16 16
  let s := setUserList k { u with
    en := hasBit v 0, pair := hasBit v 1, trig := if trig = 3 then u.trig else BitVec.ofNat 2 trig
    tmrCh := BitVec.ofNat 3 (bits v 4 3), last := BitVec.ofNat 3 (bits v 8 3)
    period := if period = 0 then u.period else BitVec.ofNat 16 period } s
  let s := { s with adc := { s.adc with cfgErr := s.adc.cfgErr || trig == 3 || period == 0 } }
  if hasBit v 11 && s.adc.listsRun then triggerList k s else s

/-- A write of ADC_ULISTk_ENTe (R20, Table 11-9). -/
def ulistEntWrite (k : Bool) (e : Nat) (v : Nat) (s : State) : State :=
  let u := userList s k
  let input := bits v 0 5
  let ok := input = 13 || (18 ≤ input && input ≤ 23)
  let s := setUserList k { u with
    inputs := if ok then u.inputs.setIfInBounds e (BitVec.ofNat 5 input) else u.inputs
    avgs := u.avgs.setIfInBounds e (BitVec.ofNat 3 (bits v 5 3)) } s
  { s with adc := { s.adc with cfgErr := s.adc.cfgErr || !ok } }

/-- A write to the ADC block. RCD and GLT ignore host writes. -/
def adcWrite (o : Nat) (v : Word) (s : State) : State :=
  let n := v.toNat
  if 0x100 ≤ o ∧ o < 0x200 then
    (if o % 0x10 = 0 then windowWrite ((o - 0x100) / 0x10) false v s
     else if o % 0x10 = 4 then windowWrite ((o - 0x100) / 0x10) true v s else s)
  else if 0x40 ≤ o ∧ o < 0x60 then ulistEntWrite false ((o - 0x40) / 4) n s
  else if 0x60 ≤ o ∧ o < 0x80 then ulistEntWrite true ((o - 0x60) / 4) n s
  else match o with
  | 0x004 => { s with adc := { s.adc with cfgErr := s.adc.cfgErr && !hasBit n 0, capRefused := s.adc.capRefused && !hasBit n 1 } }
  | 0x010 => ulistCtrlWrite false n s
  | 0x018 => ulistCtrlWrite true n s
  | 0x0C0 => capCtrlWrite n s
  | 0x0C4 => { s with adc := { s.adc with capDone := s.adc.capDone && !hasBit n 1 } }
  | 0x200 => { s with adc := { s.adc with fired := s.adc.fired &&& ~~~(v.setWidth 8) } }
  | 0x204 => { s with adc := { s.adc with irqEn := v.setWidth 8 } }
  | _ => s

/-- A write to the PLC and NET blocks: ATT and the W1C bit CONFLICT. -/
def plcWrite (o : Nat) (v : Word) (s : State) : State :=
  match o with
  | 0x008 => { s with plc := { s.plc with att := v.setWidth 4 } }
  | 0x100 => { s with net := { s.net with conflict := s.net.conflict && !v.getLsbD 6 } }
  | _ => s

/-- A write of DISP_TIMING (R20, R428). -/
def timingWrite (v : Nat) (s : State) : State :=
  let d := bits v 0 6
  if 24 ≤ d then { s with disp := { s.disp with divNext := BitVec.ofNat 6 d } } else { s with disp := { s.disp with cfgErr := true } }

/-- A write of DISP_RECT_SIZE (R20, Table 17-6). -/
def rectSizeWrite (v : Nat) (s : State) : State :=
  let w := bits v 0 8
  let h := bits v 8 8
  let wOk := 1 ≤ w && w ≤ 128
  let hOk := 1 ≤ h && h ≤ 48
  { s with disp := { s.disp with
    sizeW := if wOk then BitVec.ofNat 8 w else s.disp.sizeW, sizeH := if hOk then BitVec.ofNat 8 h else s.disp.sizeH
    cfgErr := s.disp.cfgErr || !wOk || !hOk } }

/-- A write of DISP_RECT_DST (Table 17-6). -/
def rectDstWrite (v : Nat) (s : State) : State :=
  { s with disp := { s.disp with dstX := BitVec.ofNat 7 (bits v 0 7), dstY := BitVec.ofNat 6 (bits v 8 6), dstBuf := hasBit v 16 } }

/-- The operation of RECT_GO.OP (Table 17-6). -/
def rectOpOf (n : Nat) : RectOp := if n = 0 then .fill else if n = 1 then .copy else if n = 2 then .asset else .write

/-- A write of DISP_ERR: W1C (Table 17-6). -/
def dispErrWrite (v : Nat) (s : State) : State :=
  let d := s.disp
  { s with disp := { d with
    cfgErr := d.cfgErr && !hasBit v 0, notOwner := d.notOwner && !hasBit v 1, bounds := d.bounds && !hasBit v 2
    shownDst := d.shownDst && !hasBit v 3, pendingDst := d.pendingDst && !hasBit v 4, queueFull := d.queueFull && !hasBit v 5
    commitBusy := d.commitBusy && !hasBit v 6, dataOvf := d.dataOvf && !hasBit v 7, dataTimeout := d.dataTimeout && !hasBit v 8
    pumpFault := d.pumpFault && !hasBit v 9 } }

/-- A commit written through the fabric: whether the commit window has closed by then no command says, so it is a free value. -/
def commitWritten (buf : Bool) (s : State) : State :=
  let (k, s) := nextFree s
  commitBuf buf (Config.freeBit k) s

/-- A write to the DISP block by a source (R429). -/
def dispWrite (src : Island) (o : Nat) (v : Word) (s : State) : State :=
  let n := v.toNat
  let host := src == .host
  match o with
  | 0x00 => { s with disp := { s.disp with hostOwn := hasBit n 3 } }
  | 0x04 => timingWrite n s
  | 0x08 => { s with disp := { s.disp with contrast := BitVec.ofNat 5 (bits n 0 5) } }
  | 0x0C => { s with disp := { s.disp with preV := BitVec.ofNat 4 (bits n 8 4) } }
  | 0x10 => ownerOnly host (commitWritten (hasBit n 0)) s
  | 0x20 => ownerOnly host (rectDstWrite n) s
  | 0x24 => ownerOnly host (rectSizeWrite n) s
  | 0x28 => ownerOnly host (fun s => { s with disp := { s.disp with srcArg := BitVec.ofNat 16 n } }) s
  | 0x2C => ownerOnly host (submit (rectOpOf (n % 4))) s
  | 0x34 => ownerOnly host (pushData v) s
  | 0x38 => dispErrWrite n s
  | _ => s

/-- A write of HST_IRQ: W1C of its latched bits (Table 22-5). -/
def hstIrqWrite (v : Nat) (s : State) : State :=
  let h := s.hst
  { s with hst := { h with
    dispTake := h.dispTake && !hasBit v 4, safeChg := h.safeChg && !hasBit v 5, supply := h.supply && !hasBit v 8
    reset := h.reset && !hasBit v 9 } }

/-- A write to the HST block (Table 22-5). -/
def hstWrite (o : Nat) (v : Word) (s : State) : State :=
  let n := v.toNat
  if 0x800 ≤ o ∧ o < 0x8F0 then { s with hst := { s.hst with reqBuf := s.hst.reqBuf.setIfInBounds ((o - 0x800) / 4) v } }
  else match o with
  | 0x08 => { s with hst := { s.hst with fail := s.hst.fail && !hasBit n 12 } }
  | 0x0C => hstIrqWrite n s
  | 0x10 => { s with hst := { s.hst with irqEn := v.setWidth 10 } }
  | 0x14 => mbxCtrlWrite n s
  | 0x18 => { s with hst := { s.hst with mbxErr := s.hst.mbxErr && !hasBit n 3 } }
  | _ => s

/-- LOSS_COUNT and LOSS_SAT of the selected ports clear (Table 2-9). -/
def lossClear (mask : BitVec 12) (s : State) : State :=
  allIslands.foldl (fun s i =>
    if mask.getLsbD (islandNum i) then setPort s i { port s i with lossCount := 0, lossSat := false } else s) s

/-- A write to the THK block (Tables 2-9 to 2-13). -/
def thkWrite (o : Nat) (v : Word) (s : State) : State :=
  let n := v.toNat
  match o with
  | 0x440 => lossClear (v.setWidth 12) s
  | 0x444 => islandCommand v s
  | 0x448 => if hasBit n 31 then { s with fab := { s.fab with peak := 0 } } else s
  | 0x44C => { s with fab := { s.fab with reopen := s.fab.reopen ||| v.setWidth 12 } }
  | 0x450 => { s with fab := { s.fab with
      staleSeen := s.fab.staleSeen &&& ~~~(v.setWidth 12), absentSeen := s.fab.absentSeen &&& ~~~(BitVec.ofNat 12 (bits n 16 12)) } }
  | _ => s

/-- A channel register may be written by a source (R452): the host 0 to 5, the sequencers 6 and 7. -/
def channelFor (src : Island) (n : Nat) (f : State → State) (s : State) : State :=
  if src == .host then hostChannel n f s
  else if src == .seq then (if 6 ≤ n then f s else s)
  else s

/-- A write to the TMR block (Tables 18-5, 18-6). PLT, SWG and LCK ignore host writes. -/
def tmrWrite (src : Island) (o : Nat) (v : Word) (s : State) : State :=
  let k := o / 0x20
  if o < 0x100 then
    match o % 0x20 with
    | 0x00 => channelFor src k (ctrlWrite k v) s
    | 0x04 => channelFor src k (cfgWrite k v) s
    | 0x0C => channelFor src k (topWrite k v) s
    | 0x10 => channelFor src k (cmpWrite k v) s
    | 0x18 => channelFor src k (chStatWrite k v) s
    | 0x08 | 0x14 => channelFor src k (fun s => s) s
    | _ => s
  else match o with
  | 0x100 => { s with tmr := { s.tmr with
      irqMatch := s.tmr.irqMatch &&& ~~~(v.setWidth 8), irqWrap := s.tmr.irqWrap &&& ~~~(BitVec.ofNat 8 (bits v.toNat 8 8))
      irqCapt := s.tmr.irqCapt &&& ~~~(BitVec.ofNat 8 (bits v.toNat 16 8)) } }
  | 0x104 => { s with tmr := { s.tmr with irqEn := v.setWidth 24 &&& 0x3F3F3F } }
  | 0x108 => { s with tmr := { s.tmr with cfgErr := s.tmr.cfgErr && !v.getLsbD 0, notOwner := s.tmr.notOwner && !v.getLsbD 1 } }
  | _ => s

/-- A single register's write, by its host address (R21, R540). Blocks that have no writable field ignore it. -/
def regApply (src : Island) (a : Nat) (v : Word) (s : State) : State :=
  let o := a % 0x1000
  match islandOf (a / 0x1000) with
  | some .aon => if o = 0 then rstCauseWrite v.toNat s else s
  | some .adc => adcWrite o v s
  | some .plc => plcWrite o v s
  | some .disp => dispWrite src o v s
  | some .host => if 0x400 ≤ o ∧ o < 0x500 then thkWrite o v s else hstWrite o v s
  | some .tmr => tmrWrite src o v s
  | some .safe | some .seq | some .met | some .sec | some .aud | some .bgd | none => s

/-- A write of a register by a source: a word of a 64-bit value is held until its highest word (R67). All those values are read-only,
so the words take no effect together (R540). -/
def regWrite (src : Island) (a : Nat) (v : Word) (s : State) : State :=
  match multiBase a with
  | some b =>
    let others := s.fab.heldWrites.filter fun x => !(x.src == src && x.addr.toNat == b)
    if a = b then { s with fab := { s.fab with heldWrites := others ++ [⟨src, BitVec.ofNat 16 b, [v]⟩] } }
    else { s with fab := { s.fab with heldWrites := others } }
  | none => regApply src a v s

/-- A word of a mailbox or register address as the fabric counts it: the island and the word of its window (Table 2-2). -/
def windowAddr (dst : Nat) (word : BitVec 10) : Nat := dst * 0x1000 + 4 * word.toNat

end Sys2Proof.Machine
end

