-- ==== Sys2Proof/Machine/FabricOps.lean ====
section
/-! DEFINITION. The Thicket fabric's operations (02): tags and holding, the port's judgement, serving, completions and fences. -/

namespace Sys2Proof.Machine

/-- Tags of a source's reserve and cap (Table 2-5). -/
def allotment : Island → Nat × Nat
  | .safe => (64, 128) | .seq => (64, 256) | .bgd => (16, 64)
  | .aon | .met | .adc | .plc | .sec | .disp | .aud | .host | .tmr => (16, 256)

/-- Tags that a source holds now (R49). -/
def tagsOf (s : State) (i : Island) : Nat :=
  (s.fab.flights.filter fun f => f.req.src == i).length + (s.fab.completions.filter fun c => c.src == i).length
    + (s.fab.fences.filter fun w => w.src == i).length

/-- Tags of the shared remainder that are taken (R50). -/
def sharedTaken (s : State) : Nat := (allIslands.map fun i => tagsOf s i - (allotment i).1).foldl (· + ·) 0

/-- A source may take a tag (R50). -/
def tagFree (s : State) (i : Island) : Bool :=
  tagsOf s i < (allotment i).1 || (tagsOf s i < (allotment i).2 && sharedTaken s < 736)

/-- A tag number is in use. -/
def tagUsed (s : State) (t : BitVec 10) : Bool :=
  s.fab.flights.any (·.req.tag == t) || s.fab.completions.any (·.tag == t) || s.fab.fences.any (·.tag == t)

/-- A request that its source port accepts takes a tag (R49). -/
def accept (f : Flight) (s : State) : State := notePeak { s with fab := { s.fab with flights := s.fab.flights ++ [f] } }

/-- A request that its source port holds (R51, R54). -/
def hold (f : Flight) (s : State) : State := { s with fab := { s.fab with held := s.fab.held ++ [f] } }

/-- A request that a source would issue now could overtake an ABSENT completion owed to it, after a RE-OPEN that it has issued (R63). -/
def overtakes (s : State) (src : Island) : Bool :=
  s.fab.completions.any (fun c => c.src == src && c.status == .absent)
    && ((s.fab.flights ++ s.fab.held).any (fun f => f.req.src == src && f.op == .reOpen)
      || s.fab.completions.any (fun c => c.src == src && c.op == .reOpen))

/-- The source port must hold a new request: for an earlier held one, a fence that waits, want of a tag, or an ABSENT still owed after a
RE-OPEN (R51, R54, R63). -/
def mustHold (s : State) (src : Island) : Bool :=
  s.fab.held.any (·.req.src == src) || s.fab.fences.any (·.src == src) || !tagFree s src || overtakes s src

/-- The lowest tag number that no request uses. -/
def lowestTag (s : State) : BitVec 10 :=
  BitVec.ofNat 10 (((List.range 1024).find? fun t =>
    !tagUsed s (BitVec.ofNat 10 t) && !s.fab.held.any (·.req.tag == BitVec.ofNat 10 t)).getD 0)

/-- The epoch under which the host port accesses an island: HOST's own is always current (R535). -/
def hostEpoch (s : State) (d : BitVec 4) : BitVec 8 :=
  match islandOf d.toNat with
  | some .host => (port s .host).epoch
  | some i => pget (pget s.fab.views .host) i
  | none => 0

/-- A request that its source can issue: the host port uses the epoch it holds, and re-opens only an island whose REOPEN bit is set
(R72, R535). -/
def mayIssue (op : FabricOp) (r : Request) (s : State) : Bool :=
  r.src != .host || (r.epoch == hostEpoch s r.dst && (op != .reOpen || s.fab.reopen.getLsbD r.dst.toNat))

/-- A request of the host port with its parity, under its view of the destination's epoch (R535, Table 2-2). -/
def hostRequest (op : FabricOp) (a : Nat) (data : Word) (s : State) : Flight :=
  let d := BitVec.ofNat 4 (a / 0x1000)
  let r : Request := ⟨lowestTag s, .host, d, hostEpoch s d, BitVec.ofNat 10 (a % 0x1000 / 4), data, false⟩
  ⟨op, { r with par := parityBit op r }⟩

/-- The host port issues a request: it is accepted or held (R51, R54). -/
def hostIssue (f : Flight) (s : State) : State := if mustHold s .host then hold f s else accept f s

/-- The RE-OPEN of a set THK_REOPEN bit (R72). -/
def reopenOne (i : Island) (s : State) : State := hostIssue (hostRequest .reOpen (islandNum i * 0x1000) 0 s) s

/-- A RE-OPEN to an island is outstanding. -/
def reopening (s : State) (i : Island) : Bool :=
  let mine (d : BitVec 4) : Bool := d.toNat == islandNum i
  (s.fab.flights ++ s.fab.held).any (fun f => f.op == .reOpen && f.req.src == .host && mine f.req.dst)
    || s.fab.completions.any (fun c => c.op == .reOpen && c.src == .host && mine c.dst)

/-- The host port issues RE-OPEN to every island whose REOPEN bit is set and that has none outstanding (R72). -/
def reopenAll (s : State) : State :=
  allIslands.foldl (fun s i => if s.fab.reopen.getLsbD (islandNum i) && !reopening s i then reopenOne i s else s) s

/-- A register's write and, for THK_REOPEN, the RE-OPENs that it makes the host port issue (R72). -/
def writeReg (src : Island) (a : Nat) (v : Word) (s : State) : State :=
  let s := regWrite src a v s
  if a = 0x944C && isUp s .host then reopenAll s else s

/-- The foreground sources but SAFE in a port's order of turns: the one after the source that it served last comes first (R52). -/
def turnOrder (s : State) (d : BitVec 4) : List Island :=
  let n := match islandOf d.toNat with
    | some i => islandNum (pget s.fab.lastServed i) + 1
    | none => 0
  (allIslands.drop n ++ allIslands.take n).filter fun i => i != .safe && i != .bgd

/-- The request that a destination's port serves next (R52, R468): SAFE's first, then the other foreground sources in turn, then BGD's
while no foreground request waits; of one source always the oldest (R53). -/
def nextAt (s : State) (d : BitVec 4) : Option Flight :=
  let l := s.fab.flights.filter (·.req.dst == d)
  let of (i : Island) : Option Flight := l.find? (·.req.src == i)
  match of .safe with
  | some f => some f
  | none =>
    match (turnOrder s d).findSome? of with
    | some f => some f
    | none => of .bgd

/-- The port notes whose turn it was (R52). -/
def noteTurn (f : Flight) (s : State) : State :=
  match islandOf f.req.dst.toNat with
  | some i =>
    if f.req.src == .safe || f.req.src == .bgd then s
    else { s with fab := { s.fab with lastServed := pset s.fab.lastServed i f.req.src } }
  | none => s

/-- An accepted request leaves the list of those outstanding. -/
def unaccept (f : Flight) (s : State) : State := { s with fab := { s.fab with flights := s.fab.flights.erase f } }

/-- A request that no port takes (Table 2-2): a posted write is lost without a count. -/
def noPort (f : Flight) (s : State) : State :=
  if isPosted f then { s with fab := { s.fab with postedLost := pset s.fab.postedLost f.req.src true } } else complete f .noport 0 s

/-- The epoch that a port expects: HOST's own accesses to the HOST window are always current (R535). -/
def epochOk (s : State) (i : Island) (f : Flight) : Bool :=
  f.op == .reOpen || (f.req.src == .host && i == .host) || f.req.epoch == (port s i).epoch

/-- The code of a status in Table 22-3. -/
def statusCode : FabricStatus → Nat
  | .ok => 0 | .absent => 1 | .stale => 2 | .noport => 3 | .fenceLoss => 4 | .parity => 5

/-- What the host port notes of a failing access: ABSENT_SEEN, STALE_SEEN (Tables 2-13, 22-3). DESIGN CHOICE: a RE-OPEN of the host port
that draws ABSENT counts as a host access (log entry 8). -/
def hostSaw (dst : BitVec 4) (st : FabricStatus) (s : State) : State :=
  let m : BitVec 12 := if dst.toNat < 12 then setBit 0 dst.toNat else 0
  match st with
  | .absent => { s with fab := { s.fab with absentSeen := s.fab.absentSeen ||| m } }
  | .stale => { s with fab := { s.fab with staleSeen := s.fab.staleSeen ||| m } }
  | .ok | .noport | .fenceLoss | .parity => s

/-- A failing host write is recorded, unless FAIL stands (Table 22-5). -/
def writeFailed (code addr : Nat) (s : State) : State :=
  if s.hst.fail then s
  else { s with hst := { s.hst with fail := true, failSt := BitVec.ofNat 3 code, failAddr := BitVec.ofNat 16 addr } }

/-- The completion of a word of a write frame (R533). -/
def frameWordDone (c : Completion) (s : State) : State :=
  match s.hst.writes.find? (·.1 == c.tag) with
  | none => s
  | some w =>
    let s := { s with hst := { s.hst with writes := s.hst.writes.erase w, pending := s.hst.pending - 1 } }
    if c.status == .ok then s else writeFailed (statusCode c.status) w.2.toNat s

/-- A completion reaches its source (R49, R62, R72): its tag is freed; a RE-OPEN brings the source's view up to date. At the port of a
source that is out of service it is discarded (R60). DESIGN CHOICE: a completion that was made while its source was out is delivered if
the source has returned by then (log entry 8). -/
def deliver (c : Completion) (s : State) : State :=
  let s := { s with fab := { s.fab with completions := s.fab.completions.erase c } }
  if !isUp s c.src then s else
  let s :=
    if c.op == .reOpen && c.status == .ok then
      match islandOf c.dst.toNat with
      | some d => { s with fab := { s.fab with
          views := pset s.fab.views c.src (pset (pget s.fab.views c.src) d (c.data.setWidth 8))
          reopen := if c.src == .host then s.fab.reopen &&& ~~~(setBit 0 (islandNum d)) else s.fab.reopen } }
      | none => s
    else s
  if c.src == .host then frameWordDone c (hostSaw c.dst c.status s) else s

/-- A write that resets or reloads HOST (R71). -/
def resetsHost (a : Nat) (v : Word) : Bool :=
  a == 0x9444 && bits v.toNat 0 4 == 9 && (bits v.toNat 4 3 == 1 || bits v.toNat 4 3 == 2)

/-- Every completion on its way to a source arrives, oldest first. -/
def deliverAll (src : Island) (s : State) : State :=
  (s.fab.completions.filter (·.src == src)).foldl (fun s c => deliver c s) s

/-- A request is applied by an island that is in service (R48, R53, R62); it holds its tag until then (R49). A write's completion is sent
before its effect, and one that resets HOST takes effect after HOST has its completions (R71). -/
def applyAt (i : Island) (f : Flight) (s : State) : State :=
  let a := windowAddr f.req.dst.toNat f.req.addr
  match f.op with
  | .read =>
    let r := regRead f.req.src a s
    complete f .ok r.1 (unaccept f r.2)
  | .write =>
    let s := complete f .ok 0 (unaccept f s)
    writeReg f.req.src a f.req.data (if resetsHost a f.req.data then deliverAll .host s else s)
  | .writePosted => writeReg f.req.src a f.req.data (unaccept f s)
  | .reOpen => complete f .ok ((port s i).epoch.setWidth 32) (unaccept f s)
  | .fence | .reserved _ => unaccept f s

/-- The opcode is one of the reserved ones of Table 2-3. -/
def reservedOp : FabricOp → Bool
  | .reserved _ => true
  | .read | .write | .writePosted | .fence | .reOpen => false

/-- A request reaches its destination port (R47, R56, R62, R79). Parity is judged first; a reserved opcode draws NOPORT from an island
that is in service. -/
def portTakes (f : Flight) (s : State) : State :=
  match islandOf f.req.dst.toNat with
  | none => noPort f (unaccept f s)
  | some i =>
    if !parityOk f then logEvent (.parity f.req.dst) (failAt i .parity f (unaccept f s))
    else if !isUp s i then failAt i .absent f (unaccept f s)
    else if reservedOp f.op then complete f .noport 0 (unaccept f s)
    else if !epochOk s i f then failAt i .stale f (unaccept f s)
    else applyAt i f s

/-- An accepted request is settled at its destination, and fences follow (R54). -/
def serve (f : Flight) (s : State) : State := settleFences (portTakes f (noteTurn f s))

/-- A request of a row: one that was accepted before is served if its port serves it next; a new one is held, waits its turn, or is
accepted and served (R49, R51, R52, R53). A tag that is in use is never given to a new request. -/
def present (op : FabricOp) (r : Request) (s : State) : State :=
  let f : Flight := ⟨op, r⟩
  match s.fab.flights.find? fun g => g.req.tag == r.tag && g.req.src == r.src with
  | some g => if nextAt s g.req.dst == some g then serve g s else s
  | none =>
    if !isUp s r.src || tagUsed s r.tag || s.fab.held.any (·.req.tag == r.tag) || !mayIssue op r s then s
    else if mustHold s r.src then hold f s
    else
      let s := accept f s
      if nextAt s r.dst == some f then serve f s else s

/-- A fence that its source port accepts (R54): it completes at once when nothing is outstanding. The fabric answers a wrong parity
(R46, R79). -/
def acceptFence (r : Request) (s : State) : State :=
  if parityOk ⟨.fence, r⟩ then
    settleFences (notePeak { s with fab := { s.fab with fences := s.fab.fences ++ [⟨r.src, r.tag, r.dst⟩] } })
  else logEvent (.parity r.dst) (notePeak (complete ⟨.fence, r⟩ .parity 0 s))

/-- A FENCE of a source (R54). -/
def issueFence (r : Request) (s : State) : State :=
  if !isUp s r.src || tagUsed s r.tag || s.fab.held.any (·.req.tag == r.tag) then s
  else if mustHold s r.src then hold ⟨.fence, r⟩ s
  else acceptFence r s

/-- The first request that a source port holds is accepted, if no fence and no ABSENT owed after a RE-OPEN bars it and a tag is free
(R51, R54, R63). -/
def acceptHeld (src : Island) (s : State) : State :=
  match s.fab.held.find? (·.req.src == src) with
  | none => s
  | some f =>
    if s.fab.fences.any (·.src == src) || !tagFree s src || tagUsed s f.req.tag || overtakes s src then s
    else
      let s := { s with fab := { s.fab with held := s.fab.held.erase f } }
      if f.op == .fence then acceptFence f.req s else accept f s

/-- The oldest completion on its way to a source. -/
def oldestFor (s : State) (src : Island) : Option Completion := s.fab.completions.find? (·.src == src)

/-- A request of the host port is served, after those that its port serves before it (R52), with fuel. -/
def serveUntil (f : Flight) : Nat → State → State
  | 0, s => s
  | n + 1, s =>
    if s.fab.flights.contains f && isUp s .host then
      match nextAt s f.req.dst with
      | some g => serveUntil f n (serve g s)
      | none => s
    else s

/-- One round of settling what the host port has outstanding: its requests in order, then their completions, which are kept in the
list, then what it held. -/
def settleRound (x : List Completion × State) : List Completion × State :=
  let s := (x.2.fab.flights.filter (·.req.src == .host)).foldl (fun s f => serveUntil f s.fab.flights.length s) x.2
  let c := s.fab.completions.filter (·.src == .host)
  let s := deliverAll .host s
  (x.1 ++ c, (s.fab.held.filter (·.req.src == .host)).foldl (fun s _ => acceptHeld .host s) s)

/-- What the host port has outstanding, on its way or held. -/
def hostOpen (s : State) : Nat :=
  (s.fab.flights.filter (·.req.src == .host)).length + (s.fab.completions.filter (·.src == .host)).length
    + (s.fab.held.filter (·.req.src == .host)).length + (s.fab.fences.filter (·.src == .host)).length

/-- Everything that the host port has issued is settled and its completions have arrived, with fuel (R534): the completions, and the
state. Every round settles something. -/
def settleHost : Nat → List Completion × State → List Completion × State
  | 0, x => x
  | n + 1, x => if hostOpen x.2 = 0 then x else settleHost n (settleRound x)

end Sys2Proof.Machine
end

