-- ==== Sys2Proof/Machine/Fabric.lean ====
section
/-! DEFINITION. The fabric family (02): transactions, fences, completions, island commands and returns, the THK registers. -/

namespace Sys2Proof.Machine

/-- The opcode of a FABRIC_READ row: READ, or a reserved one (Table 2-3). -/
def readOp (code : BitVec 3) : FabricOp :=
  if code = 5 then .reserved 0 else if code = 6 then .reserved 1 else if code = 7 then .reserved 2 else .read

/-- FABRIC_READ (R53); the reserved opcodes come through this row (R46). -/
def execFabricRead (r : CodedRequest) (s : State) : Host.Outcome State Fault Refusal := done (present (readOp r.code) r.request s)

/-- FABRIC_WRITE (R48). -/
def execFabricWrite (r : Request) (s : State) : Host.Outcome State Fault Refusal := done (present .write r s)

/-- WRITE_POSTED (R58). -/
def execWritePosted (r : Request) (s : State) : Host.Outcome State Fault Refusal := done (present .writePosted r s)

/-- FENCE (R54): of a source, whose number the request's SRC field is. -/
def execFence (src : Island) (r : Request) (s : State) : Host.Outcome State Fault Refusal := done (issueFence { r with src := src } s)

/-- RE_OPEN (R62). -/
def execFabricReOpen (r : Request) (s : State) : Host.Outcome State Fault Refusal := done (present .reOpen r s)

/-- COMPLETION (R49): the oldest completion on its way to the source arrives. -/
def execCompletion (src : Island) (s : State) : Host.Outcome State Fault Refusal :=
  match oldestFor s src with
  | none => done s
  | some c => done (deliver c s)

/-- HELD_REQUEST_ACCEPT (R51). -/
def execHeldRequestAccept (src : Island) (s : State) : Host.Outcome State Fault Refusal := done (acceptHeld src s)

/-- A write to a THK register takes effect while HOST is in service. -/
def thkCommand (f : State → State) (s : State) : Host.Outcome State Fault Refusal := done (guarded (isUp s .host) f s)

/-- ISLAND_RESET (R71). -/
def execIslandReset (island : BitVec 4) (s : State) : Host.Outcome State Fault Refusal := thkCommand (islandCommand (commandWord island 1)) s

/-- ISLAND_RELOAD (R71). -/
def execIslandReload (island : BitVec 4) (s : State) : Host.Outcome State Fault Refusal := thkCommand (islandCommand (commandWord island 2)) s

/-- ISLAND_POWER_DOWN (R71). -/
def execIslandPowerDown (island : BitVec 4) (s : State) : Host.Outcome State Fault Refusal := thkCommand (islandCommand (commandWord island 3)) s

/-- ISLAND_POWER_UP (R71). -/
def execIslandPowerUp (island : BitVec 4) (s : State) : Host.Outcome State Fault Refusal := thkCommand (islandCommand (commandWord island 4)) s

/-- ISLAND_SELECT (R20, R71). -/
def execIslandSelect (island : BitVec 4) (s : State) : Host.Outcome State Fault Refusal := thkCommand (islandCommand (commandWord island 0)) s

/-- CLOCK_LOST (R78). -/
def execClockLost (i : Island) (s : State) : Host.Outcome State Fault Refusal := done (clockLoss i s)

/-- ISLAND_RETURN (R61). -/
def execIslandReturn (i : Island) (s : State) : Host.Outcome State Fault Refusal := done (guarded (mayReturn s i) (islandReturn i) s)

/-- SNAPSHOT_TIMEOUT (R66): the snapshot of a source for a value is gone. -/
def execSnapshotTimeout (src : Island) (addr : BitVec 16) (s : State) : Host.Outcome State Fault Refusal :=
  done { s with fab := { s.fab with snapshots := s.fab.snapshots.filter fun x => !(x.src == src && x.addr == addr) } }

/-- HELD_WRITE_DISCARD (R67). -/
def execHeldWriteDiscard (src : Island) (addr : BitVec 16) (s : State) : Host.Outcome State Fault Refusal :=
  done { s with fab := { s.fab with heldWrites := s.fab.heldWrites.filter fun x => !(x.src == src && x.addr == addr) } }

/-- LOSS_CLR (R76, Table 2-9). -/
def execLossClr (mask : BitVec 12) (s : State) : Host.Outcome State Fault Refusal := thkCommand (lossClear mask) s

/-- PEAK_CLR (Table 2-11): PEAK clears and takes the present IN_FLIGHT as its highest since. -/
def execPeakClr (s : State) : Host.Outcome State Fault Refusal :=
  thkCommand (fun s => { s with fab := { s.fab with peak := 0 } }) s

/-- REOPEN (R72): the bits are set, and the host port issues their RE-OPENs. -/
def execHostReopen (mask : BitVec 12) (s : State) : Host.Outcome State Fault Refusal :=
  thkCommand (fun s => reopenAll { s with fab := { s.fab with reopen := s.fab.reopen ||| mask } }) s

/-- REOPEN_RETRY (R72): every set bit without an outstanding RE-OPEN is tried again. -/
def execReopenRetry (s : State) : Host.Outcome State Fault Refusal := thkCommand reopenAll s

end Sys2Proof.Machine
end

