-- ==== Sys2Proof/Machine/HostPort.lean ====
section
/-! DEFINITION. The host port family (22): SPI frames, the mailbox, register writes of the host. -/

namespace Sys2Proof.Machine

/-- A header (Table 22-2). -/
structure FrameHeader where
  read : Bool
  fix : Bool
  len : Nat
  addr : Nat
deriving DecidableEq, Repr

/-- The three bytes of a header, most significant bit first (R530, R531). -/
def parseFrame (b : Bytes) : FrameHeader :=
  let c := (b.getD 0 0).toNat
  ⟨hasBit c 7, hasBit c 6, bits c 0 6 + 1, ((b.getD 1 0).toNat * 256 + (b.getD 2 0).toNat) / 4 * 4⟩

/-- The address of word i (Table 22-2). -/
def wordAddr (h : FrameHeader) (i : Nat) : Nat := if h.fix then h.addr else h.addr + 4 * i

/-- A word that is not issued to the fabric (R532). -/
def outside (h : FrameHeader) (i : Nat) : Bool :=
  0xC000 ≤ wordAddr h i || wordAddr h i / 0x1000 != h.addr / 0x1000

/-- One word of a write frame (R532, R533, R545). -/
def frameWrite (h : FrameHeader) (i : Nat) (w : Word) (s : State) : State :=
  let a := wordAddr h i
  if outside h i then writeFailed 6 (a % 0x10000) s
  else if 256 ≤ s.hst.pending.toNat then writeFailed 7 a s
  else
    let f := hostRequest .write a w s
    let s := hostIssue f s
    { s with hst := { s.hst with pending := s.hst.pending + 1, writes := s.hst.writes ++ [(f.req.tag, BitVec.ofNat 16 a)] } }

/-- The words of a write frame, in frame order. -/
def frameWrites (h : FrameHeader) (l : List Word) (s : State) : State :=
  (l.take h.len).zipIdx.foldl (fun s x => frameWrite h x.2 x.1 s) s

/-- A frame has been completed (Table 22-5). -/
def frameDone (mode3 : Bool) (s : State) : State := { s with hst := { s.hst with frames := s.hst.frames + 1, mode3 := mode3 } }

/-- WRITE_FRAME (R533): every word is issued; FABRIC_WRITE serves it, and COMPLETION brings its status. -/
def execWriteFrame (mode3 : Bool) (header : Bytes) (words : List Word) (s : State) : Host.Outcome State Fault Refusal :=
  let h := parseFrame header
  done (guarded (isUp s .host && header.length = 3 && !h.read && words.length = h.len)
    (fun s => frameDone mode3 (frameWrites h words { s with hst := { s.hst with so := [] } })) s)

/-- The read of word i of a frame is issued: its tag, none for a word outside the window (R532, R534). -/
def issueRead (h : FrameHeader) (i : Nat) (s : State) : Option (BitVec 10) × State :=
  if outside h i then (none, s)
  else
    let f := hostRequest .read (wordAddr h i) 0 s
    (some f.req.tag, hostIssue f s)

/-- The reads of a frame are issued back to back, in frame order (R68, R534). -/
def issueReads (h : FrameHeader) : List Nat → State → List (Option (BitVec 10)) × State
  | [], s => ([], s)
  | i :: l, s =>
    let r := issueRead h i s
    let rest := issueReads h l r.2
    (r.1 :: rest.1, rest.2)

/-- The four data bytes and the status byte of a word, from the completions that have arrived (R534, Table 22-3). -/
def wordBytes (l : List Completion) : Option (BitVec 10) → Bytes
  | none => [0, 0, 0, 0, 6]
  | some t =>
    match l.find? (·.tag == t) with
    | some c => beBytes 4 c.data.toNat ++ leBytes 1 (statusCode c.status)
    | none => [0, 0, 0, 0, 1]

/-- A read frame's fence and reads (R534): what the host port issued before is settled, then the reads are. -/
def readFrame (h : FrameHeader) (s : State) : Bytes × State :=
  let s := issueFence (hostRequest .fence h.addr 0 s).req s
  let s := (settleHost (hostOpen s) ([], s)).2
  if isUp s .host then
    let r := issueReads h (List.range h.len) s
    let x := settleHost (hostOpen r.2) ([], r.2)
    (r.1.flatMap (wordBytes x.1), x.2)
  else ([], s)

/-- READ_FRAME (R534): SPI_SO carries the start byte A5h and the words; the wait bytes before it are timing. -/
def execReadFrame (mode3 : Bool) (header : Bytes) (s : State) : Host.Outcome State Fault Refusal :=
  let h := parseFrame header
  done (guarded (isUp s .host && header.length = 3 && h.read) (fun s =>
    let r := readFrame h s
    if isUp r.2 .host then
      let s := frameDone mode3 r.2
      { s with hst := { s.hst with so := 0xA5 :: r.1 } }
    else r.2) s)

/-- What stands of a frame that is cut (R544): nothing of a header; the complete words of a write; every read. -/
def cutFrame (read : Bool) (header : Bytes) (words : List Word) (s : State) : State :=
  if header.length != 3 then s
  else if read then (readFrame (parseFrame header) s).2
  else frameWrites (parseFrame header) words s

/-- FRAME_CUT (R544). -/
def execFrameCut (read : Bool) (header : Bytes) (words : List Word) (s : State) : Host.Outcome State Fault Refusal :=
  done (guarded (isUp s .host) (fun s =>
    let s := cutFrame read header words s
    if isUp s .host then { s with hst := { s.hst with short := satInc s.hst.short, so := [] } } else s) s)

/-- MAILBOX_GO (R537). -/
def execMailboxGo (len : Byte) (s : State) : Host.Outcome State Fault Refusal := done (guarded (isUp s .host) (mailboxGo len) s)

/-- RSP_ACK (R538). -/
def execRspAck (s : State) : Host.Outcome State Fault Refusal := done (guarded (isUp s .host) ackResponse s)

/-- NTF_ACK (R538). -/
def execNtfAck (s : State) : Host.Outcome State Fault Refusal := done (guarded (isUp s .host) ackNotify s)

/-- A PDU for the mailbox joins its queue, or is dropped and counted (R538). -/
def queueForHost (isNotify : Bool) (b : Bytes) (s : State) : State :=
  let h := s.hst
  if isNotify then
    (if h.notifies.length < 4 then { s with hst := { h with notifies := h.notifies ++ [b] } }
     else { s with hst := { h with mbxLost := satInc h.mbxLost } })
  else if h.responses.length < 8 then { s with hst := { h with responses := h.responses ++ [b] } }
  else { s with hst := { h with mbxLost := satInc h.mbxLost } }

/-- MAILBOX_RESPONSE (R538, R546): the first PDU for the mailbox; while HOST is out of service it is discarded. -/
def execMailboxResponse (s : State) : Host.Outcome State Fault Refusal :=
  match s.od.out.find? (·.path == .mailbox) with
  | none => done s
  | some x =>
    let s := { s with od := { s.od with out := s.od.out.erase x } }
    done (guarded (isUp s .host) (queueForHost x.isNotify x.bytes) s)

/-- REGISTER_WRITE (R540): a host write, which an island in service applies under its present epoch; any other draws its status (R56, R62,
Tables 2-13 and 22-5); an address that belongs to no island draws OUTSIDE (R532). -/
def execRegisterWrite (addr : BitVec 16) (value : Word) (s : State) : Host.Outcome State Fault Refusal :=
  let a := addr.toNat / 4 * 4
  match islandOf (a / 0x1000) with
  | none => done (guarded (isUp s .host) (writeFailed 6 a) s)
  | some i =>
    let f := hostRequest .write a value s
    let failed (st : FabricStatus) (s : State) : State := writeFailed (statusCode st) a (hostSaw f.req.dst st s)
    done (guarded (isUp s .host) (fun s =>
      if !isUp s i then failed .absent s
      else if !epochOk s i f then failed .stale s
      else writeReg .host a value s) s)

end Sys2Proof.Machine
end

