-- ==== Sys2Proof/Machine/Keys.lean ====
section
/-! DEFINITION. The keys family (14): SEC's crypto jobs and the Mirror statement. -/

namespace Sys2Proof.Machine

/-- The rank of a job (R347): the smaller runs first. -/
def jobRank : CryptoJob → Nat
  | .cmac _ => 0 | .verify => 1 | .ledgerSign => 2 | .mirrorSign => 3 | .conf _ => 4

/-- The context that a job needs in Yew (Table 14-3); a verification needs none. -/
def jobCtx : CryptoJob → YewCtx
  | .cmac false => .link | .cmac true => .session | .verify => .none | .ledgerSign => .ledger | .mirrorSign => .mirror
  | .conf _ => .conf

/-- The next job: of the best rank, the one that arrived first (R347). -/
def nextJob (l : List CryptoJob) : Option CryptoJob :=
  l.foldl (fun b j => match b with
    | none => some j
    | some x => if jobRank j < jobRank x then some j else some x) none

/-- The key of a context (Table 14-3). -/
def contextKey (s : State) : YewCtx → Bytes
  | .link => linkKey s
  | .session => (macKey s .session).getD []
  | .conf => hkdf [] (slotKey s 4) (ascii "OD-CONF" ++ s.otp.serial) 16
  | .ledger => beBytes 32 (ledgerKeys s).1
  | .mirror => beBytes 32 (identity s)
  | .none => []

/-- The use counter that a job's load sets (Table 14-3). -/
def jobUses : CryptoJob → Nat
  | .conf n => n.toNat | .ledgerSign | .mirrorSign => 1 | .cmac _ | .verify => 0

/-- A job runs: Yew is loaded if it holds another key (R345, R347). WAIT shows that a waiting job needs another key than Yew holds. -/
def runJob (j : CryptoJob) (s : State) : State :=
  let s := { s with sec := { s.sec with jobs := s.sec.jobs.erase j } }
  let c := jobCtx j
  let s := if c = .none || (c = s.sec.ctx && jobUses j = 0) then s else loadYew c (contextKey s c) (jobUses j) s
  { s with sec := { s.sec with wait := s.sec.jobs.any fun x => jobCtx x != .none && jobCtx x != s.sec.ctx } }

/-- CRYPTO_JOB (R347). -/
def execCryptoJob (s : State) : Host.Outcome State Fault Refusal :=
  match nextJob s.sec.jobs with
  | none => done s
  | some j => done (guarded (isUp s .sec && !s.sec.scanLock) (runJob j) s)

/-- Import of phase p summed over the four codes (Table 14-8). -/
def importSum (l : List (BitVec 48)) (p : Nat) : Nat := ((l.drop (4 * p)).take 4).foldl (fun a x => a + x.toNat) 0

/-- Bytes 00h to BFh of a Mirror statement (Table 14-8, R357). -/
def mirrorBody (nonce : Bytes) (count : Word) (s : State) : Bytes :=
  let imp := if s.pwr.loaderState then s.bil.lgImports else importsNow s
  let rea := if s.pwr.loaderState then s.bil.lgReactive else reactivesNow s
  leBytes 2 0x4D01
  ++ leBytes 1 (bit s.bil.trusted + 2 * bit s.pwr.loaderState + 4 * bit (sessionOn s) + 8 * bit s.safe.active)
  ++ leBytes 1 s.set.generation.toNat ++ padTo 12 (s.otp.serial.take 12) ++ timeBytes s.bil.clock
  ++ leBytes 4 (sealWordOf s).toNat ++ leBytes 4 s.bil.headIndex.toNat ++ leBytes 4 count.toNat ++ nonce
  ++ manifestHash s ++ configHash s ++ s.bil.headHash
  ++ [0, 1, 2].flatMap (fun p => leBytes 6 (importSum imp p)) ++ rea.flatMap (fun v => leBytes 6 v.toNat) ++ zeros 10

/-- The signature of a statement under d_ID, with the nonce key of the MIRROR load (R346, R356). -/
def mirrorSignature (body : Bytes) (s : State) : Option Bytes :=
  ecdsaSign (identity s) (hkdf [] (slotKey s 3) (ascii "HL-NONCE-M") 32) (sha256 body)

/-- A statement ends with its signature: MirrorStatement and MirrorCount take it, or signing has failed (R356, Table 14-9). -/
def mirrorSigned (body : Bytes) (sig : Option Bytes) (s : State) : State :=
  let sec := { s.sec with mirrorNonce := none, jobs := s.sec.jobs.erase .mirrorSign, ctx := .none, yew := [], usesLeft := 0 }
  { s with sec := match sig with
    | none => { sec with signFault := true }
    | some x => { sec with mirror := body ++ x, mirrorCount := satInc s.sec.mirrorCount } }

/-- The statement is built and signed (R356). -/
def buildMirror (nonce : Bytes) (s : State) : State :=
  let body := mirrorBody nonce (satInc s.sec.mirrorCount) s
  mirrorSigned body (mirrorSignature body s) s

/-- A closed record that can be written goes before a statement (R347, R362). -/
def recordFirst (s : State) : Bool := !s.bil.closed.isEmpty && canSign s

/-- MIRROR_STATEMENT_READY (R356, R362). -/
def execMirrorStatementReady (s : State) : Host.Outcome State Fault Refusal :=
  match s.sec.mirrorNonce with
  | none => done s
  | some b => done (guarded (isUp s .sec && !s.sec.scanLock && !s.sec.signFault && !recordFirst s) (buildMirror b) s)

end Sys2Proof.Machine
end

