-- ==== Sys2Proof/Machine/Link.lean ====
section
/-! DEFINITION. The line link family (15). -/

namespace Sys2Proof.Machine

/-- FRAME_HANDOVER (R384). -/
def execFrameHandover (h : Handover) (s : State) : Host.Outcome State Fault Refusal := done (handOver h (takeOut h.payload s))

/-- MEDIUM_IDLE (R377, R378, R407, R419). -/
def execMediumIdle (s : State) : Host.Outcome State Fault Refusal :=
  done (guarded (isUp s .plc) (fun s =>
    let s := { s with plc := { s.plc with busy := false, idle := s.plc.tx.isNone, busyUs := 0 }, net := { s.net with fpBusyLogged := false } }
    beginAccess (if s.net.closeDue then closeWindow s else s)) s)

/-- MEDIUM_BUSY (R377, R379, R393). -/
def execMediumBusy (s : State) : Host.Outcome State Fault Refusal := done (guarded (isUp s .plc && awake s) (mediumTurnsBusy 0) s)

/-- How long a decoded FCH keeps the medium busy from its own end on (R377, R392): the frame's payload and any ACK after it, or for a
failing CRC8 the shortest frame of the band. -/
def fchBusyUs (s : State) (fch : Bytes) : Nat :=
  let h := parseFch fch
  let shortest := frameUs s.plc.bandC .q 0
  if crc8Ok fch then
    frameUs s.plc.bandC (modeOf h.mode) h.len - shortest + (if h.ackReq && h.type = 0 then 2000 + shortest else 0)
  else shortest

/-- FCH_DECODE (R377, R392). -/
def execFchDecode (fch : Bytes) (s : State) : Host.Outcome State Fault Refusal :=
  done (guarded (receives s .line) (fun s => mediumTurnsBusy (fchBusyUs s fch) s) s)

/-- The slots that a frame draws (R378, Table 15-6): CW of its priority. -/
def contention (prio : BitVec 2) : Nat := if prio = 0 then 4 else if prio = 1 then 8 else 16

/-- After W2 the frame draws its slot, and starts at once if it drew 0 (R378 steps 3 and 4). -/
def drawSlot (f : OutFrame) (s : State) : State :=
  let n := nextFree s
  let r := (Config.randomSlot n.1).toNat % contention f.prio
  if r = 0 then startFrame f n.2 else { n.2 with plc := { n.2.plc with access := .random r } }

/-- The next window, or the draw after W2 (R378). -/
def nextWindow (k : Nat) (f : OutFrame) (s : State) : State :=
  if k < 2 then { s with plc := { s.plc with access := .window (k + 1) } } else drawSlot f s

/-- The end of window Wk (R378, R403): a tone in a window before its own makes the frame defer; in its own it sends one. -/
def windowEnds (k : Nat) (tone : Bool) (f : OutFrame) (s : State) : State :=
  if k < f.prio.toNat && tone then deferAccess s
  else if k = f.prio.toNat && reachesSpan s (1000 + (copyAndWindowUs s f - copyUs s .line (frameMode s f) f.payload.length)) then holdForSpan s
  else nextWindow k f s

/-- ACCESS_SLOT (R378). -/
def execAccessSlot (tone : Bool) (s : State) : Host.Outcome State Fault Refusal :=
  match s.plc.access, s.plc.current with
  | .window k, some f => done (windowEnds k tone f s)
  | .random n, some f =>
    done (if tone then deferAccess s else if n ≤ 1 then startFrame f s else { s with plc := { s.plc with access := .random (n - 1) } })
  | _, _ => done s

/-- BAND_C_WAIT_END (R379). -/
def execBandCWaitEnd (free : Bool) (s : State) : Host.Outcome State Fault Refusal :=
  match s.plc.access, s.plc.current with
  | .bandC, some f => done (if free then startFrame f s else deferAccess s)
  | _, _ => done s

/-- TRANSMIT_END (R380, R382, R386): a completed frame clears ABORTS, and one during which the limit acted is counted. -/
def execTransmitEnd (limited : Bool) (s : State) : Host.Outcome State Fault Refusal :=
  match s.plc.tx with
  | none => done s
  | some f =>
    done (beginAccess (copyEnds f { s with plc := { s.plc with
      aborts := 0, limited := if limited then satInc s.plc.limited else s.plc.limited } }))

/-- FRAME_RECEIVE (R375): the copy ends now. -/
def execFrameReceive (c : Copy) (s : State) : Host.Outcome State Fault Refusal := done (receiveCopy c (copyStart s c) s)

/-- SEND_ACK (R380, R388). -/
def execSendAck (s : State) : Host.Outcome State Fault Refusal :=
  match s.plc.acks with
  | [] => done s
  | a :: r => done (sendAckNow a { s with plc := { s.plc with acks := r } })

/-- ACK_WINDOW_END (R381, R383): the direct window ends without an ACK. -/
def execAckWindowEnd (s : State) : Host.Outcome State Fault Refusal :=
  match s.plc.ackWindow with
  | none => done s
  | some f => done (guarded (!s.plc.relayed) (fun s => beginAccess (nextAttempt f s)) s)

/-- The frame that waits for its instant by mains phase: the head of the queues (R381, R384). -/
def placedHead (s : State) : Option OutFrame := (queueHead s).filter (·.placed)

/-- RESEND_START (R381, R390, R414): the instant of R381 for the frame that waits for it. An instant within a protected span, or while the
driver is off, is passed over. In band C the copy starts then if the band is free; in band A access begins if the medium has been idle,
and otherwise the frame defers. -/
def execResendStart (idle : Bool) (s : State) : Host.Outcome State Fault Refusal :=
  match placedHead s with
  | none => done s
  | some f =>
    done (guarded (isUp s .plc && !underWay s && (linkPaths s f).all (pathReady s) && !reachesSpan s (copyAndWindowUs s f)) (fun s =>
      if s.plc.bandC && (linkPaths s f).contains .line then (if idle then startFrame f s else s)
      else if idle then startAccess f s
      else updateFrame { f with placed := false } s) s)

/-- The frame at an index of a queue, while it is waiting: not on the medium, and no window of its own runs. -/
def waitingAt (s : State) (prio : BitVec 2) (i : Nat) : Option OutFrame :=
  ((queueOf s prio)[i]?).filter fun f => !s.plc.tx.any (sameFrame f) && !s.plc.ackWindow.any (sameFrame f)

/-- QUEUE_AGE_DROP (R384): the frame counts as lost, so a unicast one makes its destination mode more robust (R376). -/
def execQueueAgeDrop (prio : BitVec 2) (index : Nat) (s : State) : Host.Outcome State Fault Refusal :=
  match waitingAt s prio index with
  | none => done s
  | some f =>
    let s := if s.plc.current.any (sameFrame f) then stopAccess s else s
    let s := removeFrame f (refuseFrame true s)
    done (beginAccess (if f.dst = 0xFF then s else stepRobust f.dst s))

/-- LIMIT_ABORT (R386): the frame is cut, ABORTS increases, and at 8 the driver is held off. -/
def execLimitAbort (s : State) : Host.Outcome State Fault Refusal :=
  done (guarded (s.plc.tx.isSome && s.plc.txPaths.contains .line) (fun s =>
    let n := s.plc.aborts + 1
    let held := s.plc.shortHold || 8 ≤ n.toNat
    refreshDriver (copyCut { s with plc := { s.plc with
      aborts := n, shortHold := held
      shortSince := if held && !s.plc.shortHold then (s.bil.clock, s.bil.running) else s.plc.shortSince } })) s)

/-- SHORT_HOLD_END (R386, R387). -/
def execShortHoldEnd (s : State) : Host.Outcome State Fault Refusal :=
  done (guarded s.plc.shortHold (fun s =>
    beginAccess (refreshDriver (logHold false s.plc.shortSince { s with plc := { s.plc with shortHold := false, aborts := 0 } }))) s)

/-- THERMAL_SHUTDOWN (R387). -/
def execThermalShutdown (s : State) : Host.Outcome State Fault Refusal :=
  done (guarded (isUp s .plc) (fun s =>
    let s := { s with plc := { s.plc with
      thermal := true, thermalSince := if s.plc.thermal then s.plc.thermalSince else (s.bil.clock, s.bil.running) } }
    refreshDriver (if s.plc.txPaths.contains .line then copyCut s else s)) s)

/-- THERMAL_RECOVERY (R387). -/
def execThermalRecovery (s : State) : Host.Outcome State Fault Refusal :=
  done (guarded s.plc.thermal (fun s =>
    beginAccess (refreshDriver (logHold true s.plc.thermalSince { s with plc := { s.plc with thermal := false } }))) s)

/-- LINK_RELOAD (R389). -/
def execLinkReload (s : State) : Host.Outcome State Fault Refusal :=
  done (guarded (isUp s .plc && isUp s .seq && s.plc.reloadDue) (leaveService .plc .reloading) s)

/-- PROTECTED_SPAN_END (R403): frames that waited take access again. -/
def execProtectedSpanEnd (s : State) : Host.Outcome State Fault Refusal :=
  done (beginAccess { s with plc := { s.plc with spanHold := false } })

end Sys2Proof.Machine
end

