-- ==== Sys2Proof/Machine/LockDrive.lean ====
section
/-! DEFINITION. The cable lock family (08): moves, limits, the hall sensor and the lock faults. -/

namespace Sys2Proof.Machine

/-- A move begins, or ends at once when its target limit is already confirmed closed (R216, R218). One that drives the motor with the hall
sensor known to be absent is a fault (R223). -/
def beginMove (toLocked : Bool) (s : State) : State :=
  let there := if toLocked then s.lck.limLocked else s.lck.limUnlocked
  let s := { s with lck := { s.lck with queued := none, homing := s.lck.homing || (s.lck.homingDue && !toLocked), homingDue := false } }
  if there then
    let s := { s with
      lck := { s.lck with state := if toLocked then 2 else 1, homing := false, pulses := 0, elapsedMs := 0 }
      pwr := { s.pwr with homingDone := s.pwr.homingDone || s.pwr.homingStarted } }
    if toLocked && s.ses.phase == .locked then offerOrPause s else s
  else
    let s := { s with lck := { s.lck with
      moving := some toLocked, state := if toLocked then 3 else 4, drive := if toLocked then .locking else .unlocking
      pulses := 0, moveStart := s.bil.running } }
    if s.lck.hallKnown && !s.lck.hallOk then lockFault 2 s else s

/-- LOCK_MOVE (R216): a commanded move begins once no move runs; never in the safe state or the brown-out sequence (R221), and never under a
lock fault (R223, R225). -/
def execLockMove (toLocked : Bool) (s : State) : Host.Outcome State Fault Refusal :=
  done (guarded (isUp s .tmr && lockFitted s && s.lck.queued == some toLocked && s.lck.moving.isNone && s.lck.drive == .free
    && s.lck.faults == 0 && !safeInForce s && !s.pwr.brown.active) (beginMove toLocked) s)

/-- The level of a limit input changed; its debounce restarts. More than four transitions within 50 ms are CHATTER (R223). -/
def execLimitTransition (_which : Limit) (within50 : Nat) (s : State) : Host.Outcome State Fault Refusal :=
  done (guarded (isUp s .tmr && lockFitted s && 4 < within50) (lockFault 1) s)

/-- LIM_LOCKED opens while the lock is locked and no move runs (R224). -/
def lockedOpens (s : State) : State :=
  if s.lck.hallOk then { s with lck := { s.lck with lockedLost := true }, ses := { s.ses with lockExcused := true } }
  else lockFault 2 s

/-- What a confirmed limit brings about where SW6 declares a lock (R216, R222, R223, R224). -/
def limitFollows (isL wasLocked closed : Bool) (s : State) : State :=
  if s.lck.limLocked && s.lck.limUnlocked then lockFault 0 s
  else match s.lck.moving with
    | some t =>
      if closed && isL && s.lck.homing then lockFault 0 s
      else if closed && isL == t then
        let s := stopMotor s
        let s := { s with
          lck := { s.lck with afterBrake := if t then 2 else 1 }
          pwr := { s.pwr with homingDone := s.pwr.homingDone || s.pwr.homingStarted } }
        if t && s.ses.phase == .locked then offerOrPause s else s
      else s
    | none =>
      if isL && wasLocked && !closed && s.lck.state = 2 && s.lck.drive == .free then lockedOpens s else s

/-- A limit is confirmed closed or open (R215). -/
def limitConfirmed (which : Limit) (closed : Bool) (s : State) : State :=
  let isL := which == .locked
  let wasLocked := s.lck.limLocked
  let s := { s with lck := { s.lck with
    limLocked := if isL then closed else s.lck.limLocked, limUnlocked := if isL then s.lck.limUnlocked else closed } }
  if lockFitted s then limitFollows isL wasLocked closed s else s

/-- LIMIT_CONFIRMED (R215), with OFFER (R31) once LOCKED is confirmed after authorisation. -/
def execLimitConfirmed (which : Limit) (closed : Bool) (s : State) : Host.Outcome State Fault Refusal :=
  done (guarded (isUp s .tmr) (limitConfirmed which closed) s)

/-- LOCK_BRAKE_END (R216): FREE, and LockState takes its value. -/
def execLockBrakeEnd (s : State) : Host.Outcome State Fault Refusal :=
  done (guarded (s.lck.drive == .brake) (fun s => { s with lck := { s.lck with
    drive := .free, state := s.lck.afterBrake } }) s)

/-- HALL_PULSE (R215, R224): counted in a move; unproven while the lock is locked and no move runs. -/
def execHallPulse (s : State) : Host.Outcome State Fault Refusal :=
  done (guarded (isUp s .tmr && lockFitted s) (fun s =>
    if s.lck.moving.isSome || s.lck.drive != .free then { s with lck := { s.lck with pulses := satInc s.lck.pulses } }
    else if s.lck.state = 2 then lockFault 2 s
    else s) s)

/-- HALL_TIMEOUT (R223): no pulse for 20 ms while the motor is driven. -/
def execHallTimeout (s : State) : Host.Outcome State Fault Refusal :=
  done (guarded s.lck.moving.isSome (lockFault 2) s)

/-- LOCK_MOVE_TIMEOUT (R223): the target limit is not confirmed within LockMoveTimeoutMs although pulses arrive. -/
def execLockMoveTimeout (s : State) : Host.Outcome State Fault Refusal :=
  done (guarded s.lck.moving.isSome
    (lockFault 0) s)

/-- The hall sensor is present while HALL_PWR draws 1 mA to 20 mA (R215). -/
def hallPresent (microamps : BitVec 16) : Bool := 1000 ≤ microamps.toNat && microamps.toNat ≤ 20000

/-- The sensor is absent (R223, R224, R569): a fault in a move; while locked, LOCK_FB_LOST and the session continues, unless LOCKED has
been lost too. -/
def hallLost (s : State) : State :=
  let s := { s with lck := { s.lck with hallOk := false, hallKnown := true } }
  if !lockFitted s then s
  else if s.lck.moving.isSome then lockFault 2 s
  else if s.lck.state = 2 then
    if !s.lck.limLocked then lockFault 2 s
    else if s.lck.faults.getLsbD 2 then s
    else logEvent (.lockFault 4) { s with lck := { s.lck with faults := setBit s.lck.faults 2 }, ses := { s.ses with lockExcused := true } }
  else s

/-- HALL_SENSOR_ABSENT (R215): the measured current of HALL_PWR, a result of list S (R289), says whether the sensor is present. -/
def execHallSensorAbsent (microamps : BitVec 16) (s : State) : Host.Outcome State Fault Refusal :=
  done (guarded (isUp s .tmr && adcRuns s)
    (fun s => if hallPresent microamps then { s with lck := { s.lck with hallOk := true, hallKnown := true } } else hallLost s) s)

/-- UNLOCK_AFTER_STATE_A (R217): never under a lock fault (R225). -/
def execUnlockAfterStateA (s : State) : Host.Outcome State Fault Refusal :=
  done (guarded (s.ses.unlockWaits && s.plt.state == .a && !s.safe.active && s.lck.faults == 0)
    (fun s => commandMove false { s with ses := { s.ses with unlockWaits := false } }) s)

/-- Homing at start is skipped when no lock is declared, or over a locked cable with a grant that waits since a reset cut its session (R92).
A grant that still waits from an earlier start, whose cut session a release has settled since, skips it no more: DEDUCED. -/
def homingSkipped (s : State) : Bool :=
  !lockFitted s || (s.ses.grant.isSome && s.pwr.sessionCut && bandValid s && s.lck.limLocked)

/-- LOCK_HOMING (R92): the motor is driven towards UNLOCKED, or homing is skipped and leaves the lock locked. -/
def execLockHoming (s : State) : Host.Outcome State Fault Refusal :=
  done (guarded (s.pwr.settingsRestored && s.safe.startHold && !s.pwr.homingStarted && !s.pwr.loaderState && isUp s .tmr
      && s.safe.sealAccepted && !s.pwr.brown.active) (fun s =>
    let s := { s with pwr := { s.pwr with homingStarted := true } }
    if homingSkipped s then
      { s with
        pwr := { s.pwr with homingDone := true }, boot := { s.boot with homingSkipped := true }
        lck := if lockFitted s then { s.lck with state := 2 } else s.lck }
    else beginMove false { s with lck := { s.lck with homing := true } }) s)

end Sys2Proof.Machine
end

