-- ==== Sys2Proof/Machine/Metrology.lean ====
section
/-! DEFINITION. The metrology family (12): the end of a metrology period and of a half-cycle, the METER_LED pulses. -/

namespace Sys2Proof.Machine

/-- The results of the three phases of a period of t units of 100 ns; a phase that SW5 does not declare gives 0 (R292, R294). -/
def periodResults (t : Nat) (s : State) : List PhaseResult :=
  [0, 1, 2].map fun p => if (phases s).contains p then phaseResult s.met p t else ⟨0, 0, 0, 0, 0⟩

/-- One phase's energies, in parts of 1 / d mWh, go to its accumulators (R298): import under the code of the period, reverse, reactive. -/
def accumulate (d p : Nat) (r : PhaseResult) (m : Met) : Met :=
  let k := 4 * p + m.code.toNat
  let i := addEnergy (m.eimp.toList.getD k 0) (m.eimpRes.toList.getD k {}) r.active.toNat d
  let e := addEnergy (m.erev.toList.getD p 0) (m.erevRes.toList.getD p {}) (-r.active).toNat d
  let q := addEnergy (m.evar.toList.getD p 0) (m.evarRes.toList.getD p {}) r.reactive d
  { m with
    eimp := m.eimp.setIfInBounds k i.1, eimpRes := m.eimpRes.setIfInBounds k i.2
    erev := m.erev.setIfInBounds p e.1, erevRes := m.erevRes.setIfInBounds p e.2
    evar := m.evar.setIfInBounds p q.1, evarRes := m.evarRes.setIfInBounds p q.2 }

/-- The positive energies of a period (R299, R301). -/
def positiveSum (l : List PhaseResult) : Nat := (l.map fun r => r.active.toNat).foldl (· + ·) 0

/-- The pulse accumulator takes a period's energy of e / d mWh, of which 10^6 / C owe one pulse (R301); a new C clears it and the queue. -/
def ledEnergy (e d : Nat) (m : Met) : Met :=
  if m.calNext.ledConstant != m.cal.ledConstant then { m with ledAcc := {}, ledOwed := 0 }
  else
    let a := m.ledAcc.carry (m.cal.ledConstant.toNat * e) (d * 10 ^ 6)
    { m with ledAcc := a.2, ledOwed := m.ledOwed + a.1 }

/-- The frequency and its validity (R296). -/
def frequency (t : BitVec 18) (m : Met) : Met :=
  let good := 153800 ≤ t.toNat && t.toNat ≤ 222200 && !m.mainsLoss
  let n := if good then min 2 (m.goodPeriods + 1) else 0
  { m with
    goodPeriods := n, freqValid := n == 2, period := t
    freq := if n = 2 then BitVec.ofNat 32 (65536 * 10000000 / t.toNat) else 0 }

/-- The measured values of a period (R294, R297); a period without samples leaves those of the last completed one. -/
def measured (l : List PhaseResult) (m : Met) : Met :=
  let at? (p : Nat) : PhaseResult := l.getD p ⟨0, 0, 0, 0, 0⟩
  if m.samples.isEmpty then m
  else { m with
    vRms := Vector.ofFn fun p => BitVec.ofNat 32 (at? p.val).vRms
    iRms := Vector.ofFn fun c => BitVec.ofNat 32 (if c.val = 3 then neutralRms m else (at? c.val).iRms)
    power := Vector.ofFn fun p => ofInt 32 (Int.tdiv (at? p.val).power (2 ^ 20)) }

/-- The grant table's line after more session energy (R351). -/
def tableTail (d : Nat) (s : State) : State :=
  { s with ses := { s.ses with table := s.ses.table.map fun x =>
      if x.grantId == s.ses.grantId then { x with remaining := BitVec.ofNat 32 (x.remaining.toNat - d) } else x } }

/-- A session that ended in this period: its whole energy stands in its record (R299, R324). -/
def recordTail (s : State) : State :=
  let b := s.bil
  let fill (r : Record) : Record := { r with sessionWh := s.ses.energyWh }
  if b.openRec.stop != 0 then { s with bil := { b with openRec := fill b.openRec } }
  else { s with bil := { b with
    closed := b.closed.take (b.closed.length - b.closedFresh)
      ++ (b.closed.drop (b.closed.length - b.closedFresh)).map fun r => if r.stop != 0 then fill r else r } }

/-- Gates that may still conduct: Make, Charging, and Break until its first step is complete (R299). -/
def conducting (s : State) : Bool :=
  s.ses.phase == .make || s.ses.phase == .charging || (s.ses.phase == .break && s.ses.breakStep = 1)

/-- Session energy takes a period that counts, of e / d mWh (R299, R351). -/
def sessionEnergy (e d : Nat) (s : State) : State :=
  if !s.ses.counting then s
  else
    let x := addEnergy s.met.session s.met.sessionRes e d
    let before := s.ses.energyWh.toNat
    let wh := x.1.toNat / 1000
    let s := { s with
      met := { s.met with session := x.1, sessionRes := x.2 }
      ses := { s.ses with energyWh := BitVec.ofNat 32 wh, counting := conducting s } }
    let s := tableTail (wh - before) s
    if s.ses.stopMarked || !sessionOn s then recordTail s else s

/-- Reverse flow in a session (R298): its first period sets REVERSE and is logged. -/
def noteReverse (l : List PhaseResult) (s : State) : State :=
  if l.any (fun r => r.active < 0) && sessionOn s && !s.met.reverse then logEvent .reverse { s with met := { s.met with reverse := true } }
  else s

/-- The cap and the expiry are judged (R32, R351, R352). -/
def judgeGrant (s : State) : State :=
  match s.ses.grant with
  | none => s
  | some g =>
    if s.ses.inUse then
      let s := if remainingWh s = 0 then stopSession 2 s else s
      if grantExpired s g then stopSession 3 s else s
    else if grantExpired s g then refreshAllowed (logEvent .grantDiscarded { s with ses := { s.ses with grant := none } })
    else s

/-- The next period starts (R305, R311, R312): its code, the sub-interval, the calibration constants. -/
def nextPeriod (s : State) : State :=
  let s := applyCode { s with
    met := { s.met with
      periodStart := s.bil.clock, cal := s.met.calNext, samples := []
      skewCorr := s.met.skewNow, skewNow := pairBorrowed s, threePhase := threePhase s, gap := !adcRuns s } }
  let s := noteCodes s
  { s with bil := { s.bil with trustFresh := false }, ses := { s.ses with stopFresh := false } }

/-- The time that a period's samples cover, in 100 ns: all of it, or in a period in which ADC was out of service, what they take
themselves, so that nothing is accumulated over its absence (R308). -/
def coveredTime (t : Nat) (m : Met) : Nat := if m.gap then samplesSpan m else t

/-- The end of a metrology period (R294, R298, R299, R320). -/
def periodEnd (t : BitVec 18) (s : State) : State :=
  let d := energyDen s.met.samples.length
  let l := periodResults (coveredTime t.toNat s.met) s
  let e := positiveSum l
  let m := l.zipIdx.foldl (fun m x => if (phases s).contains x.2 then accumulate d x.2 x.1 m else m) (measured l s.met)
  let m := ledEnergy e d (frequency t m)
  let s := sessionEnergy e d { s with met := { m with valid := adcRuns s && !s.met.gap } }
  let s := judgeGrant (noteReverse l (completeClosed s))
  nextPeriod { s with plc := { s.plc with mainsRef := isUp s .plc && s.met.freqValid } }

/-- METROLOGY_PERIOD_END (R294). -/
def execMetrologyPeriodEnd (period : BitVec 18) (s : State) : Host.Outcome State Fault Refusal :=
  done (guarded (isUp s .met && period != 0) (periodEnd period) s)

/-- A half-cycle RMS voltage below the loss threshold (R94): mean v² against its square, without rounding. -/
def belowLoss (s : State) (h : HalfSum) : Bool :=
  h.v2 * 250000 * 10 ^ 6 < h.n * 2 ^ 62 * (setting? s 9 0x50 * setting? s 9 0x51) ^ 2

/-- Mains loss is declared (R94, R95, R296); the line link's phase runs free (R390). -/
def declareLoss (s : State) : State :=
  if s.met.mainsLoss then s
  else recompute { s with
    met := { s.met with mainsLoss := true, freqValid := false, freq := 0, goodPeriods := 0 }, plc := { s.plc with mainsRef := false } }

/-- A half-cycle RMS voltage at or above the loss threshold plus 50 ‰ (R94). -/
def aboveRestore (s : State) (h : HalfSum) : Bool :=
  h.n * 2 ^ 62 * (setting? s 9 0x50 * (setting? s 9 0x51 + 50)) ^ 2 ≤ h.v2 * 250000 * 10 ^ 6 && h.n != 0

/-- The voltage of phase p over one half-cycle (R94): two low ones in a row declare the loss. -/
def judgeVoltage (p : Nat) (h : HalfSum) (s : State) : State :=
  let n := if belowLoss s h then min 2 (s.live.lowHalves.toList.getD p 0 + 1) else 0
  let s := { s with live := { s.live with
    lowHalves := s.live.lowHalves.setIfInBounds p n, highHalf := s.live.highHalf.setIfInBounds p (aboveRestore s h) } }
  if n = 2 then declareLoss s else s

/-- The level of R255 before its factor 1.20, in 0.1 A: the lesser of the seal code and the cable rating. -/
def overLevel (s : State) : Nat :=
  match bandDeciA (cableNow s) with
  | some c => min (sealAmps s * 10) c
  | none => sealAmps s * 10

/-- A half-cycle RMS current above 1.20 times a level in 0.1 A (R255), without rounding. -/
def overCurrent (level : Nat) (h : HalfSum) : Bool := h.n * 2 ^ 62 * 144 * level ^ 2 < h.i2 * 62500 * 10 ^ 4

/-- The half-cycle RMS current in 0.1 A. -/
def halfDeciA (h : HalfSum) : Nat := if h.n = 0 then 0 else isqrt (h.i2 * 62500 * 100 / (h.n * 2 ^ 62))

/-- The current of conductor c over one half-cycle (R255): the twentieth in a row is reported. -/
def judgeCurrent (c : Nat) (h : HalfSum) (s : State) : State :=
  let k := s.live.overCounts.toList.getD c 0
  let n := if overCurrent (overLevel s) h then min 20 (k + 1) else 0
  let i := BitVec.ofNat 16 (min 65535 (halfDeciA h))
  let s := { s with live := { s.live with
    overCounts := s.live.overCounts.setIfInBounds c n
    halfDeciA := s.live.halfDeciA.setIfInBounds c i } }
  if n = 20 && k < 20 then report 0x106 s else s

/-- The sums of conductor c. -/
def halfOf (s : State) (c : Nat) : HalfSum := s.met.half.toList.getD c {}

/-- The next half-cycle of conductor c begins. -/
def clearHalf (c : Nat) (s : State) : State := { s with met := { s.met with half := s.met.half.setIfInBounds c {} } }

/-- The end of a half-cycle of phase p (R295); L1's half-cycles serve the neutral too. -/
def halfCycle (p : Nat) (s : State) : State :=
  let s := judgeCurrent p (halfOf s p) (judgeVoltage p (halfOf s p) s)
  let s := clearHalf p s
  if p = 0 then clearHalf 3 (judgeCurrent 3 (halfOf s 3) s) else s

/-- HALF_CYCLE_END (R295). -/
def execHalfCycleEnd (phase : Phase3) (s : State) : Host.Outcome State Fault Refusal :=
  done (guarded (isUp s .met && (phases s).contains (phaseNum phase)) (halfCycle (phaseNum phase)) s)

/-- METER_LED_PULSE (R301): an owed pulse starts. -/
def execMeterLedPulse (s : State) : Host.Outcome State Fault Refusal :=
  done (guarded (isUp s .met && s.met.ledOwed != 0 && !s.met.ledOn && !s.pwr.brown.active)
    (fun s => { s with met := { s.met with ledOn := true, ledOwed := s.met.ledOwed - 1 } }) s)

/-- METER_LED_PULSE_END (R301). -/
def execMeterLedPulseEnd (s : State) : Host.Outcome State Fault Refusal :=
  done { s with met := { s.met with ledOn := false } }

end Sys2Proof.Machine
end

