-- ==== Sys2Proof/Machine/Network.lean ====
section
/-! DEFINITION. The segment network and the field port (16): repeats, relayed ACKs, beacons, curtailment, wake windows, telemetry. -/

namespace Sys2Proof.Machine

/-- REPEAT (R396, R397): access for the oldest waiting repeat begins, or the repeat defers while the medium is not idle. -/
def execRepeatFrame (s : State) : Host.Outcome State Fault Refusal :=
  match s.plc.repeats with
  | [] => done s
  | f :: _ => done (guarded (isUp s .plc) (fun s => beginAccess (updateFrame { f with placed := false } s)) s)

/-- ACK_RELAY (R398): without access, to the SRC from which the frame came. -/
def execAckRelay (s : State) : Host.Outcome State Fault Refusal :=
  match s.plc.relays with
  | [] => done s
  | a :: r => done (sendAckNow a { s with plc := { s.plc with relays := r } })

/-- RELAYED_WINDOW_END (R399). -/
def execRelayedWindowEnd (s : State) : Host.Outcome State Fault Refusal :=
  match s.plc.ackWindow with
  | none => done s
  | some f => done (guarded s.plc.relayed (fun s => beginAccess (nextAttempt f s)) s)

/-- BEACON (R401): a copy of TYPE 010b whose payload is no curtailment message. -/
def execBeacon (c : Copy) (clockAtStart : Time) (s : State) : Host.Outcome State Fault Refusal :=
  done (guarded ((parseFch c.fch).type == 2 && c.payload.length != 20) (receiveCopy c clockAtStart) s)

/-- The frame of a repeater's beacon copy: the copy's FCH with HOPS one less (R402, R396). -/
def beaconFrame (x : Bytes × Bytes) : OutFrame :=
  let h := parseFch x.1
  { prio := BitVec.ofNat 2 h.prio, type := 2, dst := h.dst, orig := h.orig, fid := h.fid, hops := BitVec.ofNat 3 (h.hops - 1)
    attempt := h.attempt, copiesLeft := 0, firstMode := modeOf h.mode, payload := x.2, isNotify := false, resent := false, sent := true
    placed := false, repeats := true, ackReq := false }

/-- The paths of a beacon copy that can carry it now; band C must be free (R402, R413). -/
def beaconPaths (s : State) : List Path :=
  (linkPaths s (beaconFrame ([], []))).filter fun p => pathReady s p && !(p == .line && s.plc.bandC && s.plc.busy)

/-- BEACON_REPEAT (R402): R_OFF after the start of the received copy, without access. -/
def execBeaconRepeat (s : State) : Host.Outcome State Fault Refusal :=
  match s.net.beaconCopy with
  | none => done s
  | some x =>
    let f := beaconFrame x
    let ps := beaconPaths s
    done (guarded (isUp s .plc && s.plc.tx.isNone) (fun s =>
      let s := deferAccess { s with net := { s.net with beaconCopy := none } }
      if ps.isEmpty then s else putOn ps f f.firstMode (headerOf s f) s) s)

/-- CURTAILMENT_MESSAGE (R405): a copy of TYPE 010b with the payload of 20 bytes. -/
def execCurtailmentMessage (c : Copy) (s : State) : Host.Outcome State Fault Refusal :=
  done (guarded ((parseFch c.fch).type == 2 && c.payload.length == 20) (fun s => receiveCopy c (copyStart s c) s) s)

/-- CURTAILMENT_LAPSE (R405). -/
def execCurtailmentLapse (s : State) : Host.Outcome State Fault Refusal :=
  done (guarded (s.net.curtail != 0xFFFF) (setCurtail 0xFFFF) s)

/-- WAKE_WINDOW_OPEN (R406, R407): the wake of Table 16-4 by PENDING or WAKE_ALL ends here. -/
def execWakeWindowOpen (s : State) : Host.Outcome State Fault Refusal :=
  done (guarded (isUp s .plc && s.net.sync.toNat < 2) (fun s =>
    { s with net := { s.net with windowOpen := true, gotBeacon := false, pendingForUs := false, preamble := false, closeDue := false } }) s)

/-- WAKE_WINDOW_CLOSE (R407, R409): a copy whose preamble began inside the window keeps it open until the copy ends. -/
def execWakeWindowClose (s : State) : Host.Outcome State Fault Refusal :=
  done (guarded s.net.windowOpen (fun s =>
    if s.plc.busy && s.net.preamble && !s.net.gotBeacon then { s with net := { s.net with closeDue := true } } else closeWindow s) s)

/-- TELEMETRY_HANDOVER (R410, R480, R481): one P2 NOTIFY to node 0 with the values of the pass. -/
def execTelemetryHandover (s : State) : Host.Outcome State Fault Refusal :=
  match s.bgd.snapshot with
  | none => done s
  | some p =>
    done (guarded (s.bgd.snapshotDue && isUp s .plc && isUp s .seq) (fun s =>
      let n := s.od.out.length
      let s := notifyNode0 2 p { s with bgd := { s.bgd with snapshot := none, snapshotDue := false } }
      match s.od.out.drop n with
      | [] => s
      | o :: _ => handOver ⟨2, 0, o.bytes, true⟩ { s with od := { s.od with out := s.od.out.take n } }) s)

/-- The copy that a wire image carries (R411): sync bytes, FCH, payload and FCS; none where it is malformed. -/
def wireCopy (b : Bytes) : Option Copy :=
  let f := slice 2 10 b
  let n := (parseFch f).len
  let rest := b.drop 12
  if b.take 2 != [0x55#8, 0xD5#8] || b.length < 12 then none
  else if !crc8Ok f then some ⟨.field, f, [], []⟩
  else if n = 0 then (if rest.isEmpty then some ⟨.field, f, [], []⟩ else none)
  else if rest.length = n + 4 then some ⟨.field, f, rest.take n, rest.drop n⟩
  else none

/-- FRAMING counts a copy that was aborted or malformed (Table 16-7). -/
def countFraming (s : State) : State := { s with net := { s.net with fpFraming := satInc s.net.fpFraming } }

/-- FIELD_PORT_COPY (R411, R413). -/
def execFieldPortCopy (wire : Bytes) (s : State) : Host.Outcome State Fault Refusal :=
  match wireCopy wire with
  | none => done (guarded (receives s .field) countFraming s)
  | some c => done (receiveCopy c (copyStart s c) s)

/-- FIELD_PORT_GAP_ABORT (R411). -/
def execFieldPortGapAbort (s : State) : Host.Outcome State Fault Refusal := done (guarded (receives s .field) countFraming s)

/-- READ_BACK_ABORT (R412): the copy on the wire is cut; one on the line goes on. -/
def execReadBackAbort (s : State) : Host.Outcome State Fault Refusal :=
  done (guarded (s.plc.tx.isSome && s.plc.txPaths.contains .field) (fun s =>
    if s.plc.txPaths.contains .line then { s with plc := { s.plc with txPaths := [.line] } } else copyCut s) s)

/-- FIELD_PORT_BUSY_LOG (R419): once until the port is next idle. -/
def execFieldPortBusyLog (s : State) : Host.Outcome State Fault Refusal :=
  done (guarded (isUp s .plc && s.plc.linkPath != 0 && !s.net.fpBusyLogged) (fun s =>
    logEvent .fieldPortBusy { s with net := { s.net with fpBusyLogged := true } }) s)

end Sys2Proof.Machine
end

