-- ==== Sys2Proof/Machine/SelfTest.lean ====
section
/-! DEFINITION. Running the self-tests (20): the loopback and reference tests, held requests, and the scan phase of a BIST run. -/

namespace Sys2Proof.Machine

/-- The condition under which test k runs (Table 20-1, R494 to R497). -/
def testMayRun (k : Nat) (s : State) : Bool :=
  if k = 1 then s.plt.state == .a && !inSession s && isUp s .tmr
  else if k = 2 then isUp s .adc
  else if k = 3 then windingMay s
  else if k = 4 then isUp s .plc && !s.plc.busy && !linkBusy s && !s.plc.spanHold && s.sup.vldOk
  else isUp s .aud && !s.aud.latched && s.aud.released && s.aud.playing.isNone && s.aud.queue.isEmpty

/-- The converters of R495 that failed both input-12 readings, by bits 4 to 7, count as two failed reference checks each. -/
def referenceTest (items : BitVec 12) (s : State) : State :=
  let judge (n : Nat) (c : Converter) (s : State) : State :=
    if items.getLsbD (n + 4) then refChecked n c false (refChecked n c false s) else s
  judge 3 .a3 (judge 2 .a2 (judge 1 .a1 (judge 0 .a0 s)))

/-- Test k has run (R494 to R497): bit 11 of items says that R502 aborted it, noLoad is outcome 4 of code 05h. -/
def testRan (k : Nat) (items : BitVec 12) (noLoad : Bool) (s : State) : State :=
  let shown := if k = 5 then 0 else if k = 2 then items.toNat % 16 else items.toNat % 4
  let aborted := items.getLsbD 11 && (k = 1 || k = 5)
  if aborted then testEnds k 3 0 s
  else if k = 5 && noLoad then testEnds k 4 0 s
  else
    let s := if k = 2 then referenceTest items s else s
    testEnds k (if items.toNat % 16 = 0 then 0 else 1) shown s

/-- LOOPBACK_TEST_RUN (R491): the test that is due runs if its condition holds. Code 05h ends with outcome 2 while the stage is latched
off (R497); code 03h begins the test-winding check. -/
def execLoopbackTestRun (items : BitVec 12) (noLoad : Bool) (s : State) : Host.Outcome State Fault Refusal :=
  let k := testDue s
  done (guarded (isUp s .seq && k != 0) (fun s =>
    if k = 5 && s.aud.latched then testEnds 5 2 0 s
    else if !testMayRun k s then s
    else if k = 3 then windingBegins s
    else testRan k items noLoad s) s)

/-- SELF_TEST_CONDITION_TIMEOUT (R491): 60 s passed without the condition. -/
def execSelfTestConditionTimeout (s : State) : Host.Outcome State Fault Refusal :=
  let k := testDue s
  done (guarded (isUp s .seq && k != 0 && !testMayRun k s && !(k == 3 && s.rcd.windingRun)) (testEnds k 2 0) s)

/-- Whether a held request may start (R490, R503). -/
def heldMayStart (s : State) (code : Byte) : Bool :=
  !inSession s && (!isBist code || (s.lck.moving.isNone && s.lck.queued.isNone && !safeInForce s))

/-- HELD_SELF_TEST_START (R490, R503). -/
def execHeldSelfTestStart (s : State) : Host.Outcome State Fault Refusal :=
  match s.tst.held with
  | none => done s
  | some code =>
    done (guarded (isUp s .seq && heldMayStart s code) (fun s =>
      let s := { s with tst := { s.tst with held := none } }
      if isBist code then bistFirstReset code (setOutcome code 6 0 s) else beginTest code s) s)

/-- The reference signature of an island in the running manifest (R499, R506): none where it cannot be read. -/
def referenceSignature (s : State) (i : Island) : Option Word :=
  match s.fw.manifest with
  | .shipped => some (Config.goodSignature (islandNum i))
  | .bytes b => some (BitVec.ofNat 32 (fieldLe (0x14 + 4 * (islandNum i - 2)) 4 b))
  | .blank => none

/-- The scan phase begins (R343, R498 item 3): secrets are cleared and SCAN_LOCK is set. -/
def scanBegins (s : State) : State :=
  { s with
    tst := { s.tst with scanning := true }
    sec := { s.sec with scanLock := true, ctx := .none, yew := [], usesLeft := 0, jobs := [], wait := false, mirrorNonce := none }
    od := { s.od with session := none } }

/-- March, scan and reload of one island (R499): its STATE reads 001b until it is back, with its loadable content reloaded. -/
def bistOne (i : Island) (marchPass : Bool) (signature : Word) (s : State) : State :=
  let n := islandNum i
  let good := referenceSignature s i == some signature
  let s := leaveQuietly i .resetting s
  let s := setPort s i { port s i with reloadAtReturn := true }
  { s with tst := { s.tst with
    island := BitVec.ofNat 4 n, awaiting := some i, todo := s.tst.todo.drop 1, misr := signature
    memFail := if marchPass then s.tst.memFail else setBit s.tst.memFail n
    logicFail := if good then s.tst.logicFail else setBit s.tst.logicFail n } }

/-- BIST_ISLAND (R499): the next island of the run; the first one begins the scan phase where the start hold would be released. -/
def execBistIsland (marchPass : Bool) (signature : Word) (s : State) : Host.Outcome State Fault Refusal :=
  match s.tst.todo with
  | [] => done s
  | i :: _ =>
    done (guarded (s.tst.awaiting.isNone && (s.tst.scanning || (s.tst.bistBoot && startReady s))) (fun s =>
      bistOne i marchPass signature (if s.tst.scanning then s else scanBegins s)) s)

/-- BIST_ISLAND_NOT_RETURNED (R505): the island counts as failed in both masks, and the run continues. -/
def execBistIslandNotReturned (s : State) : Host.Outcome State Fault Refusal :=
  match s.tst.awaiting with
  | none => done s
  | some i =>
    let n := islandNum i
    done (bistNext { s with tst := { s.tst with memFail := setBit s.tst.memFail n, logicFail := setBit s.tst.logicFail n } })

end Sys2Proof.Machine
end

