-- ==== Sys2Proof/Machine/Dispatch.lean ====
section
/-! DEFINITION. The dispatch of commands: one arm for each constructor of Instr, each a direct call of its meaning. -/

namespace Sys2Proof.Machine

/-- The effect of a command on everything but the queue. -/
def exec (i : Instr) (s : State) : Host.Outcome State Fault Refusal :=
  match i with
  | .fabricRead r => Sys2Proof.Machine.execFabricRead r s
  | .fabricWrite r => Sys2Proof.Machine.execFabricWrite r s
  | .writePosted r => Sys2Proof.Machine.execWritePosted r s
  | .fence src r => Sys2Proof.Machine.execFence src r s
  | .fabricReOpen r => Sys2Proof.Machine.execFabricReOpen r s
  | .completion src => Sys2Proof.Machine.execCompletion src s
  | .heldRequestAccept src => Sys2Proof.Machine.execHeldRequestAccept src s
  | .islandReset island => Sys2Proof.Machine.execIslandReset island s
  | .islandReload island => Sys2Proof.Machine.execIslandReload island s
  | .islandPowerDown island => Sys2Proof.Machine.execIslandPowerDown island s
  | .islandPowerUp island => Sys2Proof.Machine.execIslandPowerUp island s
  | .islandSelect island => Sys2Proof.Machine.execIslandSelect island s
  | .clockLost isl => Sys2Proof.Machine.execClockLost isl s
  | .islandReturn isl => Sys2Proof.Machine.execIslandReturn isl s
  | .snapshotTimeout src addr => Sys2Proof.Machine.execSnapshotTimeout src addr s
  | .heldWriteDiscard src addr => Sys2Proof.Machine.execHeldWriteDiscard src addr s
  | .lossClr mask => Sys2Proof.Machine.execLossClr mask s
  | .peakClr => Sys2Proof.Machine.execPeakClr s
  | .hostReopen mask => Sys2Proof.Machine.execHostReopen mask s
  | .reopenRetry => Sys2Proof.Machine.execReopenRetry s
  | .porSupply => Sys2Proof.Machine.execPorSupply s
  | .aonStartFromNothing => Sys2Proof.Machine.execAonStartFromNothing s
  | .resetn lowNs => Sys2Proof.Machine.execResetn lowNs s
  | .vddcOutOfRange => Sys2Proof.Machine.execVddcOutOfRange s
  | .supplyRailLow rail => Sys2Proof.Machine.execSupplyRailLow rail s
  | .supplyRailRestored rail => Sys2Proof.Machine.execSupplyRailRestored rail s
  | .resetRelease => Sys2Proof.Machine.execResetRelease s
  | .xtalRetry stable => Sys2Proof.Machine.execXtalRetry stable s
  | .islandBootUp isl => Sys2Proof.Machine.execIslandBootUp isl s
  | .imageCheck => Sys2Proof.Machine.execImageCheck s
  | .settingsRestore => Sys2Proof.Machine.execSettingsRestore s
  | .lockHoming => Sys2Proof.Machine.execLockHoming s
  | .startHoldRelease => Sys2Proof.Machine.execStartHoldRelease s
  | .brownOut onset => Sys2Proof.Machine.execBrownOut onset s
  | .pfailRelease => Sys2Proof.Machine.execPfailRelease s
  | .vdd3Recovered => Sys2Proof.Machine.execVdd3Recovered s
  | .pfailHoldLog => Sys2Proof.Machine.execPfailHoldLog s
  | .xtalStop => Sys2Proof.Machine.execXtalStop s
  | .mainsRestore => Sys2Proof.Machine.execMainsRestore s
  | .mainsPresentAtStart => Sys2Proof.Machine.execMainsPresentAtStart s
  | .restart rq value => Sys2Proof.Machine.execRestart rq value s
  | .heldResetRelease => Sys2Proof.Machine.execHeldResetRelease s
  | .commit => Sys2Proof.Machine.execCommit s
  | .configRevert rq value => Sys2Proof.Machine.execConfigRevert rq value s
  | .pduReceive d => Sys2Proof.Machine.execPduReceive d s
  | .odRead => Sys2Proof.Machine.execOdRead s
  | .odWrite => Sys2Proof.Machine.execOdWrite s
  | .readBlock => Sys2Proof.Machine.execReadBlock s
  | .writeBlock => Sys2Proof.Machine.execWriteBlock s
  | .subscribe => Sys2Proof.Machine.execSubscribe s
  | .notify mailbox addrs => Sys2Proof.Machine.execNotify mailbox addrs s
  | .subscriptionLapse mailbox addr => Sys2Proof.Machine.execSubscriptionLapse mailbox addr s
  | .blockTransferTimeout addr => Sys2Proof.Machine.execBlockTransferTimeout addr s
  | .blockSnapshotTimeout mailbox => Sys2Proof.Machine.execBlockSnapshotTimeout mailbox s
  | .sessionToken rq token => Sys2Proof.Machine.execSessionToken rq token s
  | .sessionInactivityEnd => Sys2Proof.Machine.execSessionInactivityEnd s
  | .sessionExpiry => Sys2Proof.Machine.execSessionExpiry s
  | .timeSet rq bytes => Sys2Proof.Machine.execTimeSet rq bytes s
  | .sessionStop rq value => Sys2Proof.Machine.execSessionStop rq value s
  | .grant rq bytes => Sys2Proof.Machine.execGrant rq bytes s
  | .grantDiscard rq value => Sys2Proof.Machine.execGrantDiscard rq value s
  | .lockFaultClear rq value => Sys2Proof.Machine.execLockFaultClear rq value s
  | .safeStateRelease rq value => Sys2Proof.Machine.execSafeStateRelease rq value s
  | .audioFaultClear rq value => Sys2Proof.Machine.execAudioFaultClear rq value s
  | .promptTest rq prompt => Sys2Proof.Machine.execPromptTest rq prompt s
  | .mirrorNonce rq nonce => Sys2Proof.Machine.execMirrorNonce rq nonce s
  | .mirrorStatementReady => Sys2Proof.Machine.execMirrorStatementReady s
  | .fwActivate rq value => Sys2Proof.Machine.execFwActivate rq value s
  | .coppiceSuspend rq value => Sys2Proof.Machine.execCoppiceSuspend rq value s
  | .coppiceEnable rq value => Sys2Proof.Machine.execCoppiceEnable rq value s
  | .linkReload => Sys2Proof.Machine.execLinkReload s
  | .displayModeReload => Sys2Proof.Machine.execDisplayModeReload s
  | .pilotPeriodStart => Sys2Proof.Machine.execPilotPeriodStart s
  | .measurementWindow positive mv => Sys2Proof.Machine.execMeasurementWindow positive mv s
  | .pilotFaultHoldEnd => Sys2Proof.Machine.execPilotFaultHoldEnd s
  | .proximityRead code => Sys2Proof.Machine.execProximityRead code s
  | .overdrawLog phase => Sys2Proof.Machine.execOverdrawLog phase s
  | .proximityOutOfBandLog => Sys2Proof.Machine.execProximityOutOfBandLog s
  | .make killTestPass => Sys2Proof.Machine.execMake killTestPass s
  | .pullInElapsed => Sys2Proof.Machine.execPullInElapsed s
  | .auxInConfirmed closed => Sys2Proof.Machine.execAuxInConfirmed closed s
  | .zeroCrossing phase => Sys2Proof.Machine.execZeroCrossing phase s
  | .zeroCrossingTimeout phase => Sys2Proof.Machine.execZeroCrossingTimeout phase s
  | .auxCloseTimeout => Sys2Proof.Machine.execAuxCloseTimeout s
  | .zeroCurrentWindowEnd => Sys2Proof.Machine.execZeroCurrentWindowEnd s
  | .stuckOn => Sys2Proof.Machine.execStuckOn s
  | .auxOpenTimeout => Sys2Proof.Machine.execAuxOpenTimeout s
  | .readbackCheck gfb => Sys2Proof.Machine.execReadbackCheck gfb s
  | .interlockRelease => Sys2Proof.Machine.execInterlockRelease s
  | .interlockHoldTimeout => Sys2Proof.Machine.execInterlockHoldTimeout s
  | .economiserSample senseMa => Sys2Proof.Machine.execEconomiserSample senseMa s
  | .lockMove toLocked => Sys2Proof.Machine.execLockMove toLocked s
  | .limitTransition which within50 => Sys2Proof.Machine.execLimitTransition which within50 s
  | .limitConfirmed which closed => Sys2Proof.Machine.execLimitConfirmed which closed s
  | .lockBrakeEnd => Sys2Proof.Machine.execLockBrakeEnd s
  | .hallPulse => Sys2Proof.Machine.execHallPulse s
  | .hallTimeout => Sys2Proof.Machine.execHallTimeout s
  | .lockMoveTimeout => Sys2Proof.Machine.execLockMoveTimeout s
  | .hallSensorAbsent microamps => Sys2Proof.Machine.execHallSensorAbsent microamps s
  | .unlockAfterStateA => Sys2Proof.Machine.execUnlockAfterStateA s
  | .excitationHalfPeriod saturated peakMa => Sys2Proof.Machine.execExcitationHalfPeriod saturated peakMa s
  | .residualResult acUp dcUp => Sys2Proof.Machine.execResidualResult acUp dcUp s
  | .fastComparatorTrip fc tripped => Sys2Proof.Machine.execFastComparatorTrip fc tripped s
  | .comparatorTest fc pass => Sys2Proof.Machine.execComparatorTest fc pass s
  | .blindWindowEnd fc active => Sys2Proof.Machine.execBlindWindowEnd fc active s
  | .testWindingCheck => Sys2Proof.Machine.execTestWindingCheck s
  | .testWindingStepEnd fc0Responded => Sys2Proof.Machine.execTestWindingStepEnd fc0Responded s
  | .thresholdLoad => Sys2Proof.Machine.execThresholdLoad s
  | .safeWindow xtalCycles => Sys2Proof.Machine.execSafeWindow xtalCycles s
  | .islandHeartbeat isl advanced => Sys2Proof.Machine.execIslandHeartbeat isl advanced s
  | .sealRead phase1 phase2 phase3 => Sys2Proof.Machine.execSealRead phase1 phase2 phase3 s
  | .referenceCheck conv code => Sys2Proof.Machine.execReferenceCheck conv code s
  | .automaticRelease => Sys2Proof.Machine.execAutomaticRelease s
  | .safeReset => Sys2Proof.Machine.execSafeReset s
  | .evidenceFlush => Sys2Proof.Machine.execEvidenceFlush s
  | .listP positive drvMv edgeErrNs => Sys2Proof.Machine.execListP positive drvMv edgeErrNs s
  | .listM x => Sys2Proof.Machine.execListM x s
  | .listE code => Sys2Proof.Machine.execListE code s
  | .listS input conv code => Sys2Proof.Machine.execListS input conv code s
  | .userListTrigger k => Sys2Proof.Machine.execUserListTrigger k s
  | .go k => Sys2Proof.Machine.execGo k s
  | .userListComplete k values => Sys2Proof.Machine.execUserListComplete k values s
  | .windowConfigWrite w band value => Sys2Proof.Machine.execWindowConfigWrite w band value s
  | .captureStart ctrl => Sys2Proof.Machine.execCaptureStart ctrl s
  | .captureDone samples => Sys2Proof.Machine.execCaptureDone samples s
  | .calibrationRun conv => Sys2Proof.Machine.execCalibrationRun conv s
  | .calibrationDone conv reference trims => Sys2Proof.Machine.execCalibrationDone conv reference trims s
  | .borrow conv begins => Sys2Proof.Machine.execBorrow conv begins s
  | .metrologyPeriodEnd period => Sys2Proof.Machine.execMetrologyPeriodEnd period s
  | .halfCycleEnd phase => Sys2Proof.Machine.execHalfCycleEnd phase s
  | .meterLedPulse => Sys2Proof.Machine.execMeterLedPulse s
  | .meterLedPulseEnd => Sys2Proof.Machine.execMeterLedPulseEnd s
  | .tariffSample tariff0High tariff1High => Sys2Proof.Machine.execTariffSample tariff0High tariff1High s
  | .tariffDebounce => Sys2Proof.Machine.execTariffDebounce s
  | .rtcTick => Sys2Proof.Machine.execRtcTick s
  | .trustLost => Sys2Proof.Machine.execTrustLost s
  | .intervalBoundary => Sys2Proof.Machine.execIntervalBoundary s
  | .ledgerRecordWrite => Sys2Proof.Machine.execLedgerRecordWrite s
  | .heldRecordWrite => Sys2Proof.Machine.execHeldRecordWrite s
  | .cryptoJob => Sys2Proof.Machine.execCryptoJob s
  | .frameHandover h => Sys2Proof.Machine.execFrameHandover h s
  | .mediumIdle => Sys2Proof.Machine.execMediumIdle s
  | .accessSlot tone => Sys2Proof.Machine.execAccessSlot tone s
  | .bandCWaitEnd free => Sys2Proof.Machine.execBandCWaitEnd free s
  | .transmitEnd limited => Sys2Proof.Machine.execTransmitEnd limited s
  | .frameReceive c => Sys2Proof.Machine.execFrameReceive c s
  | .sendAck => Sys2Proof.Machine.execSendAck s
  | .ackWindowEnd => Sys2Proof.Machine.execAckWindowEnd s
  | .resendStart idle => Sys2Proof.Machine.execResendStart idle s
  | .queueAgeDrop prio index => Sys2Proof.Machine.execQueueAgeDrop prio index s
  | .limitAbort => Sys2Proof.Machine.execLimitAbort s
  | .shortHoldEnd => Sys2Proof.Machine.execShortHoldEnd s
  | .thermalShutdown => Sys2Proof.Machine.execThermalShutdown s
  | .thermalRecovery => Sys2Proof.Machine.execThermalRecovery s
  | .repeatFrame => Sys2Proof.Machine.execRepeatFrame s
  | .ackRelay => Sys2Proof.Machine.execAckRelay s
  | .relayedWindowEnd => Sys2Proof.Machine.execRelayedWindowEnd s
  | .beacon c clockAtStart => Sys2Proof.Machine.execBeacon c clockAtStart s
  | .beaconRepeat => Sys2Proof.Machine.execBeaconRepeat s
  | .curtailmentMessage c => Sys2Proof.Machine.execCurtailmentMessage c s
  | .curtailmentLapse => Sys2Proof.Machine.execCurtailmentLapse s
  | .wakeWindowOpen => Sys2Proof.Machine.execWakeWindowOpen s
  | .wakeWindowClose => Sys2Proof.Machine.execWakeWindowClose s
  | .telemetryHandover => Sys2Proof.Machine.execTelemetryHandover s
  | .fieldPortCopy wire => Sys2Proof.Machine.execFieldPortCopy wire s
  | .fieldPortGapAbort => Sys2Proof.Machine.execFieldPortGapAbort s
  | .readBackAbort => Sys2Proof.Machine.execReadBackAbort s
  | .fieldPortBusyLog => Sys2Proof.Machine.execFieldPortBusyLog s
  | .fill byHost => Sys2Proof.Machine.execFill byHost s
  | .copy byHost => Sys2Proof.Machine.execCopy byHost s
  | .asset byHost => Sys2Proof.Machine.execAsset byHost s
  | .rectWrite byHost => Sys2Proof.Machine.execRectWrite byHost s
  | .rectData pixels => Sys2Proof.Machine.execRectData pixels s
  | .rectangleInFlight => Sys2Proof.Machine.execRectangleInFlight s
  | .rectangleFinish seq afterWindow => Sys2Proof.Machine.execRectangleFinish seq afterWindow s
  | .writeRectTimeout afterWindow => Sys2Proof.Machine.execWriteRectTimeout afterWindow s
  | .displayCommit byHost buf afterWindow => Sys2Proof.Machine.execDisplayCommit byHost buf afterWindow s
  | .blanking => Sys2Proof.Machine.execBlanking s
  | .hostOwn value => Sys2Proof.Machine.execHostOwn value s
  | .ownerChange => Sys2Proof.Machine.execOwnerChange s
  | .pumpFault => Sys2Proof.Machine.execPumpFault s
  | .pumpRestart inRegulation => Sys2Proof.Machine.execPumpRestart inRegulation s
  | .promptStart => Sys2Proof.Machine.execPromptStart s
  | .promptEnd => Sys2Proof.Machine.execPromptEnd s
  | .audShort => Sys2Proof.Machine.execAudShort s
  | .shutdownEnd => Sys2Proof.Machine.execShutdownEnd s
  | .retriesReset => Sys2Proof.Machine.execRetriesReset s
  | .tick n => Sys2Proof.Machine.execTick n s
  | .topWrite n value => Sys2Proof.Machine.execTopWrite n value s
  | .cmpWrite n value => Sys2Proof.Machine.execCmpWrite n value s
  | .clr n => Sys2Proof.Machine.execClr n s
  | .runStart n => Sys2Proof.Machine.execRunStart n s
  | .runStop n => Sys2Proof.Machine.execRunStop n s
  | .capture n => Sys2Proof.Machine.execCapture n s
  | .captRead n => Sys2Proof.Machine.execCaptRead n s
  | .cfgWrite n value => Sys2Proof.Machine.execCfgWrite n value s
  | .scrubWord result => Sys2Proof.Machine.execScrubWord result s
  | .codeBlockCheck matched => Sys2Proof.Machine.execCodeBlockCheck matched s
  | .scrubLate => Sys2Proof.Machine.execScrubLate s
  | .logFlashWrite zone programmed => Sys2Proof.Machine.execLogFlashWrite zone programmed s
  | .erase zone erased => Sys2Proof.Machine.execErase zone erased s
  | .eraseDone zone => Sys2Proof.Machine.execEraseDone zone s
  | .wearCopy zone copyGood => Sys2Proof.Machine.execWearCopy zone copyGood s
  | .telemetrySnapshot => Sys2Proof.Machine.execTelemetrySnapshot s
  | .selfTestPilotLoopback rq queue => Sys2Proof.Machine.execSelfTestPilotLoopback rq queue s
  | .selfTestReference rq queue => Sys2Proof.Machine.execSelfTestReference rq queue s
  | .selfTestWinding rq queue => Sys2Proof.Machine.execSelfTestWinding rq queue s
  | .selfTestLineLoopback rq queue => Sys2Proof.Machine.execSelfTestLineLoopback rq queue s
  | .selfTestClassD rq queue => Sys2Proof.Machine.execSelfTestClassD rq queue s
  | .selfTestAll rq queue => Sys2Proof.Machine.execSelfTestAll rq queue s
  | .islandBist rq code queue => Sys2Proof.Machine.execIslandBist rq code queue s
  | .islandBistAll rq queue => Sys2Proof.Machine.execIslandBistAll rq queue s
  | .loopbackTestRun items noLoad => Sys2Proof.Machine.execLoopbackTestRun items noLoad s
  | .selfTestConditionTimeout => Sys2Proof.Machine.execSelfTestConditionTimeout s
  | .heldSelfTestStart => Sys2Proof.Machine.execHeldSelfTestStart s
  | .bistIsland marchPass signature => Sys2Proof.Machine.execBistIsland marchPass signature s
  | .bistIslandNotReturned => Sys2Proof.Machine.execBistIslandNotReturned s
  | .fwImageBlock rq first last offset total data => Sys2Proof.Machine.execFwImageBlock rq first last offset total data s
  | .loaderHandover => Sys2Proof.Machine.execLoaderHandover s
  | .streamStall => Sys2Proof.Machine.execStreamStall s
  | .writeFrame mode3 header words => Sys2Proof.Machine.execWriteFrame mode3 header words s
  | .readFrame mode3 header => Sys2Proof.Machine.execReadFrame mode3 header s
  | .frameCut read header words => Sys2Proof.Machine.execFrameCut read header words s
  | .mailboxGo len => Sys2Proof.Machine.execMailboxGo len s
  | .rspAck => Sys2Proof.Machine.execRspAck s
  | .ntfAck => Sys2Proof.Machine.execNtfAck s
  | .mailboxResponse => Sys2Proof.Machine.execMailboxResponse s
  | .registerWrite addr value => Sys2Proof.Machine.execRegisterWrite addr value s
  | .mediumBusy => Sys2Proof.Machine.execMediumBusy s
  | .fchDecode fch => Sys2Proof.Machine.execFchDecode fch s
  | .protectedSpanEnd => Sys2Proof.Machine.execProtectedSpanEnd s
  | .vbatLow mv => Sys2Proof.Machine.execVbatLow mv s
  | .rtcXtalStop => Sys2Proof.Machine.execRtcXtalStop s
  | .safeSelfFault => Sys2Proof.Machine.execSafeSelfFault s

end Sys2Proof.Machine
end

