-- ==== Sys2Proof/Machine/Pads.lean ====
section
/-! DEFINITION. What the output pads of the controller show (03, 08, 10, 15 to 17, 22): functions of the state and of the instant
within a frame, a seal read or a pilot period. No pad is a state of its own. -/

namespace Sys2Proof.Machine

/-- The level of a digital output pad. -/
inductive PadLevel where
  | low | high | hiZ
deriving DecidableEq, Repr

/-- A level that is driven. -/
def driven (b : Bool) : PadLevel := if b then .high else .low

/-- GATE_L1, GATE_L2, GATE_L3 and GATE_N, bits 0 to 3 (Table 3-3, 08, 09): the gate commands, held off while the kill latch is set. -/
def gatePads (s : State) : BitVec 4 := if padsHeld s || s.glt.kill then 0 else s.swg.gateCmd

/-- GKILLN (Table 3-3, 09): low while the kill latch is set. -/
def gkillnPad (s : State) : PadLevel := driven (!padsHeld s && !s.glt.kill)

/-- COIL_DRV is on for its duty (Table 3-3, R213). -/
def coilDriven (s : State) : Bool := !padsHeld s && s.swg.coilCmd

/-- The voltage that the pilot buffer is commanded to, in mV (R177, Table 3-3): high says in which part of a PWM period. -/
def pilotPadMv (s : State) (high : Bool) : Int := if padsHeld s || !isUp s .tmr then -12000 else commandedMv s high

/-- LOCK_AH, LOCK_AL, LOCK_BH and LOCK_BL of a drive code (Table 8-3). -/
def bridgeLevels : Drive → Bool × Bool × Bool × Bool
  | .free => (false, false, false, false)
  | .locking => (true, false, false, true)
  | .unlocking => (false, true, true, false)
  | .brake => (false, true, false, true)

/-- The four pads of the lock's H-bridge (R214, Table 3-3). -/
def lockPads (s : State) : Bool × Bool × Bool × Bool := bridgeLevels (if padsHeld s then .free else s.lck.drive)

/-- The codes that the bridge shows on the way from one code to another (R214): FREE for 2 µs between any two. -/
def bridgeSteps (a b : Drive) : List Drive := if a = b then [b] else if a = .free || b = .free then [a, b] else [a, .free, b]

/-- SEAL_PA and SEAL_PB in phase 1, 2 or 3 of a seal read (Table 10-4); low outside the reads and while the pulses are off (Table 3-3). -/
def sealPads (s : State) (phase : Nat) : PadLevel × PadLevel :=
  let on := s.safe.pulses && isUp s .safe && !padsHeld s
  (driven (on && phase = 1), driven (on && phase = 2))

/-- METER_LED (Table 3-3). -/
def meterLedPad (s : State) : PadLevel := driven (s.met.ledOn && !padsHeld s)

/-- HIRQ (R539, R546, Table 3-3): an open-drain output. -/
def hirqPad (s : State) : PadLevel := if hirqLow s then .low else .hiZ

/-- SPI_SO (R530, R546, R547): driven within a frame while HOST is in service. -/
def spiSoDriven (s : State) (selected : Bool) : Bool := selected && isUp s .host && !padsHeld s

/-- The line driver drives LD_OUTP and LD_OUTN (Table 3-3, R367): while it sends a copy on the line. -/
def lineDriven (s : State) : Bool := s.plc.drvOn && s.plc.tx.isSome && s.plc.txPaths.contains .line && !padsHeld s

/-- The regulated transmit level in mV RMS before attenuation (R369): 2.0 V in band A, 0.50 V in band C. -/
def lineLevelMv (s : State) : Nat := if s.plc.bandC then 500 else 2000

/-- The attenuation of the transmit level in dB, 0 to 15 (R369, Table 15-10). -/
def lineAttenuationDb (s : State) : Nat := s.plc.att.toNat

/-- FP_DE (R411): high while a copy is sent on the wire. -/
def fpDePad (s : State) : PadLevel := driven (s.plc.tx.isSome && s.plc.txPaths.contains .field && isUp s .plc && !padsHeld s)

/-- The class-D outputs switch (R84, R442, R450, Table 3-3): while they do not, both are held low. -/
def classDOn (s : State) : Bool :=
  isUp s .aud && s.aud.stageOn && s.aud.released && !s.aud.hold && !s.aud.latched && s.aud.playing.isSome && !padsHeld s

/-- PILOT_HF carries the high-frequency content of the pilot line, and is at 0 V otherwise (R190). -/
def pilotHfDriven (s : State) : Bool := isUp s .tmr && setting? s 8 2 == 1 && !padsHeld s

/-! ### The display pads (17) -/

/-- The use of a DPX pad (Table 17-1). -/
inductive DpxUse where
  | com (n : Nat)
  | seg (n : Nat)
  | col (n : Nat)
  | row (n : Nat)
  | unused
deriving DecidableEq, Repr

/-- The use of pad DPXk with a mode and a duty (R421, Table 17-1). -/
def dpxUse (pixelMode eighthDuty : Bool) (k : Nat) : DpxUse :=
  if pixelMode then
    (if k < 128 then .col k else if k < 176 then .row (k - 128) else .unused)
  else if k < (if eighthDuty then 8 else 4) then .com k
  else if 8 ≤ k ∧ k < 56 then .seg (k - 8)
  else .unused

/-- The pads drive the display: DRIVE_ON, with DISP in service and no pad held (Table 3-3, R421, R448, R449). -/
def dpxDriving (s : State) : Bool := isUp s .disp && s.disp.driveOn && !padsHeld s

/-- Pad DPXk is driven to 0 V: it has no use in the mode in force, or the pads do not drive the display (R421, R448). -/
def dpxAtZero (s : State) (k : Nat) : Bool := !dpxDriving s || dpxUse s.disp.pixelMode s.disp.duty k == .unused

/-- A pixel of the shown buffer. -/
def shownPixel (s : State) (x y : Nat) : BitVec 4 := pixelAt (frameBuf s s.disp.shown) (pixelNo x y)

/-- VLCD in mV (R424). -/
def vlcdMv (s : State) : Nat := 2500 + 80 * s.disp.contrast.toNat

/-- The drive levels of segment mode in mV (R424): fractions of VLCD, in thirds with 1/3 bias, in quarters with 1/4 bias. -/
def driveLevelsMv (s : State) : List Nat :=
  let d := if s.disp.bias then 4 else 3
  (List.range (d + 1)).map fun n => vlcdMv s * n / d

/-- The commons that a frame drives in turn (R423). -/
def commons (s : State) : List Nat := List.range (if s.disp.duty then 8 else 4)

/-- Segment x at common c is on (R424): rows 4 to 7 are not shown with 1/4 duty. -/
def segmentOn (s : State) (x c : Nat) : Bool :=
  dpxDriving s && !s.disp.pixelMode && (commons s).contains c && x < 48 && shownPixel s x c != 0

/-- The phase of a row of pixel mode at a pixel clock 0 to 255 (R425): blanking, pre-charge or drive. -/
inductive RowPhase where
  | blanking | preCharge | drive
deriving DecidableEq, Repr

/-- Row time n of a frame, 0 to 51 (R425): four blanking row times, then rows 0 to 47. -/
def rowPhase (n clock : Nat) : RowPhase := if n < 4 then .blanking else if clock < 16 then .preCharge else .drive

/-- ROWy stands at VOLED in row time n; the other rows are held at 0 V (R425). -/
def rowSelected (s : State) (n y : Nat) : Bool := dpxDriving s && s.disp.pixelMode && 4 ≤ n && y < 48 && n = y + 4

/-- Full-scale column current in nA (R426). -/
def fullScaleNa (s : State) : Nat := 1250 * s.disp.isink.toNat

/-- The current that COLx sinks in row time n at a pixel clock, in nA (R426). -/
def columnSinkNa (s : State) (x n clock : Nat) : Nat :=
  if dpxDriving s && s.disp.pixelMode && rowPhase n clock == .drive
      && clock < 16 + 16 * (shownPixel s x (n - 4)).toNat then fullScaleNa s else 0

/-- The pre-charge of COLx in row time n in mV: none where the column is released to high impedance (R427). -/
def preChargeMv (s : State) (x n : Nat) : Option Nat :=
  if dpxDriving s && s.disp.pixelMode && 4 ≤ n && shownPixel s x (n - 4) != 0 then some (500 * s.disp.preV.toNat) else none

/-- A row time of pixel mode in ns (R425): 256 pixel clocks of 48 MHz / (DIV + 1). -/
def rowTimeNs (s : State) : Nat := 256 * (s.disp.div.toNat + 1) * 1000 / 48

/-- A frame of pixel mode in ns (R425, R428): 52 row times. -/
def frameTimeNs (s : State) : Nat := 52 * rowTimeNs s

end Sys2Proof.Machine
end

