-- ==== Sys2Proof/Safety.lean ====
section
/-! DEFINITION. What counts as a safe state of the block, and the invariant that every step keeps. -/

namespace Sys2Proof.Machine

/-- R65, R98, R235: gate-kill is asserted while SAFE is out of service or the brown-out sequence is in force. -/
def KillHeld (s : State) : Prop := isUp s .safe = false ∨ s.pwr.brown.active = true → s.glt.kill = true

/-- Table 2-11: PEAK is at least the number of tags in flight, as far as its 11 bits go. -/
def PeakHeld (s : State) : Prop := min 2047 (tagsInFlight s) ≤ s.fab.peak.toNat

/-- What the end of every command leaves. -/
def Settled (s : State) : Prop := KillHeld s ∧ PeakHeld s

/-- A request that its source port takes up at once and its destination's port serves next: its source is in service and may issue it,
its tag is free, no earlier request or fence of the source is in the way, and it is its turn (R49, R51, R52, R53, R54, R72). -/
abbrev NewRequest (op : FabricOp) (r : Request) (s : State) : Prop :=
  isUp s r.src = true ∧ tagUsed s r.tag = false ∧ s.fab.held.any (·.req.tag == r.tag) = false ∧ mustHold s r.src = false
    ∧ mayIssue op r s = true ∧ nextAt (accept ⟨op, r⟩ s) r.dst = some ⟨op, r⟩

/-- A new request that its destination's port passes to the island (R48, R56, R62, R79). -/
abbrev Passes (op : FabricOp) (r : Request) (d : Island) (s : State) : Prop :=
  NewRequest op r s ∧ islandOf r.dst.toNat = some d ∧ parityOk ⟨op, r⟩ = true ∧ isUp s d = true ∧ epochOk s d ⟨op, r⟩ = true

/-- The bit of AON_RST_CAUSE that a source sets (Table 3-2). -/
def causeBit (c : ResetCause) (r : RstCause) : Bool :=
  match c with
  | .porSupply => r.porSupply | .pin => r.pin | .odRestart => r.odRestart
  | .safeReq => r.safeReq | .pfailRec => r.pfailRec | .loader => r.loader

/-- A write of one entry passes every check of R145 while the object dictionary is served; an action entry is not busy (R170). -/
abbrev Accepted (rq : Requester) (long : Bool) (a : BitVec 16) (v : Bytes) (s : State) : Prop :=
  odServed s = true ∧ checkRecord rq long [⟨a, v⟩] ⟨a, v⟩ s = stOk ∧ actionBusy s a v = false

/-- A request of an operation stands at the head of the OD queue, and may be executed now (R144, R361). -/
abbrev AtHead (op : Nat) (q : QueuedPdu) (r : List QueuedPdu) (s : State) : Prop :=
  s.od.queue = q :: r ∧ q.op.toNat = op ∧ odServed s = true ∧ stale s q = false

/-- Nothing that the host port has issued is outstanding, on its way, held or unanswered (R533, R534), and no posted write of it has been
dropped since its last fence (R54). -/
abbrev HostQuiet (s : State) : Prop :=
  s.fab.flights.any (·.req.src == .host) = false ∧ s.fab.completions.any (·.src == .host) = false
    ∧ s.fab.held.any (·.req.src == .host) = false ∧ s.fab.fences.any (·.src == .host) = false
    ∧ s.hst.writes = [] ∧ pget s.fab.postedLost .host = false

/-- Every fence that waits does so for a request of its source (R54). -/
abbrev FencesWait (s : State) : Prop := ∀ w ∈ s.fab.fences, s.fab.flights.any (·.req.src == w.src) = true

/-- No request to an island's number is outstanding. -/
abbrev NoneWaitAt (d : Nat) (s : State) : Prop := s.fab.flights.any (·.req.dst.toNat == d) = false

/-- The one form of a frame buffer's list: pixels in rising order, none that is 0 (R429). -/
abbrev Canonical (l : List (Nat × BitVec 4)) : Prop := l.Pairwise (fun a b => a.1 < b.1) ∧ ∀ x ∈ l, x.2 ≠ 0

/-- A pixel number inside a rectangle (R429, R431). -/
def Inside (r : Rect) (k : Nat) : Prop := ∃ i < r.w, ∃ j < r.h, k = pixelNo (r.x + i) (r.y + j)

/-- What a whole-device reset leaves as it was: AON's clock, OTP, code flash, log flash and the retained copies (R81, R85). A self-test
request that it discards is logged (R490). -/
def Retains (s t : State) : Prop :=
  t.bil.clock = s.bil.clock ∧ t.otp = s.otp ∧ (s.tst.held = none → t.flash = s.flash) ∧ t.copyA = s.copyA ∧ t.copyB = s.copyB
    ∧ t.fw.manifest = s.fw.manifest ∧ t.fw.written = s.fw.written ∧ t.bil.ledger = s.bil.ledger

end Sys2Proof.Machine
end

