-- ==== Sys2Proof/Certificates/Slice0/Obligations.lean ====
section
/-! DEFINITION. The statements for the provers. A hypothesis speaks of the state and the operands alone; a conclusion gives the next
state, or what it holds and, where it says t = { s with … }, everything else that is unchanged. -/

section

open Sys2Proof Machine

/-- What a new request does that its port passes when it is its turn: a read, a write and a RE-OPEN complete OK with the register's word,
nothing, or the epoch; a write and a posted write take effect, and a write that resets HOST only after HOST has its completions (R48, R49,
R52, R53, R62, R71). Exact next states, so they are their own frame.
(What is the model's choice or inference in it: log entry 7.) -/
def Obligations.FabricRequestsServed : Prop :=
  ∀ (s : State) (r : Request) (d : Island),
    let a := windowAddr r.dst.toNat r.addr
    let taken (op : FabricOp) : State := noteTurn ⟨op, r⟩ (accept ⟨op, r⟩ s)
    (Passes .read r d s →
      Machine.exec (.fabricRead ⟨r, 0⟩) s = .next (settle (settleFences (complete ⟨.read, r⟩ .ok
        (regRead r.src a (taken .read)).1 (unaccept ⟨.read, r⟩ (regRead r.src a (taken .read)).2)))))
    ∧ (Passes .write r d s →
      Machine.exec (.fabricWrite r) s = .next (settle (settleFences (writeReg r.src a r.data
        (let u := complete ⟨.write, r⟩ .ok 0 (unaccept ⟨.write, r⟩ (taken .write))
         if resetsHost a r.data then deliverAll .host u else u)))))
    ∧ (Passes .writePosted r d s →
      Machine.exec (.writePosted r) s
        = .next (settle (settleFences (writeReg r.src a r.data (unaccept ⟨.writePosted, r⟩ (taken .writePosted))))))
    ∧ (Passes .reOpen r d s →
      Machine.exec (.fabricReOpen r) s = .next (settle (settleFences (complete ⟨.reOpen, r⟩ .ok ((port s d).epoch.setWidth 32)
        (unaccept ⟨.reOpen, r⟩ (taken .reOpen))))))

/-- R79: parity is checked first. Whether or not the island is in service a wrong parity draws PARITY, or drops and counts a posted
write; nothing is applied, and the event log says so while it can be written. -/
def Obligations.ParityFirst : Prop :=
  ∀ (s : State) (r : Request) (d : Island), islandOf r.dst.toNat = some d → s.flash.writable = true →
    (NewRequest .read r s → parityOk ⟨.read, r⟩ = false → ∃ t, Machine.exec (.fabricRead ⟨r, 0⟩) s = .next t
      ∧ (⟨r.tag, r.src, r.dst, .read, .parity, 0⟩ : Completion) ∈ t.fab.completions
      ∧ (∃ i, t.flash.log = s.flash.log ++ [(i, .parity r.dst)])
      ∧ t = { s with fab := t.fab, flash := t.flash, glt := t.glt })
    ∧ (NewRequest .write r s → parityOk ⟨.write, r⟩ = false → ∃ t, Machine.exec (.fabricWrite r) s = .next t
      ∧ (⟨r.tag, r.src, r.dst, .write, .parity, 0⟩ : Completion) ∈ t.fab.completions
      ∧ (∃ i, t.flash.log = s.flash.log ++ [(i, .parity r.dst)])
      ∧ t = { s with fab := t.fab, flash := t.flash, glt := t.glt })
    ∧ (NewRequest .reOpen r s → parityOk ⟨.reOpen, r⟩ = false → ∃ t, Machine.exec (.fabricReOpen r) s = .next t
      ∧ (⟨r.tag, r.src, r.dst, .reOpen, .parity, 0⟩ : Completion) ∈ t.fab.completions
      ∧ (∃ i, t.flash.log = s.flash.log ++ [(i, .parity r.dst)])
      ∧ t = { s with fab := t.fab, flash := t.flash, glt := t.glt })
    ∧ (NewRequest .writePosted r s → parityOk ⟨.writePosted, r⟩ = false → ∃ t, Machine.exec (.writePosted r) s = .next t
      ∧ (port t d).lossCount = satInc (port s d).lossCount
      ∧ (∃ i, t.flash.log = s.flash.log ++ [(i, .parity r.dst)])
      ∧ t = { s with fab := t.fab, flash := t.flash, glt := t.glt })

/-- A new read or write of right parity draws NOPORT at numbers 12 to 15, ABSENT while the island is out of service, and STALE under an
epoch that is not the port's; a posted write is then dropped and counted. A reserved opcode draws NOPORT from an island in service. None of
them is applied (R47, R56, R58, R62, Tables 2-2 and 2-3).
(What is the model's choice or inference in it: log entry 8.) -/
def Obligations.PortStatuses : Prop :=
  ∀ (s : State) (r : Request),
    (∀ op : FabricOp, op = .read ∨ op = .write → NewRequest op r s → parityOk ⟨op, r⟩ = true →
      ∃ t, Machine.exec (if op = .read then .fabricRead ⟨r, 0⟩ else .fabricWrite r) s = .next t
        ∧ (islandOf r.dst.toNat = none → (⟨r.tag, r.src, r.dst, op, .noport, 0⟩ : Completion) ∈ t.fab.completions
          ∧ t = { s with fab := t.fab, glt := t.glt })
        ∧ (∀ d, islandOf r.dst.toNat = some d → isUp s d = false →
          (⟨r.tag, r.src, r.dst, op, .absent, 0⟩ : Completion) ∈ t.fab.completions ∧ t = { s with fab := t.fab, glt := t.glt })
        ∧ (∀ d, islandOf r.dst.toNat = some d → isUp s d = true → epochOk s d ⟨op, r⟩ = false →
          (⟨r.tag, r.src, r.dst, op, .stale, 0⟩ : Completion) ∈ t.fab.completions ∧ t = { s with fab := t.fab, glt := t.glt }))
    ∧ (∀ d, NewRequest .writePosted r s → parityOk ⟨.writePosted, r⟩ = true → islandOf r.dst.toNat = some d →
      isUp s d = false ∨ epochOk s d ⟨.writePosted, r⟩ = false →
      ∃ t, Machine.exec (.writePosted r) s = .next t ∧ (port t d).lossCount = satInc (port s d).lossCount
        ∧ t = { s with fab := t.fab, glt := t.glt })
    ∧ (∀ (code : BitVec 3) (d : Island), 5 ≤ code.toNat → NewRequest (readOp code) r s → parityOk ⟨readOp code, r⟩ = true →
      islandOf r.dst.toNat = some d → isUp s d = true → ∃ t, Machine.exec (.fabricRead ⟨r, code⟩) s = .next t
        ∧ (⟨r.tag, r.src, r.dst, readOp code, .noport, 0⟩ : Completion) ∈ t.fab.completions ∧ t = { s with fab := t.fab, glt := t.glt })

/-- R51: a source without a tag has its next request held behind those held before, nothing else happens, and the first held request is
accepted when a tag is free; within its reserve a source always has one. -/
def Obligations.HeldForWantOfTag : Prop :=
  ∀ (s : State) (r : Request),
    (tagsOf s r.src < (allotment r.src).1 → tagFree s r.src = true)
    ∧ (isUp s r.src = true → tagUsed s r.tag = false → s.fab.held.any (·.req.tag == r.tag) = false → tagFree s r.src = false →
      let queued (op : FabricOp) : State := settle { s with fab := { s.fab with held := s.fab.held ++ [⟨op, r⟩] } }
      (mayIssue .read r s = true → Machine.exec (.fabricRead ⟨r, 0⟩) s = .next (queued .read))
      ∧ (mayIssue .write r s = true → Machine.exec (.fabricWrite r) s = .next (queued .write))
      ∧ (mayIssue .writePosted r s = true → Machine.exec (.writePosted r) s = .next (queued .writePosted))
      ∧ (mayIssue .reOpen r s = true → Machine.exec (.fabricReOpen r) s = .next (queued .reOpen))
      ∧ Machine.exec (.fence r.src r) s = .next (queued .fence))
    ∧ (∀ f : Flight, s.fab.held.find? (·.req.src == r.src) = some f →
      s.fab.fences.any (·.src == r.src) = false → tagFree s r.src = true → tagUsed s f.req.tag = false → overtakes s r.src = false →
      let u : State := { s with fab := { s.fab with held := s.fab.held.erase f } }
      Machine.exec (.heldRequestAccept r.src) s = .next (settle (if f.op = .fence then acceptFence f.req u else accept f u)))

/-- A fence of right parity of a source with nothing outstanding completes, with FENCE-LOSS if a posted write of the source was dropped
since its last one, and one with a request outstanding waits (R54); a wrong parity draws PARITY (R79). A completion frees its tag, and that
of a RE-OPEN brings the epoch that the source then uses (R49, R62).
(What is the model's choice or inference in it: log entries 7 and 8.) -/
def Obligations.FencesAndCompletions : Prop :=
  (∀ (s : State) (r : Request), isUp s r.src = true → tagUsed s r.tag = false →
    s.fab.held.any (·.req.tag == r.tag) = false → mustHold s r.src = false →
    (parityOk ⟨.fence, r⟩ = true → s.fab.flights.any (·.req.src == r.src) = false → ∃ t, Machine.exec (.fence r.src r) s = .next t
      ∧ (⟨r.tag, r.src, r.dst, .fence, if pget s.fab.postedLost r.src then .fenceLoss else .ok, 0⟩ : Completion) ∈ t.fab.completions
      ∧ pget t.fab.postedLost r.src = false ∧ t = { s with fab := t.fab, glt := t.glt })
    ∧ (parityOk ⟨.fence, r⟩ = true → s.fab.flights.any (·.req.src == r.src) = true → ∃ t, Machine.exec (.fence r.src r) s = .next t
      ∧ (⟨r.src, r.tag, r.dst⟩ : FenceWait) ∈ t.fab.fences ∧ t = { s with fab := t.fab, glt := t.glt })
    ∧ (parityOk ⟨.fence, r⟩ = false → ∃ t, Machine.exec (.fence r.src r) s = .next t
      ∧ (⟨r.tag, r.src, r.dst, .fence, .parity, 0⟩ : Completion) ∈ t.fab.completions
      ∧ t = { s with fab := t.fab, flash := t.flash, glt := t.glt }))
  ∧ (∀ (s : State) (c : Completion), oldestFor s c.src = some c →
    ∃ t, Machine.exec (.completion c.src) s = .next t ∧ t.fab.completions = s.fab.completions.erase c
      ∧ (∀ d, isUp s c.src = true → c.op = .reOpen → c.status = .ok → islandOf c.dst.toNat = some d →
        pget (pget t.fab.views c.src) d = c.data.setWidth 8)
      ∧ t = { s with fab := t.fab, hst := t.hst, glt := t.glt })

/-- THK_ISL_CMD (R71) while HOST is in service: a refused command sets REFUSED and does nothing else; an accepted one clears it, and its
island leaves service; power-up of an island that is up does nothing more, and of one that is powered down starts its reload; SELECT only
names the island. THK_TAGS' PEAK and the LOSS_CLR bits clear as Tables 2-9 and 2-11 say.
(What is the model's choice or inference in it: log entry 8.) -/
def Obligations.IslandCommands : Prop :=
  ∀ (s : State) (i : Island), isUp s .host = true →
    let n := BitVec.ofNat 4 (islandNum i)
    (i = .aon ∨ i = .safe →
      Machine.exec (.islandReset n) s = .next (settle (commandRefused s))
      ∧ Machine.exec (.islandReload n) s = .next (settle (commandRefused s))
      ∧ Machine.exec (.islandPowerDown n) s = .next (settle (commandRefused s)))
    ∧ Machine.exec (.islandPowerDown 9) s = .next (settle (commandRefused s))
    ∧ (i ≠ .aon → i ≠ .safe → isUp s i = true →
      Machine.exec (.islandReset n) s = .next (settle (leaveService i .resetting (commandAccepted i s)))
      ∧ Machine.exec (.islandReload n) s = .next (settle (leaveService i .reloading (commandAccepted i s)))
      ∧ (i ≠ .host → Machine.exec (.islandPowerDown n) s = .next (settle (leaveService i .poweredDown (commandAccepted i s)))))
    ∧ (isUp s i = true → Machine.exec (.islandPowerUp n) s = .next (settle (commandAccepted i s)))
    ∧ ((port s i).state = .poweredDown → ∃ t, Machine.exec (.islandPowerUp n) s = .next t ∧ (port t i).state = .reloading
      ∧ t.fab.cmdRefused = false ∧ t = { s with fab := t.fab, glt := t.glt })
    ∧ Machine.exec (.islandSelect n) s = .next (settle { s with fab := { s.fab with cmdIsland := n } })
    ∧ (∀ k : BitVec 4, 12 ≤ k.toNat →
      Machine.exec (.islandSelect k) s = .next (settle (logEvent (.rejected 0x9444 (commandWord k 0)) s))
      ∧ Machine.exec (.islandReset k) s = .next (settle (commandRefused s))
      ∧ Machine.exec (.islandReload k) s = .next (settle (commandRefused s))
      ∧ Machine.exec (.islandPowerDown k) s = .next (settle (commandRefused s))
      ∧ Machine.exec (.islandPowerUp k) s = .next (settle (commandRefused s)))
    ∧ (∃ t, Machine.exec .peakClr s = .next t ∧ t.fab.peak.toNat = min 2047 (tagsInFlight s)
      ∧ t = { s with fab := { s.fab with peak := t.fab.peak }, glt := t.glt })
    ∧ (∀ mask : BitVec 12, Machine.exec (.lossClr mask) s = .next (settle (lossClear mask s))
      ∧ (mask.getLsbD (islandNum i) = true → ((port (lossClear mask s) i).lossCount = 0 ∧ (port (lossClear mask s) i).lossSat = false))
      ∧ (mask.getLsbD (islandNum i) = false → port (lossClear mask s) i = port s i))

/-- RE-OPEN by the host port, and the clock detector. THK_REOPEN's bits are set and a RE-OPEN to each set island is then outstanding
(R72); loss of its clock takes an island out of service (R78); an island that may return comes up with the next epoch, 1 after 255 (R61);
a snapshot or held write that is not finished in time is gone (R66, R67).
(What is the model's choice or inference in it: log entry 8.) -/
def Obligations.ReopenAndReturn : Prop :=
  ∀ (s : State) (i : Island),
    (isUp s .host = true → ∀ mask : BitVec 12, ∃ t, Machine.exec (.hostReopen mask) s = .next t
      ∧ t.fab.reopen = s.fab.reopen ||| mask ∧ (mask.getLsbD (islandNum i) = true → reopening t i = true)
      ∧ t = { s with fab := t.fab, glt := t.glt })
    ∧ (isUp s .host = true → s.fab.reopen.getLsbD (islandNum i) = true → ∃ t, Machine.exec .reopenRetry s = .next t
      ∧ reopening t i = true ∧ t.fab.reopen = s.fab.reopen ∧ t = { s with fab := t.fab, glt := t.glt })
    ∧ (isUp s i = true ∨ (port s i).state = .resetting ∨ (port s i).state = .reloading →
      ∃ t, Machine.exec (.clockLost i) s = .next t ∧ (port t i).state = .clockLost)
    ∧ (isUp s i = true → isUp s .safe = true → i ≠ .aon → i ≠ .safe →
      Machine.exec (.clockLost i) s = .next (settle (logEvent (.islandReset i) (leaveService i .clockLost s))))
    ∧ (mayReturn s i = true → s.tst.awaiting ≠ some i → ∃ t, Machine.exec (.islandReturn i) s = .next t ∧ isUp t i = true
      ∧ (port t i).epoch = if (port s i).epoch = 255 then 1 else (port s i).epoch + 1)
    ∧ (∀ a : BitVec 16, Machine.exec (.snapshotTimeout i a) s = .next (settle { s with fab := { s.fab with
        snapshots := s.fab.snapshots.filter fun x => !(x.src == i && x.addr == a) } }))
    ∧ (∀ a : BitVec 16, Machine.exec (.heldWriteDiscard i a) s = .next (settle { s with fab := { s.fab with
        heldWrites := s.fab.heldWrites.filter fun x => !(x.src == i && x.addr == a) } }))

/-- The reset sources (R85, R86, R87, R110, R111). A supply reset is at once; RESETN is ignored below 200 ns, free up to 1 µs, and from
1 µs on resets with PIN set unless a COMMIT or the brown-out sequence holds it back (R102, R577); an AON start from nothing leaves only
OTP and flash; the resets held back take effect with all their bits.
(What is the model's choice or inference in it: log entries 2 and 3.) -/
def Obligations.ResetSources : Prop :=
  (∀ s : State, ∃ t, Machine.exec .porSupply s = .next t ∧ t.pwr.resetHeld = true ∧ t.pwr.vdd3Up = false ∧ t.rst.porSupply = true
    ∧ t.sup.vddcOk = false ∧ Retains s t)
  ∧ (∀ s : State, ∃ t, Machine.exec .vddcOutOfRange s = .next t ∧ t.pwr.resetHeld = true ∧ t.rst.porSupply = true
    ∧ t.pwr.vdd3Up = s.pwr.vdd3Up ∧ Retains s t)
  ∧ (∀ (s : State) (n : Nat), n < 200 → Machine.exec (.resetn n) s = .next (settle s))
  ∧ (∀ (s : State) (n : Nat), 1000 ≤ n → resetWaits .pin s = false → ∃ t, Machine.exec (.resetn n) s = .next t
    ∧ t.pwr.resetHeld = true ∧ t.rst.pin = true ∧ Retains s t)
  ∧ (∀ (s : State) (n : Nat), 1000 ≤ n → resetWaits .pin s = true →
    Machine.exec (.resetn n) s = .next (settle { s with pwr := { s.pwr with heldResets := s.pwr.heldResets ++ [.pin] } }))
  ∧ (∀ (s : State) (n : Nat), 200 ≤ n → n < 1000 → ∃ t, Machine.exec (.resetn n) s = .next t
    ∧ (t = settle { s with free := s.free + 1 } ∨ t = settle (heldBackReset .pin { s with free := s.free + 1 })))
  ∧ (∀ s : State, ∃ t, Machine.exec .aonStartFromNothing s = .next t ∧ t.pwr.resetHeld = true ∧ t.pwr.fromNothing = true
    ∧ t.rst.count = 1 ∧ t.bil.clock = 0 ∧ t.bil.valid = false ∧ t.copyA = {} ∧ t.copyB = {} ∧ t.ses.grant = none
    ∧ t.otp = s.otp ∧ t.bil.ledger = s.bil.ledger ∧ t.fw.manifest = s.fw.manifest)
  ∧ (∀ (s : State) (l : List ResetCause), s.pwr.heldResets = l → l ≠ [] → s.tst.pending = false →
    ∃ t, Machine.exec .heldResetRelease s = .next t ∧ t.pwr.resetHeld = true ∧ t.pwr.heldResets = []
      ∧ (∀ c ∈ l, causeBit c t.rst = true) ∧ Retains s t)
  ∧ (∀ s : State, s.pwr.resetHeld = true → ∃ t, Machine.exec .resetRelease s = .next t ∧ t.pwr.resetHeld = false
    ∧ t.sup.vddcOk = true ∧ t = { s with pwr := t.pwr, sup := t.sup, hst := t.hst, fab := t.fab, glt := t.glt })

/-- The monitors (R84, R94, R96, R101, R107, R314, R578, Table 3-7): each bit follows its rail, only the stage that the rail feeds is
disabled, a copy on the line that loses VLD is cut, and a stopped crystal takes every island but AON and SAFE out of service with lost
clocks. Mains loss clears with every declared phase 50 ‰ above the threshold.
(What is the model's choice or inference in it: log entry 53.) -/
def Obligations.SupplyMonitors : Prop :=
  ∀ s : State,
    (∃ t, Machine.exec (.supplyRailLow .vld) s = .next t ∧ t.sup.vldOk = false ∧ t.plc.drvOn = false
      ∧ (s.plc.txPaths.contains .line = true → t.plc.tx = none)
      ∧ (s.plc.txPaths.contains .line = false → t.plc = { s.plc with drvOn := false })
      ∧ t = { s with sup := t.sup, hst := t.hst, plc := t.plc, pwr := t.pwr, flash := t.flash, fab := t.fab, glt := t.glt })
    ∧ (∃ t, Machine.exec (.supplyRailLow .vaud) s = .next t ∧ t.sup.vaudOk = false ∧ t.aud.stageOn = false
      ∧ t = { s with sup := t.sup, hst := t.hst, aud := { s.aud with stageOn := t.aud.stageOn }, pwr := t.pwr
                     flash := t.flash, fab := t.fab, glt := t.glt })
    ∧ (∃ t, Machine.exec (.supplyRailLow .voled) s = .next t ∧ t.sup.voledOk = false
      ∧ (s.disp.pixelMode = true → t.disp.driveOn = false)
      ∧ t = { s with sup := t.sup, hst := t.hst, disp := { s.disp with driveOn := t.disp.driveOn }, pwr := t.pwr
                     flash := t.flash, fab := t.fab, glt := t.glt })
    ∧ (∀ r : Rail, ∃ t, Machine.exec (.supplyRailRestored r) s = .next t ∧ railOk t r = true ∧ t.flash = s.flash
      ∧ t.pwr = { s.pwr with railReported := clearBit s.pwr.railReported (railNum r) }
      ∧ t = { s with sup := t.sup, hst := t.hst, plc := t.plc, aud := t.aud, disp := t.disp, pwr := t.pwr, fab := t.fab, glt := t.glt })
    ∧ (∀ mv : BitVec 16, ∃ t, Machine.exec (.vbatLow mv) s = .next t
      ∧ (t.sup.vbatLow = true ↔ mv.toNat < 2200) ∧ (t.sup.vbatOk = true ↔ 1900 ≤ mv.toNat)
      ∧ t = { s with sup := { s.sup with vbatLow := t.sup.vbatLow, vbatOk := t.sup.vbatOk }, hst := t.hst, fab := t.fab, glt := t.glt })
    ∧ (∃ t, Machine.exec .rtcXtalStop s = .next t
      ∧ t = { s with sup := { s.sup with rtcXtalOk := false }, hst := t.hst, fab := t.fab, glt := t.glt })
    ∧ (∀ stable : Bool, isUp s .safe = true → hasCome s .host = false → ∃ t, Machine.exec (.xtalRetry stable) s = .next t
      ∧ t.sup.xtalOk = stable ∧ t.pwr.xtalMissed = !stable ∧ t.boot = s.boot)
    ∧ (hasCome s .host = true → s.sup.xtalOk = true → ∃ t, Machine.exec .xtalStop s = .next t ∧ t.sup.xtalOk = false
      ∧ (∀ i : Island, i ≠ .aon → i ≠ .safe → isUp s i = true ∨ (port s i).state = .resetting ∨ (port s i).state = .reloading →
        (port t i).state = .clockLost)
      ∧ port t .aon = port s .aon ∧ port t .safe = port s .safe ∧ 0x501 ∈ t.live.standing ∧ t.glt.kill = true ∧ t.glt.safeFault = true)
    ∧ (s.safe.startHold = true → s.sup.pfail = true → s.pwr.resetHeld = false → s.flash.writable = true →
      Machine.exec .pfailHoldLog s = .next (settle (logEvent .pfailHold s)))
    ∧ (isUp s .met = true → s.met.mainsLoss = true → mainsGood s = true → ∃ t, Machine.exec .mainsRestore s = .next t
      ∧ t.met = { s.met with mainsLoss := false }
      ∧ t.ses.allowed = BitVec.ofNat 16 (allowedNow { s with met := { s.met with mainsLoss := false } })
      ∧ t.glt.kill = (settle s).glt.kill ∧ t.flash = s.flash ∧ t.otp = s.otp ∧ t.set = s.set)
    ∧ (isUp s .met = true → s.met.mainsLoss = true → mainsGood s = false → Machine.exec .mainsRestore s = .next (settle s))
    ∧ (isUp s .met = true → s.met.mainsLoss = false →
      Machine.exec .mainsPresentAtStart s = .next (settle { s with pwr := { s.pwr with mainsPresent := true } }))

/-- Rows of the boot sequence (R89, R90, R91, R92, R121, R122, R159, R529): an island whose turn has come is up, with epoch 1 after a reset; the image
check passes a valid image; the settings come from the source that R122 chooses, and an area of retained RAM whose check failed takes the values of Table 4-7; homing drives towards UNLOCKED or is skipped; the start
hold is released when every condition of R91 holds.
(What is the model's choice or inference in it: log entries 53 and 61.) -/
def Obligations.BootRows : Prop :=
  ∀ s : State,
    (∀ i : Island, s.pwr.resetHeld = false → (port s i).state = .notYetUp → (port s i).epoch = 0 → bootDue s i = true →
      ∃ t, Machine.exec (.islandBootUp i) s = .next t ∧ isUp t i = true ∧ (port t i).epoch = 1)
    ∧ (isUp s .sec = true → hasCome s .seq = false → s.pwr.imageOk = false → s.pwr.loaderState = false → s.fw.request ≠ 1 →
      imageValid s = true → ∃ t, Machine.exec .imageCheck s = .next t ∧ t.pwr.imageOk = true ∧ t.pwr.loaderState = false)
    ∧ (∀ c, s.pwr.loaderState = false → isUp s .seq = true → isUp s .sec = true → restoreRowDone s = false → chooseSource true s = some c →
      ∃ t, Machine.exec .settingsRestore s = .next t ∧ t.pwr.settingsRestored = true ∧ t.boot.source = c.1
        ∧ t.set.generation = BitVec.ofNat 8 c.2.1)
    ∧ (∀ c, s.pwr.loaderState = false → isUp s .seq = true → isUp s .sec = true → restoreRowDone s = false → chooseSource true s = some c →
      s.od.waiting = [] → s.pwr.fromNothing = false →
      ∃ t, Machine.exec .settingsRestore s = .next t ∧ t.areas = {}
        ∧ (s.areas.protocol = false → t.od.txSeq = s.od.markTx + 4096 ∧ t.od.floor = some (s.od.markNode0 + 4096)
          ∧ t.od.serviceEpoch = 1 ∧ t.net.bcastLost = true ∧ t.net.bcastSeq = 0)
        ∧ (s.areas.grant = false → t.ses.grant = none ∧ t.ses.table = [] ∧ t.od.tokenCounter = s.od.markToken + 256
          ∧ t.ses.tableLost = !s.bil.trusted)
        ∧ (s.areas.deviceRt = false → t.swg.contactorOps = 0 ∧ t.rcd.trips = 0 ∧ t.safe.entries = 0 ∧ t.lck.faults = 0)
        ∧ (s.areas.evidence = false → t.safe.evidence = [] ∧ t.safe.lost = 0))
    ∧ (s.pwr.settingsRestored = true → s.safe.startHold = true → s.pwr.homingStarted = false → s.pwr.loaderState = false →
      isUp s .tmr = true → s.safe.sealAccepted = true → s.pwr.brown.active = false → ∃ t, Machine.exec .lockHoming s = .next t
        ∧ t.pwr.homingStarted = true
        ∧ (homingSkipped s = true → t.boot.homingSkipped = true ∧ t.pwr.homingDone = true)
        ∧ (homingSkipped s = false → s.lck.limUnlocked = true → t.lck.state = 1 ∧ t.pwr.homingDone = true)
        ∧ (homingSkipped s = false → s.lck.limUnlocked = false → s.lck.hallKnown = false ∨ s.lck.hallOk = true →
          t.lck.drive = .unlocking ∧ t.lck.moving = some false ∧ t.lck.homing = true)
        ∧ (homingSkipped s = true ∨ s.lck.limUnlocked = true ∨ s.lck.hallKnown = false ∨ s.lck.hallOk = true →
          t = { s with pwr := t.pwr, boot := t.boot, lck := t.lck, fab := t.fab, glt := t.glt }))
    ∧ (mayRelease s = true → s.pwr.settingsRestored = true ∧ s.safe.sealValid = true ∧ s.pwr.homingDone = true ∧ s.sup.pfail = false)
    ∧ (mayRelease s = true → ∃ t, Machine.exec .startHoldRelease s = .next t ∧ t.safe.startHold = false ∧ t.safe.active = false
      ∧ t.pwr.billing = true ∧ t.boot.stage = (if s.boot.stage = 8 then 8 else 7))

/-- The brown-out sequence (R98, R100, R103, R104, R109, R126, R577): recognised, it asserts gate-kill and turns the coil, the line driver,
the class-D stage and the display off; outside boot it makes the pending close, and the pads then stand as Table 3-3 says. Where the supply
does not last, the close only stays pending. Its release is a whole-device reset with PFAIL_REC, held back behind a COMMIT, or during boot
the end of the sequence without a reset.
(What is the model's choice or inference in it: log entry 52.) -/
def Obligations.BrownOutSequence : Prop :=
  (∀ (s : State) (early lasts : Bool), s.pwr.resetHeld = false → s.pwr.brown.active = false →
    ∃ t, Machine.exec (.brownOut ⟨early, lasts⟩) s = .next t ∧ t.pwr.brown.active = true ∧ t.pwr.brown.earlyWarning = early
      ∧ t.glt.kill = true ∧ t.glt.srcBrown = true ∧ (early = true → t.sup = s.sup) ∧ (early = false → t.sup.pfail = true)
      ∧ t.swg.gateCmd = 0 ∧ t.swg.coilCmd = false ∧ t.plc.drvOn = false ∧ t.aud.stageOn = false ∧ t.disp.driveOn = false
      ∧ (s.pwr.billing = true → s.pwr.loaderState = false →
        gatePads t = 0 ∧ gkillnPad t = .low ∧ coilDriven t = false ∧ pilotPadMv t true = -12000 ∧ hirqPad t = .hiZ
        ∧ lockPads t = (false, false, false, false) ∧ meterLedPad t = .low ∧ t.safe.pulses = false
        ∧ (s.bil.pendState = .open → t.bil.pendState ≠ .open)
        ∧ (s.bil.pendState = .open → lasts = false → t.bil.pendState = .pending ∧ t.bil.ledger = s.bil.ledger
          ∧ t.bil.openRec = { finishedRecord .brownOut s.bil.clock s with imports := importsWithPartial s }))
      ∧ (s.pwr.billing = false → t.bil.pendState = s.bil.pendState))
  ∧ (∀ s : State, s.pwr.brown.active = true → s.pwr.brown.duringBoot = false → s.pwr.resetHeld = false → s.set.commit = none →
    (s.pwr.brown.earlyWarning = false → ∃ t, Machine.exec .pfailRelease s = .next t ∧ t.pwr.resetHeld = true ∧ t.rst.pfailRec = true
      ∧ t.sup.pfail = false)
    ∧ (s.pwr.brown.earlyWarning = true → ∃ t, Machine.exec .vdd3Recovered s = .next t ∧ t.pwr.resetHeld = true ∧ t.rst.pfailRec = true))
  ∧ (∀ s : State, s.pwr.brown.active = true → s.pwr.brown.duringBoot = false → s.pwr.resetHeld = false → s.set.commit ≠ none →
    (s.pwr.brown.earlyWarning = false → ∃ t, Machine.exec .pfailRelease s = .next t ∧ t.pwr.resetHeld = false
      ∧ t.pwr.heldResets = s.pwr.heldResets ++ [.pfailRec] ∧ t.set.commit = s.set.commit ∧ t.otp = s.otp)
    ∧ (s.pwr.brown.earlyWarning = true → ∃ t, Machine.exec .vdd3Recovered s = .next t ∧ t.pwr.resetHeld = false
      ∧ t.pwr.heldResets = s.pwr.heldResets ++ [.pfailRec] ∧ t.set.commit = s.set.commit ∧ t.otp = s.otp))
  ∧ (∀ s : State, s.pwr.brown.active = true → s.pwr.brown.duringBoot = true → s.tst.scanning = false →
    (s.pwr.brown.earlyWarning = false → ∃ t, Machine.exec .pfailRelease s = .next t ∧ t.pwr.brown.active = false
      ∧ t.pwr.resetHeld = s.pwr.resetHeld ∧ t.rst = s.rst)
    ∧ (s.pwr.brown.earlyWarning = true → ∃ t, Machine.exec .vdd3Recovered s = .next t ∧ t.pwr.brown.active = false
      ∧ t.pwr.resetHeld = s.pwr.resetHeld ∧ t.rst = s.rst))

/-- The pilot (R178, R180 to R184, R193, R196, R197, Tables 7-2 and 7-7): a period start puts the selected level and duty into force; a
positive plateau is classified against Table 7-2 with its hysteresis, the third reading in a row of another state changes the
classification, and any other reading restarts the count; the hold of a pilot fault ends at steady +12 V. The bands of Table 7-2 with
their hysteresis hold at every boundary.
(What is the model's choice or inference in it: log entry 3.) -/
def Obligations.PilotPeriodsAndBands : Prop :=
  (∀ s : State, isUp s .tmr = true →
     (s.plt.level ≠ .stateF → s.ses.phase ≠ .break → ∃ t, Machine.exec .pilotPeriodStart s = .next t
       ∧ t.plt.level = s.plt.nextLevel ∧ t.plt.next = 0
       ∧ (s.plt.nextLevel = .pwm → t.plt.duty = if s.plt.next = 0 then s.plt.duty else s.plt.next)
       ∧ (s.plt.nextLevel ≠ .pwm → t.plt.duty = 0)
       ∧ t = { s with plt := t.plt, fab := t.fab, glt := t.glt })
     ∧ (s.plt.level = .stateF →
       Machine.exec .pilotPeriodStart s = .next (settle { s with plt := { s.plt with faultFresh := false } }))
     ∧ (s.plt.level ≠ .stateF → s.ses.phase = .break → s.ses.breakStep = 5 → s.plt.nextLevel ≠ .pwm →
       (s.ses.breakStop ≠ 0 → ∃ t, Machine.exec .pilotPeriodStart s = .next t ∧ t.ses.phase = .ended ∧ t.ses.inUse = false
         ∧ (s.ses.inUse = true → t.ses.stop = s.ses.breakStop ∧ t.ses.grant = none)
         ∧ (s.ses.inUse = false → t.ses.stop = s.ses.stop ∧ t.ses.grant = s.ses.grant))
       ∧ (s.ses.breakStop = 0 → s.ses.allowed.toNat < 60 → ∃ t, Machine.exec .pilotPeriodStart s = .next t ∧ t.ses.phase = .paused
         ∧ t.ses.inUse = s.ses.inUse ∧ t.ses.grant = s.ses.grant))
     ∧ (∀ mv : BitVec 16, adcRuns s = true → s.plt.classifying = true → s.plt.level ≠ .stateF →
       let x := readingOf s.plt.state mv.toInt
       ∃ t, Machine.exec (.measurementWindow true mv) s = .next t ∧ t.plt.highMv = mv
         ∧ (x = s.plt.state → t.plt.state = s.plt.state ∧ t.plt.count = 0)
         ∧ (x ≠ s.plt.state → x = s.plt.candidate → 2 ≤ s.plt.count.toNat → t.plt.state = x)
         ∧ (x ≠ s.plt.state → x = s.plt.candidate → s.plt.count.toNat < 2 → t.plt.state = s.plt.state ∧ t.plt.count = s.plt.count + 1)
         ∧ (x ≠ s.plt.state → x ≠ s.plt.candidate → t.plt.state = s.plt.state ∧ t.plt.count = 1 ∧ t.plt.candidate = x))
     ∧ (∀ (high : Bool) (mv : BitVec 16), adcRuns s = true → s.plt.classifying = true → s.plt.level = .stateF →
       ∃ t, Machine.exec (.measurementWindow high mv) s = .next t ∧ t = { s with plt := t.plt, fab := t.fab, glt := t.glt }
         ∧ (-10500 < mv.toInt → t.plt.state = s.plt.state ∧ t.plt.count = 0)
         ∧ (mv.toInt ≤ -10500 → s.plt.state ≠ .f → s.plt.candidate = .f → 2 ≤ s.plt.count.toNat → t.plt.state = .f)
         ∧ (mv.toInt ≤ -10500 → s.plt.state ≠ .f → s.plt.candidate ≠ .f → t.plt.state = s.plt.state ∧ t.plt.count = 1))
     ∧ (s.plt.holdF = true → s.safe.active = false → s.pwr.brown.active = false → ∃ t, Machine.exec .pilotFaultHoldEnd s = .next t
       ∧ t.plt.holdF = false ∧ t.plt.level = .steady ∧ t.plt.state = s.plt.state ∧ t.plt.count = 0
       ∧ t = { s with plt := t.plt, fab := t.fab, glt := t.glt })
     ∧ (s.plt.holdF = true → s.safe.active = true ∨ s.pwr.brown.active = true →
       Machine.exec .pilotFaultHoldEnd s = .next (settle { s with plt := { s.plt with holdF := false } })))
  ∧ (∀ mv : Int,
       (readingOf .none mv = .a ↔ 10500 ≤ mv) ∧ (readingOf .none mv = .b ↔ 7500 ≤ mv ∧ mv < 10500)
       ∧ (readingOf .none mv = .c ↔ 4500 ≤ mv ∧ mv < 7500) ∧ (readingOf .none mv = .d ↔ 1500 ≤ mv ∧ mv < 4500)
       ∧ (readingOf .none mv = .e ↔ -1500 ≤ mv ∧ mv < 1500) ∧ (readingOf .none mv = .outOfBand ↔ mv < -1500)
       ∧ (readingOf .a mv = .a ↔ 10200 < mv) ∧ (readingOf .b mv = .b ↔ 7200 < mv ∧ mv < 10800)
       ∧ (readingOf .c mv = .c ↔ 4200 < mv ∧ mv < 7800) ∧ (readingOf .d mv = .d ↔ 1200 < mv ∧ mv < 4800)
       ∧ (readingOf .e mv = .e ↔ -1800 < mv ∧ mv < 1800))

/-- R184: with PWM every negative plateau must read −10 500 mV or below; the third in a row above that level raises the diode fault;
without PWM nothing is checked; Make waits for three periods that passed. -/
def Obligations.DiodeCheck : Prop :=
  ∀ (s : State) (mv : BitVec 16), isUp s .tmr = true → adcRuns s = true → s.plt.classifying = true →
    (s.plt.level = .pwm → mv.toInt ≤ -10500 → ∃ t, Machine.exec (.measurementWindow false mv) s = .next t
      ∧ t.plt = { s.plt with lowMv := mv, diodeCount := 0 } ∧ t.ses.diodePassed = s.ses.diodePassed + 1
      ∧ t = { s with plt := t.plt, ses := { s.ses with diodePassed := t.ses.diodePassed }, fab := t.fab, glt := t.glt })
    ∧ (s.plt.level = .pwm → -10500 < mv.toInt → s.plt.diodeCount.toNat < 2 → ∃ t, Machine.exec (.measurementWindow false mv) s = .next t
      ∧ t.plt = { s.plt with lowMv := mv, diodeCount := s.plt.diodeCount + 1 } ∧ t.ses.diodePassed = 0
      ∧ t = { s with plt := t.plt, ses := { s.ses with diodePassed := 0 }, fab := t.fab, glt := t.glt })
    ∧ (s.plt.level = .pwm → -10500 < mv.toInt → 2 ≤ s.plt.diodeCount.toNat → ∃ t, Machine.exec (.measurementWindow false mv) s = .next t
      ∧ t.plt.diodeFault = true ∧ t.ses.diodePassed = 0)
    ∧ (s.plt.level = .steady → Machine.exec (.measurementWindow false mv) s = .next (settle s))
    ∧ (mayMake s = true → 3 ≤ s.ses.diodePassed)

/-- Proximity (R191, R192, R197, R198, R570, Table 7-4) and the pilot's logs (R188): the third reading in a row of a band takes it, the
ohms follow each reading, FFFFh while the band is open; each declared phase's overdraw is logged once per session, an outside band once until
a valid or open one.
(What is the model's choice or inference in it: log entries 27 and 36.) -/
def Obligations.ProximityAndLogs : Prop :=
  ∀ s : State,
    (∀ code : BitVec 16, isUp s .tmr = true → adcRuns s = true → s.plt.vrefWithheld = false →
      let r := ppOhms code.toNat
      let b := if stillInBand s.plt.band r then s.plt.band else ohmsBand r
      ∃ t, Machine.exec (.proximityRead code) s = .next t ∧ t.plt.bandCand = b
        ∧ (b = s.plt.bandCand → 2 ≤ s.plt.bandCount → t.plt.band = b)
        ∧ (b ≠ s.plt.bandCand ∨ s.plt.bandCount < 2 → t.plt.band = s.plt.band
          ∧ t.plt.bandCount = (if b = s.plt.bandCand then s.plt.bandCount + 1 else 1)
          ∧ t = { s with plt := t.plt, fab := t.fab, glt := t.glt })
        ∧ t.plt.ohms = if t.plt.band = .open then 0xFFFF else BitVec.ofNat 16 r)
    ∧ (∀ (code : BitVec 16), s.plt.vrefWithheld = true ∨ adcRuns s = false → Machine.exec (.proximityRead code) s = .next (settle s))
    ∧ (∀ p : Phase3, sessionOn s = true → s.ses.overdrawLogged.getLsbD (phaseNum p) = false →
      (phases s).contains (phaseNum p) = true → overdrawn (phaseNum p) s = true →
      Machine.exec (.overdrawLog p) s = .next (settle (logEvent (.overdraw p)
        { s with ses := { s.ses with overdrawLogged := setBit s.ses.overdrawLogged (phaseNum p) } })))
    ∧ (∀ p : Phase3, s.ses.overdrawLogged.getLsbD (phaseNum p) = true ∨ overdrawn (phaseNum p) s = false →
      Machine.exec (.overdrawLog p) s = .next (settle s))
    ∧ (s.plt.band = .outside → sessionOn s = false → s.plt.outsideLogged = false →
      Machine.exec .proximityOutOfBandLog s
        = .next (settle (logEvent .proximityOutside { s with plt := { s.plt with outsideLogged := true } })))
    ∧ (s.plt.outsideLogged = true → Machine.exec .proximityOutOfBandLog s = .next (settle s))
    ∧ (∀ r : Nat, (ohmsBand r = .a63 ↔ 75 ≤ r ∧ r < 160) ∧ (ohmsBand r = .a32 ↔ 160 ≤ r ∧ r < 440)
      ∧ (ohmsBand r = .a20 ↔ 440 ≤ r ∧ r < 1100) ∧ (ohmsBand r = .a13 ↔ 1100 ≤ r ∧ r < 2460)
      ∧ (ohmsBand r = .outside ↔ r < 75 ∨ (2460 ≤ r ∧ r ≤ 4500)) ∧ (ohmsBand r = .open ↔ 4500 < r))

/-- Make (R30, R96, R204 to R206, R210, R253): with every condition met and the kill-latch test passed the coil is energised at full voltage
once every read-back shows off; after the pull-in the closed contactor brings GATE_N and the hold loop; each declared phase gate follows its
crossing or its time-out; when every read-back agrees the session is charging. A condition that fails stops Make. A failed kill-latch test and
a contactor that does not close are dangerous.
(What is the model's choice or inference in it: log entry 24.) -/
def Obligations.MakeSteps : Prop :=
  ∀ s : State,
    (mayMake s = true → s.swg.gateCmd = 0 → s.swg.gateFb = 0 → ∃ t, Machine.exec (.make true) s = .next t ∧ t.ses.phase = .make
      ∧ t.ses.makeStep = 3 ∧ t.swg.coilCmd = true ∧ t.swg.coilDuty = 255 ∧ t.swg.gateCmd = 0
      ∧ t.swg.contactorOps = satInc s.swg.contactorOps)
    ∧ (mayMake s = true → s.swg.gateCmd = 0 → s.swg.gateFb ≠ 0 → ∃ t, Machine.exec (.make true) s = .next t ∧ t.ses.phase = .make
      ∧ t.ses.makeStep = 1 ∧ t.swg = s.swg)
    ∧ (isUp s .tmr = true → s.ses.phase = .make → s.ses.makeStep = 1 → ∃ t, Machine.exec (.readbackCheck 0) s = .next t
      ∧ t.ses.makeStep = 3 ∧ t.swg.heldCoil = some true ∧ t.swg.interlock = true ∧ t.swg.coilCmd = s.swg.coilCmd
      ∧ t.swg.contactorOps = satInc s.swg.contactorOps)
    ∧ (mayMake s = true → s.swg.gateCmd = 0 → Machine.exec (.make false) s = .next (settle (diagFail 10 s)))
    ∧ (s.ses.phase = .make → s.ses.makeStep = 3 → s.swg.aux = false →
      Machine.exec .pullInElapsed s = .next (settle { s with ses := { s.ses with pulledIn := true } }))
    ∧ (s.ses.phase = .make → s.ses.makeStep = 3 → s.swg.aux = true → gateBar s = none →
      ∃ t, Machine.exec .pullInElapsed s = .next t ∧ t.ses.makeStep = 5 ∧ t.swg.gateCmd.getLsbD 3 = true ∧ t.ses.counting = true
        ∧ t.ses.gatesSeen = true)
    ∧ (s.ses.phase = .make → s.ses.makeStep = 3 → s.swg.aux = true → (gateBar s).isSome = true →
      ∃ t, Machine.exec .pullInElapsed s = .next t ∧ t.ses.phase ≠ .make ∧ t.swg.gateCmd = 0 ∧ t.swg.heldCoil ≠ some true)
    ∧ (isUp s .tmr = true → s.ses.phase = .make → s.ses.makeStep = 3 → s.ses.pulledIn = true → s.swg.coilCmd = true →
      gateBar s = none → ∃ t, Machine.exec (.auxInConfirmed true) s = .next t ∧ t.swg.aux = true ∧ t.ses.makeStep = 5
        ∧ t.swg.gateCmd.getLsbD 3 = true)
    ∧ (∀ p : Phase3, s.ses.phase = .make → s.ses.makeStep = 5 → (phases s).contains (phaseNum p) = true →
      s.swg.gateCmd.getLsbD (phaseNum p) = false → s.swg.aux = true → gateBar s = none →
      (isUp s .met = true → isUp s .tmr = true → s.met.beyond10.toList.getD (phaseNum p) false = true →
        ∃ t, Machine.exec (.zeroCrossing p) s = .next t
          ∧ t.swg.gateCmd.getLsbD (phaseNum p) = true ∧ t.ses.counting = true ∧ t.ses.gatesSeen = true)
      ∧ (∃ t, Machine.exec (.zeroCrossingTimeout p) s = .next t ∧ t.swg.gateCmd.getLsbD (phaseNum p) = true
        ∧ t.ses.counting = true ∧ t.ses.gatesSeen = true))
    ∧ (∀ p : Phase3, s.met.beyond10.toList.getD (phaseNum p) false = false → Machine.exec (.zeroCrossing p) s = .next (settle s))
    ∧ (isUp s .tmr = true → s.ses.phase = .make → s.ses.makeStep = 5 → s.swg.gateCmd = declaredGates s → s.glt.kill = false →
      ∃ t, Machine.exec (.readbackCheck (declaredGates s)) s = .next t ∧ t.ses.phase = .charging ∧ t.swg.gateFb = declaredGates s)
    ∧ (s.ses.phase = .make → s.ses.makeStep = 3 → s.swg.aux = false → ∃ t, Machine.exec .auxCloseTimeout s = .next t
      ∧ t.swg.auxFault = true ∧ 0x208 ∈ t.live.standing ∧ t.swg.heldCoil ≠ some true
      ∧ (s.ses.inUse = true → t.ses.breakStop = 6 ∨ t.ses.stop = 6))

/-- Break and the watches over the switches (R202, R203, R207 to R213): a read-back that differs from the command is diagnostic 3; the
coil opens only with the gates off; a gate stuck on and a contactor stuck closed are dangerous; the interlock holds a command until its
condition holds; the economiser's sense is lost as R213 says.
(What is the model's choice or inference in it: log entry 24.) -/
def Obligations.BreakSteps : Prop :=
  ∀ s : State,
    (∀ g : BitVec 4, isUp s .tmr = true → s.ses.phase ≠ .make → s.ses.phase ≠ .break →
      (g &&& declaredGates s) ≠ (if s.glt.kill then 0 else s.swg.gateCmd) → ∃ t, Machine.exec (.readbackCheck g) s = .next t
        ∧ t.swg = { s.swg with gateFb := g &&& declaredGates s, fbMismatch := true } ∧ 0x206 ∈ t.live.standing)
    ∧ (isUp s .met = true → s.ses.phase = .break → s.ses.breakStep = 2 → s.swg.gateFb = 0 → s.swg.coilCmd = true → s.swg.aux = true →
      ∃ t, Machine.exec .zeroCurrentWindowEnd s = .next t ∧ t.swg.coilCmd = false ∧ t.swg.coilDuty = 0 ∧ t.ses.breakStep = 4)
    ∧ (isUp s .met = true → s.ses.phase = .break → s.ses.breakStep = 2 → s.swg.gateFb ≠ 0 → s.swg.coilCmd = true →
      ∃ t, Machine.exec .zeroCurrentWindowEnd s = .next t ∧ t.swg.coilCmd = true ∧ t.swg.heldCoil = some false ∧ t.swg.interlock = true
        ∧ t.ses.breakStep = 3)
    ∧ (s.ses.phase = .break → 1 ≤ s.ses.breakStep → s.ses.breakStep ≤ 3 → s.swg.aux = true → ∃ t, Machine.exec .stuckOn s = .next t
      ∧ t.swg.stuckOn = true ∧ t.swg.coilCmd = false ∧ t.swg.heldCoil = none ∧ t.ses.breakStep = 4 ∧ 0x206 ∈ t.live.standing)
    ∧ (s.ses.phase = .break → s.ses.breakStep = 4 → s.swg.aux = true → s.plt.level = .pwm →
      ∃ t, Machine.exec .auxOpenTimeout s = .next t ∧ t.swg.auxFault = true ∧ t.ses.breakStep = 5 ∧ 0x208 ∈ t.live.standing)
    ∧ (s.swg.interlock = true → s.swg.heldCoil = some true → s.swg.gateFb = 0 → s.swg.heldGates = 0 →
      ∃ t, Machine.exec .interlockRelease s = .next t ∧ t.swg.coilCmd = true ∧ t.swg.heldCoil = none ∧ t.swg.interlock = false)
    ∧ (s.swg.interlock = true → s.swg.heldCoil = some false → s.swg.gateFb = 0 → s.swg.coilCmd = true → s.swg.aux = true →
      ∃ t, Machine.exec .interlockRelease s = .next t ∧ t.swg.coilCmd = false ∧ t.swg.heldCoil = none ∧ t.ses.breakStep = 4)
    ∧ (s.swg.interlock = true → s.swg.heldCoil = none → s.swg.aux = true → s.swg.heldGates ≠ 0 →
      ∃ t, Machine.exec .interlockRelease s = .next t
        ∧ t.swg.gateCmd = s.swg.gateCmd ||| (s.swg.heldGates &&& declaredGates s) ∧ t.swg.heldGates = 0)
    ∧ (s.swg.interlock = true → Machine.exec .interlockHoldTimeout s = .next (settle (diagFail 3 s)))
    ∧ (∀ ma : BitVec 16, isUp s .tmr = true → adcRuns s = true → s.swg.coilCmd = true → s.swg.openLoop = false →
      (3000 < ma.toNat → ∃ t, Machine.exec (.economiserSample ma) s = .next t ∧ t.swg.senseMa = ma ∧ t.swg.openLoop = true
        ∧ t.swg.coilDuty = 255 ∧ t = { s with swg := t.swg, flash := t.flash, fab := t.fab, glt := t.glt })
      ∧ (senseFails (((ma, s.swg.coilDuty) :: s.swg.recent).take 10) ma = false → s.ses.phase ≠ .make →
        ∃ t, Machine.exec (.economiserSample ma) s = .next t ∧ t.swg.senseMa = ma ∧ t.swg.openLoop = false
          ∧ t = { s with swg := t.swg, free := s.free + 1, fab := t.fab, glt := t.glt }))
    ∧ (∀ ma : BitVec 16, isUp s .tmr = true → adcRuns s = true → s.swg.coilCmd = false → ∃ t, Machine.exec (.economiserSample ma) s = .next t
      ∧ t.swg.senseMa = ma ∧ t.swg.coilDuty = s.swg.coilDuty ∧ t = { s with swg := t.swg, fab := t.fab, glt := t.glt })

/-- The cable lock (R215 to R225): a move drives the motor and ends with BRAKE at its own limit, its time standing in LCK_MOVE; limits, hall
pulses and their time-outs are judged as R223 and R224 say; a move that cannot be followed is a fault, and none begins under one; BRAKE ends
FREE.
(What is the model's choice or inference in it: log entry 26.) -/
def Obligations.LockMoves : Prop :=
  ∀ s : State, isUp s .tmr = true → lockFitted s = true →
    (∀ toLocked : Bool, s.lck.queued = some toLocked → s.lck.moving = none → s.lck.drive = .free → s.lck.faults = 0 →
      safeInForce s = false → s.pwr.brown.active = false → (if toLocked then s.lck.limLocked else s.lck.limUnlocked) = false →
      (s.lck.hallKnown = false ∨ s.lck.hallOk = true → ∃ t, Machine.exec (.lockMove toLocked) s = .next t ∧ t.lck.moving = some toLocked
        ∧ t.lck.drive = (if toLocked then .locking else .unlocking) ∧ t.lck.pulses = 0 ∧ t.lck.queued = none
        ∧ t = { s with lck := t.lck, fab := t.fab, glt := t.glt })
      ∧ (s.lck.hallKnown = true → s.lck.hallOk = false → ∃ t, Machine.exec (.lockMove toLocked) s = .next t
        ∧ t.lck.faults.getLsbD 2 = true ∧ t.lck.state = 5 ∧ t.lck.drive = .brake ∧ t.lck.moving = none))
    ∧ (∀ toLocked : Bool, s.lck.faults ≠ 0 → Machine.exec (.lockMove toLocked) s = .next (settle s))
    ∧ (∀ (w : Limit) (n : Nat), 4 < n → ∃ t, Machine.exec (.limitTransition w n) s = .next t ∧ t.lck.faults.getLsbD 1 = true
      ∧ t.lck.state = 5 ∧ t.lck.drive = .brake)
    ∧ (∀ (w : Limit) (n : Nat), n ≤ 4 → Machine.exec (.limitTransition w n) s = .next (settle s))
    ∧ (s.lck.moving = some true → s.lck.homing = false → s.lck.limUnlocked = false → ∃ t, Machine.exec (.limitConfirmed .locked true) s = .next t
      ∧ t.lck.limLocked = true ∧ t.lck.drive = .brake ∧ t.lck.afterBrake = 2 ∧ t.lck.moving = none ∧ t.lck.elapsedMs = elapsedNow s)
    ∧ (s.lck.limUnlocked = true → ∃ t, Machine.exec (.limitConfirmed .locked true) s = .next t ∧ t.lck.faults.getLsbD 0 = true
      ∧ t.lck.state = 5)
    ∧ (s.lck.drive = .brake → Machine.exec .lockBrakeEnd s
        = .next (settle { s with lck := { s.lck with drive := .free, state := s.lck.afterBrake } }))
    ∧ (s.lck.moving ≠ none → ∃ t, Machine.exec .hallPulse s = .next t ∧ t.lck = { s.lck with pulses := satInc s.lck.pulses }
      ∧ t = { s with lck := t.lck, fab := t.fab, glt := t.glt })
    ∧ (s.lck.moving ≠ none → (∃ t, Machine.exec .hallTimeout s = .next t ∧ t.lck.faults.getLsbD 2 = true ∧ t.lck.state = 5
        ∧ t.lck.elapsedMs = elapsedNow s)
      ∧ (∃ t, Machine.exec .lockMoveTimeout s = .next t ∧ t.lck.faults.getLsbD 0 = true ∧ t.lck.state = 5
        ∧ t.lck.elapsedMs = elapsedNow s))
    ∧ (∀ ua : BitVec 16, adcRuns s = true → (1000 ≤ ua.toNat ∧ ua.toNat ≤ 20000 →
        Machine.exec (.hallSensorAbsent ua) s = .next (settle { s with lck := { s.lck with hallOk := true, hallKnown := true } }))
      ∧ (ua.toNat < 1000 ∨ 20000 < ua.toNat →
        (s.lck.moving ≠ none → ∃ t, Machine.exec (.hallSensorAbsent ua) s = .next t ∧ t.lck.faults.getLsbD 2 = true ∧ t.lck.state = 5)
        ∧ (s.lck.moving = none → s.lck.state = 2 → s.lck.limLocked = true →
          ∃ t, Machine.exec (.hallSensorAbsent ua) s = .next t
            ∧ t.lck = { s.lck with hallOk := false, hallKnown := true, faults := setBit s.lck.faults 2 }
            ∧ (s.lck.faults.getLsbD 2 = false → t.ses = { s.ses with lockExcused := true }))))
    ∧ (s.ses.unlockWaits = true → s.plt.state = .a → s.safe.active = false → s.lck.faults = 0 →
      ∃ t, Machine.exec .unlockAfterStateA s = .next t ∧ t.ses.unlockWaits = false ∧ t.lck.queued = some false
        ∧ t = { s with ses := { s.ses with unlockWaits := false }, lck := { s.lck with queued := some false }, fab := t.fab, glt := t.glt })

/-- Residual current (R228, R229, R231, R246, R247, Table 9-8): a result is the RMS and the mean over the samples of the last period, capped at
300 mA, while the excitation is locked; four missed half periods or a peak out of its range lose it each time.
(What is the model's choice or inference in it: log entry 35.) -/
def Obligations.ResidualCurrent : Prop :=
  (∀ s : State, isUp s .adc = true →
    (∀ peak : Byte, 20 ≤ peak.toNat → peak.toNat ≤ 60 → ∃ t, Machine.exec (.excitationHalfPeriod true peak) s = .next t
      ∧ t.rcd.peakMa = peak ∧ t.rcd.miss = 0 ∧ (1 ≤ s.rcd.goodHalves → t.rcd.excLock = true)
      ∧ t = { s with rcd := t.rcd, safe := t.safe, live := t.live, fab := t.fab, glt := t.glt })
    ∧ (∀ peak : Byte, s.rcd.miss = 3 → ∃ t, Machine.exec (.excitationHalfPeriod false peak) s = .next t
      ∧ t.rcd.miss = 4 ∧ t.rcd.excLost = true ∧ t.rcd.excLock = false ∧ 0x201 ∈ t.live.standing)
    ∧ (∀ (b : Bool) (peak : Byte), peak.toNat < 20 ∨ 60 < peak.toNat → ∃ t, Machine.exec (.excitationHalfPeriod b peak) s = .next t
      ∧ t.rcd.peakMa = peak ∧ t.rcd.excLost = true ∧ t.rcd.excLock = false ∧ 0x201 ∈ t.live.standing)
    ∧ (∀ up down : Bool, adcRuns s = true → s.rcd.excLock = true → residualSamples s ≠ [] →
      ∃ t, Machine.exec (.residualResult up down) s = .next t
        ∧ t.rcd.ac = BitVec.ofNat 16 (residualAc up (residualSamples s)) ∧ t.rcd.dc = ofInt 16 (residualDc down (residualSamples s))
        ∧ t.bil = s.bil ∧ t.ses = s.ses ∧ t.swg = s.swg)
    ∧ (∀ up down : Bool, adcRuns s = false ∨ s.rcd.excLock = false ∨ residualSamples s = [] →
      Machine.exec (.residualResult up down) s = .next (settle s)))
  ∧ (∀ (up : Bool) (l : List Int), residualAc up l ≤ 30000)
  ∧ (∀ (up : Bool) (l : List Int), l ≠ [] →
    (residualDc up l * l.length - l.sum).natAbs < l.length ∧ (residualDc false l * l.length ≤ l.sum))

/-- A level whose count is reached trips (R231, R233, R239, R243, R281): it is latched, counted and reported with cause 0101h, unless the
test-winding check runs; in a brown-out sequence without the safe state nothing of SAFE changes. A result below the window by its hysteresis restarts the count.
(What is the model's choice or inference in it: log entry 35.) -/
def Obligations.GradedTrips : Prop :=
  ∀ (s : State) (n : Nat) (v : Nat), n < 6 → levelArmed s n = true → (winAt s (10 + n)).en = true → s.rcd.windingRun = false →
    ((winAt s (10 + n)).out = true → (winAt s (10 + n)).cnt + 1 = (winAt s (10 + n)).count → (winAt s (10 + n)).cnt ≠ 255 →
      backInside false (winAt s (10 + n)) v = false →
      (feedLevel v n s).rcd.trip.getLsbD n = true ∧ (feedLevel v n s).rcd.trips = satInc s.rcd.trips
        ∧ (s.pwr.brown.active = false ∨ safeInForce s = true → 0x101 ∈ (feedLevel v n s).safe.reports)
        ∧ (s.pwr.brown.active = true → safeInForce s = false → (feedLevel v n s).safe = s.safe))
    ∧ ((winAt s (10 + n)).out = true → backInside false (winAt s (10 + n)) v = true →
      (feedLevel v n s).rcd.trip = s.rcd.trip ∧ (feedLevel v n s).rcd.above.getLsbD n = false
        ∧ (winAt (feedLevel v n s) (10 + n)).cnt = 0)

/-- The Glint path (R200, R201, R203, R234, R235, R238, R242, R243, R245): a comparator sets the kill latch and its bits, FIRST only if it is
the first, forces every gate pad off and reports its own cause; in its blind window it is diverted, and an input still present at the window's
end sets the latch.
(What is the model's choice or inference in it: log entry 3.) -/
def Obligations.FastComparators : Prop :=
  ∀ s : State,
    (∀ (fc : Comparator) (c : Conductor), (fcNum fc ≠ 3 ∨ (conductors s).contains (conductorNum c) = true) →
      diverted s (fcNum fc) = false → ∃ t, Machine.exec (.fastComparatorTrip fc c) s = .next t
        ∧ t.glt.kill = true ∧ t.glt.trip.getLsbD (fcNum fc) = true ∧ gatePads t = 0 ∧ gkillnPad t = .low
        ∧ (s.glt.trip = 0 → t.glt.first = setBit 0 (fcNum fc)) ∧ (s.glt.trip ≠ 0 → t.glt.first = s.glt.first)
        ∧ (s.pwr.brown.active = false ∨ safeInForce s = true →
          t.safe.reports = s.safe.reports ++ [BitVec.ofNat 16 (0x102 + fcNum fc)])
        ∧ (s.pwr.brown.active = true → safeInForce s = false → t.safe = s.safe)
        ∧ (fc = .fc0 → t.rcd.trips = satInc s.rcd.trips)
        ∧ (fc = .fc3 → t.swg.desatTrips = satInc s.swg.desatTrips ∧ t.swg.desat.getLsbD (conductorNum c) = true))
    ∧ (∀ c : Conductor, (conductors s).contains (conductorNum c) = false →
      Machine.exec (.fastComparatorTrip .fc3 c) s = .next (settle s))
    ∧ (∀ (fc : Comparator) (c : Conductor), (fcNum fc ≠ 3 ∨ (conductors s).contains (conductorNum c) = true) →
      diverted s (fcNum fc) = true → Machine.exec (.fastComparatorTrip fc c) s
        = .next (settle { s with glt := { s.glt with
            active := setBit s.glt.active (fcNum fc)
            desatNow := if fcNum fc = 3 then setBit s.glt.desatNow (conductorNum c) else s.glt.desatNow } }))
    ∧ (∀ fc : Comparator, isUp s .adc = true → s.glt.testing = 0 → ∃ t, Machine.exec (.comparatorTest fc false) s = .next t
      ∧ t.glt.testing = setBit 0 (fcNum fc) ∧ t.glt.testFail.getLsbD (fcNum fc) = true ∧ 0x203 ∈ t.live.standing)
    ∧ (∀ fc : Comparator, isUp s .adc = true → s.glt.testing = 0 → s.glt.testFail = 0 →
      ∃ t, Machine.exec (.comparatorTest fc true) s = .next t
        ∧ t.glt.testing = setBit 0 (fcNum fc) ∧ t.glt.testFail = 0 ∧ t.safe.passed.getLsbD 5 = true)
    ∧ (∀ (fc : Comparator) (b : Bool), s.glt.testing ≠ 0 → Machine.exec (.comparatorTest fc b) s = .next (settle s))
    ∧ (∀ (fc : Comparator) (c : Conductor), s.glt.testing.getLsbD (fcNum fc) = true →
      (∃ t, Machine.exec (.blindWindowEnd fc none) s = .next t
        ∧ t.glt.testing = clearBit s.glt.testing (fcNum fc) ∧ t.swg = s.swg ∧ t.safe = s.safe)
      ∧ ((fcNum fc ≠ 3 ∨ (conductors s).contains (conductorNum c) = true) → (fc = .fc0 → s.rcd.windingStep ≠ 4) →
        ∃ t, Machine.exec (.blindWindowEnd fc (some c)) s = .next t
          ∧ t.glt.kill = true ∧ t.glt.trip.getLsbD (fcNum fc) = true ∧ gatePads t = 0
          ∧ (fc = .fc3 → t.swg.desat.getLsbD (conductorNum c) = true)))
    ∧ (isUp s .safe = true → isUp s .adc = true → ∃ t, Machine.exec .thresholdLoad s = .next t
      ∧ t.glt.fc0Ma = BitVec.ofNat 9 (setting? s 12 4) ∧ t.glt.fc12A = BitVec.ofNat 9 (fc12For (sealAmps s))
      ∧ t = { s with glt := t.glt, fab := t.fab })

/-- The test-winding check (R239, R240): its baseline and its steps; a baseline that fails ends the attempt, a failure of a step leaves Make
withheld and is diagnostic 9, a pass lifts that. FC0 is reconnected as its step ends, and an input still present trips.
(What is the model's choice or inference in it: log entry 3.) -/
def Obligations.TestWinding : Prop :=
  ∀ s : State,
    (windingMay s = true → s.ses.windingDue = true ∨ s.ses.inUse = false → Machine.exec .testWindingCheck s
      = .next (settle { s with rcd := { s.rcd with
          windingStep := 1, windingRun := true, dc6Counted := false, fc0Ok := false
          baseline := decide (s.rcd.dc.toInt.natAbs < 100) && decide (s.rcd.ac.toNat < 100) } }))
    ∧ (∀ b : Bool, isUp s .adc = true → s.rcd.windingRun = true →
      (s.rcd.windingStep = 1 → s.rcd.baseline = true →
        Machine.exec (.testWindingStepEnd b) s = .next (settle { s with rcd := { s.rcd with windingStep := 2 } }))
      ∧ (s.rcd.windingStep = 1 → s.rcd.baseline = false → ∃ t, Machine.exec (.testWindingStepEnd b) s = .next t
        ∧ t.rcd.windingRun = false ∧ t.rcd.windingStep = 0 ∧ t.rcd.windingFail = s.rcd.windingFail ∧ t.ses = s.ses)
      ∧ (s.rcd.windingStep = 2 → 800 ≤ s.rcd.dc.toInt → s.rcd.dc.toInt ≤ 1200 → s.rcd.dcArmed = false ∨ s.rcd.dc6Counted = true →
        Machine.exec (.testWindingStepEnd b) s = .next (settle { s with rcd := { s.rcd with windingStep := 3 } }))
      ∧ (s.rcd.windingStep = 3 → 800 ≤ s.rcd.ac.toNat → s.rcd.ac.toNat ≤ 1200 →
        Machine.exec (.testWindingStepEnd b) s = .next (settle { s with rcd := { s.rcd with windingStep := 4 } }))
      ∧ (s.rcd.windingStep = 4 → s.glt.active.getLsbD 0 = false →
        Machine.exec (.testWindingStepEnd b) s = .next (settle { s with rcd := { s.rcd with windingStep := 5, fc0Ok := b } }))
      ∧ (s.rcd.windingStep = 4 → s.glt.active.getLsbD 0 = true → s.glt.testing.getLsbD 0 = false →
        ∃ t, Machine.exec (.testWindingStepEnd b) s = .next t ∧ t.glt.kill = true ∧ t.glt.trip.getLsbD 0 = true ∧ t.rcd.windingStep = 5)
      ∧ (s.rcd.windingStep = 5 → s.rcd.fc0Ok = true → ∃ t, Machine.exec (.testWindingStepEnd b) s = .next t ∧ t.ses.windingDue = false
        ∧ t.rcd.windingRun = false ∧ t.rcd.windingFail = false ∧ t.safe.passed.getLsbD 9 = true)
      ∧ ((s.rcd.windingStep = 2 ∧ (s.rcd.dc.toInt < 800 ∨ 1200 < s.rcd.dc.toInt)) ∨
          (s.rcd.windingStep = 3 ∧ (s.rcd.ac.toNat < 800 ∨ 1200 < s.rcd.ac.toNat)) ∨ (s.rcd.windingStep = 5 ∧ s.rcd.fc0Ok = false) →
        ∃ t, Machine.exec (.testWindingStepEnd b) s = .next t ∧ t.ses.windingDue = true
          ∧ t.rcd.windingRun = false ∧ t.rcd.windingFail = true ∧ 0x202 ∈ t.live.standing))
    ∧ (mayMake s = true → s.ses.windingDue = false ∧ s.rcd.windingRun = false ∧ s.glt.kill = false)

/-- A window of SAFE with reports (R250, R251, R252, R265, R266): the safe state is in force with its governing cause, gate-kill is
asserted, the pilot stands at state F level, no gate is held, a session has ended, and the entry is counted once.
(What is the model's choice or inference in it: log entry 28.) -/
def Obligations.SafeStateEntry : Prop :=
  ∀ (s : State) (n : Nat), isUp s .safe = true → safeInForce s = false → s.safe.reports ≠ [] →
    ∃ t, Machine.exec (.safeWindow n) s = .next t ∧ t.safe.active = true ∧ t.safe.startHold = false ∧ t.glt.kill = true
      ∧ gatePads t = 0 ∧ gkillnPad t = .low ∧ t.swg.heldGates = 0 ∧ t.swg.heldCoil ≠ some true ∧ t.plt.level = .stateF ∧ t.plt.duty = 0
      ∧ t.safe.entries = satInc s.safe.entries ∧ t.safe.reports = [] ∧ t.ses.inUse = false

/-- The other watches of SAFE (R253, R256, R258, R261, R264, R269, R270, Tables 10-3 to 10-5).
(What is the model's choice or inference in it: log entries 28, 36 and 62.) -/
def Obligations.SafetyWatches : Prop :=
  ∀ s : State,
    (∀ n : Nat, isUp s .safe = true → s.safe.reports = [] → 24500 ≤ n → n ≤ 25500 → s.swg.aux = s.swg.coilCmd ∨ s.live.auxDiffers < 149 →
      ∃ t, Machine.exec (.safeWindow n) s = .next t ∧ t.safe.active = s.safe.active ∧ t.safe.entries = s.safe.entries
        ∧ (xtalHasRun s = true → t.safe.passed.getLsbD 8 = true)
        ∧ t = { s with safe := t.safe, live := t.live, fab := t.fab, glt := t.glt })
    ∧ (∀ n : Nat, isUp s .safe = true → isUp s .tmr = true → s.safe.reports = [] → 24500 ≤ n → n ≤ 25500 → safeInForce s = false →
      s.ses.phase ≠ .make → s.ses.phase ≠ .break → s.swg.aux ≠ s.swg.coilCmd → 149 ≤ s.live.auxDiffers → 0x208 ∉ s.live.standing →
      ∃ t, Machine.exec (.safeWindow n) s = .next t ∧ t.safe.active = true ∧ t.glt.kill = true
        ∧ t.safe.failed.getLsbD 4 = true)
    ∧ (∀ i : Island, isUp s .safe = true → i ≠ .safe → isUp s i = true → underTest s i = false →
      (∃ t, Machine.exec (.islandHeartbeat i true) s = .next t ∧ pget t.safe.misses i = 0 ∧ t.safe.passed.getLsbD 7 = true
        ∧ t = { s with safe := t.safe, fab := t.fab, glt := t.glt })
      ∧ (pget s.safe.misses i = 2 → i ≠ .aon → ∃ t, Machine.exec (.islandHeartbeat i false) s = .next t
        ∧ (port t i).state = .resetting ∧ t.safe.failed.getLsbD 7 = true)
      ∧ (pget s.safe.misses i = 2 → i = .aon → ∃ t, Machine.exec (.islandHeartbeat i false) s = .next t
        ∧ 0x400 ∈ t.safe.reports ∧ t.safe.failed.getLsbD 7 = true))
    ∧ (∀ (c : Converter) (code : BitVec 16), isUp s .safe = true → isUp s .adc = true → s.adc.listsRun = true →
      (refNear (s.adc.refValue.toList.getD (convNum c) 0) code = true → ∃ t, Machine.exec (.referenceCheck c code) s = .next t
        ∧ t.safe.refBad.toList.getD (convNum c) 9 = 0 ∧ t.adc.refFail.getLsbD (convNum c) = false
        ∧ (setBit s.adc.refSeen (convNum c) = 0xF → t.safe.passed.getLsbD 2 = true)
        ∧ (setBit s.adc.refSeen (convNum c) ≠ 0xF → t.safe.passed = s.safe.passed))
      ∧ (refNear (s.adc.refValue.toList.getD (convNum c) 0) code = false → ∃ t, Machine.exec (.referenceCheck c code) s = .next t
        ∧ t.adc.refFail.getLsbD (convNum c) = true ∧ t.adc.converterErrors = satInc s.adc.converterErrors
        ∧ (1 ≤ s.safe.refBad.toList.getD (convNum c) 0 → 0x204 ∈ t.live.standing)))
    ∧ ((safeInForce s = true ∧ s.safe.needsReset = true) ∨ s.glt.safeFault = true →
      (resetWaits .safeReq s = false → ∃ t, Machine.exec .safeReset s = .next t ∧ t.pwr.resetHeld = true ∧ t.rst.safeReq = true)
      ∧ (resetWaits .safeReq s = true → Machine.exec .safeReset s
        = .next (settle { s with pwr := { s.pwr with heldResets := s.pwr.heldResets ++ [.safeReq] } })))
    ∧ (s.flash.writable = true → s.safe.evidence ≠ [] → ∃ t, Machine.exec .evidenceFlush s = .next t ∧ t.safe.evidence = []
      ∧ t.flash.log.length = s.flash.log.length + s.safe.evidence.length
      ∧ t = { s with safe := { s.safe with evidence := [] }, flash := t.flash, fab := t.fab, glt := t.glt })
    ∧ (isUp s .safe = true → ∃ t, Machine.exec .safeSelfFault s = .next t ∧ t.glt.kill = true ∧ t.glt.safeFault = true
      ∧ gatePads t = 0 ∧ t.safe.reports = s.safe.reports ++ [0x502])
    ∧ (isUp s .safe = true → safeInForce s = true → releaseOk true s = true → ∃ t, Machine.exec .automaticRelease s = .next t
      ∧ t.safe.active = false ∧ t.safe.autoLeft = s.safe.autoLeft - 1 ∧ t.safe.sealChanged = false ∧ t.safe.failed = 0
      ∧ t.plt.level = (if s.plt.holdF then .stateF else .steady) ∧ t.glt.kill = false ∧ t.glt.trip = 0)

/-- The seal (R257, R258, R262, R268, R271, Table 10-4): a read whose lines are valid and agree with the accepted word keeps it; the same
other word in two reads is a change with cause 0301h; a line invalid in two reads running is cause 0302h; a read that is not valid stops Charging
(R30).
(What is the model's choice or inference in it: log entry 29.) -/
def Obligations.SealReads : Prop :=
  ∀ (s : State) (p1 p2 p3 : Byte), isUp s .safe = true → isUp s .aon = true → s.safe.pulses = true → s.safe.sealAccepted = true →
    s.pwr.loaderState = false → s.tst.scanning = false →
    (invalidLines p1 p2 p3 = 0 → positions p1 p2 p3 = s.safe.pos → ∃ t, Machine.exec (.sealRead p1 p2 p3) s = .next t
      ∧ t.safe.pos = s.safe.pos ∧ t.safe.sealValid = true ∧ t.safe.sealFault = false ∧ t.safe.lineFault = 0
      ∧ t.safe.sealChanged = s.safe.sealChanged ∧ t.safe.reports = s.safe.reports
      ∧ t = { s with safe := t.safe, live := t.live, fab := t.fab, glt := t.glt })
    ∧ (invalidLines p1 p2 p3 = 0 → positions p1 p2 p3 ≠ s.safe.pos → s.safe.sealCandidate = some (positions p1 p2 p3) →
      ∃ t, Machine.exec (.sealRead p1 p2 p3) s = .next t ∧ t.safe.pos = positions p1 p2 p3 ∧ t.safe.sealChanged = true
        ∧ t.safe.reports = s.safe.reports ++ [0x301])
    ∧ (invalidLines p1 p2 p3 = 0 → positions p1 p2 p3 ≠ s.safe.pos → s.safe.sealCandidate ≠ some (positions p1 p2 p3) →
      ∃ t, Machine.exec (.sealRead p1 p2 p3) s = .next t ∧ t.safe.pos = s.safe.pos ∧ t.safe.sealChanged = s.safe.sealChanged
        ∧ t.safe.sealCandidate = some (positions p1 p2 p3) ∧ t.safe.reports = s.safe.reports)
    ∧ (invalidLines p1 p2 p3 ≠ 0 → s.safe.lineFault &&& invalidLines p1 p2 p3 = 0 → ∃ t, Machine.exec (.sealRead p1 p2 p3) s = .next t
      ∧ t.safe.sealFault = true ∧ t.safe.sealValid = false ∧ t.safe.lineFault = invalidLines p1 p2 p3
      ∧ t.safe.reports = s.safe.reports
      ∧ (s.ses.phase = .charging → s.ses.inUse = true → t.ses.phase ≠ .charging ∧ t.swg.gateCmd = 0))
    ∧ (invalidLines p1 p2 p3 ≠ 0 → s.safe.lineFault &&& invalidLines p1 p2 p3 ≠ 0 → 0x302 ∉ s.live.standing →
      ∃ t, Machine.exec (.sealRead p1 p2 p3) s = .next t ∧ t.safe.sealFault = true ∧ t.safe.sealValid = false
        ∧ t.safe.reports = s.safe.reports ++ [0x302])

/-- The fixed lists (R181, R213, R273, R274, R275, R307, R570, Tables 10-3, 11-1 and 11-2): each row's result goes where it belongs, a PWM
period is judged at its negative window over both, and a result for an island that is out of service is dropped and counted at its port.
(What is the model's choice or inference in it: log entry 34.) -/
def Obligations.ListResults : Prop :=
  ∀ s : State, adcRuns s = true →
    (∀ (d : BitVec 16) (e : Nat), isUp s .tmr = true → isUp s .safe = true →
      (s.plt.level = .pwm → ∃ t, Machine.exec (.listP true d e) s = .next t
        ∧ t.safe = { s.safe with pilotWindowBad := !decide ((d.toInt - 12000).natAbs ≤ 1000 ∧ e ≤ 2000) }
        ∧ t = { s with safe := t.safe, fab := t.fab, glt := t.glt })
      ∧ (∀ high : Bool, s.plt.level ≠ .pwm ∨ high = false → s.safe.pilotWindowBad = false →
        (d.toInt - commandedMv s high).natAbs ≤ 1000 → e ≤ 2000 →
        ∃ t, Machine.exec (.listP high d e) s = .next t ∧ t.safe.pilotBad = 0 ∧ t.safe.passed.getLsbD 0 = true
          ∧ t = { s with safe := t.safe, live := t.live, fab := t.fab, glt := t.glt })
      ∧ (∀ high : Bool, s.plt.level ≠ .pwm ∨ high = false →
        s.safe.pilotWindowBad = true ∨ 1000 < (d.toInt - commandedMv s high).natAbs ∨ 2000 < e →
        2 ≤ s.safe.pilotBad → ∃ t, Machine.exec (.listP high d e) s = .next t ∧ 0x205 ∈ t.live.standing))
    ∧ (∀ (high : Bool) (d : BitVec 16) (e : Nat),
      (isUp s .tmr = false → ∃ t, Machine.exec (.listP high d e) s = .next t
        ∧ (port t .tmr).lossCount = satInc (port s .tmr).lossCount ∧ t = { s with fab := t.fab, glt := t.glt })
      ∧ (isUp s .safe = false → ∃ t, Machine.exec (.listP high d e) s = .next t
        ∧ (port t .safe).lossCount = satInc (port s .safe).lossCount ∧ t = { s with fab := t.fab, glt := t.glt }))
    ∧ (∀ x : TickSamples, (isUp s .met = true → ∃ t, Machine.exec (.listM x) s = .next t
        ∧ t.met.samples = (x, pairBorrowed s) :: s.met.samples ∧ t.met.eimp = s.met.eimp
        ∧ t = { s with met := t.met, ses := { s.ses with clipLogged := t.ses.clipLogged }, flash := t.flash, fab := t.fab, glt := t.glt })
      ∧ (isUp s .met = false → ∃ t, Machine.exec (.listM x) s = .next t ∧ t = { s with fab := t.fab, glt := t.glt }
        ∧ (port t .met).lossCount.toNat = min 0xFFFF ((port s .met).lossCount.toNat + 4)))
    ∧ (∀ code : BitVec 16, Machine.exec (.listE code) s
        = .next (settle { s with rcd := { s.rcd with stream := (code :: s.rcd.stream).take 356 } }))
    ∧ (∀ (c : Converter) (code : BitVec 16), ∃ t, Machine.exec (.listS 13 c code) s = .next t ∧ t.adc.dieTemp = code
      ∧ t = { s with adc := t.adc, flash := t.flash, fab := t.fab, glt := t.glt })
    ∧ (∀ (c : Converter) (code : BitVec 16), (evalWindow false code.toNat (winAt s 9)).2 = true →
      ∃ t, Machine.exec (.listS 10 c code) s = .next t ∧ winAt t 9 = (evalWindow false code.toNat (winAt s 9)).1
        ∧ (isUp s .tmr = true → s.swg.coilCmd = true → s.swg.openLoop = false → t.swg.openLoop = true ∧ t.swg.coilDuty = 255)
        ∧ (isUp s .tmr = false → t.swg = s.swg ∧ (port t .tmr).lossCount = satInc (port s .tmr).lossCount))
    ∧ (∀ (c : Converter) (code : BitVec 16), isUp s .safe = false → ∃ t, Machine.exec (.listS 12 c code) s = .next t
      ∧ (port t .safe).lossCount = satInc (port s .safe).lossCount ∧ t = { s with fab := t.fab, glt := t.glt })

/-- The host's user lists, windows and captures (R20, R274, R276, R281 to R283, R287, Tables 11-7 to 11-12).
(What is the model's choice or inference in it: log entry 34.) -/
def Obligations.UserListsAndCaptures : Prop :=
  ∀ s : State,
    (∀ k : Bool, adcRuns s = true → (userList s k).running = false →
      Machine.exec (.go k) s = .next (settle (setUserList k { userList s k with running := true } s))
      ∧ ((userList s k).en = true → (userList s k).trig = 0 →
        Machine.exec (.userListTrigger k) s = .next (settle (setUserList k { userList s k with running := true } s))))
    ∧ (∀ k : Bool, adcRuns s = true → (userList s k).running = true →
      Machine.exec (.go k) s = .next (settle (setUserList k { userList s k with missed := satInc (userList s k).missed } s)))
    ∧ (∀ (k : Bool) (v : BitVec 16) (clip : Bool), adcRuns s = true → (userList s k).running = true → (userList s k).last = 0 →
      ∃ t, Machine.exec (.userListComplete k [(v, clip)]) s = .next t ∧ (userList t k).values.toList.getD 0 0 = v
        ∧ (userList t k).clips.toList.getD 0 false = clip ∧ (userList t k).running = false
        ∧ (userList t k).runs = (userList s k).runs + 1
        ∧ t = { s with adc := t.adc, flash := t.flash, fab := t.fab, glt := t.glt })
    ∧ (∀ (w : Fin 16) (v : Word), isUp s .adc = true → 8 ≤ w.val →
      Machine.exec (.windowConfigWrite w false v) s = .next (settle s) ∧ Machine.exec (.windowConfigWrite w true v) s = .next (settle s))
    ∧ (∀ (w : Fin 16) (v : Word), isUp s .adc = true → w.val < 8 → bits v.toNat 1 5 ≤ 0x11 → bits v.toNat 8 8 ≠ 0 →
      ∃ t, Machine.exec (.windowConfigWrite w false v) s = .next t ∧ (winAt t w).en = hasBit v.toNat 0
        ∧ (winAt t w).src = BitVec.ofNat 5 (bits v.toNat 1 5) ∧ (winAt t w).count = BitVec.ofNat 8 (bits v.toNat 8 8)
        ∧ (winAt t w).cnt = 0 ∧ t = { s with adc := { s.adc with wins := t.adc.wins, cfgErr := t.adc.cfgErr }, fab := t.fab, glt := t.glt })
    ∧ (∀ c : Word, adcRuns s = true → s.adc.capBusy = true → c.getLsbD 7 = false → ∃ t, Machine.exec (.captureStart c) s = .next t
      ∧ t.adc.capRefused = true ∧ t.adc.capBusy = true ∧ t.adc.capBuf = s.adc.capBuf)
    ∧ (∀ c : Word, adcRuns s = true → s.adc.capBusy = false → c.getLsbD 7 = false → ∃ t, Machine.exec (.captureStart c) s = .next t
      ∧ t.adc.capBusy = true ∧ t.adc.capGaps = 0 ∧ t.adc.capRefused = s.adc.capRefused)
    ∧ (∀ c : Word, isUp s .adc = true → s.adc.capBusy = false → c.getLsbD 7 = true ∨ s.adc.listsRun = false →
      ∃ t, Machine.exec (.captureStart c) s = .next t ∧ t.adc.capBusy = false ∧ t.adc.capStart = true)
    ∧ (∀ l : List (Option (BitVec 16)), adcRuns s = true → s.adc.capBusy = true → ∃ t, Machine.exec (.captureDone l) s = .next t
      ∧ t.adc.capBusy = false ∧ t.adc.capDone = true ∧ t.adc.capBuf.length = s.adc.capLength.toNat
      ∧ t = { s with adc := t.adc, fab := t.fab, glt := t.glt })

/-- Calibration (R278, R279, R280, R288, R293, R474): a run takes the converter whose turn it is; its end stands as the new reference and
trims, or keeps the old trims and logs; only the converter of the run is borrowed.
(What is the model's choice or inference in it: log entries 34 and 36.) -/
def Obligations.Calibration : Prop :=
  ∀ (s : State) (c : Converter), isUp s .adc = true →
    (s.adc.calRun = none → mayCalibrate s = true → c = calibratorNext s → ∃ t, Machine.exec (.calibrationRun c) s = .next t
      ∧ t.adc = { s.adc with calRun := some c } ∧ t = { s with adc := t.adc, bgd := t.bgd, fab := t.fab, glt := t.glt })
    ∧ (∀ (v : BitVec 16) (found : Option Trims), s.adc.calRun = some c → ∃ t, Machine.exec (.calibrationDone c v found) s = .next t
      ∧ t.adc.calRun = none ∧ t.adc.refValue.toList.getD (convNum c) 0 = v
      ∧ t.adc.calibrated.getLsbD (convNum c) = (trimsFound c found).isSome
      ∧ t.adc.borrowed.getLsbD (convNum c) = false ∧ (c = .a3 → t.adc.listsRun = true)
      ∧ (∀ x, trimsFound c found = some x → t.adc.offset.toList.getD (convNum c) 0 = x.offset ∧ t.adc.gain.toList.getD (convNum c) 0 = x.gain
        ∧ (upperOfPair c = true → t.adc.skew.toList.getD (convNum c / 2) 0 = x.skew) ∧ (upperOfPair c = false → t.adc.skew = s.adc.skew))
      ∧ (trimsFound c found = none → t.adc.offset = s.adc.offset ∧ t.adc.gain = s.adc.gain ∧ t.adc.skew = s.adc.skew
        ∧ (s.flash.writable = true → (satInc s.flash.eventCount, .calibrationOut c) ∈ t.flash.log)))
    ∧ (adcRuns s = true → s.adc.calRun = some c → (∃ t, Machine.exec (.borrow c true) s = .next t
        ∧ t.adc.borrowed = setBit 0 (convNum c) ∧ t = { s with adc := t.adc, met := { s.met with skewNow := t.met.skewNow }, fab := t.fab, glt := t.glt })
      ∧ (∃ t, Machine.exec (.borrow c false) s = .next t ∧ t.adc.borrowed = clearBit s.adc.borrowed (convNum c)
        ∧ t = { s with adc := t.adc, fab := t.fab, glt := t.glt }))

/-- Timer channels (R452, R454, R456 to R458, R460, R461, R464 to R466). A count-clock event below TOP counts by one; at TOP the channel wraps
to 0 with its preloads in force and WRAP set; one that stands still does not change. The host's writes to a channel (R452, R457, R458, R461, R464 to R466): to channels 6 and 7 they only set NOT_OWNER; TOP and CMP are
immediate while the channel stands still and preload while it runs; CLR, RUN and the configuration fields; a capture takes COUNT and an
unread one is an overrun; a read of CAPT clears FULL.
(What is the model's choice or inference in it: log entry 48.) -/
def Obligations.TimerChannels : Prop :=
  (∀ (s : State) (n : Fin 8), isUp s .tmr = true → (chan s n).clk ≠ 5 →
     ((chan s n).run = true → (chan s n).gateEn = false → (chan s n).count.toNat < (chan s n).top.toNat →
       ∃ t, Machine.exec (.tick n) s = .next t ∧ (chan t n).count = (chan s n).count + 1 ∧ (chan t n).run = true
         ∧ t.tmr.irqWrap = s.tmr.irqWrap ∧ ((chan s n).matched = false → (chan s n).cmp.toNat ≤ (chan s n).count.toNat + 1 →
           t.tmr.irqMatch = setBit s.tmr.irqMatch n ∧ (chan t n).matched = true))
     ∧ ((chan s n).run = true → (chan s n).gateEn = false → (chan s n).top.toNat ≤ (chan s n).count.toNat →
       (n.val = 7 ∨ (chan s (n + 1)).clk ≠ 5) →
       ∃ t, Machine.exec (.tick n) s = .next t ∧ (chan t n).count = 0 ∧ t.tmr.irqWrap = setBit s.tmr.irqWrap n
         ∧ (chan t n).top = (chan s n).topNext.getD (chan s n).top ∧ (chan t n).cmp = (chan s n).cmpNext.getD (chan s n).cmp
         ∧ (chan t n).topNext = none ∧ (chan t n).cmpNext = none ∧ (chan t n).run = !(chan s n).oneshot)
     ∧ ((chan s n).run = false → Machine.exec (.tick n) s = .next (settle { s with free := s.free + 1 })))
  ∧ (∀ (s : State) (n : Fin 8) (v : Word), isUp s .tmr = true →
       (6 ≤ n.val → ∀ c : Instr, c = .topWrite n v ∨ c = .cmpWrite n v ∨ c = .clr n ∨ c = .runStart n ∨ c = .runStop n ∨ c = .cfgWrite n v →
         Machine.exec c s = .next (settle { s with tmr := { s.tmr with notOwner := true } }))
       ∧ (n.val < 6 →
         (∃ t, Machine.exec (.topWrite n v) s = .next t
           ∧ chan t n = (if immediate (chan s n) then { chan s n with top := v } else { chan s n with topNext := some v })
           ∧ t = { s with tmr := { s.tmr with ch := t.tmr.ch }, fab := t.fab, glt := t.glt })
         ∧ (immediate (chan s n) = false → ∃ t, Machine.exec (.cmpWrite n v) s = .next t ∧ chan t n = { chan s n with cmpNext := some v }
           ∧ t = { s with tmr := { s.tmr with ch := t.tmr.ch }, fab := t.fab, glt := t.glt })
         ∧ (immediate (chan s n) = true → ∃ t, Machine.exec (.cmpWrite n v) s = .next t ∧ (chan t n).cmp = v
           ∧ (chan t n).count = (chan s n).count
           ∧ ((chan s n).matched = false → v.toNat ≤ (chan s n).count.toNat → (chan t n).cmpLate = true ∧ (chan t n).matched = true))
         ∧ (∃ t, Machine.exec (.clr n) s = .next t ∧ (chan t n).count = 0 ∧ (chan t n).run = (chan s n).run
           ∧ t.tmr.irqWrap = s.tmr.irqWrap ∧ (chan t n).top = (chan s n).topNext.getD (chan s n).top)
         ∧ (∃ t, Machine.exec (.runStart n) s = .next t ∧ chan t n = { chan s n with run := true }
           ∧ t = { s with tmr := { s.tmr with ch := t.tmr.ch }, fab := t.fab, glt := t.glt })
         ∧ (∃ t, Machine.exec (.runStop n) s = .next t ∧ chan t n = { chan s n with run := false }
           ∧ t = { s with tmr := { s.tmr with ch := t.tmr.ch }, fab := t.fab, glt := t.glt })
         ∧ (∃ t, Machine.exec (.cfgWrite n v) s = .next t ∧ (chan t n).pre = BitVec.ofNat 4 (bits v.toNat 4 4)
           ∧ (chan t n).count = (chan s n).count
           ∧ (clkOk n (bits v.toNat 0 3) = true → (chan t n).clk = BitVec.ofNat 3 (bits v.toNat 0 3))
           ∧ (clkOk n (bits v.toNat 0 3) = false → (chan t n).clk = (chan s n).clk ∧ t.tmr.cfgErr = true)))
       ∧ ((chan s n).capEdge ≠ 0 → ∃ t, Machine.exec (.capture n) s = .next t ∧ t.tmr.irqCapt = setBit s.tmr.irqCapt n
         ∧ chan t n = { chan s n with capt := (chan s n).count, overrun := (chan s n).overrun || (chan s n).full, full := true })
       ∧ ((chan s n).capEdge = 0 → Machine.exec (.capture n) s = .next (settle s))
       ∧ (∃ t, Machine.exec (.captRead n) s = .next t ∧ chan t n = { chan s n with full := false }
         ∧ t = { s with tmr := { s.tmr with ch := t.tmr.ch }, fab := t.fab, glt := t.glt }))

/-- The end of a metrology period (R294, R296, R298, R299, R305, R308): each declared phase's energies of the period go to its accumulators
exactly, with what remains below one count kept, import under the code of the period and under no other; while session energy counts it takes
them too; the frequency is valid after two good periods without mains loss, and the next period starts with the code in force and the new
calibration constants.
(What is the model's choice or inference in it: log entry 33.) -/
def Obligations.MetrologyPeriods : Prop :=
  ∀ (s : State) (T : BitVec 18), isUp s .met = true → T ≠ 0 →
    let d := energyDen s.met.samples.length
    let time := coveredTime T.toNat s.met
    ∃ t, Machine.exec (.metrologyPeriodEnd T) s = .next t
    ∧ (∀ p < 3, (phases s).contains p = true →
      let r := phaseResult s.met p time
      let k := 4 * p + s.met.code.toNat
      (t.met.eimp.toList.getD k 0, t.met.eimpRes.toList.getD k {})
          = addEnergy (s.met.eimp.toList.getD k 0) (s.met.eimpRes.toList.getD k {}) r.active.toNat d
      ∧ (t.met.erev.toList.getD p 0, t.met.erevRes.toList.getD p {})
          = addEnergy (s.met.erev.toList.getD p 0) (s.met.erevRes.toList.getD p {}) (-r.active).toNat d
      ∧ (t.met.evar.toList.getD p 0, t.met.evarRes.toList.getD p {})
          = addEnergy (s.met.evar.toList.getD p 0) (s.met.evarRes.toList.getD p {}) r.reactive d
      ∧ (s.met.samples ≠ [] → t.met.vRms.toList.getD p 0 = BitVec.ofNat 32 r.vRms
        ∧ t.met.iRms.toList.getD p 0 = BitVec.ofNat 32 r.iRms))
    ∧ (∀ k < 12, k % 4 ≠ s.met.code.toNat → t.met.eimp.toList.getD k 0 = s.met.eimp.toList.getD k 0)
    ∧ (∀ p < 3, (phases s).contains p = false → t.met.erev.toList.getD p 0 = s.met.erev.toList.getD p 0
      ∧ t.met.evar.toList.getD p 0 = s.met.evar.toList.getD p 0)
    ∧ (s.ses.counting = true → t.met.session = (addEnergy s.met.session s.met.sessionRes (positiveSum (periodResults time s)) d).1)
    ∧ (s.ses.counting = false → t.met.session = s.met.session)
    ∧ (153800 ≤ T.toNat → T.toNat ≤ 222200 → s.met.mainsLoss = false → 1 ≤ s.met.goodPeriods → t.met.freqValid = true
      ∧ t.met.freq = BitVec.ofNat 32 (655360000000 / T.toNat))
    ∧ (T.toNat < 153800 ∨ 222200 < T.toNat ∨ s.met.mainsLoss = true → t.met.freqValid = false ∧ t.met.freq = 0)
    ∧ t.met.period = T ∧ t.met.code = s.bil.inForce ∧ t.met.periodStart = s.bil.clock ∧ t.met.cal = s.met.calNext
    ∧ t.met.samples = [] ∧ t.plc.mainsRef = (isUp s .plc && t.met.freqValid)
    ∧ (s.ses.grant = none → s.ses.inUse = false → s.ses.counting = false →
      t = { s with met := t.met, bil := t.bil, ses := t.ses, plc := { s.plc with mainsRef := t.plc.mainsRef }, fab := t.fab, glt := t.glt })

/-- The end of a half-cycle (R94, R95, R255, R295) and the METER_LED (R301): two low half-cycles of a phase in a row declare mains loss, each
shows whether the phase stands above the restore level; twenty overcurrents in a row are reported with cause 0106h, one that is not restarts the
count; a pulse owed starts and ends.
(What is the model's choice or inference in it: log entry 33.) -/
def Obligations.HalfCyclesAndPulses : Prop :=
  ∀ s : State,
    (∀ p : Phase3, isUp s .met = true → (phases s).contains (phaseNum p) = true →
      let h := halfOf s (phaseNum p)
      ∃ t, Machine.exec (.halfCycleEnd p) s = .next t
        ∧ halfOf t (phaseNum p) = {}
        ∧ (belowLoss s h = true → 1 ≤ s.live.lowHalves.toList.getD (phaseNum p) 0 → t.met.mainsLoss = true)
        ∧ (belowLoss s h = false → t.met.mainsLoss = s.met.mainsLoss ∧ t.live.lowHalves.toList.getD (phaseNum p) 9 = 0)
        ∧ t.live.highHalf.toList.getD (phaseNum p) false = aboveRestore s h
        ∧ t.live.halfDeciA.toList.getD (phaseNum p) 0 = BitVec.ofNat 16 (min 65535 (halfDeciA h))
        ∧ (overCurrent (overLevel s) h = true → s.live.overCounts.toList.getD (phaseNum p) 0 = 19 → 0x106 ∈ t.safe.reports)
        ∧ (overCurrent (overLevel s) h = false → t.live.overCounts.toList.getD (phaseNum p) 9 = 0)
        ∧ t.met.eimp = s.met.eimp ∧ t.bil.ledger = s.bil.ledger ∧ t.lck.faults = s.lck.faults)
    ∧ (isUp s .met = true → s.met.ledOwed ≠ 0 → s.met.ledOn = false → s.pwr.brown.active = false →
      Machine.exec .meterLedPulse s = .next (settle { s with met := { s.met with ledOn := true, ledOwed := s.met.ledOwed - 1 } }))
    ∧ Machine.exec .meterLedPulseEnd s = .next (settle { s with met := { s.met with ledOn := false } })

/-- The tariff inputs and the clock (R310, R311, R313, R314, R316): a sample, and its debounce once RAW has stood for TariffDebounceMs; a tick
adds 2 counts, and in a slew 4 or 0 at every 200th tick; the loss of trust closes the record with KIND 04h at that moment and brings the default
code into force.
(What is the model's choice or inference in it: log entries 30 and 31.) -/
def Obligations.ClockAndTariffs : Prop :=
  ∀ s : State,
    (∀ a b : Bool,
      let raw : BitVec 2 := BitVec.ofNat 2 ((if a then 0 else 1) + 2 * (if b then 0 else 1)) ^^^ BitVec.ofNat 2 (setting? s 4 4)
      Machine.exec (.tariffSample a b) s = .next (settle { s with bil := { s.bil with
        raw := raw, rawSame := if raw = s.bil.raw then min 5120 (s.bil.rawSame + 1) else 0 } }))
    ∧ (debounceSamples s ≤ s.bil.rawSame → Machine.exec .tariffDebounce s = .next (settle { s with bil := { s.bil with
        input := s.bil.raw, inForce := (if s.bil.trusted then s.bil.raw else BitVec.ofNat 2 (setting? s 4 2)), default := !s.bil.trusted } }))
    ∧ (s.bil.rawSame < debounceSamples s → Machine.exec .tariffDebounce s = .next (settle s))
    ∧ (∃ t, Machine.exec .rtcTick s = .next t ∧ t.bil.running = s.bil.running + 1
      ∧ (s.bil.slewCounts = 0 → t.bil.clock = s.bil.clock + 2)
      ∧ (s.bil.slewTicks.toNat < 199 → t.bil.clock = s.bil.clock + 2)
      ∧ (2 ≤ s.bil.slewCounts → 199 ≤ s.bil.slewTicks.toNat → t.bil.clock = s.bil.clock + 4 ∧ t.bil.slewTicks = 0
        ∧ (4 ≤ s.bil.slewCounts → t.bil.slewCounts = s.bil.slewCounts - 2))
      ∧ (s.bil.slewCounts ≤ -2 → 199 ≤ s.bil.slewTicks.toNat → t.bil.clock = s.bil.clock ∧ t.bil.slewTicks = 0
        ∧ (s.bil.slewCounts ≤ -4 → t.bil.slewCounts = s.bil.slewCounts + 2))
      ∧ t.safe.autoLeft.toNat = 3 - min 3 t.safe.autoTimes.length
      ∧ t = { s with bil := t.bil, safe := { s.safe with autoTimes := t.safe.autoTimes, autoLeft := t.safe.autoLeft }
                     fab := t.fab, glt := t.glt })
    ∧ (s.bil.trusted = true → s.sup.rtcXtalOk = false → s.bil.pendState = .open → s.pwr.billing = true →
      s.bil.held.length + s.bil.closed.length < 4 → boundaryDue s.bil.clock s = false →
      ∃ t, Machine.exec .trustLost s = .next t ∧ t.bil.trusted = false ∧ t.bil.default = true
        ∧ t.bil.inForce = BitVec.ofNat 2 (setting? s 4 2) ∧ t.bil.clock = s.bil.clock
        ∧ (∃ r, t.bil.closed = s.bil.closed ++ [r] ∧ r.kind = .trustLost ∧ r.endT = s.bil.clock)
        ∧ t.bil.openRec.start = s.bil.clock ∧ t.bil.openRec.trusted = false ∧ t.bil.openRec.default = true
        ∧ t = { s with bil := t.bil, ses := t.ses, fab := t.fab, glt := t.glt })
    ∧ (s.bil.trusted = false ∨ s.sup.rtcXtalOk = true → Machine.exec .trustLost s = .next (settle s))

/-- Interval boundaries and the ledger (R320, R322, R325, R334): a boundary closes the open record and opens the next at it; a closed
record whose period has ended is signed, chained and appended, or held unsigned while SEC cannot sign; a held one follows.
(What is the model's choice or inference in it: log entry 32.) -/
def Obligations.LedgerRecords : Prop :=
  ∀ s : State,
    (boundaryDue s.bil.clock s = true → s.pwr.billing = true → s.bil.held.length + s.bil.closed.length < 4 →
      ∃ t, Machine.exec .intervalBoundary s = .next t
        ∧ (∃ r, t.bil.closed = s.bil.closed ++ [r] ∧ r.kind = .boundary ∧ r.endT.toNat = boundaryNow s ∧ r.adjustMs = 0
          ∧ r.imports = importsNow s)
        ∧ t.bil.openRec.start.toNat = boundaryNow s ∧ t.bil.pendState = .open
        ∧ t.bil.openRec.subs = [⟨0, s.bil.inForce, s.bil.input⟩]
        ∧ t = { s with bil := t.bil, fab := t.fab, glt := t.glt })
    ∧ (boundaryDue s.bil.clock s = false ∨ s.pwr.billing = false ∨ 4 ≤ s.bil.held.length + s.bil.closed.length →
      Machine.exec .intervalBoundary s = .next (settle s))
    ∧ (∀ (q r : Record) (l : List Record) (sig : Bytes), s.bil.closed = q :: l → isUp s .seq = true →
      s.bil.closedFresh ≤ l.length ∨ isUp s .met = false → r = afterDiscarded s.bil.discarded q →
      (s.bil.held = [] → canSign s = true → recordSignature r s = some sig →
        ∃ t, Machine.exec .ledgerRecordWrite s = .next t ∧ t.bil.ledger = s.bil.ledger ++ [⟨r, prevHash s, sig, true⟩]
          ∧ t.bil.headIndex = r.index ∧ t.bil.headHash = sha256 (storedBytes ⟨r, prevHash s, sig, true⟩) ∧ t.bil.closed = l
          ∧ t.bil.discarded = none ∧ t = { s with bil := t.bil, sec := t.sec, fab := t.fab, glt := t.glt })
      ∧ (canSign s = false ∨ s.bil.held ≠ [] → ∃ t, Machine.exec .ledgerRecordWrite s = .next t
        ∧ t.bil.held = s.bil.held ++ [r] ∧ t.bil.closed = l ∧ t.bil.discarded = none
        ∧ (s.flash.writable = true → (satInc s.flash.eventCount, .recordHeld) ∈ t.flash.log)
        ∧ (s.flash.writable = false → t.flash = s.flash ∧ t.bil.heldDue = s.bil.heldDue + 1)
        ∧ t.bil.ledger = s.bil.ledger ∧ t = { s with bil := t.bil, flash := t.flash, fab := t.fab, glt := t.glt }))
    ∧ (∀ (r : Record) (l : List Record) (sig : Bytes), s.bil.held = r :: l → canSign s = true → recordSignature r s = some sig →
      ∃ t, Machine.exec .heldRecordWrite s = .next t ∧ t.bil.ledger = s.bil.ledger ++ [⟨r, prevHash s, sig, true⟩]
        ∧ t.bil.headIndex = r.index ∧ t.bil.held = l ∧ t = { s with bil := t.bil, sec := t.sec, fab := t.fab, glt := t.glt })

/-- Action writes that pass their checks are answered OK and have their effects: SessionStop, GrantDiscard, LockFaultClear,
SafeStateRelease, AudioFaultClear, PromptTest and MirrorNonce (R28, R34, R170, R218, R223, R262, R356, R441, R443, Table 6-18).
(What is the model's choice or inference in it: log entry 9.) -/
def Obligations.SessionActions : Prop :=
  ∀ (s : State) (rq : Requester) (v : Byte),
    (Accepted rq false (od 5 4) [v] s → s.ses.phase = .charging → s.swg.gateCmd ≠ 0 → ∃ t, Machine.exec (.sessionStop rq v) s = .next t
      ∧ t.od.lastStatus = 0 ∧ t.ses.phase = .break ∧ t.ses.breakStop = 4 ∧ t.swg.gateCmd = 0 ∧ t.ses.inUse = true)
    ∧ (Accepted rq false (od 5 4) [v] s → s.ses.phase = .paused → ∃ t, Machine.exec (.sessionStop rq v) s = .next t
      ∧ t.od.lastStatus = 0 ∧ t.ses.phase = .ended ∧ t.ses.stop = 4 ∧ t.ses.inUse = false ∧ t.ses.grant = none)
    ∧ (Accepted rq false (od 0x1C 5) [v] s → ∃ t, Machine.exec (.grantDiscard rq v) s = .next t
      ∧ t.od.lastStatus = 0 ∧ t.ses.grant = none ∧ t.ses.table = s.ses.table ∧ t.bil = s.bil ∧ t.swg = s.swg)
    ∧ (Accepted rq false (od 0x0A 4) [v] s → ∃ t, Machine.exec (.lockFaultClear rq v) s = .next t
      ∧ t.od.lastStatus = 0 ∧ t.lck.faults = 0 ∧ t.lck.lockedLost = false ∧ t.ses.lockBarred = false
      ∧ (lockFitted s = true → t.lck.homingDue = true ∧ t.lck.queued = some false ∧ t.lck.homing = s.lck.homing)
      ∧ t = { s with lck := t.lck, ses := t.ses, od := t.od, sec := t.sec, fab := t.fab, glt := t.glt })
    ∧ (Accepted rq false (od 0x0D 3) [v] s → safeInForce s = true → ∃ t, Machine.exec (.safeStateRelease rq v) s = .next t
      ∧ t.od.lastStatus = 0 ∧ t.safe.active = false ∧ t.safe.failed = 0
      ∧ t.plt.level = (if s.plt.holdF then .stateF else .steady) ∧ t.plc.mayTransmit = true)
    ∧ (Accepted rq false (od 0x0D 3) [v] s → safeInForce s = false → ∃ t, Machine.exec (.safeStateRelease rq v) s = .next t
      ∧ t.od.lastStatus = 0 ∧ t = { s with od := t.od, sec := t.sec, fab := t.fab, glt := t.glt })
    ∧ (Accepted rq false (od 0x15 3) [v] s → ∃ t, Machine.exec (.audioFaultClear rq v) s = .next t
      ∧ t.od.lastStatus = 0 ∧ t.aud = { s.aud with faults := 0, latched := false, retries := 0 }
      ∧ t = { s with aud := t.aud, od := t.od, sec := t.sec, fab := t.fab, glt := t.glt })
    ∧ (Accepted rq false (od 0x15 4) [v] s → isUp s .aud = true → s.aud.latched = false → s.aud.released = true → s.aud.queue = [] →
      ∃ t, Machine.exec (.promptTest rq v) s = .next t ∧ t.od.lastStatus = 0
        ∧ t.aud = { s.aud with queue := [⟨v.setWidth 6, false, true⟩] }
        ∧ t = { s with aud := t.aud, od := t.od, sec := t.sec, fab := t.fab, glt := t.glt })
    ∧ (∀ nonce : Bytes, Accepted rq false (od 0x1D 0) nonce s → s.sec.slotOk.getLsbD 0 = true → s.sec.slotOk.getLsbD 3 = true →
      s.sec.signFault = false → ∃ t, Machine.exec (.mirrorNonce rq nonce) s = .next t ∧ t.od.lastStatus = 0
        ∧ t.sec.mirrorNonce = some nonce ∧ t.sec.jobs = s.sec.jobs ++ [.mirrorSign]
        ∧ t = { s with od := t.od, sec := t.sec, fab := t.fab, glt := t.glt })

/-- Action writes that reset or reload, and the Coppice settings (R122, R124, R170, R482, R484, R521): Restart and FwActivate are answered, and
their resets with OD_RESTART and LOADER take effect at HELD_RESET_RELEASE; ConfigRevert takes the newest generation, the background engines
follow theirs.
(What is the model's choice or inference in it: log entries 9 and 11.) -/
def Obligations.DeviceActions : Prop :=
  ∀ (s : State) (rq : Requester) (v : Byte),
    (Accepted rq false (od 0x28 3) [v] s → ∃ t, Machine.exec (.restart rq v) s = .next t
      ∧ t.od.lastStatus = 0 ∧ t.pwr = { s.pwr with heldResets := s.pwr.heldResets ++ [.odRestart] }
      ∧ t = { s with od := t.od, sec := t.sec, pwr := t.pwr, fab := t.fab, glt := t.glt })
    ∧ (Accepted rq false (od 0x20 4) [v] s → ∃ t, Machine.exec (.fwActivate rq v) s = .next t
      ∧ t.od.lastStatus = 0 ∧ t.fw.phase = 6 ∧ t.pwr = { s.pwr with heldResets := s.pwr.heldResets ++ [.loader] }
      ∧ t = { s with od := t.od, sec := t.sec, pwr := t.pwr, fw := { s.fw with phase := 6 }, fab := t.fab, glt := t.glt })
    ∧ (∀ c, Accepted rq false (od 0 0x26) [v] s → chooseSource false s = some c → ∃ t, Machine.exec (.configRevert rq v) s = .next t
      ∧ t.od.lastStatus = 0 ∧ t.set.generation = BitVec.ofNat 8 c.2.1 ∧ t.boot.source = c.1 ∧ t.otp = s.otp)
    ∧ (Accepted rq false (od 0x22 1) [v] s → ∃ t, Machine.exec (.coppiceSuspend rq v) s = .next t
      ∧ t.od.lastStatus = 0 ∧ t.bgd.suspended = v.setWidth 4
      ∧ (∀ z : Zone, (zoneOf t.flash z).suspended = (v.getLsbD 2 && (zoneOf s.flash z).erasing.isSome))
      ∧ t.set = s.set ∧ t = { s with bgd := t.bgd, flash := t.flash, od := t.od, sec := t.sec, fab := t.fab, glt := t.glt })
    ∧ (Accepted rq false (od 0x22 0) [v] s → ∃ t, Machine.exec (.coppiceEnable rq v) s = .next t
      ∧ t.od.lastStatus = 0 ∧ t.bgd.enabled = v.setWidth 4 ∧ t.set.dirty = true
      ∧ t.set.running = putEntry s.set.running ⟨od 0x22 0, [v]⟩)

/-- The signed writes (R319, R349, R350, R353, R354, R315, R317): a time-set, grant or token that passes every rule is answered OK and takes
effect; one that fails is answered AUTH_FAILURE and leaves clock, grant and session as they are.
(What is the model's choice or inference in it: log entries 9 and 22.) -/
def Obligations.SignedWrites : Prop :=
  ∀ (s : State) (rq : Requester) (b : Bytes), isUp s .sec = true → s.sec.slotOk.getLsbD 1 = true →
    (Accepted rq true (od 2 2) b s → timeSetOk s b = true → ∃ t, Machine.exec (.timeSet rq b) s = .next t
      ∧ t.od.lastStatus = 0 ∧ t.bil.tsCounter = BitVec.ofNat 32 (fieldLe 0x18 4 b)
      ∧ (s.bil.trusted = true → (diffMs (timeOf (slice 0x10 6 b)) s.bil.clock).natAbs ≤ setting? s 2 3 → t.bil.clock = s.bil.clock
        ∧ t.bil.slewCounts = ((timeOf (slice 0x10 6 b)).toNat : Int) - s.bil.clock.toNat)
      ∧ (s.bil.trusted = true → setting? s 2 3 < (diffMs (timeOf (slice 0x10 6 b)) s.bil.clock).natAbs →
        t.bil.clock = timeOf (slice 0x10 6 b) ∧ t.bil.slewCounts = 0)
      ∧ (s.bil.trusted = false → t.bil.clock = timeOf (slice 0x10 6 b) ∧ t.bil.trusted = true))
    ∧ (Accepted rq true (od 2 2) b s → timeSetOk s b = false → ∃ t, Machine.exec (.timeSet rq b) s = .next t
      ∧ t.od.lastStatus = BitVec.ofNat 8 stAuth ∧ t.bil = s.bil)
    ∧ (Accepted rq true (od 0x1C 0) b s → grantOk s b = true → ∃ t, Machine.exec (.grant rq b) s = .next t
      ∧ t.od.lastStatus = 0 ∧ t.ses.grant = some (grantOf s b) ∧ t.bil.clock = s.bil.clock)
    ∧ (Accepted rq true (od 0x1C 0) b s → grantOk s b = false → ∃ t, Machine.exec (.grant rq b) s = .next t
      ∧ t.od.lastStatus = BitVec.ofNat 8 stAuth ∧ t.ses = s.ses)
    ∧ (Accepted rq true (od 0x1C 0x10) b s → tokenOk s b = true → ∃ t, Machine.exec (.sessionToken rq b) s = .next t
      ∧ t.od.lastStatus = 0 ∧ t.od.tokenCounter = BitVec.ofNat 32 (fieldLe 0x18 4 b) ∧ t.od.txSession = 1
      ∧ (∃ a : AuthSession, t.od.session = some a ∧ a.nonce = slice 0x1C 16 b ∧ a.notAfter = timeOf (slice 0x10 6 b)
        ∧ a.acceptedAt = s.bil.running ∧ a.number = sessionNumberFor s.od.lastSession (fieldLe 0x18 4 b % 2 ^ 32))
      ∧ t.ses = s.ses ∧ t.bil = s.bil)
    ∧ (Accepted rq true (od 0x1C 0x10) b s → tokenOk s b = false → ∃ t, Machine.exec (.sessionToken rq b) s = .next t
      ∧ t.od.lastStatus = BitVec.ofNat 8 stAuth ∧ t.od.session = s.od.session ∧ t.od.tokenCounter = s.od.tokenCounter)

/-- The ends of sessions, transfers, snapshots and subscriptions (R139, R150, R151, R152, R354): each removes exactly what has ended.
(What is the model's choice or inference in it: log entries 20 and 22.) -/
def Obligations.OdTimeouts : Prop :=
  ∀ s : State,
    (s.od.session.isSome = true → ∃ t, Machine.exec .sessionInactivityEnd s = .next t ∧ t.od = { s.od with session := none }
      ∧ (s.sec.ctx = .session → t.sec.ctx = .none ∧ t.sec.yew = [])
      ∧ t = { s with od := t.od, sec := t.sec, fab := t.fab, glt := t.glt })
    ∧ (s.od.session = none → Machine.exec .sessionInactivityEnd s = .next (settle s) ∧ Machine.exec .sessionExpiry s = .next (settle s))
    ∧ (∀ a, s.od.session = some a →
      (sessionExpired s a = true → ∃ t, Machine.exec .sessionExpiry s = .next t ∧ t.od = { s.od with session := none }
        ∧ t = { s with od := t.od, sec := t.sec, fab := t.fab, glt := t.glt })
      ∧ (sessionExpired s a = false → Machine.exec .sessionExpiry s = .next (settle s)))
    ∧ (∀ a : BitVec 16, Machine.exec (.blockTransferTimeout a) s
        = .next (settle { s with od := { s.od with transfers := s.od.transfers.filter fun x => x.addr != a } }))
    ∧ (∀ m : Bool, Machine.exec (.blockSnapshotTimeout m) s
        = .next (settle { s with od := { s.od with snapshots := s.od.snapshots.filter fun x => x.mailbox != m } }))
    ∧ (∀ (m : Bool) (a : BitVec 16), Machine.exec (.subscriptionLapse m a) s
        = .next (settle { s with od := { s.od with subs := s.od.subs.filter fun x => !(x.mailbox == m && x.addr == a) } }))

/-- PDUs received (R138, R140, R141, R144, R163): a plain mailbox request joins the queue of 8, or waits before the OD is served; a network
PDU not from node 0 is dropped; a wrong MAC and a SEQ that the window refuses are dropped and counted, and nothing is answered.
(What is the model's choice or inference in it: log entries 9, 15 and 16.) -/
def Obligations.PdusReceived : Prop :=
  ∀ (s : State) (d : Delivered),
    (odListens s = false → d.path = .mailbox → Machine.exec (.pduReceive d) s
      = .next (settle { s with od := { s.od with waiting := s.od.waiting ++ [d] } }))
    ∧ (odListens s = false → d.path ≠ .mailbox → Machine.exec (.pduReceive d) s = .next (settle s))
    ∧ (d.path ≠ .mailbox → d.orig ≠ 0 → Machine.exec (.pduReceive d) s = .next (settle s))
    ∧ (odListens s = true → d.path = .mailbox → (parseHeader d.bytes).keysel = .none → 12 ≤ d.bytes.length →
      requestOk (parseHeader d.bytes) d.bytes = true →
      (s.od.queue.length + (if s.set.commit.isSome then 1 else 0) < 8 → Machine.exec (.pduReceive d) s
        = .next (settle { s with od := { s.od with queue := s.od.queue ++ [⟨⟨.mailbox, .none, (parseHeader d.bytes).xid, d.prio⟩, 0,
            BitVec.ofNat 4 (parseHeader d.bytes).op, slice 12 (parseHeader d.bytes).len d.bytes⟩] } }))
      ∧ (8 ≤ s.od.queue.length + (if s.set.commit.isSome then 1 else 0) → ∃ t, Machine.exec (.pduReceive d) s = .next t
        ∧ t.od.queue = s.od.queue ∧ t.od.lastStatus = BitVec.ofNat 8 stBusy ∧ t.od.busyRefusals = satInc s.od.busyRefusals))
    ∧ (odListens s = true → d.path ≠ .mailbox → d.orig = 0 → (parseHeader d.bytes).keysel = .link → 20 ≤ d.bytes.length →
      isUp s .sec = true →
      (macRight s .link d = false → Machine.exec (.pduReceive d) s
        = .next (settle { s with od := { s.od with macFailures := satInc s.od.macFailures } }))
      ∧ (macRight s .link d = true → s.od.floor = none → windowTake s.od.winNode0 (parseHeader d.bytes).seq = none →
        ∃ t, Machine.exec (.pduReceive d) s = .next t ∧ t.od = { s.od with replayDrops := satInc s.od.replayDrops }
          ∧ t = { s with od := t.od, sec := t.sec, fab := t.fab, glt := t.glt })
      ∧ (∀ w, macRight s .link d = true → s.od.floor = none → windowTake s.od.winNode0 (parseHeader d.bytes).seq = some w →
        ∃ t, Machine.exec (.pduReceive d) s = .next t ∧ t.od.winNode0 = w ∧ t.od.rxAccepted = satInc s.od.rxAccepted
          ∧ t.od.replayDrops = s.od.replayDrops ∧ t = { s with od := t.od, sec := t.sec, fab := t.fab, glt := t.glt }))

/-- READ, WRITE and the block reads at the head of the queue (R145, R148, R151): results in request order; a WRITE of settings is applied as
a whole, or the first failing record refuses the whole WRITE and changes nothing; a READ-BLOCK at offset 0 serves a snapshot.
(What is the model's choice or inference in it: log entries 9, 17 and 20.) -/
def Obligations.ReadsAndWrites : Prop :=
  ∀ (s : State) (q : QueuedPdu) (r : List QueuedPdu),
    let s' : State := { s with od := { s.od with queue := r } }
    (∀ l, AtHead 0 q r s → parseAddrs q.payload = some l →
      (l.flatMap fun a => resultRecord a (odRead false s' a).1 (odRead false s' a).2).length ≤ 220 → ∃ t, Machine.exec .odRead s = .next t
        ∧ t.od.queue = r ∧ t.od.lastStatus = 0
        ∧ (q.requester.path = .mailbox → q.requester.keysel = .none → t.od.out = s.od.out ++ [⟨.mailbox, q.requester.prio, false,
            pduBody 0 true .none 0 q.requester.xid s.od.txPlain 0
              (l.flatMap fun a => resultRecord a (odRead false s' a).1 (odRead false s' a).2)⟩])
        ∧ t = { s with od := t.od, sec := t.sec, fab := t.fab, glt := t.glt })
    ∧ (∀ e e' l, AtHead 1 q r s → parseRecords q.payload = some (e :: e' :: l) →
      (e :: e' :: l).any (fun x => isMarkedAction x.addr) = false → firstFailure q.requester false (e :: e' :: l) s' = none →
      ∃ t, Machine.exec .odWrite s = .next t ∧ t.od.queue = r ∧ t.od.lastStatus = 0
        ∧ t.set.running = (e :: e' :: l).foldl (fun m x => if (odRow? x.addr).any isSetting then putEntry m x else m) s.set.running
        ∧ t.otp = s.otp ∧ t.set.generation = s.set.generation)
    ∧ (∀ e e' l f, AtHead 1 q r s → parseRecords q.payload = some (e :: e' :: l) →
      (e :: e' :: l).any (fun x => isMarkedAction x.addr) = false → firstFailure q.requester false (e :: e' :: l) s' = some f →
      ∃ t, Machine.exec .odWrite s = .next t ∧ t.od.queue = r ∧ t.od.lastStatus = BitVec.ofNat 8 f.1
        ∧ t = { s with od := t.od, sec := t.sec, fab := t.fab, glt := t.glt })
    ∧ (∀ b, AtHead 2 q r s → parseReadBlock q.payload = some b → b.offset = 0 → (blockValue s' b.addr).1 = stOk →
      (blockValue s' b.addr).2 ≠ [] → ∃ t, Machine.exec .readBlock s = .next t ∧ t.od.queue = r ∧ t.od.lastStatus = 0
        ∧ ((blockValue s' b.addr).2.length ≤ b.maximum → snapshotOf t (q.requester.path == .mailbox) b.addr = none)
        ∧ (b.maximum < (blockValue s' b.addr).2.length → snapshotOf t (q.requester.path == .mailbox) b.addr = some (blockValue s' b.addr).2)
        ∧ t = { s with od := t.od, sec := t.sec, fab := t.fab, glt := t.glt })

/-- Block writes, subscriptions and notifications (R149, R150, R152, R153): the first block of a transfer is kept, a wrong CRC-32C ends it
with CHECK_FAILED, a subscription joins the list, and a notification keeps the value that it carried.
(What is the model's choice or inference in it: log entries 9, 19 and 20.) -/
def Obligations.TransfersAndSubscriptions : Prop :=
  ∀ (s : State) (q : QueuedPdu) (r : List QueuedPdu),
    let s' : State := { s with od := { s.od with queue := r } }
    (∀ b, AtHead 3 q r s → parseWriteBlock q.payload = some b → b.addr ≠ od 0x20 1 → (odEntry s' b.addr).1 = stOk → b.first = true →
      b.last = false → b.offset = 0 → b.data.length < b.total → b.total < 2 ^ 32 → s.od.transfers = [] → ∃ t, Machine.exec .writeBlock s = .next t
        ∧ t.od.queue = r ∧ t.od.lastStatus = 0
        ∧ t.od.transfers = [⟨q.requester.path == .mailbox, b.addr, BitVec.ofNat 32 b.total, b.data⟩]
        ∧ t = { s with od := t.od, sec := t.sec, fab := t.fab, glt := t.glt })
    ∧ (∀ b x, AtHead 3 q r s → parseWriteBlock q.payload = some b → b.addr ≠ od 0x20 1 → (odEntry s' b.addr).1 = stOk → b.first = false →
      s.od.transfers = [x] → x.addr = b.addr → x.mailbox = (q.requester.path == .mailbox) → b.offset = x.data.length →
      b.total = x.total.toNat → b.last = true → b.offset + b.data.length = b.total → crc32c (x.data ++ b.data) ≠ b.crc →
      ∃ t, Machine.exec .writeBlock s = .next t ∧ t.od.transfers = [] ∧ t.od.lastStatus = BitVec.ofNat 8 stCheck
        ∧ t = { s with od := t.od, sec := t.sec, fab := t.fab, glt := t.glt })
    ∧ (∀ b, AtHead 5 q r s → parseSubscribe q.payload = some b → s.pwr.loaderState = false → subscribeStatus s' b = stOk → b.period ≠ 0 →
      s.od.subs = [] → ∃ t, Machine.exec .subscribe s = .next t ∧ t.od.queue = r ∧ t.od.lastStatus = 0
        ∧ t.od.subs = [⟨q.requester.path == .mailbox, q.requester.keysel = .none, b.addr, b.onChange, b.periodic, b.period, b.lease,
            notifyRecord s' b.addr⟩]
        ∧ t = { s with od := t.od, sec := t.sec, fab := t.fab, glt := t.glt })
    ∧ (∀ (m : Bool) (l : List (BitVec 16)), odListens s = true → ∃ t, Machine.exec (.notify m l) s = .next t
      ∧ t.od.subs = s.od.subs.map (fun x => if notifyDue s m l x then { x with last := notifyRecord s x.addr } else x)
      ∧ (s.od.subs.any (notifyDue s m l) = false → t.od.out = s.od.out)
      ∧ (∀ x, s.od.subs = [x] → m = true → x.plain = true → notifyDue s m l x = true → t.od.out = s.od.out ++ [⟨.mailbox, 1, true,
          pduBody 6 false .none 0 0 s.od.txPlain 0 (leBytes 2 s.od.serviceEpoch.toNat ++ notifyRecord s x.addr)⟩])
      ∧ t = { s with od := t.od, sec := t.sec, fab := t.fab, glt := t.glt })

/-- COMMIT (R114, R117, R129): its acceptance burns BEGUN of the next free generation in all three copies, takes the snapshot and holds the
queue; its end burns the block and, with a good read-back, DONE, both retained copies follow, and the generation is the newest; a bad
read-back leaves the generation spoilt and the settings as they were; SEC out of service at its end draws ABSENT.
(What is the model's choice or inference in it: log entries 9, 10 and 66.) -/
def Obligations.CommitBurnsAGeneration : Prop :=
  ∀ s : State,
    (∀ q r, AtHead 4 q r s → commitStatus q.requester s = stOk →
      let n := nextFreeGeneration s
      Machine.exec .commit s = .next (settle { s with
        set := { s.set with
          commit := some ⟨BitVec.ofNat 8 n, changedFrom s 0, s.bil.clock, s.bil.trusted, sealWordOf s, q.requester⟩ }
        otp := { s.otp with begun := s.otp.begun.map fun b => setBit b n }
        cfg := { s.cfg with busy := true, begun := setBit s.cfg.begun n }
        od := { s.od with queue := r } }))
    ∧ (∀ q r, AtHead 4 q r s → commitStatus q.requester s ≠ stOk → ∃ t, Machine.exec .commit s = .next t ∧ t.od.queue = r
      ∧ t.od.lastStatus = BitVec.ofNat 8 (commitStatus q.requester s)
      ∧ t = { s with od := t.od, sec := t.sec, fab := t.fab, glt := t.glt })
    ∧ (∀ j, s.set.commit = some j → isUp s .sec = true → s.set.otpFaults = 0 → ∃ t, Machine.exec .commit s = .next t
      ∧ t.od.lastStatus = 0 ∧ t.set = { s.set with commit := none, generation := j.gen, dirty := computeDirty t }
      ∧ t.cfg = { s.cfg with busy := false, done := setBit s.cfg.done j.gen.toNat, valid := setBit s.cfg.valid j.gen.toNat
                             newest := BitVec.ofNat 3 j.gen.toNat }
      ∧ t.otp = { s.otp with
          blocks := s.otp.blocks.setIfInBounds j.gen.toNat (commitBlock s j true)
          done := s.otp.done.map fun b => setBit b j.gen.toNat }
      ∧ t.copyA = t.copyB ∧ t.copyA.gen = j.gen ∧ t.copyA.crcOk = true ∧ t.copyA.records = s.set.running
      ∧ t = { s with set := t.set, otp := t.otp, cfg := t.cfg, copyA := t.copyA, copyB := t.copyB, od := t.od, sec := t.sec
                     fab := t.fab, glt := t.glt })
    ∧ (∀ j, s.set.commit = some j → isUp s .sec = true → s.set.otpFaults ≠ 0 → ∃ t, Machine.exec .commit s = .next t
      ∧ t.od.lastStatus = BitVec.ofNat 8 stHardware
      ∧ t.otp = { s.otp with blocks := s.otp.blocks.setIfInBounds j.gen.toNat (commitBlock s j false) }
      ∧ t = { s with set := { s.set with commit := none, otpFaults := s.set.otpFaults - 1 }, otp := t.otp, cfg := { s.cfg with busy := false }
                     flash := t.flash, od := t.od, sec := t.sec, fab := t.fab, glt := t.glt })
    ∧ (∀ j, s.set.commit = some j → isUp s .sec = false → ∃ t, Machine.exec .commit s = .next t
      ∧ t.od.lastStatus = BitVec.ofNat 8 stAbsent
      ∧ t = { s with set := { s.set with commit := none }, cfg := { s.cfg with busy := false }, od := t.od, sec := t.sec
                     fab := t.fab, glt := t.glt })

/-- Self-test requests (R490, R491, R498, Table 20-1): a loopback test waits with outcome 6 while it is not held; in a session with the queue
bit it is held with outcome 5; a BIST request keeps its islands to do, and the device reset that begins the run follows its response.
(What is the model's choice or inference in it: log entries 9 and 50.) -/
def Obligations.SelfTestRequests : Prop :=
  ∀ (s : State) (rq : Requester) (queue : Bool),
    (∀ (c : Instr) (code : Nat), (c, code) ∈ [(Instr.selfTestPilotLoopback rq queue, 1), (Instr.selfTestReference rq queue, 2),
        (Instr.selfTestWinding rq queue, 3), (Instr.selfTestLineLoopback rq queue, 4), (Instr.selfTestClassD rq queue, 5),
        (Instr.selfTestAll rq queue, 6)] →
      Accepted rq false (od 0x24 0) (leBytes 2 (code + 256 * bit queue)) s →
      (inSession s = false ∨ barredInSession (BitVec.ofNat 8 code) = false → ∃ t, Machine.exec c s = .next t ∧ t.od.lastStatus = 0
        ∧ t.tst.waiting = some (BitVec.ofNat 8 code)
        ∧ t.tst.outcome = 6 ∧ t.tst.held = none
        ∧ t = { s with tst := t.tst, od := t.od, sec := t.sec, fab := t.fab, glt := t.glt })
      ∧ (inSession s = true → barredInSession (BitVec.ofNat 8 code) = true → queue = true → ∃ t, Machine.exec c s = .next t
        ∧ t.od.lastStatus = 0 ∧ t.tst.held = some (BitVec.ofNat 8 code) ∧ t.tst.outcome = 5 ∧ t.tst.waiting = s.tst.waiting))
    ∧ (∀ (c : Instr) (code : Byte), c = .islandBist rq code queue ∨ (c = .islandBistAll rq queue ∧ code = 0x2F) → isBist code = true →
      Accepted rq false (od 0x24 0) (leBytes 2 (code.toNat + 256 * bit queue)) s → inSession s = false →
      ∃ t, Machine.exec c s = .next t ∧ t.od.lastStatus = 0 ∧ t.tst.outcome = 6 ∧ t.tst.pending = true
        ∧ t.tst.todo = bistIslands code ∧ t.tst.logicFail = 0 ∧ t.tst.memFail = 0
        ∧ t.pwr = { s.pwr with heldResets := s.pwr.heldResets ++ [.odRestart] }
        ∧ t = { s with tst := t.tst, od := t.od, sec := t.sec, pwr := t.pwr, fab := t.fab, glt := t.glt })
    ∧ (s.tst.pending = true → s.pwr.heldResets = [.odRestart] →
      ∃ t, Machine.exec .heldResetRelease s = .next t ∧ t.pwr.resetHeld = true ∧ t.pwr.heldResets = [] ∧ t.rst.odRestart = true
        ∧ t.tst.pending = true ∧ t.tst.bistBoot = true ∧ t.tst.todo = s.tst.todo ∧ t.bil.clock = s.bil.clock)

/-- Self-tests run (R240, R490, R491, R494 to R497) and the scan of a BIST run (R343, R498, R499, R505).
(What is the model's choice or inference in it: log entry 50.) -/
def Obligations.SelfTestRuns : Prop :=
  ∀ s : State,
    (∀ (c : Byte) (items : BitVec 12), s.tst.waiting = some c → c = 1 ∨ c = 4 → isUp s .seq = true → testMayRun c.toNat s = true →
      items.getLsbD 11 = false → ∃ t, Machine.exec (.loopbackTestRun items false) s = .next t ∧ t.tst.waiting = none
        ∧ t.tst.outcome = (if items.toNat % 16 = 0 then 0 else 1) ∧ t.tst.code = c ∧ t.tst.time = s.bil.clock
        ∧ t = { s with tst := t.tst, flash := t.flash, fab := t.fab, glt := t.glt })
    ∧ (∀ b : Bool, s.tst.waiting = some 3 → isUp s .seq = true → testMayRun 3 s = true → ∃ t, Machine.exec (.loopbackTestRun 0 b) s = .next t
      ∧ t.rcd.windingRun = true ∧ t.rcd.windingStep = 1 ∧ t.tst = s.tst)
    ∧ (∀ c : Byte, s.tst.waiting = some c → 1 ≤ c.toNat → c.toNat ≤ 5 → isUp s .seq = true → testMayRun c.toNat s = false →
      s.rcd.windingRun = false → ∃ t, Machine.exec .selfTestConditionTimeout s = .next t ∧ t.tst.waiting = none ∧ t.tst.outcome = 2
        ∧ t = { s with tst := t.tst, flash := t.flash, fab := t.fab, glt := t.glt })
    ∧ (∀ c : Byte, s.tst.held = some c → isUp s .seq = true → inSession s = false → isBist c = false →
      ∃ t, Machine.exec .heldSelfTestStart s = .next t ∧ t.tst.held = none ∧ t.tst.waiting = some c ∧ t.tst.outcome = 6
        ∧ t = { s with tst := t.tst, fab := t.fab, glt := t.glt })
    ∧ (∀ (i : Island) (l : List Island) (pass : Bool) (sig : Word), s.tst.todo = i :: l → s.tst.awaiting = none →
      s.tst.scanning = true ∨ (s.tst.bistBoot = true ∧ startReady s = true) →
      ∃ t, Machine.exec (.bistIsland pass sig) s = .next t ∧ t.tst.scanning = true ∧ t.tst.awaiting = some i ∧ t.tst.todo = l
        ∧ t.tst.misr = sig ∧ (port t i).state = .resetting ∧ (s.tst.scanning = false → t.sec.scanLock = true)
        ∧ (pass = false → t.tst.memFail = setBit s.tst.memFail (islandNum i))
        ∧ (referenceSignature s i ≠ some sig → t.tst.logicFail = setBit s.tst.logicFail (islandNum i)))
    ∧ (∀ i : Island, s.tst.awaiting = some i → s.tst.todo ≠ [] → ∃ t, Machine.exec .bistIslandNotReturned s = .next t
      ∧ t.tst.awaiting = none ∧ t.tst.memFail = setBit s.tst.memFail (islandNum i)
      ∧ t.tst.logicFail = setBit s.tst.logicFail (islandNum i)
      ∧ t = { s with tst := t.tst, fab := t.fab, glt := t.glt })
    ∧ (∀ i : Island, s.tst.awaiting = some i → s.tst.todo = [] → ∃ t, Machine.exec .bistIslandNotReturned s = .next t
      ∧ t.pwr.resetHeld = true ∧ t.rst.odRestart = true)

/-- Firmware streams (R513, R514, R516): a first PDU at offset 0 starts a stream, one at another offset than the stream's draws BLOCK_ORDER
and changes nothing, a stalled stream is discarded, and the hand-over writes the update area and resets with LOADER.
(What is the model's choice or inference in it: log entries 9 and 51.) -/
def Obligations.FirmwareStreams : Prop :=
  ∀ (s : State) (rq : Requester),
    (∀ (total : Word) (data : Bytes), odServed s = true → isUp s .sec = true → s.pwr.loaderState = false → mayStream s = true →
      s.fw.stream = none → s.od.fwUpdateMode = 0 → 1 ≤ data.length → data.length ≤ 200 → total.toNat % 4096 = 0 → 8192 ≤ total.toNat →
      total.toNat ≤ 1028096 → ∃ t, Machine.exec (.fwImageBlock rq true false 0 total data) s = .next t ∧ t.od.lastStatus = 0
        ∧ t.fw.stream = some ⟨rq.path = .mailbox, false, total, BitVec.ofNat 32 data.length, data⟩ ∧ t.fw.phase = 1 ∧ t.fw.error = 0
        ∧ t.fw.manifest = s.fw.manifest ∧ t = { s with fw := t.fw, od := t.od, sec := t.sec, fab := t.fab, glt := t.glt })
    ∧ (∀ (x : Stream) (last : Bool) (off total : Word) (data : Bytes), odServed s = true → isUp s .sec = true →
      s.fw.stream = some x → x.mailbox = (rq.path = .mailbox : Bool) → x.deferred = false → 1 ≤ data.length → data.length ≤ 200 →
      off ≠ x.received → ∃ t, Machine.exec (.fwImageBlock rq false last off total data) s = .next t
        ∧ t.od.lastStatus = BitVec.ofNat 8 stOrder ∧ t = { s with od := t.od, sec := t.sec, fab := t.fab, glt := t.glt })
    ∧ (s.pwr.handoverDue = true → s.pwr.loaderState = false → resetWaits .loader s = false → ∃ t, Machine.exec .loaderHandover s = .next t
      ∧ t.pwr.resetHeld = true ∧ t.rst.loader = true ∧ t.fw.request = 1 ∧ t.fw.areaTotal = s.fw.total ∧ t.bil.clock = s.bil.clock)
    ∧ (∀ x : Stream, s.fw.stream = some x → x.received.toNat < 4096 → ∃ t, Machine.exec .streamStall s = .next t ∧ t.fw.stream = none
      ∧ t.fw.staging = s.fw.staging ∧ t = { s with fw := t.fw, fab := t.fab, glt := t.glt })

/-- SEC's jobs and the Mirror statement (R345, R347, R356, R362): the job of the best rank leaves the list, and Yew holds the key that it needs;
a statement waits for a closed record that can be written; one that is signed is kept with its signature, MirrorCount rises by one, and
Yew is empty.
(What is the model's choice or inference in it: log entry 55.) -/
def Obligations.KeysAndMirror : Prop :=
  ∀ s : State, isUp s .sec = true → s.sec.scanLock = false →
    (∀ j, nextJob s.sec.jobs = some j → ∃ t, Machine.exec .cryptoJob s = .next t ∧ t.sec.jobs = s.sec.jobs.erase j
      ∧ (jobCtx j ≠ .none → t.sec.ctx = jobCtx j) ∧ t = { s with sec := t.sec, fab := t.fab, glt := t.glt })
    ∧ (s.sec.jobs = [] → Machine.exec .cryptoJob s = .next (settle s))
    ∧ (∀ n sig, s.sec.mirrorNonce = some n → s.sec.signFault = false → recordFirst s = false →
      mirrorSignature (mirrorBody n (s.sec.mirrorCount + 1) s) s = some sig →
      ∃ t, Machine.exec .mirrorStatementReady s = .next t ∧ t.sec.mirror = mirrorBody n (s.sec.mirrorCount + 1) s ++ sig
        ∧ t.sec.mirrorCount = s.sec.mirrorCount + 1 ∧ t.sec.mirrorNonce = none ∧ t.sec.ctx = .none ∧ t.sec.yew = []
        ∧ t = { s with sec := t.sec, fab := t.fab, glt := t.glt })
    ∧ (s.sec.mirrorNonce = none ∨ recordFirst s = true → Machine.exec .mirrorStatementReady s = .next (settle s))

/-- PLC's queues and access to the medium (R377, R378, R379, R384, R392, R393, R403): a frame handed over joins its queue of 8 or is
refused; an idle medium begins access with its first window; a tone in a window of higher priority, and a busy medium, break it off; a
random slot counts down; a frame that is too old leaves its queue.
(What is the model's choice or inference in it: log entries 40 and 41.) -/
def Obligations.QueuesAndAccess : Prop :=
  ∀ s : State,
    (∀ h : Handover, handoverOk s h = true → (queueOf s h.prio).length < 8 →
      (∃ t, Machine.exec (.frameHandover h) s = .next t ∧ (queueOf t h.prio).length = (queueOf s h.prio).length + 1
        ∧ t.plc.fid = s.plc.fid + 1 ∧ t.plc.refused = s.plc.refused
        ∧ t = { s with plc := t.plc, od := { s.od with out := t.od.out }, fab := t.fab, glt := t.glt })
      ∧ (s.plc.idle = false → ∃ t, Machine.exec (.frameHandover h) s = .next t
        ∧ queueOf t h.prio = queueOf s h.prio ++ [newFrame s h]))
    ∧ (∀ h : Handover, handoverOk s h = true → 8 ≤ (queueOf s h.prio).length → ∃ t, Machine.exec (.frameHandover h) s = .next t
      ∧ t.plc.refused = satInc s.plc.refused ∧ queueOf t h.prio = queueOf s h.prio ∧ t.plc.fid = s.plc.fid)
    ∧ (∀ f, isUp s .plc = true → s.net.closeDue = false → s.plc.tx = none → s.plc.access = .none → s.plc.ackWindow = none →
      s.plc.spanHold = false → candidate s = some f → (linkPaths s f).all (pathReady s) = true →
      ∃ t, Machine.exec .mediumIdle s = .next t ∧ t.plc.busy = false ∧ t.plc.current = some { f with placed := false }
        ∧ t.plc.access = (if s.plc.bandC && (linkPaths s f).contains .line then .bandC else .window 0))
    ∧ (isUp s .plc = true → s.net.closeDue = false → candidate s = none → ∃ t, Machine.exec .mediumIdle s = .next t ∧ t.plc.busy = false
      ∧ t.plc.idle = s.plc.tx.isNone ∧ t.plc.access = s.plc.access ∧ t = { s with plc := t.plc, net := t.net, fab := t.fab, glt := t.glt })
    ∧ (∀ k f tone, s.plc.access = .window k → s.plc.current = some f →
      (k < f.prio.toNat → tone = true → Machine.exec (.accessSlot tone) s = .next (settle { s with plc := { s.plc with
        idle := false, access := .none, current := none } }))
      ∧ (k < f.prio.toNat → tone = false → k < 2 → Machine.exec (.accessSlot tone) s
        = .next (settle { s with plc := { s.plc with access := .window (k + 1) } })))
    ∧ (∀ n f, s.plc.access = .random n → s.plc.current = some f →
      (Machine.exec (.accessSlot true) s = .next (settle { s with plc := { s.plc with idle := false, access := .none, current := none } }))
      ∧ (2 ≤ n → Machine.exec (.accessSlot false) s = .next (settle { s with plc := { s.plc with access := .random (n - 1) } }))
      ∧ (n ≤ 1 → let g := if f.repeats = false ∧ f.attempt = 0 ∧ f.sent = false then { f with firstMode := (destOf s f.dst).mode } else f
        (linkPaths s g).all (pathReady s) = true → reachesSpan s (copyAndWindowUs s g) = false →
        ∃ t, Machine.exec (.accessSlot false) s = .next t ∧ t.plc.access = .none
          ∧ t.plc.tx = some { g with sent := true, placed := false, resent := g.resent || g.attempt != 0 }
          ∧ t.plc.txPaths = linkPaths s { g with sent := true, placed := false, resent := g.resent || g.attempt != 0 }))
    ∧ (∀ f, s.plc.access = .bandC → s.plc.current = some f →
      Machine.exec (.bandCWaitEnd false) s = .next (settle { s with plc := { s.plc with idle := false, access := .none, current := none } })
      ∧ (let g := if f.repeats = false ∧ f.attempt = 0 ∧ f.sent = false then { f with firstMode := (destOf s f.dst).mode } else f
        (linkPaths s g).all (pathReady s) = true → reachesSpan s (copyAndWindowUs s g) = false →
        ∃ t, Machine.exec (.bandCWaitEnd true) s = .next t ∧ t.plc.access = .none
          ∧ t.plc.tx = some { g with sent := true, placed := false, resent := g.resent || g.attempt != 0 }))
    ∧ (isUp s .plc = true → awake s = true → ∃ t, Machine.exec .mediumBusy s = .next t ∧ t.plc.busy = true ∧ t.plc.idle = false
      ∧ t.plc.access = .none ∧ t.plc.tx = s.plc.tx ∧ t = { s with plc := t.plc, net := { s.net with preamble := t.net.preamble }
                                                                  fab := t.fab, glt := t.glt })
    ∧ (∀ b : Bytes, receives s .line = true → ∃ t, Machine.exec (.fchDecode b) s = .next t ∧ t.plc.busy = true ∧ t.plc.access = .none
      ∧ t.plc.busyUs = fchBusyUs s b ∧ (crc8Ok b = false → t.plc.busyUs = frameUs s.plc.bandC .q 0))
    ∧ (s.plc.idle = false → Machine.exec .protectedSpanEnd s = .next (settle { s with plc := { s.plc with spanHold := false } }))
    ∧ (∀ (p : BitVec 2) (i : Nat) f, waitingAt s p i = some f → ∃ t, Machine.exec (.queueAgeDrop p i) s = .next t
      ∧ t.plc.refused = satInc s.plc.refused ∧ t.plc.framesLost = satInc s.plc.framesLost
      ∧ (s.plc.idle = false → queueOf t p = (queueOf s p).filter fun x => !sameFrame x f))
    ∧ (∀ (p : BitVec 2) (i : Nat), waitingAt s p i = none → Machine.exec (.queueAgeDrop p i) s = .next (settle s))

/-- Sending, ACKs and windows (R380 to R383, R386 to R389, R396 to R399): the end of a unicast copy opens its ACK window; a due ACK goes out
at once; a window that ends without an ACK counts to the next attempt, and after attempt 7 the frame is lost; the line driver is held off
at the eighth limit abort and in thermal shutdown, and comes back.
(What is the model's choice or inference in it: log entries 40 and 44.) -/
def Obligations.SendingAndAcks : Prop :=
  ∀ s : State,
    (∀ f limited, s.plc.tx = some f → f.type ≠ 1 → f.repeats = false → f.dst ≠ 0xFF → ∃ t, Machine.exec (.transmitEnd limited) s = .next t
      ∧ t.plc.tx = none ∧ t.plc.ackWindow = some f ∧ t.plc.aborts = 0
      ∧ t.plc.limited = (if limited then satInc s.plc.limited else s.plc.limited) ∧ t = { s with plc := t.plc, fab := t.fab, glt := t.glt })
    ∧ (∀ a r, s.plc.acks = a :: r → s.plc.tx = none → pathReady s a.path = true → ∃ t, Machine.exec .sendAck s = .next t
      ∧ t.plc.tx = some (ackFrame a) ∧ t.plc.txPaths = [a.path] ∧ t.plc.acks = r ∧ t = { s with plc := t.plc, fab := t.fab, glt := t.glt })
    ∧ (∀ a r, s.plc.relays = a :: r → s.plc.tx = none → pathReady s a.path = true → ∃ t, Machine.exec .ackRelay s = .next t
      ∧ t.plc.tx = some (ackFrame a) ∧ t.plc.txPaths = [a.path] ∧ t.plc.relays = r ∧ t = { s with plc := t.plc, fab := t.fab, glt := t.glt })
    ∧ (∀ f (c : Instr), s.plc.ackWindow = some f → f.sent = true →
      (c = .ackWindowEnd ∧ s.plc.relayed = false) ∨ (c = .relayedWindowEnd ∧ s.plc.relayed = true) →
      ∃ t, Machine.exec c s = .next t ∧ t.plc.ackWindow = none ∧ t.plc.relayed = false
        ∧ (f.attempt = 7 → t.plc.framesLost = satInc s.plc.framesLost ∧ (destOf t f.dst).run = 0)
        ∧ (f.attempt ≠ 7 → t.plc.framesLost = s.plc.framesLost ∧ t.plc.q0.length = s.plc.q0.length ∧ t.plc.q1.length = s.plc.q1.length)
        ∧ t = { s with plc := t.plc, fab := t.fab, glt := t.glt })
    ∧ (∀ f, s.plc.ackWindow = some f → s.plc.relayed = true → Machine.exec .ackWindowEnd s = .next (settle s))
    ∧ (∀ f, placedHead s = some f → isUp s .plc = true → underWay s = false → (linkPaths s f).all (pathReady s) = true →
      reachesSpan s (copyAndWindowUs s f) = false → s.plc.bandC = false → ∃ t, Machine.exec (.resendStart true) s = .next t
        ∧ t.plc.access = .window 0 ∧ t.plc.current = some { f with placed := false } ∧ t = { s with plc := t.plc, fab := t.fab, glt := t.glt })
    ∧ (∀ f l, s.plc.repeats = f :: l → isUp s .plc = true → s.plc.idle = true → s.plc.spanHold = false → underWay s = false →
      s.plc.q0 = [] → s.plc.q1 = [] → s.plc.q2 = [] → (linkPaths s { f with placed := false }).all (pathReady s) = true →
      ∃ t, Machine.exec .repeatFrame s = .next t ∧ t.plc.current = some { f with placed := false } ∧ t.plc.access ≠ .none
        ∧ t = { s with plc := t.plc, fab := t.fab, glt := t.glt })
    ∧ (s.plc.tx.isSome = true → s.plc.txPaths.contains .line = true → ∃ t, Machine.exec .limitAbort s = .next t ∧ t.plc.tx = none
      ∧ t.plc.aborts = s.plc.aborts + 1 ∧ (s.plc.aborts = 7 → t.plc.shortHold = true ∧ t.plc.drvOn = false)
      ∧ t.plc.retries = s.plc.retries ∧ t = { s with plc := t.plc, fab := t.fab, glt := t.glt })
    ∧ (s.plc.shortHold = true → s.flash.writable = true → ∃ t, Machine.exec .shortHoldEnd s = .next t ∧ t.plc.shortHold = false
      ∧ t.plc.aborts = 0 ∧ t.flash.log = s.flash.log ++ [(satInc s.flash.eventCount,
        .driverHold false s.plc.shortSince.1 (s.bil.running - s.plc.shortSince.2))]
      ∧ t = { s with plc := t.plc, flash := t.flash, fab := t.fab, glt := t.glt })
    ∧ (isUp s .plc = true → ∃ t, Machine.exec .thermalShutdown s = .next t ∧ t.plc.thermal = true ∧ t.plc.drvOn = false
      ∧ (s.plc.txPaths.contains .line = true → t.plc.tx = none) ∧ t = { s with plc := t.plc, fab := t.fab, glt := t.glt })
    ∧ (s.plc.thermal = true → s.flash.writable = true → ∃ t, Machine.exec .thermalRecovery s = .next t ∧ t.plc.thermal = false
      ∧ t.plc.shortHold = s.plc.shortHold ∧ t.flash.log = s.flash.log ++ [(satInc s.flash.eventCount,
        .driverHold true s.plc.thermalSince.1 (s.bil.running - s.plc.thermalSince.2))]
      ∧ t = { s with plc := t.plc, flash := t.flash, fab := t.fab, glt := t.glt })
    ∧ (isUp s .plc = true → isUp s .seq = true → s.plc.reloadDue = true →
      Machine.exec .linkReload s = .next (settle (leaveService .plc .reloading s)))

/-- Copies received (R375, R380, R392, R395, R411, R413, R416): one with a failing CRC8 or of another segment changes nothing but the copies
counted; a unicast frame for this node draws an ACK on its path; a copy with this node's address as SRC is a conflict; a copy on the field
port is counted.
(What is the model's choice or inference in it: log entry 42.) -/
def Obligations.CopiesReceived : Prop :=
  ∀ (s : State) (c : Copy),
    (crc8Ok c.fch = false ∨ receives s c.path = false → Machine.exec (.frameReceive c) s = .next (settle s))
    ∧ (c.path = .line → (parseFch c.fch).seg ≠ segmentNumber s % 256 → Machine.exec (.frameReceive c) s = .next (settle s))
    ∧ (receives s c.path = true → crc8Ok c.fch = true → (parseFch c.fch).seg = segmentNumber s % 256 →
      let h := parseFch c.fch
      let own := BitVec.ofNat 8 (nodeAddress s)
      (h.src = own → ∃ t, Machine.exec (.frameReceive c) s = .next t ∧ t.net.conflict = true)
      ∧ (h.type = 0 → h.ackReq = true → h.dst = own → h.orig ≠ own → fcsOk c = true → ∃ t, Machine.exec (.frameReceive c) s = .next t
        ∧ t.plc.acks = s.plc.acks ++ [ackFor c.path h h.src]
        ∧ (h.orig = 0 → isNew s h = true → (h.orig, h.fid) ∈ t.plc.lastPairs)
        ∧ t.met = s.met ∧ t.bil = s.bil ∧ t.ses = s.ses))
    ∧ (receives s .field = true → crc8Ok c.fch = true → c.path = .field → ∃ t, Machine.exec (.frameReceive c) s = .next t
      ∧ t.net.fpFrames = s.net.fpFrames + 1)
    ∧ (∀ w : Bytes, wireCopy w = some c → ∃ t, Machine.exec (.fieldPortCopy w) s = .next t ∧ Machine.exec (.frameReceive c) s = .next t)
    ∧ (∀ w : Bytes, wireCopy w = none → receives s .field = true → Machine.exec (.fieldPortCopy w) s
      = .next (settle { s with net := { s.net with fpFraming := satInc s.net.fpFraming } }))
    ∧ (receives s .field = true → Machine.exec .fieldPortGapAbort s
      = .next (settle { s with net := { s.net with fpFraming := satInc s.net.fpFraming } }))
    ∧ (s.plc.tx.isSome = true → s.plc.txPaths = [.field] → ∃ t, Machine.exec .readBackAbort s = .next t ∧ t.plc.tx = none
      ∧ t.plc.retries = s.plc.retries ∧ t = { s with plc := t.plc, fab := t.fab, glt := t.glt })
    ∧ (s.plc.tx.isSome = true → s.plc.txPaths = [.line, .field] → Machine.exec .readBackAbort s
      = .next (settle { s with plc := { s.plc with txPaths := [.line] } }))
    ∧ (isUp s .plc = true → s.plc.linkPath ≠ 0 → s.net.fpBusyLogged = false → Machine.exec .fieldPortBusyLog s
      = .next (settle (logEvent .fieldPortBusy { s with net := { s.net with fpBusyLogged := true } })))

/-- Beacons, curtailment, wake windows and telemetry (R401, R402, R405, R406, R407, R409, R410, R481): an authentic beacon or curtailment
message with a new SEQ takes effect, any other changes no timing and no limit; the lapse lifts the limit; windows open, close and count
their misses.
(What is the model's choice or inference in it: log entries 43 and 44.) -/
def Obligations.BeaconsAndWindows : Prop :=
  ∀ s : State,
    (∀ (c : Copy) (start : Time), receives s c.path = true → crc8Ok c.fch = true → (parseFch c.fch).seg = segmentNumber s % 256 →
      (parseFch c.fch).type = 2 → c.payload.length ≠ 20 → (parseFch c.fch).dst = 0xFF → (parseFch c.fch).orig = 0 →
      BitVec.ofNat 8 (nodeAddress s) ≠ 0 → fcsOk c = true → isNew s (parseFch c.fch) = true →
      beaconForm s (parseFch c.fch) c.payload = true → isUp s .sec = true → s.sec.slotOk.getLsbD 4 = true → s.sec.scanLock = false →
      (broadcastMacOk s c.path c.payload = true → s.net.bcastLost = true ∨ s.net.bcastSeq.toNat < fieldLe 0x30 4 c.payload % 2 ^ 32 →
        s.pwr.loaderState = false → ∃ t, Machine.exec (.beacon c start) s = .next t ∧ t.net.sync = 0 ∧ t.net.misses = 0
          ∧ t.net.bcastSeq = BitVec.ofNat 32 (fieldLe 0x30 4 c.payload) ∧ t.net.bcastLost = false
          ∧ t.net.periodMs = BitVec.ofNat 16 (fieldLe 4 2 c.payload) ∧ t.net.curtail = BitVec.ofNat 16 (fieldLe 0x0C 2 c.payload)
          ∧ t.net.repeater = mapBit c.payload 0x20 (nodeAddress s))
      ∧ (broadcastMacOk s c.path c.payload = false → ∃ t, Machine.exec (.beacon c start) s = .next t
        ∧ t.od.macFailures = satInc s.od.macFailures ∧ t.net.sync = s.net.sync ∧ t.net.curtail = s.net.curtail
        ∧ t.net.bcastSeq = s.net.bcastSeq ∧ t.bil = s.bil))
    ∧ (∀ c : Copy, receives s c.path = true → crc8Ok c.fch = true → (parseFch c.fch).seg = segmentNumber s % 256 →
      (parseFch c.fch).type = 2 → (parseFch c.fch).dst = 0xFF → (parseFch c.fch).orig = 0 → BitVec.ofNat 8 (nodeAddress s) ≠ 0 →
      fcsOk c = true → isNew s (parseFch c.fch) = true → curtailForm c.payload = true → isUp s .sec = true →
      s.sec.slotOk.getLsbD 4 = true → s.sec.scanLock = false → s.pwr.loaderState = false → broadcastMacOk s c.path c.payload = true →
      (s.net.bcastSeq.toNat < fieldLe 8 4 c.payload % 2 ^ 32 → ∃ t, Machine.exec (.curtailmentMessage c) s = .next t
        ∧ t.net.curtail = BitVec.ofNat 16 (fieldLe 4 2 c.payload) ∧ t.net.bcastSeq = BitVec.ofNat 32 (fieldLe 8 4 c.payload))
      ∧ (fieldLe 8 4 c.payload % 2 ^ 32 ≤ s.net.bcastSeq.toNat → ∃ t, Machine.exec (.curtailmentMessage c) s = .next t
        ∧ t.net.curtail = s.net.curtail ∧ t.net.bcastSeq = s.net.bcastSeq))
    ∧ (∀ x, s.net.beaconCopy = some x → isUp s .plc = true → s.plc.tx = none → beaconPaths s ≠ [] →
      ∃ t, Machine.exec .beaconRepeat s = .next t ∧ t.net.beaconCopy = none ∧ t.plc.tx = some (beaconFrame x)
        ∧ t.plc.txPaths = beaconPaths s ∧ t = { s with plc := t.plc, net := { s.net with beaconCopy := none }, fab := t.fab, glt := t.glt })
    ∧ (s.net.curtail ≠ 0xFFFF → s.pwr.loaderState = false → ∃ t, Machine.exec .curtailmentLapse s = .next t ∧ t.net.curtail = 0xFFFF
      ∧ t.ses.allowed = BitVec.ofNat 16 (allowedNow { s with net := { s.net with curtail := 0xFFFF } }))
    ∧ (isUp s .plc = true → s.net.sync.toNat < 2 → Machine.exec .wakeWindowOpen s = .next (settle { s with net := { s.net with
        windowOpen := true, gotBeacon := false, pendingForUs := false, preamble := false, closeDue := false } }))
    ∧ (s.net.windowOpen = true → s.plc.busy = false →
      (s.net.gotBeacon = true → ∃ t, Machine.exec .wakeWindowClose s = .next t ∧ t.net.windowOpen = false ∧ t.net.misses = s.net.misses
        ∧ t.net.sync = s.net.sync)
      ∧ (s.net.gotBeacon = false → s.net.misses.toNat < 3 → ∃ t, Machine.exec .wakeWindowClose s = .next t ∧ t.net.windowOpen = false
        ∧ t.net.misses = s.net.misses + 1 ∧ t.net.sync = 1)
      ∧ (s.net.gotBeacon = false → s.net.sync = 1 → s.net.misses = 3 → ∃ t, Machine.exec .wakeWindowClose s = .next t
        ∧ t.net.windowOpen = false ∧ t.net.sync = 2 ∧ t.net.repeater = false))
    ∧ (∀ p, s.bgd.snapshot = some p → s.bgd.snapshotDue = true → isUp s .plc = true → isUp s .seq = true →
      ∃ t, Machine.exec .telemetryHandover s = .next t ∧ t.bgd.snapshot = none ∧ t.bgd.snapshotDue = false ∧ t.od.out = s.od.out
        ∧ t.bil = s.bil ∧ t.ses = s.ses)

/-- Submissions of rectangles (R429, R431, R432, R433, R435): the owner's is queued with the next number where nothing refuses it, or only
sets the flag of each reason that holds; another party's only sets NOT_OWNER; a pushed word goes to the rectangle in flight that needs
data, waits in the FIFO of 64, or overflows.
(What is the model's choice or inference in it: log entry 45.) -/
def Obligations.RectangleSubmissions : Prop :=
  ∀ s : State, isUp s .disp = true →
    (∀ (b : Bool) (c : Instr) (op : RectOp), (c, op) ∈ [(Instr.fill b, RectOp.fill), (Instr.copy b, RectOp.copy),
        (Instr.asset b, RectOp.asset), (Instr.rectWrite b, RectOp.write)] →
      (isOwner s b = false → Machine.exec c s = .next (settle { s with disp := { s.disp with notOwner := true } }))
      ∧ (isOwner s b = true →
        (submitOk op s = true → Machine.exec c s = .next (settle { s with disp := { s.disp with
            queue := s.disp.queue ++ [rectOf op s], lastSeq := s.disp.lastSeq + 1 } }))
        ∧ (submitOk op s = false → ∃ t, Machine.exec c s = .next t
          ∧ (t.disp.bounds = true ↔ s.disp.bounds = true ∨ inBounds s (rectOf op s) = false)
          ∧ (t.disp.pendingDst = true ↔ s.disp.pendingDst = true ∨ (s.disp.pending = true ∧ s.disp.dstBuf = s.disp.buf))
          ∧ (t.disp.shownDst = true ↔ s.disp.shownDst = true ∨ (s.disp.pending = false ∧ s.disp.dstBuf = s.disp.shown))
          ∧ (t.disp.queueFull = true ↔ s.disp.queueFull = true ∨ 8 ≤ s.disp.queue.length)
          ∧ t = { s with fab := t.fab, glt := t.glt, disp := { s.disp with
              bounds := t.disp.bounds, pendingDst := t.disp.pendingDst, shownDst := t.disp.shownDst, queueFull := t.disp.queueFull } })))
    ∧ (∀ w : Word,
      (64 ≤ s.disp.fifo.length → Machine.exec (.rectData w) s = .next (settle { s with disp := { s.disp with dataOvf := true } }))
      ∧ (s.disp.fifo.length < 64 → s.disp.flight.any needsData = false →
        Machine.exec (.rectData w) s = .next (settle { s with disp := { s.disp with fifo := s.disp.fifo ++ [w] } }))
      ∧ (∀ r, s.disp.fifo = [] → s.disp.flight = [r] → needsData r = true →
        Machine.exec (.rectData w) s = .next (settle { s with disp := { s.disp with flight := [{ r with words := r.words ++ [w] }] } })))
    ∧ (∀ r q, s.disp.queue = r :: q → s.disp.fifo = [] →
      (mayFly s r = true → Machine.exec .rectangleInFlight s
        = .next (settle { s with disp := { s.disp with queue := q, flight := s.disp.flight ++ [r] } }))
      ∧ (mayFly s r = false → Machine.exec .rectangleInFlight s = .next (settle s)))

/-- A rectangle that finishes (R429, R431, R434, R435): a FILL gives each pixel inside it the level and changes no other pixel of either
buffer; the buffers keep their one form; DONE_SEQ takes its number; a WRITE that times out ends with DATA_TIMEOUT.
(What is the model's choice or inference in it: log entry 45.) -/
def Obligations.RectanglesFinish : Prop :=
  ∀ (s : State) (r : Rect), isUp s .disp = true → s.disp.flight = [r] → r.seq = s.disp.doneSeq + 1 → s.disp.finished = [] → s.disp.fifo = [] →
    Canonical s.disp.fb0 → Canonical s.disp.fb1 → ∀ late : Bool,
    (needsData r = false → ∃ t, Machine.exec (.rectangleFinish r.seq late) s = .next t ∧ t.disp.flight = [] ∧ t.disp.doneSeq = r.seq
      ∧ Canonical t.disp.fb0 ∧ Canonical t.disp.fb1 ∧ frameBuf t (!r.buf) = frameBuf s (!r.buf)
      ∧ (∀ k, ¬ Inside r k → pixelAt (frameBuf t r.buf) k = pixelAt (frameBuf s r.buf) k)
      ∧ (r.op = .fill → ∀ k, Inside r k → pixelAt (frameBuf t r.buf) k = r.arg.setWidth 4)
      ∧ t.disp.queue = s.disp.queue ∧ t = { s with disp := t.disp, fab := t.fab, glt := t.glt })
    ∧ (needsData r = true → Machine.exec (.rectangleFinish r.seq late) s = .next (settle s))
    ∧ (needsData r = true → ∃ t, Machine.exec (.writeRectTimeout late) s = .next t ∧ t.disp.flight = [] ∧ t.disp.dataTimeout = true
      ∧ t.disp.doneSeq = r.seq ∧ Canonical t.disp.fb0 ∧ Canonical t.disp.fb1
      ∧ (∀ k, ¬ Inside r k → pixelAt (frameBuf t r.buf) k = pixelAt (frameBuf s r.buf) k)
      ∧ t = { s with disp := t.disp, fab := t.fab, glt := t.glt })

/-- Commits, blankings, owners and the charge pump (R422, R428, R430, R436 to R438, R445, R449).
(What is the model's choice or inference in it: log entry 45.) -/
def Obligations.CommitsAndBlankings : Prop :=
  ∀ s : State, isUp s .disp = true →
    (∀ byHost buf late : Bool,
      (isOwner s byHost = false → Machine.exec (.displayCommit byHost buf late) s
        = .next (settle { s with disp := { s.disp with notOwner := true } }))
      ∧ (isOwner s byHost = true → s.disp.pending = true → Machine.exec (.displayCommit byHost buf late) s
        = .next (settle { s with disp := { s.disp with commitBusy := true } }))
      ∧ (isOwner s byHost = true → s.disp.pending = false → ∃ t, Machine.exec (.displayCommit byHost buf late) s = .next t
        ∧ t.disp.pending = true ∧ t.disp.buf = buf ∧ t.disp.shown = s.disp.shown ∧ t.disp.commitDone = finishedUpTo s s.disp.lastSeq
        ∧ t.disp.takeSeq = s.disp.frameSeq.setWidth 16 + (if late then 2 else 1)
        ∧ t = { s with disp := t.disp, fab := t.fab, glt := t.glt }))
    ∧ (∃ t, Machine.exec .blanking s = .next t ∧ t.disp.frameSeq = s.disp.frameSeq + 1 ∧ t.disp.div = s.disp.divNext ∧ t.disp.lcdDue = false
      ∧ (s.disp.lcdDue = true → t.disp.duty = (setting? s 0x14 1 == 1) ∧ t.disp.bias = (setting? s 0x14 2 == 1))
      ∧ (s.disp.lcdDue = false → t.disp.duty = s.disp.duty ∧ t.disp.bias = s.disp.bias)
      ∧ t.disp.fb0 = s.disp.fb0 ∧ t.disp.fb1 = s.disp.fb1
      ∧ (s.disp.pending = true → s.disp.commitDone = true → s.disp.commitLate = false → t.disp.shown = s.disp.buf ∧ t.disp.pending = false
        ∧ (isUp s .host = true → t.hst.dispTake = true) ∧ (∀ r ∈ t.disp.queue, r.waitShown = false))
      ∧ (s.disp.pending = false ∨ s.disp.commitDone = false ∨ s.disp.commitLate = true → t.disp.shown = s.disp.shown
        ∧ t.disp.pending = s.disp.pending ∧ t.disp.queue = s.disp.queue)
      ∧ t = { s with disp := t.disp, hst := { s.hst with dispTake := t.hst.dispTake }, fab := t.fab, glt := t.glt })
    ∧ (∀ b : Bool, Machine.exec (.hostOwn b) s = .next (settle { s with disp := { s.disp with hostOwn := b } }))
    ∧ (s.disp.queue = [] → s.disp.flight = [] → s.disp.pending = false → Machine.exec .ownerChange s
      = .next (settle { s with disp := { s.disp with owner := s.disp.hostOwn } }))
    ∧ (s.disp.queue ≠ [] ∨ s.disp.flight ≠ [] ∨ s.disp.pending = true → Machine.exec .ownerChange s = .next (settle s))
    ∧ (s.disp.pixelMode = false → ∃ t, Machine.exec .pumpFault s = .next t ∧ t.disp.pumpOk = false ∧ t.disp.pumpFault = true
      ∧ t.disp.driveOn = false ∧ (s.disp.pumpLogged = true → t.flash = s.flash)
      ∧ t = { s with disp := t.disp, flash := t.flash, fab := t.fab, glt := t.glt })
    ∧ (s.disp.pixelMode = false → s.disp.pumpOk = false → (∃ t, Machine.exec (.pumpRestart true) s = .next t ∧ t.disp.pumpOk = true
        ∧ t = { s with disp := t.disp, fab := t.fab, glt := t.glt })
      ∧ Machine.exec (.pumpRestart false) s = .next (settle s))
    ∧ (isUp s .seq = true → s.disp.reloadDue = true → ∃ t, Machine.exec .displayModeReload s = .next t ∧ (port t .disp).state = .reloading
      ∧ t.disp.reloadDue = false ∧ t.bil = s.bil)

/-- The annunciator (R441, R442, R443, R511): the first prompt that waits plays if the set holds it, and otherwise ends at once; a shutdown
holds the stage, the sixth latches it; its end is a retry, and 10 s without one clear the retries.
(What is the model's choice or inference in it: log entry 47.) -/
def Obligations.Annunciator : Prop :=
  ∀ s : State, isUp s .aud = true →
    (∀ p q, s.aud.queue = p :: q → s.aud.playing = none → s.aud.released = true → s.aud.latched = false →
      (promptExists s p.number.toNat = true → Machine.exec .promptStart s
        = .next (settle { s with aud := { s.aud with queue := q, playing := some p, prompt := p.number } }))
      ∧ (promptExists s p.number.toNat = false → Machine.exec .promptStart s = .next (settle { s with aud := { s.aud with queue := q } })))
    ∧ Machine.exec .promptEnd s = .next (settle { s with aud := { s.aud with playing := none, limit := false } })
    ∧ (s.aud.stageOn = true → s.aud.released = true → s.aud.hold = false → s.aud.latched = false →
      (s.aud.retries.toNat < 5 → ∃ t, Machine.exec .audShort s = .next t
        ∧ t.aud = { s.aud with hold := true, limit := true, faults := setBit s.aud.faults 0 }
        ∧ t = { s with aud := t.aud, flash := t.flash, fab := t.fab, glt := t.glt })
      ∧ (5 ≤ s.aud.retries.toNat → ∃ t, Machine.exec .audShort s = .next t ∧ t.aud.latched = true ∧ t.aud.queue = [] ∧ t.aud.playing = none
        ∧ t.aud.faults.getLsbD 1 = true))
    ∧ (s.aud.hold = true → ∃ t, Machine.exec .shutdownEnd s = .next t
      ∧ t.aud = { s.aud with hold := false, limit := false, retries := if s.aud.latched then s.aud.retries else s.aud.retries + 1 }
      ∧ t = { s with aud := t.aud, fab := t.fab, glt := t.glt })
    ∧ (s.aud.hold = false → Machine.exec .retriesReset s = .next (settle { s with aud := { s.aud with retries := 0 } }))
    ∧ (s.aud.hold = true → Machine.exec .retriesReset s = .next (settle s))

/-- The background engines (R470 to R473, R480, R484): a clean or corrected word sends the sweep on, a corrected one is counted; an
uncorrectable one is counted and logged and its island is reloaded; a block that fails its check is logged and checked once more; a
snapshot holds the epoch and the entries of Table 19-3. An engine that may not run does nothing.
(What is the model's choice or inference in it: log entries 36 and 38.) -/
def Obligations.BackgroundEngines : Prop :=
  ∀ (s : State),
    (engineRuns s 0 = true →
      (∃ t, Machine.exec (.scrubWord .clean) s = .next t ∧ t.bgd.sramWord = s.bgd.sramWord + 1 ∧ t.bgd.corrected = s.bgd.corrected
        ∧ t.bgd.uncorrectable = s.bgd.uncorrectable ∧ (s.bgd.sramWord ≠ 0x1FFFF → t.bgd.scrubLate = s.bgd.scrubLate)
        ∧ (s.bgd.sramWord = 0x1FFFF → s.bgd.sweepLate = false → t.bgd.scrubLate = false)
        ∧ t = settle { s with bgd := t.bgd })
      ∧ (∃ t, Machine.exec (.scrubWord (.single false)) s = .next t ∧ t.bgd.sramWord = s.bgd.sramWord + 1
        ∧ t.bgd.corrected = satInc s.bgd.corrected ∧ t.bgd.uncorrectable = s.bgd.uncorrectable ∧ t = settle { s with bgd := t.bgd })
      ∧ (∀ i, i ≠ .aon → i ≠ .safe → i ≠ .bgd → isUp s .safe = true → isUp s i = true →
        ∃ t, Machine.exec (.scrubWord (.uncorrectable i)) s = .next t
        ∧ t.bgd.uncorrectable = satInc s.bgd.uncorrectable ∧ t.bgd.sramWord = s.bgd.sramWord + 1 ∧ (port t i).state = .reloading
        ∧ (s.flash.writable = true → (satInc s.flash.eventCount, .scrubUncorrectable i s.bgd.sramWord) ∈ t.flash.log))
      ∧ (∃ t, Machine.exec (.codeBlockCheck true) s = .next t ∧ t.bgd.codeRepeat = false
        ∧ t.bgd.codeBlock = (if s.bgd.codeBlock.toNat + 1 < imageBlocks s then BitVec.ofNat 8 (s.bgd.codeBlock.toNat + 1) else 0)
        ∧ t = settle { s with bgd := { s.bgd with codeBlock := t.bgd.codeBlock, codeRepeat := false } })
      ∧ (s.bgd.codeRepeat = false → s.flash.writable = true → ∃ t, Machine.exec (.codeBlockCheck false) s = .next t
        ∧ t.bgd.codeFail = true ∧ t.bgd.codeRepeat = true ∧ t.bgd.codeBlock = s.bgd.codeBlock
        ∧ t.flash.log = s.flash.log ++ [(satInc s.flash.eventCount, .codeFail s.bgd.codeBlock)]
        ∧ t = settle { s with bgd := { s.bgd with codeFail := true, codeRepeat := true }, flash := t.flash })
      ∧ (s.bgd.codeRepeat = true → ∃ t, Machine.exec (.codeBlockCheck false) s = .next t ∧ t.bgd.codeRepeat = false
        ∧ t.bgd.codeBlock = (if s.bgd.codeBlock.toNat + 1 < imageBlocks s then BitVec.ofNat 8 (s.bgd.codeBlock.toNat + 1) else 0)
        ∧ t.fw = { s.fw with corrupt := s.bgd.codeBlock.toNat :: s.fw.corrupt }
        ∧ t = settle { s with bgd := { s.bgd with codeBlock := t.bgd.codeBlock, codeRepeat := false }, fw := t.fw }))
    ∧ (engineRuns s 0 = false → ∀ r b, Machine.exec (.scrubWord r) s = .next (settle s)
      ∧ Machine.exec (.codeBlockCheck b) s = .next (settle s))
    ∧ (isUp s .bgd = true → s.bgd.released = true → s.flash.writable = true → ∃ t, Machine.exec .scrubLate s = .next t
      ∧ t.bgd.scrubLate = true ∧ t.flash.log = (if s.bgd.sweepLate then s.flash.log else s.flash.log ++ [(satInc s.flash.eventCount, .scrubLate)])
      ∧ t = settle { s with bgd := { s.bgd with scrubLate := true, sweepLate := true }, flash := t.flash })
    ∧ (engineRuns s 3 = true → isUp s .seq = true → s.bil.closed = [] → Machine.exec .telemetrySnapshot s = .next (settle { s with
        bgd := { s.bgd with snapshotDue := false
                            snapshot := some (leBytes 2 s.od.serviceEpoch.toNat ++ snapshotEntries.flatMap (notifyRecord s)) } }))

/-- The zones of log flash (R475 to R478, R482, R487): a record goes into the newest block, or into the erased block of the lowest erase count,
whose header names the next logical block; a zone left with one erased block erases another, the free ones first and the oldest block only
after its records are removed; an erased block counts one erase more; a worn block changes places with the least-worn free one; a zone that falls to one erased block
ends the suspension of the wear manager, which is logged.
(What is the model's choice or inference in it: log entry 37.) -/
def Obligations.LogFlashZones : Prop :=
  ∀ (s : State) (z : Zone), isUp s .sec = true →
    let x := zoneOf s.flash z
    let w := logHeldDue { s with flash := { s.flash with writable := true } }
    (x.fill < perBlock z → Machine.exec (.logFlashWrite z true) s
      = .next (settle (endWearSuspension (setZone z { x with fill := x.fill + 1 } w))))
    ∧ (perBlock z ≤ x.fill → x.free ≠ [] → ∃ n ∈ x.free, (∀ m ∈ x.free, n ≤ m) ∧ ∃ b : FlashBlock, b.erases = n ∧ b.headerOk = true
      ∧ (∀ y, x.used.getLast? = some y → b.logical = y.logical + 1)
      ∧ Machine.exec (.logFlashWrite z true) s
        = .next (settle (endWearSuspension (setZone z { x with fill := 1, used := x.used ++ [b], free := x.free.erase n } w))))
    ∧ (perBlock z ≤ x.fill → x.free = [] → Machine.exec (.logFlashWrite z true) s
      = .next (settle (endWearSuspension { s with flash := { s.flash with writable := false } })))
    ∧ (∀ good : Bool, ∃ t, Machine.exec (.logFlashWrite z good) s = .next t ∧ (reserveLow t = true → t.bgd.suspended.getLsbD 2 = false
      ∧ (s.bgd.suspended.getLsbD 2 = true → t.flash.writable = true → ∃ n, (n, EventKind.wearSuspendCleared) ∈ t.flash.log)))
    ∧ (isUp s .bgd = true → s.bgd.released = true → s.pwr.brown.active = false → x.free.length ≤ 1 → x.erasing = none →
      s.bgd.suspended.getLsbD 2 = false →
      (x.dirty ≠ [] → ∃ n ∈ x.dirty, (∀ m ∈ x.dirty, n ≤ m) ∧ Machine.exec (.erase z true) s = .next (settle (setZone z
        { x with dirty := x.dirty.erase n, erasing := some n, suspended := false }
        { s with bgd := { s.bgd with active := setBit s.bgd.active 2 } })))
      ∧ (∀ c d r, x.dirty = [] → x.used = c :: d :: r → ∃ t, Machine.exec (.erase z true) s = .next t
        ∧ zoneOf t.flash z = { x with used := d :: r, erasing := some c.erases, suspended := false }
        ∧ (z = .ledger → t.bil.oldestIndex = satAdd s.bil.oldestIndex 15
          ∧ ∀ e ∈ t.bil.ledger, e ∈ s.bil.ledger ∧ t.bil.oldestIndex.toNat ≤ e.record.index.toNat)
        ∧ (z = .events → t.flash.eventOldest = satAdd s.flash.eventOldest 127
          ∧ ∀ e ∈ t.flash.log, e ∈ s.flash.log ∧ t.flash.eventOldest.toNat ≤ e.1.toNat)
        ∧ t.bgd = { s.bgd with active := setBit s.bgd.active 2 }
        ∧ t = { s with flash := t.flash, bil := { s.bil with oldestIndex := t.bil.oldestIndex, ledger := t.bil.ledger }, bgd := t.bgd
                       fab := t.fab, glt := t.glt }))
    ∧ (∀ c, x.erasing = some c → x.suspended = false → s.pwr.brown.active = false → ∃ t, Machine.exec (.eraseDone z) s = .next t
      ∧ zoneOf t.flash z = { x with erasing := none, free := x.free ++ [c + 1] } ∧ t = settle { s with flash := t.flash, bgd := t.bgd })
    ∧ (engineRuns s 2 = true → ∀ i, wornBlock s z = some i → x.free ≠ [] → ∃ n ∈ x.free, (∀ m ∈ x.free, n ≤ m)
      ∧ ∃ c, x.used[i]? = some c ∧ leastOf (allCounts s) + 2000 < c.erases
        ∧ Machine.exec (.wearCopy z true) s = .next (settle (setZone z
          { x with used := x.used.set i { c with erases := n }, free := x.free.erase n, dirty := x.dirty ++ [c.erases] } s)))

/-- Frames and the mailbox (R532 to R534, R537, R538, R544, R546). A word of a write frame becomes a fabric WRITE; a read frame gives the
start byte and, for each word, four data bytes and its status; a cut header does nothing but count. GO, RSP_ACK and NTF_ACK move the
mailbox's PDUs or set MBX_ERR, and a register write reaches its island while that is in service, and sets FAIL otherwise.
(What is the model's choice or inference in it: log entries 12, 13 and 54.) -/
def Obligations.HostPortFrames : Prop :=
  ∀ (s : State) (m : Bool) (header : Bytes), isUp s .host = true →
    let h := parseFrame header
    (header.length = 3 → h.read = false → h.len = 1 → outside h 0 = false → s.hst.pending.toNat < 256 → mustHold s .host = false →
      ∀ w, let f := hostRequest .write h.addr w s
        Machine.exec (.writeFrame m header [w]) s = .next (settle { s with
          fab := { s.fab with flights := s.fab.flights ++ [f] }
          hst := { s.hst with pending := s.hst.pending + 1, writes := s.hst.writes ++ [(f.req.tag, BitVec.ofNat 16 h.addr)]
                              frames := s.hst.frames + 1, mode3 := m, so := [] } }))
    ∧ (header.length = 3 → h.read = false → ∀ l : List Word, l.length = h.len → ∃ t, Machine.exec (.writeFrame m header l) s = .next t
      ∧ t.hst.frames = s.hst.frames + 1 ∧ t.hst.mode3 = m ∧ t.hst.so = [] ∧ t = { s with fab := t.fab, hst := t.hst, glt := t.glt })
    ∧ (header.length = 3 → h.read = true → h.len = 1 → HostQuiet s → FencesWait s →
      (∀ d, outside h 0 = false → islandOf (h.addr / 0x1000) = some d → NoneWaitAt (h.addr / 0x1000) s →
        let f := hostRequest .read h.addr 0 s
        (isUp s d = true → epochOk s d f = true → let w := regRead .host h.addr (noteTurn f (accept f s))
          ∃ t, Machine.exec (.readFrame m header) s = .next t
            ∧ t = { w.2 with fab := t.fab, glt := t.glt, hst := { w.2.hst with
                frames := w.2.hst.frames + 1, mode3 := m, so := 0xA5 :: beBytes 4 w.1.toNat ++ [0] } })
        ∧ (isUp s d = false → ∃ t, Machine.exec (.readFrame m header) s = .next t ∧ t.fab.absentSeen = setBit s.fab.absentSeen (islandNum d)
          ∧ t = { s with fab := t.fab, glt := t.glt, hst := { s.hst with
              frames := s.hst.frames + 1, mode3 := m, so := [0xA5, 0, 0, 0, 0, 1] } })
        ∧ (isUp s d = true → epochOk s d f = false → ∃ t, Machine.exec (.readFrame m header) s = .next t
          ∧ t.fab.staleSeen = setBit s.fab.staleSeen (islandNum d)
          ∧ t = { s with fab := t.fab, glt := t.glt, hst := { s.hst with
              frames := s.hst.frames + 1, mode3 := m, so := [0xA5, 0, 0, 0, 0, 2] } }))
      ∧ (outside h 0 = true → ∃ t, Machine.exec (.readFrame m header) s = .next t ∧ t.fab.absentSeen = s.fab.absentSeen
        ∧ t.fab.staleSeen = s.fab.staleSeen ∧ t = { s with fab := t.fab, glt := t.glt, hst := { s.hst with
            frames := s.hst.frames + 1, mode3 := m, so := [0xA5, 0, 0, 0, 0, 6] } }))
    ∧ (header.length ≠ 3 → ∀ r l, Machine.exec (.frameCut r header l) s
      = .next (settle { s with hst := { s.hst with short := satInc s.hst.short, so := [] } }))
    ∧ (header.length = 3 → h.read = false → ∀ l : List Word, ∃ t, Machine.exec (.frameCut false header l) s = .next t
      ∧ t.hst.short = satInc s.hst.short ∧ t.hst.so = [] ∧ t.hst.frames = s.hst.frames ∧ t = { s with fab := t.fab, hst := t.hst, glt := t.glt })
    ∧ (∀ n : Byte, (s.hst.request.isSome = true ∨ n.toNat < 12 ∨ 240 < n.toNat → Machine.exec (.mailboxGo n) s
        = .next (settle { s with hst := { s.hst with len := n, mbxErr := true } }))
      ∧ (s.hst.request = none → 12 ≤ n.toNat → n.toNat ≤ 240 → s.pwr.loaderState = false →
        (isUp s .seq = false → Machine.exec (.mailboxGo n) s = .next (settle { s with hst := { s.hst with
          len := n, request := some ((requestBytes s).take n.toNat) } }))
        ∧ (isUp s .seq = true → Machine.exec (.mailboxGo n) s = .next (settle (pduReceive
          (mailboxPdu ((requestBytes s).take n.toNat)) { s with hst := { s.hst with len := n, request := none } })))))
    ∧ (∀ b r, s.hst.responses = b :: r → Machine.exec .rspAck s = .next (settle { s with hst := { s.hst with responses := r } }))
    ∧ (∀ b r, s.hst.notifies = b :: r → Machine.exec .ntfAck s = .next (settle { s with hst := { s.hst with notifies := r } }))
    ∧ (s.hst.responses = [] → Machine.exec .rspAck s = .next (settle { s with hst := { s.hst with mbxErr := true } }))
    ∧ (s.hst.notifies = [] → Machine.exec .ntfAck s = .next (settle { s with hst := { s.hst with mbxErr := true } }))
    ∧ (∀ x : Outgoing, s.od.out.find? (·.path == .mailbox) = some x →
      let u := { s with od := { s.od with out := s.od.out.erase x } }
      (x.isNotify = false → s.hst.responses.length < 8 → Machine.exec .mailboxResponse s
        = .next (settle { u with hst := { s.hst with responses := s.hst.responses ++ [x.bytes] } }))
      ∧ (x.isNotify = true → s.hst.notifies.length < 4 → Machine.exec .mailboxResponse s
        = .next (settle { u with hst := { s.hst with notifies := s.hst.notifies ++ [x.bytes] } }))
      ∧ ((if x.isNotify then 4 ≤ s.hst.notifies.length else 8 ≤ s.hst.responses.length) → Machine.exec .mailboxResponse s
        = .next (settle { u with hst := { s.hst with mbxLost := satInc s.hst.mbxLost } })))
    ∧ (∀ v, Machine.exec (.registerWrite 0x9010 v) s = .next (settle { s with hst := { s.hst with irqEn := v.setWidth 10 } }))
    ∧ (∀ (a : BitVec 16) (v : Word), let n := a.toNat / 4 * 4
      (∀ d, islandOf (n / 0x1000) = some d → isUp s d = true → epochOk s d (hostRequest .write n v s) = true →
        Machine.exec (.registerWrite a v) s = .next (settle (writeReg .host n v s)))
      ∧ (s.hst.fail = false →
        (∀ d, islandOf (n / 0x1000) = some d → isUp s d = false → Machine.exec (.registerWrite a v) s = .next (settle { s with
          fab := { s.fab with absentSeen := s.fab.absentSeen ||| setBit 0 (islandNum d) }
          hst := { s.hst with fail := true, failSt := 1, failAddr := BitVec.ofNat 16 n } }))
        ∧ (islandOf (n / 0x1000) = none → Machine.exec (.registerWrite a v) s
          = .next (settle { s with hst := { s.hst with fail := true, failSt := 6, failAddr := BitVec.ofNat 16 n } }))))

/-- The block's own step (the model's choice, log entry 1; the spec gives a block no queue): the command at the front of the queue takes
effect on the state with the queue's rest, a command put at the front is the next one, and on an empty queue the block idles. -/
def Obligations.StepTakesTheFrontCommand : Prop :=
  ∀ (s : State) (c : Instr) (q : List Instr),
    (s.pending = c :: q → Machine.step s = Machine.exec c { s with pending := q })
    ∧ Machine.step { s with pending := c :: s.pending } = Machine.exec c s
    ∧ (s.pending = [] → Machine.step s = .next s)

/-- The state after reset: every island's port has epoch 0, STATE 101b and no loss (R81), gate-kill is asserted (R65), no
contactor coil is driven, and every documented register reads its Reset value (Table 22-6, with Table 22-5 for the HST block).
(What is the model's choice or inference in it: log entry 4.) -/
def Obligations.ResetValues : Prop :=
  (∀ i : Island, port State.reset i = { state := .notYetUp, epoch := 0, lossCount := 0, lossSat := false, reloadAtReturn := false, content := none })
  ∧ State.reset.pending = [] ∧ Settled State.reset ∧ State.reset.glt.kill = true
  ∧ (∀ x ∈ ([(0x0000, 0x00010003), (0x0004, 0), (0x0008, 0x70), (0x000C, 0x40), (0x0010, 0), (0x0014, 0), (0x0018, 0)] : List (Nat × Word))
      ++ [(0x1000, 0x00330000), (0x1004, 0), (0x1008, 0), (0x1100, 0), (0x1104, 0), (0x1108, 0), (0x110C, 0)]
      ++ [(0x3000, 0), (0x3004, 0), (0x3008, 0), (0x3010, 0), (0x306C, 0), (0x3070, 0), (0x3088, 0)]
      ++ [(0x4000, 0), (0x4004, 0), (0x4010, 0x00010000), (0x4014, 0), (0x4040, 0x12), (0x407C, 0x12), (0x4080, 0), (0x40C0, 0x00200012),
          (0x40C4, 0), (0x4100, 0x100), (0x4104, 0xFFFF0000), (0x4108, 0), (0x4200, 0), (0x4204, 0), (0x4400, 0), (0x4404, 0), (0x4408, 0),
          (0x4500, 0x100), (0x4504, 0), (0x4800, 0x80008000), (0x4FFC, 0x80008000)]
      ++ [(0x5000, 0), (0x5004, 0), (0x5008, 0), (0x500C, 0), (0x5100, 0x00030013), (0x5104, 0), (0x6000, 0), (0x6004, 0)]
      ++ [(0x7000, 0), (0x7004, 0x23), (0x7008, 0x10), (0x700C, 0x800), (0x7010, 0), (0x7014, 0), (0x7020, 0), (0x7024, 0x101), (0x7028, 0),
          (0x702C, 0), (0x7030, 0x40FFFF00), (0x7034, 0), (0x7038, 0), (0x8000, 0)]
      ++ [(0x9000, 0x00010420), (0x9004, 0), (0x9008, 0), (0x900C, 0x200), (0x9010, 0), (0x9014, 0), (0x9018, 0), (0x9400, 0x500), (0x942C, 0x500),
          (0x9440, 0), (0x9444, 0), (0x9448, 0), (0x944C, 0), (0x9450, 0), (0xA000, 0xF), (0xA004, 0), (0xA008, 0)]
      ++ [(0xB000, 0), (0xB004, 0x00020000), (0xB008, 0), (0xB00C, 0xFFFFFFFF), (0xB010, 0xFFFFFFFF), (0xB014, 0), (0xB018, 0x10), (0xB0B8, 0x10),
          (0xB0D8, 0x20), (0xB0F8, 0x30), (0xB100, 0), (0xB104, 0), (0xB108, 0), (0xB200, 2), (0xB204, 0), (0xB208, 0), (0xB20C, 0),
          (0xB300, 0x1000), (0xB304, 0), (0xB380, 0), (0xB384, 0)],
      (regRead .host x.1 State.reset).1 = x.2)

/-- Every command completes: in every state exec answers a next state (no command of this block stops), and leaves the queue of
waiting commands as it was.
(What is the model's choice or inference in it: log entries 1 and 2.) -/
def Obligations.EveryCommandCompletes : Prop :=
  ∀ (c : Instr) (s : State), ∃ t, Machine.exec c s = .next t ∧ t.pending = s.pending

/-- The invariant of the whole block: after every step gate-kill is asserted while SAFE is out of service or the brown-out sequence is
in force (R65, R98, R235), and PEAK is at least the number of tags in flight (Table 2-11). A command leaves it so whatever it found.
(What is the model's choice or inference in it: log entry 6.) -/
def Obligations.EveryStepKeepsSettled : Prop :=
  (∀ s t : State, Settled s → Machine.step s = .next t → Settled t)
  ∧ ∀ (c : Instr) (s t : State), Machine.exec c s = .next t → Settled t

/-- OTP only grows (R112, R117): in every step the manufacturing block, the key slots and the read-lock byte stay as they are, a bit of
BEGUN or DONE that is set in a copy stays set, and a step whose command is not COMMIT changes nothing in OTP.
(What is the model's choice or inference in it: log entry 10.) -/
def Obligations.OtpOnlyGrows : Prop :=
  ∀ s t : State, Machine.step s = .next t →
    t.otp = { s.otp with blocks := t.otp.blocks, begun := t.otp.begun, done := t.otp.done }
    ∧ (∀ k n, (s.otp.begun.toList.getD k 0).getLsbD n = true → (t.otp.begun.toList.getD k 0).getLsbD n = true)
    ∧ (∀ k n, (s.otp.done.toList.getD k 0).getLsbD n = true → (t.otp.done.toList.getD k 0).getLsbD n = true)
    ∧ (s.pending.head? ≠ some .commit → t.otp = s.otp)

end
end

