-- ==== Sys2Proof/Laws/Crypto.lean ====
section
/-! SUPPORT. The substitution table of AES against its definition in the field, and how a signature comes out. -/

namespace Sys2Proof.Machine

/-- The table gives what the field gives, for every byte. -/
theorem sbox_eq_sboxField : ∀ b : Byte, sbox b = sboxField b := by decide +kernel

/-- The first counter byte signs when its try gives a signature that verifies under the public key (R346). -/
theorem ecdsaSign_first {d : Nat} {k hash pub sig : Bytes} (hp : publicKey d = pub) (ht : ecdsaTry d k hash 0#8 = some sig)
    (hv : ecdsaVerify pub hash sig = true) : ecdsaSign d k hash = some sig := by
  simp [ecdsaSign, List.range, List.range.loop, ht, hp, hv]

end Sys2Proof.Machine
end

