-- ==== Sys2Proof/Laws/Display.lean ====
section
/-! SUPPORT. The frame buffers (17): a read after a write of a pixel, every other pixel left alone, and the one form kept. -/

namespace Sys2Proof.Machine

theorem pixelAt_below {l : List (Nat × BitVec 4)} {k : Nat} (h : ∀ x ∈ l, k < x.1) : pixelAt l k = 0 := by
  induction l with
  | nil => rfl
  | cons a r ih =>
    have ha := h a (by simp)
    rw [pixelAt, if_neg (by omega)]
    exact ih fun x hx => h x (by simp [hx])

/-- The pixels of a list after a write are the pixel written and pixels of the list. -/
theorem mem_setPixel {k : Nat} {v : BitVec 4} {l : List (Nat × BitVec 4)} {x : Nat × BitVec 4} (h : x ∈ setPixel k v l) :
    (x = (k, v) ∧ v ≠ 0) ∨ x ∈ l := by
  induction l with
  | nil =>
    rw [setPixel] at h
    split at h <;> simp_all
  | cons a r ih =>
    obtain ⟨a, b⟩ := a
    rw [setPixel] at h
    repeat' split at h
    · exact .inr h
    · rcases List.mem_cons.1 h with rfl | h
      · exact .inl ⟨rfl, by assumption⟩
      · exact .inr h
    · exact .inr (List.mem_cons_of_mem _ h)
    · rcases List.mem_cons.1 h with rfl | h
      · exact .inl ⟨rfl, by assumption⟩
      · exact .inr (List.mem_cons_of_mem _ h)
    · rcases List.mem_cons.1 h with rfl | h
      · exact .inr (by simp)
      · rcases ih h with h | h
        · exact .inl h
        · exact .inr (List.mem_cons_of_mem _ h)

/-- A write of a pixel keeps the one form. -/
theorem setPixel_canonical {l : List (Nat × BitVec 4)} (h : Canonical l) (k : Nat) (v : BitVec 4) : Canonical (setPixel k v l) := by
  induction l with
  | nil =>
    rw [setPixel]
    split <;> simp_all [Canonical]
  | cons a r ih =>
    obtain ⟨a, b⟩ := a
    have hr : Canonical r := ⟨h.1.of_cons, fun x hx => h.2 x (by simp [hx])⟩
    have hlt : ∀ x ∈ r, a < x.1 := fun x hx => (List.pairwise_cons.1 h.1).1 x hx
    have hb : b ≠ 0 := h.2 (a, b) (by simp)
    rw [setPixel]
    split
    · rename_i hk
      split
      · exact h
      · refine ⟨List.pairwise_cons.2 ⟨?_, h.1⟩, ?_⟩
        · intro x hx
          rcases List.mem_cons.1 hx with rfl | hx
          · exact hk
          · exact lt_trans hk (hlt x hx)
        · intro x hx
          rcases List.mem_cons.1 hx with rfl | hx
          · assumption
          · exact h.2 x hx
    · split
      · rename_i hk
        subst hk
        split
        · exact hr
        · refine ⟨List.pairwise_cons.2 ⟨hlt, hr.1⟩, ?_⟩
          intro x hx
          rcases List.mem_cons.1 hx with rfl | hx
          · assumption
          · exact hr.2 x hx
      · rename_i h1 h2
        have hs := ih hr
        refine ⟨List.pairwise_cons.2 ⟨?_, hs.1⟩, ?_⟩
        · intro x hx
          rcases mem_setPixel hx with ⟨rfl, -⟩ | hx
          · show a < k
            omega
          · exact hlt x hx
        · intro x hx
          rcases List.mem_cons.1 hx with rfl | hx
          · exact hb
          · exact hs.2 x hx

/-- A read after a write: the pixel written has its level, and every other pixel keeps its own. -/
theorem pixelAt_setPixel {l : List (Nat × BitVec 4)} (h : Canonical l) (k n : Nat) (v : BitVec 4) :
    pixelAt (setPixel k v l) n = if n = k then v else pixelAt l n := by
  induction l with
  | nil =>
    rw [setPixel]
    by_cases hv : v = 0
    · rw [if_pos hv, hv]
      split <;> rfl
    · rw [if_neg hv]
      show (if k = n then v else 0) = if n = k then v else 0
      by_cases hn : n = k
      · rw [if_pos hn.symm, if_pos hn]
      · rw [if_neg (Ne.symm hn), if_neg hn]
  | cons a r ih =>
    obtain ⟨a, b⟩ := a
    have hr : Canonical r := ⟨h.1.of_cons, fun x hx => h.2 x (by simp [hx])⟩
    have hlt : ∀ x ∈ r, a < x.1 := fun x hx => (List.pairwise_cons.1 h.1).1 x hx
    have zero : ∀ m, m ≤ a → pixelAt r m = 0 := fun m hm => pixelAt_below fun x hx => lt_of_le_of_lt hm (hlt x hx)
    rw [setPixel]
    by_cases h1 : k < a
    · rw [if_pos h1]
      by_cases hv : v = 0
      · rw [if_pos hv]
        by_cases hn : n = k
        · subst hn
          rw [if_pos rfl, pixelAt, if_neg (by omega), zero n (by omega), hv]
        · rw [if_neg hn]
      · rw [if_neg hv]
        by_cases hn : n = k
        · rw [pixelAt, if_pos hn.symm, if_pos hn]
        · rw [pixelAt, if_neg (Ne.symm hn), if_neg hn]
    · rw [if_neg h1]
      by_cases h2 : k = a
      · subst h2
        rw [if_pos rfl]
        by_cases hv : v = 0
        · rw [if_pos hv]
          by_cases hn : n = k
          · subst hn
            rw [if_pos rfl, zero n le_rfl, hv]
          · rw [if_neg hn, pixelAt, if_neg (Ne.symm hn)]
        · rw [if_neg hv]
          by_cases hn : n = k
          · rw [pixelAt, if_pos hn.symm, if_pos hn]
          · rw [pixelAt, if_neg (Ne.symm hn), if_neg hn, pixelAt, if_neg (Ne.symm hn)]
      · rw [if_neg h2, pixelAt, pixelAt, ih hr]
        by_cases hn : a = n
        · subst hn
          rw [if_pos rfl, if_neg (Ne.symm h2), if_pos rfl]
        · rw [if_neg hn, if_neg hn]

/-- Drawing a rectangle keeps the one form of both buffers. -/
theorem drawRect_canonical (r : Rect) {s : State} (h0 : Canonical s.disp.fb0) (h1 : Canonical s.disp.fb1) :
    Canonical (drawRect r s).disp.fb0 ∧ Canonical (drawRect r s).disp.fb1 := by
  have fold : ∀ (f : List (Nat × BitVec 4) → Nat → List (Nat × BitVec 4)), (∀ l k, Canonical l → Canonical (f l k)) →
      ∀ (ks : List Nat) (l : List (Nat × BitVec 4)), Canonical l → Canonical (ks.foldl f l) := by
    intro f hf ks
    induction ks with
    | nil => intro l h; exact h
    | cons k ks ih => intro l h; exact ih _ (hf l k h)
  have hb : Canonical (frameBuf s r.buf) := by
    unfold frameBuf
    split
    · exact h1
    · exact h0
  have hd := fold (fun l k => match rectPixel s r (k % r.w) (k / r.w) with
    | some v => setPixel (pixelNo (r.x + k % r.w) (r.y + k / r.w)) v l
    | none => l) (fun l k h => by
      split
      · exact setPixel_canonical h _ _
      · exact h) (List.range (r.w * r.h)) _ hb
  unfold drawRect setFrameBuf
  dsimp only
  split
  · exact ⟨h0, hd⟩
  · exact ⟨hd, h1⟩

end Sys2Proof.Machine
end

