-- ==== Sys2Proof/Laws/State.lean ====
section
/-! SUPPORT. For each shared operation of Machine/Ops.lean, the blocks of State that it leaves as they are, and what the settling of a
command leaves of the two that it touches. -/

namespace Sys2Proof.Machine

variable (s : State)

@[simp] theorem settle_pending : (settle s).pending = s.pending := rfl
@[simp] theorem settle_free : (settle s).free = s.free := rfl
@[simp] theorem settle_rst : (settle s).rst = s.rst := rfl
@[simp] theorem settle_sup : (settle s).sup = s.sup := rfl
@[simp] theorem settle_boot : (settle s).boot = s.boot := rfl
@[simp] theorem settle_pwr : (settle s).pwr = s.pwr := rfl
@[simp] theorem settle_otp : (settle s).otp = s.otp := rfl
@[simp] theorem settle_areas : (settle s).areas = s.areas := rfl
@[simp] theorem settle_cfg : (settle s).cfg = s.cfg := rfl
@[simp] theorem settle_set : (settle s).set = s.set := rfl
@[simp] theorem settle_copyA : (settle s).copyA = s.copyA := rfl
@[simp] theorem settle_copyB : (settle s).copyB = s.copyB := rfl
@[simp] theorem settle_od : (settle s).od = s.od := rfl
@[simp] theorem settle_ses : (settle s).ses = s.ses := rfl
@[simp] theorem settle_plt : (settle s).plt = s.plt := rfl
@[simp] theorem settle_swg : (settle s).swg = s.swg := rfl
@[simp] theorem settle_lck : (settle s).lck = s.lck := rfl
@[simp] theorem settle_rcd : (settle s).rcd = s.rcd := rfl
@[simp] theorem settle_safe : (settle s).safe = s.safe := rfl
@[simp] theorem settle_live : (settle s).live = s.live := rfl
@[simp] theorem settle_adc : (settle s).adc = s.adc := rfl
@[simp] theorem settle_met : (settle s).met = s.met := rfl
@[simp] theorem settle_bil : (settle s).bil = s.bil := rfl
@[simp] theorem settle_sec : (settle s).sec = s.sec := rfl
@[simp] theorem settle_plc : (settle s).plc = s.plc := rfl
@[simp] theorem settle_net : (settle s).net = s.net := rfl
@[simp] theorem settle_disp : (settle s).disp = s.disp := rfl
@[simp] theorem settle_aud : (settle s).aud = s.aud := rfl
@[simp] theorem settle_tmr : (settle s).tmr = s.tmr := rfl
@[simp] theorem settle_bgd : (settle s).bgd = s.bgd := rfl
@[simp] theorem settle_flash : (settle s).flash = s.flash := rfl
@[simp] theorem settle_tst : (settle s).tst = s.tst := rfl
@[simp] theorem settle_fw : (settle s).fw = s.fw := rfl
@[simp] theorem settle_hst : (settle s).hst = s.hst := rfl

@[simp] theorem setPort_pending (i : Island) (p : Port) : (setPort s i p).pending = s.pending := rfl
@[simp] theorem setPort_free (i : Island) (p : Port) : (setPort s i p).free = s.free := rfl
@[simp] theorem setPort_rst (i : Island) (p : Port) : (setPort s i p).rst = s.rst := rfl
@[simp] theorem setPort_sup (i : Island) (p : Port) : (setPort s i p).sup = s.sup := rfl
@[simp] theorem setPort_boot (i : Island) (p : Port) : (setPort s i p).boot = s.boot := rfl
@[simp] theorem setPort_pwr (i : Island) (p : Port) : (setPort s i p).pwr = s.pwr := rfl
@[simp] theorem setPort_otp (i : Island) (p : Port) : (setPort s i p).otp = s.otp := rfl
@[simp] theorem setPort_areas (i : Island) (p : Port) : (setPort s i p).areas = s.areas := rfl
@[simp] theorem setPort_cfg (i : Island) (p : Port) : (setPort s i p).cfg = s.cfg := rfl
@[simp] theorem setPort_set (i : Island) (p : Port) : (setPort s i p).set = s.set := rfl
@[simp] theorem setPort_copyA (i : Island) (p : Port) : (setPort s i p).copyA = s.copyA := rfl
@[simp] theorem setPort_copyB (i : Island) (p : Port) : (setPort s i p).copyB = s.copyB := rfl
@[simp] theorem setPort_od (i : Island) (p : Port) : (setPort s i p).od = s.od := rfl
@[simp] theorem setPort_ses (i : Island) (p : Port) : (setPort s i p).ses = s.ses := rfl
@[simp] theorem setPort_plt (i : Island) (p : Port) : (setPort s i p).plt = s.plt := rfl
@[simp] theorem setPort_swg (i : Island) (p : Port) : (setPort s i p).swg = s.swg := rfl
@[simp] theorem setPort_lck (i : Island) (p : Port) : (setPort s i p).lck = s.lck := rfl
@[simp] theorem setPort_rcd (i : Island) (p : Port) : (setPort s i p).rcd = s.rcd := rfl
@[simp] theorem setPort_glt (i : Island) (p : Port) : (setPort s i p).glt = s.glt := rfl
@[simp] theorem setPort_safe (i : Island) (p : Port) : (setPort s i p).safe = s.safe := rfl
@[simp] theorem setPort_live (i : Island) (p : Port) : (setPort s i p).live = s.live := rfl
@[simp] theorem setPort_adc (i : Island) (p : Port) : (setPort s i p).adc = s.adc := rfl
@[simp] theorem setPort_met (i : Island) (p : Port) : (setPort s i p).met = s.met := rfl
@[simp] theorem setPort_bil (i : Island) (p : Port) : (setPort s i p).bil = s.bil := rfl
@[simp] theorem setPort_sec (i : Island) (p : Port) : (setPort s i p).sec = s.sec := rfl
@[simp] theorem setPort_plc (i : Island) (p : Port) : (setPort s i p).plc = s.plc := rfl
@[simp] theorem setPort_net (i : Island) (p : Port) : (setPort s i p).net = s.net := rfl
@[simp] theorem setPort_disp (i : Island) (p : Port) : (setPort s i p).disp = s.disp := rfl
@[simp] theorem setPort_aud (i : Island) (p : Port) : (setPort s i p).aud = s.aud := rfl
@[simp] theorem setPort_tmr (i : Island) (p : Port) : (setPort s i p).tmr = s.tmr := rfl
@[simp] theorem setPort_bgd (i : Island) (p : Port) : (setPort s i p).bgd = s.bgd := rfl
@[simp] theorem setPort_flash (i : Island) (p : Port) : (setPort s i p).flash = s.flash := rfl
@[simp] theorem setPort_tst (i : Island) (p : Port) : (setPort s i p).tst = s.tst := rfl
@[simp] theorem setPort_fw (i : Island) (p : Port) : (setPort s i p).fw = s.fw := rfl
@[simp] theorem setPort_hst (i : Island) (p : Port) : (setPort s i p).hst = s.hst := rfl

@[simp] theorem logEvent_pending (k : EventKind) : (logEvent k s).pending = s.pending := by unfold logEvent; split <;> rfl
@[simp] theorem logEvent_free (k : EventKind) : (logEvent k s).free = s.free := by unfold logEvent; split <;> rfl
@[simp] theorem logEvent_fab (k : EventKind) : (logEvent k s).fab = s.fab := by unfold logEvent; split <;> rfl
@[simp] theorem logEvent_rst (k : EventKind) : (logEvent k s).rst = s.rst := by unfold logEvent; split <;> rfl
@[simp] theorem logEvent_sup (k : EventKind) : (logEvent k s).sup = s.sup := by unfold logEvent; split <;> rfl
@[simp] theorem logEvent_boot (k : EventKind) : (logEvent k s).boot = s.boot := by unfold logEvent; split <;> rfl
@[simp] theorem logEvent_pwr (k : EventKind) : (logEvent k s).pwr = s.pwr := by unfold logEvent; split <;> rfl
@[simp] theorem logEvent_otp (k : EventKind) : (logEvent k s).otp = s.otp := by unfold logEvent; split <;> rfl
@[simp] theorem logEvent_areas (k : EventKind) : (logEvent k s).areas = s.areas := by unfold logEvent; split <;> rfl
@[simp] theorem logEvent_cfg (k : EventKind) : (logEvent k s).cfg = s.cfg := by unfold logEvent; split <;> rfl
@[simp] theorem logEvent_set (k : EventKind) : (logEvent k s).set = s.set := by unfold logEvent; split <;> rfl
@[simp] theorem logEvent_copyA (k : EventKind) : (logEvent k s).copyA = s.copyA := by unfold logEvent; split <;> rfl
@[simp] theorem logEvent_copyB (k : EventKind) : (logEvent k s).copyB = s.copyB := by unfold logEvent; split <;> rfl
@[simp] theorem logEvent_od (k : EventKind) : (logEvent k s).od = s.od := by unfold logEvent; split <;> rfl
@[simp] theorem logEvent_ses (k : EventKind) : (logEvent k s).ses = s.ses := by unfold logEvent; split <;> rfl
@[simp] theorem logEvent_plt (k : EventKind) : (logEvent k s).plt = s.plt := by unfold logEvent; split <;> rfl
@[simp] theorem logEvent_swg (k : EventKind) : (logEvent k s).swg = s.swg := by unfold logEvent; split <;> rfl
@[simp] theorem logEvent_lck (k : EventKind) : (logEvent k s).lck = s.lck := by unfold logEvent; split <;> rfl
@[simp] theorem logEvent_rcd (k : EventKind) : (logEvent k s).rcd = s.rcd := by unfold logEvent; split <;> rfl
@[simp] theorem logEvent_glt (k : EventKind) : (logEvent k s).glt = s.glt := by unfold logEvent; split <;> rfl
@[simp] theorem logEvent_safe (k : EventKind) : (logEvent k s).safe = s.safe := by unfold logEvent; split <;> rfl
@[simp] theorem logEvent_live (k : EventKind) : (logEvent k s).live = s.live := by unfold logEvent; split <;> rfl
@[simp] theorem logEvent_adc (k : EventKind) : (logEvent k s).adc = s.adc := by unfold logEvent; split <;> rfl
@[simp] theorem logEvent_met (k : EventKind) : (logEvent k s).met = s.met := by unfold logEvent; split <;> rfl
@[simp] theorem logEvent_bil (k : EventKind) : (logEvent k s).bil = s.bil := by unfold logEvent; split <;> rfl
@[simp] theorem logEvent_sec (k : EventKind) : (logEvent k s).sec = s.sec := by unfold logEvent; split <;> rfl
@[simp] theorem logEvent_plc (k : EventKind) : (logEvent k s).plc = s.plc := by unfold logEvent; split <;> rfl
@[simp] theorem logEvent_net (k : EventKind) : (logEvent k s).net = s.net := by unfold logEvent; split <;> rfl
@[simp] theorem logEvent_disp (k : EventKind) : (logEvent k s).disp = s.disp := by unfold logEvent; split <;> rfl
@[simp] theorem logEvent_aud (k : EventKind) : (logEvent k s).aud = s.aud := by unfold logEvent; split <;> rfl
@[simp] theorem logEvent_tmr (k : EventKind) : (logEvent k s).tmr = s.tmr := by unfold logEvent; split <;> rfl
@[simp] theorem logEvent_bgd (k : EventKind) : (logEvent k s).bgd = s.bgd := by unfold logEvent; split <;> rfl
@[simp] theorem logEvent_tst (k : EventKind) : (logEvent k s).tst = s.tst := by unfold logEvent; split <;> rfl
@[simp] theorem logEvent_fw (k : EventKind) : (logEvent k s).fw = s.fw := by unfold logEvent; split <;> rfl
@[simp] theorem logEvent_hst (k : EventKind) : (logEvent k s).hst = s.hst := by unfold logEvent; split <;> rfl

@[simp] theorem report_pending (c : BitVec 16) : (report c s).pending = s.pending := rfl
@[simp] theorem report_free (c : BitVec 16) : (report c s).free = s.free := rfl
@[simp] theorem report_fab (c : BitVec 16) : (report c s).fab = s.fab := rfl
@[simp] theorem report_rst (c : BitVec 16) : (report c s).rst = s.rst := rfl
@[simp] theorem report_sup (c : BitVec 16) : (report c s).sup = s.sup := rfl
@[simp] theorem report_boot (c : BitVec 16) : (report c s).boot = s.boot := rfl
@[simp] theorem report_pwr (c : BitVec 16) : (report c s).pwr = s.pwr := rfl
@[simp] theorem report_otp (c : BitVec 16) : (report c s).otp = s.otp := rfl
@[simp] theorem report_areas (c : BitVec 16) : (report c s).areas = s.areas := rfl
@[simp] theorem report_cfg (c : BitVec 16) : (report c s).cfg = s.cfg := rfl
@[simp] theorem report_set (c : BitVec 16) : (report c s).set = s.set := rfl
@[simp] theorem report_copyA (c : BitVec 16) : (report c s).copyA = s.copyA := rfl
@[simp] theorem report_copyB (c : BitVec 16) : (report c s).copyB = s.copyB := rfl
@[simp] theorem report_od (c : BitVec 16) : (report c s).od = s.od := rfl
@[simp] theorem report_ses (c : BitVec 16) : (report c s).ses = s.ses := rfl
@[simp] theorem report_plt (c : BitVec 16) : (report c s).plt = s.plt := rfl
@[simp] theorem report_swg (c : BitVec 16) : (report c s).swg = s.swg := rfl
@[simp] theorem report_lck (c : BitVec 16) : (report c s).lck = s.lck := rfl
@[simp] theorem report_rcd (c : BitVec 16) : (report c s).rcd = s.rcd := rfl
@[simp] theorem report_glt (c : BitVec 16) : (report c s).glt = s.glt := rfl
@[simp] theorem report_live (c : BitVec 16) : (report c s).live = s.live := rfl
@[simp] theorem report_adc (c : BitVec 16) : (report c s).adc = s.adc := rfl
@[simp] theorem report_met (c : BitVec 16) : (report c s).met = s.met := rfl
@[simp] theorem report_bil (c : BitVec 16) : (report c s).bil = s.bil := rfl
@[simp] theorem report_sec (c : BitVec 16) : (report c s).sec = s.sec := rfl
@[simp] theorem report_plc (c : BitVec 16) : (report c s).plc = s.plc := rfl
@[simp] theorem report_net (c : BitVec 16) : (report c s).net = s.net := rfl
@[simp] theorem report_disp (c : BitVec 16) : (report c s).disp = s.disp := rfl
@[simp] theorem report_aud (c : BitVec 16) : (report c s).aud = s.aud := rfl
@[simp] theorem report_tmr (c : BitVec 16) : (report c s).tmr = s.tmr := rfl
@[simp] theorem report_bgd (c : BitVec 16) : (report c s).bgd = s.bgd := rfl
@[simp] theorem report_flash (c : BitVec 16) : (report c s).flash = s.flash := rfl
@[simp] theorem report_tst (c : BitVec 16) : (report c s).tst = s.tst := rfl
@[simp] theorem report_fw (c : BitVec 16) : (report c s).fw = s.fw := rfl
@[simp] theorem report_hst (c : BitVec 16) : (report c s).hst = s.hst := rfl

@[simp] theorem diagFail_pending (n : Nat) : (diagFail n s).pending = s.pending := by unfold diagFail; dsimp only; split <;> rfl
@[simp] theorem diagFail_free (n : Nat) : (diagFail n s).free = s.free := by unfold diagFail; dsimp only; split <;> rfl
@[simp] theorem diagFail_fab (n : Nat) : (diagFail n s).fab = s.fab := by unfold diagFail; dsimp only; split <;> rfl
@[simp] theorem diagFail_rst (n : Nat) : (diagFail n s).rst = s.rst := by unfold diagFail; dsimp only; split <;> rfl
@[simp] theorem diagFail_sup (n : Nat) : (diagFail n s).sup = s.sup := by unfold diagFail; dsimp only; split <;> rfl
@[simp] theorem diagFail_boot (n : Nat) : (diagFail n s).boot = s.boot := by unfold diagFail; dsimp only; split <;> rfl
@[simp] theorem diagFail_pwr (n : Nat) : (diagFail n s).pwr = s.pwr := by unfold diagFail; dsimp only; split <;> rfl
@[simp] theorem diagFail_otp (n : Nat) : (diagFail n s).otp = s.otp := by unfold diagFail; dsimp only; split <;> rfl
@[simp] theorem diagFail_areas (n : Nat) : (diagFail n s).areas = s.areas := by unfold diagFail; dsimp only; split <;> rfl
@[simp] theorem diagFail_cfg (n : Nat) : (diagFail n s).cfg = s.cfg := by unfold diagFail; dsimp only; split <;> rfl
@[simp] theorem diagFail_set (n : Nat) : (diagFail n s).set = s.set := by unfold diagFail; dsimp only; split <;> rfl
@[simp] theorem diagFail_copyA (n : Nat) : (diagFail n s).copyA = s.copyA := by unfold diagFail; dsimp only; split <;> rfl
@[simp] theorem diagFail_copyB (n : Nat) : (diagFail n s).copyB = s.copyB := by unfold diagFail; dsimp only; split <;> rfl
@[simp] theorem diagFail_od (n : Nat) : (diagFail n s).od = s.od := by unfold diagFail; dsimp only; split <;> rfl
@[simp] theorem diagFail_ses (n : Nat) : (diagFail n s).ses = s.ses := by unfold diagFail; dsimp only; split <;> rfl
@[simp] theorem diagFail_plt (n : Nat) : (diagFail n s).plt = s.plt := by unfold diagFail; dsimp only; split <;> rfl
@[simp] theorem diagFail_swg (n : Nat) : (diagFail n s).swg = s.swg := by unfold diagFail; dsimp only; split <;> rfl
@[simp] theorem diagFail_lck (n : Nat) : (diagFail n s).lck = s.lck := by unfold diagFail; dsimp only; split <;> rfl
@[simp] theorem diagFail_rcd (n : Nat) : (diagFail n s).rcd = s.rcd := by unfold diagFail; dsimp only; split <;> rfl
@[simp] theorem diagFail_glt (n : Nat) : (diagFail n s).glt = s.glt := by unfold diagFail; dsimp only; split <;> rfl
@[simp] theorem diagFail_adc (n : Nat) : (diagFail n s).adc = s.adc := by unfold diagFail; dsimp only; split <;> rfl
@[simp] theorem diagFail_met (n : Nat) : (diagFail n s).met = s.met := by unfold diagFail; dsimp only; split <;> rfl
@[simp] theorem diagFail_bil (n : Nat) : (diagFail n s).bil = s.bil := by unfold diagFail; dsimp only; split <;> rfl
@[simp] theorem diagFail_sec (n : Nat) : (diagFail n s).sec = s.sec := by unfold diagFail; dsimp only; split <;> rfl
@[simp] theorem diagFail_plc (n : Nat) : (diagFail n s).plc = s.plc := by unfold diagFail; dsimp only; split <;> rfl
@[simp] theorem diagFail_net (n : Nat) : (diagFail n s).net = s.net := by unfold diagFail; dsimp only; split <;> rfl
@[simp] theorem diagFail_disp (n : Nat) : (diagFail n s).disp = s.disp := by unfold diagFail; dsimp only; split <;> rfl
@[simp] theorem diagFail_aud (n : Nat) : (diagFail n s).aud = s.aud := by unfold diagFail; dsimp only; split <;> rfl
@[simp] theorem diagFail_tmr (n : Nat) : (diagFail n s).tmr = s.tmr := by unfold diagFail; dsimp only; split <;> rfl
@[simp] theorem diagFail_bgd (n : Nat) : (diagFail n s).bgd = s.bgd := by unfold diagFail; dsimp only; split <;> rfl
@[simp] theorem diagFail_flash (n : Nat) : (diagFail n s).flash = s.flash := by unfold diagFail; dsimp only; split <;> rfl
@[simp] theorem diagFail_tst (n : Nat) : (diagFail n s).tst = s.tst := by unfold diagFail; dsimp only; split <;> rfl
@[simp] theorem diagFail_fw (n : Nat) : (diagFail n s).fw = s.fw := by unfold diagFail; dsimp only; split <;> rfl
@[simp] theorem diagFail_hst (n : Nat) : (diagFail n s).hst = s.hst := by unfold diagFail; dsimp only; split <;> rfl

@[simp] theorem diagPass_pending (n : Nat) : (diagPass n s).pending = s.pending := rfl
@[simp] theorem diagPass_free (n : Nat) : (diagPass n s).free = s.free := rfl
@[simp] theorem diagPass_fab (n : Nat) : (diagPass n s).fab = s.fab := rfl
@[simp] theorem diagPass_rst (n : Nat) : (diagPass n s).rst = s.rst := rfl
@[simp] theorem diagPass_sup (n : Nat) : (diagPass n s).sup = s.sup := rfl
@[simp] theorem diagPass_boot (n : Nat) : (diagPass n s).boot = s.boot := rfl
@[simp] theorem diagPass_pwr (n : Nat) : (diagPass n s).pwr = s.pwr := rfl
@[simp] theorem diagPass_otp (n : Nat) : (diagPass n s).otp = s.otp := rfl
@[simp] theorem diagPass_areas (n : Nat) : (diagPass n s).areas = s.areas := rfl
@[simp] theorem diagPass_cfg (n : Nat) : (diagPass n s).cfg = s.cfg := rfl
@[simp] theorem diagPass_set (n : Nat) : (diagPass n s).set = s.set := rfl
@[simp] theorem diagPass_copyA (n : Nat) : (diagPass n s).copyA = s.copyA := rfl
@[simp] theorem diagPass_copyB (n : Nat) : (diagPass n s).copyB = s.copyB := rfl
@[simp] theorem diagPass_od (n : Nat) : (diagPass n s).od = s.od := rfl
@[simp] theorem diagPass_ses (n : Nat) : (diagPass n s).ses = s.ses := rfl
@[simp] theorem diagPass_plt (n : Nat) : (diagPass n s).plt = s.plt := rfl
@[simp] theorem diagPass_swg (n : Nat) : (diagPass n s).swg = s.swg := rfl
@[simp] theorem diagPass_lck (n : Nat) : (diagPass n s).lck = s.lck := rfl
@[simp] theorem diagPass_rcd (n : Nat) : (diagPass n s).rcd = s.rcd := rfl
@[simp] theorem diagPass_glt (n : Nat) : (diagPass n s).glt = s.glt := rfl
@[simp] theorem diagPass_adc (n : Nat) : (diagPass n s).adc = s.adc := rfl
@[simp] theorem diagPass_met (n : Nat) : (diagPass n s).met = s.met := rfl
@[simp] theorem diagPass_bil (n : Nat) : (diagPass n s).bil = s.bil := rfl
@[simp] theorem diagPass_sec (n : Nat) : (diagPass n s).sec = s.sec := rfl
@[simp] theorem diagPass_plc (n : Nat) : (diagPass n s).plc = s.plc := rfl
@[simp] theorem diagPass_net (n : Nat) : (diagPass n s).net = s.net := rfl
@[simp] theorem diagPass_disp (n : Nat) : (diagPass n s).disp = s.disp := rfl
@[simp] theorem diagPass_aud (n : Nat) : (diagPass n s).aud = s.aud := rfl
@[simp] theorem diagPass_tmr (n : Nat) : (diagPass n s).tmr = s.tmr := rfl
@[simp] theorem diagPass_bgd (n : Nat) : (diagPass n s).bgd = s.bgd := rfl
@[simp] theorem diagPass_flash (n : Nat) : (diagPass n s).flash = s.flash := rfl
@[simp] theorem diagPass_tst (n : Nat) : (diagPass n s).tst = s.tst := rfl
@[simp] theorem diagPass_fw (n : Nat) : (diagPass n s).fw = s.fw := rfl
@[simp] theorem diagPass_hst (n : Nat) : (diagPass n s).hst = s.hst := rfl

@[simp] theorem setKill_pending : (setKill s).pending = s.pending := rfl
@[simp] theorem setKill_free : (setKill s).free = s.free := rfl
@[simp] theorem setKill_fab : (setKill s).fab = s.fab := rfl
@[simp] theorem setKill_rst : (setKill s).rst = s.rst := rfl
@[simp] theorem setKill_sup : (setKill s).sup = s.sup := rfl
@[simp] theorem setKill_boot : (setKill s).boot = s.boot := rfl
@[simp] theorem setKill_pwr : (setKill s).pwr = s.pwr := rfl
@[simp] theorem setKill_otp : (setKill s).otp = s.otp := rfl
@[simp] theorem setKill_areas : (setKill s).areas = s.areas := rfl
@[simp] theorem setKill_cfg : (setKill s).cfg = s.cfg := rfl
@[simp] theorem setKill_set : (setKill s).set = s.set := rfl
@[simp] theorem setKill_copyA : (setKill s).copyA = s.copyA := rfl
@[simp] theorem setKill_copyB : (setKill s).copyB = s.copyB := rfl
@[simp] theorem setKill_od : (setKill s).od = s.od := rfl
@[simp] theorem setKill_ses : (setKill s).ses = s.ses := rfl
@[simp] theorem setKill_plt : (setKill s).plt = s.plt := rfl
@[simp] theorem setKill_swg : (setKill s).swg = s.swg := rfl
@[simp] theorem setKill_lck : (setKill s).lck = s.lck := rfl
@[simp] theorem setKill_rcd : (setKill s).rcd = s.rcd := rfl
@[simp] theorem setKill_safe : (setKill s).safe = s.safe := rfl
@[simp] theorem setKill_live : (setKill s).live = s.live := rfl
@[simp] theorem setKill_adc : (setKill s).adc = s.adc := rfl
@[simp] theorem setKill_met : (setKill s).met = s.met := rfl
@[simp] theorem setKill_bil : (setKill s).bil = s.bil := rfl
@[simp] theorem setKill_sec : (setKill s).sec = s.sec := rfl
@[simp] theorem setKill_plc : (setKill s).plc = s.plc := rfl
@[simp] theorem setKill_net : (setKill s).net = s.net := rfl
@[simp] theorem setKill_disp : (setKill s).disp = s.disp := rfl
@[simp] theorem setKill_aud : (setKill s).aud = s.aud := rfl
@[simp] theorem setKill_tmr : (setKill s).tmr = s.tmr := rfl
@[simp] theorem setKill_bgd : (setKill s).bgd = s.bgd := rfl
@[simp] theorem setKill_flash : (setKill s).flash = s.flash := rfl
@[simp] theorem setKill_tst : (setKill s).tst = s.tst := rfl
@[simp] theorem setKill_fw : (setKill s).fw = s.fw := rfl
@[simp] theorem setKill_hst : (setKill s).hst = s.hst := rfl

@[simp] theorem killByComparator_pending (n : Nat) : (killByComparator n s).pending = s.pending := rfl
@[simp] theorem killByComparator_free (n : Nat) : (killByComparator n s).free = s.free := rfl
@[simp] theorem killByComparator_fab (n : Nat) : (killByComparator n s).fab = s.fab := rfl
@[simp] theorem killByComparator_rst (n : Nat) : (killByComparator n s).rst = s.rst := rfl
@[simp] theorem killByComparator_sup (n : Nat) : (killByComparator n s).sup = s.sup := rfl
@[simp] theorem killByComparator_boot (n : Nat) : (killByComparator n s).boot = s.boot := rfl
@[simp] theorem killByComparator_pwr (n : Nat) : (killByComparator n s).pwr = s.pwr := rfl
@[simp] theorem killByComparator_otp (n : Nat) : (killByComparator n s).otp = s.otp := rfl
@[simp] theorem killByComparator_areas (n : Nat) : (killByComparator n s).areas = s.areas := rfl
@[simp] theorem killByComparator_cfg (n : Nat) : (killByComparator n s).cfg = s.cfg := rfl
@[simp] theorem killByComparator_set (n : Nat) : (killByComparator n s).set = s.set := rfl
@[simp] theorem killByComparator_copyA (n : Nat) : (killByComparator n s).copyA = s.copyA := rfl
@[simp] theorem killByComparator_copyB (n : Nat) : (killByComparator n s).copyB = s.copyB := rfl
@[simp] theorem killByComparator_od (n : Nat) : (killByComparator n s).od = s.od := rfl
@[simp] theorem killByComparator_ses (n : Nat) : (killByComparator n s).ses = s.ses := rfl
@[simp] theorem killByComparator_plt (n : Nat) : (killByComparator n s).plt = s.plt := rfl
@[simp] theorem killByComparator_swg (n : Nat) : (killByComparator n s).swg = s.swg := rfl
@[simp] theorem killByComparator_lck (n : Nat) : (killByComparator n s).lck = s.lck := rfl
@[simp] theorem killByComparator_rcd (n : Nat) : (killByComparator n s).rcd = s.rcd := rfl
@[simp] theorem killByComparator_safe (n : Nat) : (killByComparator n s).safe = s.safe := rfl
@[simp] theorem killByComparator_live (n : Nat) : (killByComparator n s).live = s.live := rfl
@[simp] theorem killByComparator_adc (n : Nat) : (killByComparator n s).adc = s.adc := rfl
@[simp] theorem killByComparator_met (n : Nat) : (killByComparator n s).met = s.met := rfl
@[simp] theorem killByComparator_bil (n : Nat) : (killByComparator n s).bil = s.bil := rfl
@[simp] theorem killByComparator_sec (n : Nat) : (killByComparator n s).sec = s.sec := rfl
@[simp] theorem killByComparator_plc (n : Nat) : (killByComparator n s).plc = s.plc := rfl
@[simp] theorem killByComparator_net (n : Nat) : (killByComparator n s).net = s.net := rfl
@[simp] theorem killByComparator_disp (n : Nat) : (killByComparator n s).disp = s.disp := rfl
@[simp] theorem killByComparator_aud (n : Nat) : (killByComparator n s).aud = s.aud := rfl
@[simp] theorem killByComparator_tmr (n : Nat) : (killByComparator n s).tmr = s.tmr := rfl
@[simp] theorem killByComparator_bgd (n : Nat) : (killByComparator n s).bgd = s.bgd := rfl
@[simp] theorem killByComparator_flash (n : Nat) : (killByComparator n s).flash = s.flash := rfl
@[simp] theorem killByComparator_tst (n : Nat) : (killByComparator n s).tst = s.tst := rfl
@[simp] theorem killByComparator_fw (n : Nat) : (killByComparator n s).fw = s.fw := rfl
@[simp] theorem killByComparator_hst (n : Nat) : (killByComparator n s).hst = s.hst := rfl

@[simp] theorem clearKill_pending : (clearKill s).pending = s.pending := by unfold clearKill; split <;> rfl
@[simp] theorem clearKill_free : (clearKill s).free = s.free := by unfold clearKill; split <;> rfl
@[simp] theorem clearKill_fab : (clearKill s).fab = s.fab := by unfold clearKill; split <;> rfl
@[simp] theorem clearKill_rst : (clearKill s).rst = s.rst := by unfold clearKill; split <;> rfl
@[simp] theorem clearKill_sup : (clearKill s).sup = s.sup := by unfold clearKill; split <;> rfl
@[simp] theorem clearKill_boot : (clearKill s).boot = s.boot := by unfold clearKill; split <;> rfl
@[simp] theorem clearKill_pwr : (clearKill s).pwr = s.pwr := by unfold clearKill; split <;> rfl
@[simp] theorem clearKill_otp : (clearKill s).otp = s.otp := by unfold clearKill; split <;> rfl
@[simp] theorem clearKill_areas : (clearKill s).areas = s.areas := by unfold clearKill; split <;> rfl
@[simp] theorem clearKill_cfg : (clearKill s).cfg = s.cfg := by unfold clearKill; split <;> rfl
@[simp] theorem clearKill_set : (clearKill s).set = s.set := by unfold clearKill; split <;> rfl
@[simp] theorem clearKill_copyA : (clearKill s).copyA = s.copyA := by unfold clearKill; split <;> rfl
@[simp] theorem clearKill_copyB : (clearKill s).copyB = s.copyB := by unfold clearKill; split <;> rfl
@[simp] theorem clearKill_od : (clearKill s).od = s.od := by unfold clearKill; split <;> rfl
@[simp] theorem clearKill_ses : (clearKill s).ses = s.ses := by unfold clearKill; split <;> rfl
@[simp] theorem clearKill_plt : (clearKill s).plt = s.plt := by unfold clearKill; split <;> rfl
@[simp] theorem clearKill_swg : (clearKill s).swg = s.swg := by unfold clearKill; split <;> rfl
@[simp] theorem clearKill_lck : (clearKill s).lck = s.lck := by unfold clearKill; split <;> rfl
@[simp] theorem clearKill_safe : (clearKill s).safe = s.safe := by unfold clearKill; split <;> rfl
@[simp] theorem clearKill_live : (clearKill s).live = s.live := by unfold clearKill; split <;> rfl
@[simp] theorem clearKill_adc : (clearKill s).adc = s.adc := by unfold clearKill; split <;> rfl
@[simp] theorem clearKill_met : (clearKill s).met = s.met := by unfold clearKill; split <;> rfl
@[simp] theorem clearKill_bil : (clearKill s).bil = s.bil := by unfold clearKill; split <;> rfl
@[simp] theorem clearKill_sec : (clearKill s).sec = s.sec := by unfold clearKill; split <;> rfl
@[simp] theorem clearKill_plc : (clearKill s).plc = s.plc := by unfold clearKill; split <;> rfl
@[simp] theorem clearKill_net : (clearKill s).net = s.net := by unfold clearKill; split <;> rfl
@[simp] theorem clearKill_disp : (clearKill s).disp = s.disp := by unfold clearKill; split <;> rfl
@[simp] theorem clearKill_aud : (clearKill s).aud = s.aud := by unfold clearKill; split <;> rfl
@[simp] theorem clearKill_tmr : (clearKill s).tmr = s.tmr := by unfold clearKill; split <;> rfl
@[simp] theorem clearKill_bgd : (clearKill s).bgd = s.bgd := by unfold clearKill; split <;> rfl
@[simp] theorem clearKill_flash : (clearKill s).flash = s.flash := by unfold clearKill; split <;> rfl
@[simp] theorem clearKill_tst : (clearKill s).tst = s.tst := by unfold clearKill; split <;> rfl
@[simp] theorem clearKill_fw : (clearKill s).fw = s.fw := by unfold clearKill; split <;> rfl
@[simp] theorem clearKill_hst : (clearKill s).hst = s.hst := by unfold clearKill; split <;> rfl

@[simp] theorem setSupply_pending (f : Supply → Supply) : (setSupply f s).pending = s.pending := rfl
@[simp] theorem setSupply_free (f : Supply → Supply) : (setSupply f s).free = s.free := rfl
@[simp] theorem setSupply_fab (f : Supply → Supply) : (setSupply f s).fab = s.fab := rfl
@[simp] theorem setSupply_rst (f : Supply → Supply) : (setSupply f s).rst = s.rst := rfl
@[simp] theorem setSupply_boot (f : Supply → Supply) : (setSupply f s).boot = s.boot := rfl
@[simp] theorem setSupply_pwr (f : Supply → Supply) : (setSupply f s).pwr = s.pwr := rfl
@[simp] theorem setSupply_otp (f : Supply → Supply) : (setSupply f s).otp = s.otp := rfl
@[simp] theorem setSupply_areas (f : Supply → Supply) : (setSupply f s).areas = s.areas := rfl
@[simp] theorem setSupply_cfg (f : Supply → Supply) : (setSupply f s).cfg = s.cfg := rfl
@[simp] theorem setSupply_set (f : Supply → Supply) : (setSupply f s).set = s.set := rfl
@[simp] theorem setSupply_copyA (f : Supply → Supply) : (setSupply f s).copyA = s.copyA := rfl
@[simp] theorem setSupply_copyB (f : Supply → Supply) : (setSupply f s).copyB = s.copyB := rfl
@[simp] theorem setSupply_od (f : Supply → Supply) : (setSupply f s).od = s.od := rfl
@[simp] theorem setSupply_ses (f : Supply → Supply) : (setSupply f s).ses = s.ses := rfl
@[simp] theorem setSupply_plt (f : Supply → Supply) : (setSupply f s).plt = s.plt := rfl
@[simp] theorem setSupply_swg (f : Supply → Supply) : (setSupply f s).swg = s.swg := rfl
@[simp] theorem setSupply_lck (f : Supply → Supply) : (setSupply f s).lck = s.lck := rfl
@[simp] theorem setSupply_rcd (f : Supply → Supply) : (setSupply f s).rcd = s.rcd := rfl
@[simp] theorem setSupply_glt (f : Supply → Supply) : (setSupply f s).glt = s.glt := rfl
@[simp] theorem setSupply_safe (f : Supply → Supply) : (setSupply f s).safe = s.safe := rfl
@[simp] theorem setSupply_live (f : Supply → Supply) : (setSupply f s).live = s.live := rfl
@[simp] theorem setSupply_adc (f : Supply → Supply) : (setSupply f s).adc = s.adc := rfl
@[simp] theorem setSupply_met (f : Supply → Supply) : (setSupply f s).met = s.met := rfl
@[simp] theorem setSupply_bil (f : Supply → Supply) : (setSupply f s).bil = s.bil := rfl
@[simp] theorem setSupply_sec (f : Supply → Supply) : (setSupply f s).sec = s.sec := rfl
@[simp] theorem setSupply_plc (f : Supply → Supply) : (setSupply f s).plc = s.plc := rfl
@[simp] theorem setSupply_net (f : Supply → Supply) : (setSupply f s).net = s.net := rfl
@[simp] theorem setSupply_disp (f : Supply → Supply) : (setSupply f s).disp = s.disp := rfl
@[simp] theorem setSupply_aud (f : Supply → Supply) : (setSupply f s).aud = s.aud := rfl
@[simp] theorem setSupply_tmr (f : Supply → Supply) : (setSupply f s).tmr = s.tmr := rfl
@[simp] theorem setSupply_bgd (f : Supply → Supply) : (setSupply f s).bgd = s.bgd := rfl
@[simp] theorem setSupply_flash (f : Supply → Supply) : (setSupply f s).flash = s.flash := rfl
@[simp] theorem setSupply_tst (f : Supply → Supply) : (setSupply f s).tst = s.tst := rfl
@[simp] theorem setSupply_fw (f : Supply → Supply) : (setSupply f s).fw = s.fw := rfl

@[simp] theorem refreshDriver_pending : (refreshDriver s).pending = s.pending := rfl
@[simp] theorem refreshDriver_free : (refreshDriver s).free = s.free := rfl
@[simp] theorem refreshDriver_fab : (refreshDriver s).fab = s.fab := rfl
@[simp] theorem refreshDriver_rst : (refreshDriver s).rst = s.rst := rfl
@[simp] theorem refreshDriver_sup : (refreshDriver s).sup = s.sup := rfl
@[simp] theorem refreshDriver_boot : (refreshDriver s).boot = s.boot := rfl
@[simp] theorem refreshDriver_pwr : (refreshDriver s).pwr = s.pwr := rfl
@[simp] theorem refreshDriver_otp : (refreshDriver s).otp = s.otp := rfl
@[simp] theorem refreshDriver_areas : (refreshDriver s).areas = s.areas := rfl
@[simp] theorem refreshDriver_cfg : (refreshDriver s).cfg = s.cfg := rfl
@[simp] theorem refreshDriver_set : (refreshDriver s).set = s.set := rfl
@[simp] theorem refreshDriver_copyA : (refreshDriver s).copyA = s.copyA := rfl
@[simp] theorem refreshDriver_copyB : (refreshDriver s).copyB = s.copyB := rfl
@[simp] theorem refreshDriver_od : (refreshDriver s).od = s.od := rfl
@[simp] theorem refreshDriver_ses : (refreshDriver s).ses = s.ses := rfl
@[simp] theorem refreshDriver_plt : (refreshDriver s).plt = s.plt := rfl
@[simp] theorem refreshDriver_swg : (refreshDriver s).swg = s.swg := rfl
@[simp] theorem refreshDriver_lck : (refreshDriver s).lck = s.lck := rfl
@[simp] theorem refreshDriver_rcd : (refreshDriver s).rcd = s.rcd := rfl
@[simp] theorem refreshDriver_glt : (refreshDriver s).glt = s.glt := rfl
@[simp] theorem refreshDriver_safe : (refreshDriver s).safe = s.safe := rfl
@[simp] theorem refreshDriver_live : (refreshDriver s).live = s.live := rfl
@[simp] theorem refreshDriver_adc : (refreshDriver s).adc = s.adc := rfl
@[simp] theorem refreshDriver_met : (refreshDriver s).met = s.met := rfl
@[simp] theorem refreshDriver_bil : (refreshDriver s).bil = s.bil := rfl
@[simp] theorem refreshDriver_sec : (refreshDriver s).sec = s.sec := rfl
@[simp] theorem refreshDriver_net : (refreshDriver s).net = s.net := rfl
@[simp] theorem refreshDriver_disp : (refreshDriver s).disp = s.disp := rfl
@[simp] theorem refreshDriver_aud : (refreshDriver s).aud = s.aud := rfl
@[simp] theorem refreshDriver_tmr : (refreshDriver s).tmr = s.tmr := rfl
@[simp] theorem refreshDriver_bgd : (refreshDriver s).bgd = s.bgd := rfl
@[simp] theorem refreshDriver_flash : (refreshDriver s).flash = s.flash := rfl
@[simp] theorem refreshDriver_tst : (refreshDriver s).tst = s.tst := rfl
@[simp] theorem refreshDriver_fw : (refreshDriver s).fw = s.fw := rfl
@[simp] theorem refreshDriver_hst : (refreshDriver s).hst = s.hst := rfl

@[simp] theorem refreshDrive_pending : (refreshDrive s).pending = s.pending := rfl
@[simp] theorem refreshDrive_free : (refreshDrive s).free = s.free := rfl
@[simp] theorem refreshDrive_fab : (refreshDrive s).fab = s.fab := rfl
@[simp] theorem refreshDrive_rst : (refreshDrive s).rst = s.rst := rfl
@[simp] theorem refreshDrive_sup : (refreshDrive s).sup = s.sup := rfl
@[simp] theorem refreshDrive_boot : (refreshDrive s).boot = s.boot := rfl
@[simp] theorem refreshDrive_pwr : (refreshDrive s).pwr = s.pwr := rfl
@[simp] theorem refreshDrive_otp : (refreshDrive s).otp = s.otp := rfl
@[simp] theorem refreshDrive_areas : (refreshDrive s).areas = s.areas := rfl
@[simp] theorem refreshDrive_cfg : (refreshDrive s).cfg = s.cfg := rfl
@[simp] theorem refreshDrive_set : (refreshDrive s).set = s.set := rfl
@[simp] theorem refreshDrive_copyA : (refreshDrive s).copyA = s.copyA := rfl
@[simp] theorem refreshDrive_copyB : (refreshDrive s).copyB = s.copyB := rfl
@[simp] theorem refreshDrive_od : (refreshDrive s).od = s.od := rfl
@[simp] theorem refreshDrive_ses : (refreshDrive s).ses = s.ses := rfl
@[simp] theorem refreshDrive_plt : (refreshDrive s).plt = s.plt := rfl
@[simp] theorem refreshDrive_swg : (refreshDrive s).swg = s.swg := rfl
@[simp] theorem refreshDrive_lck : (refreshDrive s).lck = s.lck := rfl
@[simp] theorem refreshDrive_rcd : (refreshDrive s).rcd = s.rcd := rfl
@[simp] theorem refreshDrive_glt : (refreshDrive s).glt = s.glt := rfl
@[simp] theorem refreshDrive_safe : (refreshDrive s).safe = s.safe := rfl
@[simp] theorem refreshDrive_live : (refreshDrive s).live = s.live := rfl
@[simp] theorem refreshDrive_adc : (refreshDrive s).adc = s.adc := rfl
@[simp] theorem refreshDrive_met : (refreshDrive s).met = s.met := rfl
@[simp] theorem refreshDrive_bil : (refreshDrive s).bil = s.bil := rfl
@[simp] theorem refreshDrive_sec : (refreshDrive s).sec = s.sec := rfl
@[simp] theorem refreshDrive_plc : (refreshDrive s).plc = s.plc := rfl
@[simp] theorem refreshDrive_net : (refreshDrive s).net = s.net := rfl
@[simp] theorem refreshDrive_aud : (refreshDrive s).aud = s.aud := rfl
@[simp] theorem refreshDrive_tmr : (refreshDrive s).tmr = s.tmr := rfl
@[simp] theorem refreshDrive_bgd : (refreshDrive s).bgd = s.bgd := rfl
@[simp] theorem refreshDrive_flash : (refreshDrive s).flash = s.flash := rfl
@[simp] theorem refreshDrive_tst : (refreshDrive s).tst = s.tst := rfl
@[simp] theorem refreshDrive_fw : (refreshDrive s).fw = s.fw := rfl
@[simp] theorem refreshDrive_hst : (refreshDrive s).hst = s.hst := rfl

@[simp] theorem refreshStage_pending : (refreshStage s).pending = s.pending := rfl
@[simp] theorem refreshStage_free : (refreshStage s).free = s.free := rfl
@[simp] theorem refreshStage_fab : (refreshStage s).fab = s.fab := rfl
@[simp] theorem refreshStage_rst : (refreshStage s).rst = s.rst := rfl
@[simp] theorem refreshStage_sup : (refreshStage s).sup = s.sup := rfl
@[simp] theorem refreshStage_boot : (refreshStage s).boot = s.boot := rfl
@[simp] theorem refreshStage_pwr : (refreshStage s).pwr = s.pwr := rfl
@[simp] theorem refreshStage_otp : (refreshStage s).otp = s.otp := rfl
@[simp] theorem refreshStage_areas : (refreshStage s).areas = s.areas := rfl
@[simp] theorem refreshStage_cfg : (refreshStage s).cfg = s.cfg := rfl
@[simp] theorem refreshStage_set : (refreshStage s).set = s.set := rfl
@[simp] theorem refreshStage_copyA : (refreshStage s).copyA = s.copyA := rfl
@[simp] theorem refreshStage_copyB : (refreshStage s).copyB = s.copyB := rfl
@[simp] theorem refreshStage_od : (refreshStage s).od = s.od := rfl
@[simp] theorem refreshStage_ses : (refreshStage s).ses = s.ses := rfl
@[simp] theorem refreshStage_plt : (refreshStage s).plt = s.plt := rfl
@[simp] theorem refreshStage_swg : (refreshStage s).swg = s.swg := rfl
@[simp] theorem refreshStage_lck : (refreshStage s).lck = s.lck := rfl
@[simp] theorem refreshStage_rcd : (refreshStage s).rcd = s.rcd := rfl
@[simp] theorem refreshStage_glt : (refreshStage s).glt = s.glt := rfl
@[simp] theorem refreshStage_safe : (refreshStage s).safe = s.safe := rfl
@[simp] theorem refreshStage_live : (refreshStage s).live = s.live := rfl
@[simp] theorem refreshStage_adc : (refreshStage s).adc = s.adc := rfl
@[simp] theorem refreshStage_met : (refreshStage s).met = s.met := rfl
@[simp] theorem refreshStage_bil : (refreshStage s).bil = s.bil := rfl
@[simp] theorem refreshStage_sec : (refreshStage s).sec = s.sec := rfl
@[simp] theorem refreshStage_plc : (refreshStage s).plc = s.plc := rfl
@[simp] theorem refreshStage_net : (refreshStage s).net = s.net := rfl
@[simp] theorem refreshStage_disp : (refreshStage s).disp = s.disp := rfl
@[simp] theorem refreshStage_tmr : (refreshStage s).tmr = s.tmr := rfl
@[simp] theorem refreshStage_bgd : (refreshStage s).bgd = s.bgd := rfl
@[simp] theorem refreshStage_flash : (refreshStage s).flash = s.flash := rfl
@[simp] theorem refreshStage_tst : (refreshStage s).tst = s.tst := rfl
@[simp] theorem refreshStage_fw : (refreshStage s).fw = s.fw := rfl
@[simp] theorem refreshStage_hst : (refreshStage s).hst = s.hst := rfl

@[simp] theorem setActive_pending (b : Bool) : (setActive b s).pending = s.pending := rfl
@[simp] theorem setActive_free (b : Bool) : (setActive b s).free = s.free := rfl
@[simp] theorem setActive_fab (b : Bool) : (setActive b s).fab = s.fab := rfl
@[simp] theorem setActive_rst (b : Bool) : (setActive b s).rst = s.rst := rfl
@[simp] theorem setActive_sup (b : Bool) : (setActive b s).sup = s.sup := rfl
@[simp] theorem setActive_boot (b : Bool) : (setActive b s).boot = s.boot := rfl
@[simp] theorem setActive_pwr (b : Bool) : (setActive b s).pwr = s.pwr := rfl
@[simp] theorem setActive_otp (b : Bool) : (setActive b s).otp = s.otp := rfl
@[simp] theorem setActive_areas (b : Bool) : (setActive b s).areas = s.areas := rfl
@[simp] theorem setActive_cfg (b : Bool) : (setActive b s).cfg = s.cfg := rfl
@[simp] theorem setActive_set (b : Bool) : (setActive b s).set = s.set := rfl
@[simp] theorem setActive_copyA (b : Bool) : (setActive b s).copyA = s.copyA := rfl
@[simp] theorem setActive_copyB (b : Bool) : (setActive b s).copyB = s.copyB := rfl
@[simp] theorem setActive_od (b : Bool) : (setActive b s).od = s.od := rfl
@[simp] theorem setActive_ses (b : Bool) : (setActive b s).ses = s.ses := rfl
@[simp] theorem setActive_plt (b : Bool) : (setActive b s).plt = s.plt := rfl
@[simp] theorem setActive_swg (b : Bool) : (setActive b s).swg = s.swg := rfl
@[simp] theorem setActive_lck (b : Bool) : (setActive b s).lck = s.lck := rfl
@[simp] theorem setActive_rcd (b : Bool) : (setActive b s).rcd = s.rcd := rfl
@[simp] theorem setActive_glt (b : Bool) : (setActive b s).glt = s.glt := rfl
@[simp] theorem setActive_live (b : Bool) : (setActive b s).live = s.live := rfl
@[simp] theorem setActive_adc (b : Bool) : (setActive b s).adc = s.adc := rfl
@[simp] theorem setActive_met (b : Bool) : (setActive b s).met = s.met := rfl
@[simp] theorem setActive_bil (b : Bool) : (setActive b s).bil = s.bil := rfl
@[simp] theorem setActive_sec (b : Bool) : (setActive b s).sec = s.sec := rfl
@[simp] theorem setActive_plc (b : Bool) : (setActive b s).plc = s.plc := rfl
@[simp] theorem setActive_net (b : Bool) : (setActive b s).net = s.net := rfl
@[simp] theorem setActive_disp (b : Bool) : (setActive b s).disp = s.disp := rfl
@[simp] theorem setActive_aud (b : Bool) : (setActive b s).aud = s.aud := rfl
@[simp] theorem setActive_tmr (b : Bool) : (setActive b s).tmr = s.tmr := rfl
@[simp] theorem setActive_bgd (b : Bool) : (setActive b s).bgd = s.bgd := rfl
@[simp] theorem setActive_flash (b : Bool) : (setActive b s).flash = s.flash := rfl
@[simp] theorem setActive_tst (b : Bool) : (setActive b s).tst = s.tst := rfl
@[simp] theorem setActive_fw (b : Bool) : (setActive b s).fw = s.fw := rfl

@[simp] theorem writeCopies_pending : (writeCopies s).pending = s.pending := rfl
@[simp] theorem writeCopies_free : (writeCopies s).free = s.free := rfl
@[simp] theorem writeCopies_fab : (writeCopies s).fab = s.fab := rfl
@[simp] theorem writeCopies_rst : (writeCopies s).rst = s.rst := rfl
@[simp] theorem writeCopies_sup : (writeCopies s).sup = s.sup := rfl
@[simp] theorem writeCopies_boot : (writeCopies s).boot = s.boot := rfl
@[simp] theorem writeCopies_pwr : (writeCopies s).pwr = s.pwr := rfl
@[simp] theorem writeCopies_otp : (writeCopies s).otp = s.otp := rfl
@[simp] theorem writeCopies_areas : (writeCopies s).areas = s.areas := rfl
@[simp] theorem writeCopies_cfg : (writeCopies s).cfg = s.cfg := rfl
@[simp] theorem writeCopies_set : (writeCopies s).set = s.set := rfl
@[simp] theorem writeCopies_od : (writeCopies s).od = s.od := rfl
@[simp] theorem writeCopies_ses : (writeCopies s).ses = s.ses := rfl
@[simp] theorem writeCopies_plt : (writeCopies s).plt = s.plt := rfl
@[simp] theorem writeCopies_swg : (writeCopies s).swg = s.swg := rfl
@[simp] theorem writeCopies_lck : (writeCopies s).lck = s.lck := rfl
@[simp] theorem writeCopies_rcd : (writeCopies s).rcd = s.rcd := rfl
@[simp] theorem writeCopies_glt : (writeCopies s).glt = s.glt := rfl
@[simp] theorem writeCopies_safe : (writeCopies s).safe = s.safe := rfl
@[simp] theorem writeCopies_live : (writeCopies s).live = s.live := rfl
@[simp] theorem writeCopies_adc : (writeCopies s).adc = s.adc := rfl
@[simp] theorem writeCopies_met : (writeCopies s).met = s.met := rfl
@[simp] theorem writeCopies_bil : (writeCopies s).bil = s.bil := rfl
@[simp] theorem writeCopies_sec : (writeCopies s).sec = s.sec := rfl
@[simp] theorem writeCopies_plc : (writeCopies s).plc = s.plc := rfl
@[simp] theorem writeCopies_net : (writeCopies s).net = s.net := rfl
@[simp] theorem writeCopies_disp : (writeCopies s).disp = s.disp := rfl
@[simp] theorem writeCopies_aud : (writeCopies s).aud = s.aud := rfl
@[simp] theorem writeCopies_tmr : (writeCopies s).tmr = s.tmr := rfl
@[simp] theorem writeCopies_bgd : (writeCopies s).bgd = s.bgd := rfl
@[simp] theorem writeCopies_flash : (writeCopies s).flash = s.flash := rfl
@[simp] theorem writeCopies_tst : (writeCopies s).tst = s.tst := rfl
@[simp] theorem writeCopies_fw : (writeCopies s).fw = s.fw := rfl
@[simp] theorem writeCopies_hst : (writeCopies s).hst = s.hst := rfl

@[simp] theorem settle_fab_ports : (settle s).fab.ports = s.fab.ports := rfl
@[simp] theorem settle_fab_flights : (settle s).fab.flights = s.fab.flights := rfl
@[simp] theorem settle_fab_lastServed : (settle s).fab.lastServed = s.fab.lastServed := rfl
@[simp] theorem settle_fab_held : (settle s).fab.held = s.fab.held := rfl
@[simp] theorem settle_fab_fences : (settle s).fab.fences = s.fab.fences := rfl
@[simp] theorem settle_fab_completions : (settle s).fab.completions = s.fab.completions := rfl
@[simp] theorem settle_fab_postedLost : (settle s).fab.postedLost = s.fab.postedLost := rfl
@[simp] theorem settle_fab_views : (settle s).fab.views = s.fab.views := rfl
@[simp] theorem settle_fab_snapshots : (settle s).fab.snapshots = s.fab.snapshots := rfl
@[simp] theorem settle_fab_heldWrites : (settle s).fab.heldWrites = s.fab.heldWrites := rfl
@[simp] theorem settle_fab_cmdIsland : (settle s).fab.cmdIsland = s.fab.cmdIsland := rfl
@[simp] theorem settle_fab_cmdRefused : (settle s).fab.cmdRefused = s.fab.cmdRefused := rfl
@[simp] theorem settle_fab_reopen : (settle s).fab.reopen = s.fab.reopen := rfl
@[simp] theorem settle_fab_staleSeen : (settle s).fab.staleSeen = s.fab.staleSeen := rfl
@[simp] theorem settle_fab_absentSeen : (settle s).fab.absentSeen = s.fab.absentSeen := rfl
@[simp] theorem settle_glt_trip : (settle s).glt.trip = s.glt.trip := rfl
@[simp] theorem settle_glt_first : (settle s).glt.first = s.glt.first := rfl
@[simp] theorem settle_glt_srcSafe : (settle s).glt.srcSafe = s.glt.srcSafe := rfl
@[simp] theorem settle_glt_srcBrown : (settle s).glt.srcBrown = s.glt.srcBrown := rfl
@[simp] theorem settle_glt_srcSafeAbsent : (settle s).glt.srcSafeAbsent = s.glt.srcSafeAbsent := rfl
@[simp] theorem settle_glt_testing : (settle s).glt.testing = s.glt.testing := rfl
@[simp] theorem settle_glt_testFail : (settle s).glt.testFail = s.glt.testFail := rfl
@[simp] theorem settle_glt_fc0Ma : (settle s).glt.fc0Ma = s.glt.fc0Ma := rfl
@[simp] theorem settle_glt_fc12A : (settle s).glt.fc12A = s.glt.fc12A := rfl
@[simp] theorem settle_glt_active : (settle s).glt.active = s.glt.active := rfl
@[simp] theorem settle_glt_desatNow : (settle s).glt.desatNow = s.glt.desatNow := rfl
@[simp] theorem settle_glt_safeFault : (settle s).glt.safeFault = s.glt.safeFault := rfl

/-- PEAK alone follows the tags in flight. -/
theorem notePeak_frame : notePeak s = { s with fab := { s.fab with peak := (notePeak s).fab.peak } } := rfl

/-- The die's hold over a fault of SAFE writes the latch and its source alone (R269). -/
theorem holdKill_frame : holdKill s = { s with glt := { s.glt with kill := true, safeFault := true } } := rfl

@[simp] theorem settle_port (i : Island) : port (settle s) i = port s i := rfl

@[simp] theorem settle_isUp (i : Island) : isUp (settle s) i = isUp s i := rfl

@[simp] theorem settle_tags : tagsInFlight (settle s) = tagsInFlight s := rfl

/-- Reading one island's value back, or another's. -/
@[simp] theorem pget_pset_same {α : Type} (p : PerIsland α) (i : Island) (a : α) : pget (pset p i a) i = a := by
  cases i <;> rfl

theorem pget_pset_other {α : Type} (p : PerIsland α) {i j : Island} (h : j ≠ i) (a : α) : pget (pset p i a) j = pget p j := by
  cases i <;> cases j <;> first | rfl | exact absurd rfl h

@[simp] theorem setPort_port_same (i : Island) (p : Port) : port (setPort s i p) i = p := pget_pset_same _ _ _

theorem setPort_port_other {i j : Island} (h : j ≠ i) (p : Port) : port (setPort s i p) j = port s j := pget_pset_other _ h _

@[simp] theorem guarded_true (f : State → State) : guarded true f s = f s := rfl

@[simp] theorem guarded_false (f : State → State) : guarded false f s = s := rfl

theorem done_eq : done s = .next (settle s) := rfl

end Sys2Proof.Machine
end

