-- ==== Sys2Proof/Laws/Fabric.lean ====
section
/-! SUPPORT. What the fabric's shared operations can do (02): a new request at its port, the completion of fences, an island that
leaves service; what the end of every command leaves; a diagnostic that fails. -/

namespace Sys2Proof.Machine

/-- The end of a command writes gate-kill and PEAK and nothing else. -/
theorem settle_frame (s : State) : settle s = { s with fab := (settle s).fab, glt := (settle s).glt } := rfl

/-- Whatever a command does, its end leaves gate-kill and PEAK as they must stand. -/
theorem settle_settled (s : State) : Settled (settle s) := by
  constructor
  · intro h
    have h' : isUp s .safe = false ∨ s.pwr.brown.active = true := h
    show (s.glt.kill || !isUp s .safe || s.pwr.brown.active) = true
    rcases h' with h' | h' <;> simp [h']
  · show min 2047 (tagsInFlight s) ≤ (if s.fab.peak.toNat < tagsInFlight s then BitVec.ofNat 11 (min 2047 (tagsInFlight s)) else s.fab.peak).toNat
    split
    · rw [BitVec.toNat_ofNat, Nat.mod_eq_of_lt (by omega)]
    · omega

/-- An event of group 28 writes the event log and nothing else. -/
theorem logEvent_frame (k : EventKind) (s : State) : logEvent k s = { s with flash := (logEvent k s).flash } := by
  unfold logEvent
  split <;> rfl

/-- While log flash can be written, an event is appended with the next index. -/
theorem logEvent_appends {k : EventKind} {s : State} (h : s.flash.writable = true) :
    (logEvent k s).flash.log = s.flash.log ++ [(satInc s.flash.eventCount, k)] := by
  simp [logEvent, h]

theorem logEvent_port (k : EventKind) (s : State) (j : Island) : port (logEvent k s) j = port s j := by
  rw [logEvent_frame]
  rfl

/-- A port that notes its turn writes that alone (R52). -/
theorem noteTurn_frame (f : Flight) (s : State) :
    noteTurn f s = { s with fab := { s.fab with lastServed := (noteTurn f s).fab.lastServed } } := by
  unfold noteTurn
  split
  · split <;> rfl
  · rfl

/-- No accepted request bears a tag that is free. -/
theorem find_none_of_tag {s : State} {t : BitVec 10} {src : Island} (h : tagUsed s t = false) :
    s.fab.flights.find? (fun g => g.req.tag == t && g.req.src == src) = none := by
  simp [tagUsed] at h
  simp [List.find?_eq_none]
  intro x hx e
  exact absurd e (h.1.1 x hx)

/-- A request that was accepted and leaves the list of those outstanding leaves the others as they were; PEAK keeps it. -/
theorem unaccept_accept {s : State} {op : FabricOp} {r : Request} (h : tagUsed s r.tag = false) :
    unaccept ⟨op, r⟩ (accept ⟨op, r⟩ s) = { s with fab := { s.fab with peak := (accept ⟨op, r⟩ s).fab.peak } } := by
  have : (⟨op, r⟩ : Flight) ∉ s.fab.flights := by
    intro hm
    simp [tagUsed] at h
    exact h.1.1 _ hm rfl
  simp [unaccept, accept, notePeak, List.erase_append_right _ this]

/-- A new request goes to its port in the command that presents it. -/
theorem present_new {s : State} {op : FabricOp} {r : Request} (h : NewRequest op r s) :
    present op r s = settleFences (portTakes ⟨op, r⟩ (noteTurn ⟨op, r⟩ (accept ⟨op, r⟩ s))) := by
  obtain ⟨h1, h2, h3, h4, h5, h6⟩ := h
  simp only [present, find_none_of_tag h2, h1, h2, h3, h4, h5, h6, serve]
  simp

/-- One waiting fence (R54, R74): it stays while a request of its source is outstanding, and completes otherwise. -/
def settleFence (s : State) (w : FenceWait) : State :=
  if s.fab.flights.any fun f => f.req.src == w.src then s
  else
    let lost := pget s.fab.postedLost w.src
    { s with fab := { s.fab with
        fences := s.fab.fences.filter (· != w), postedLost := pset s.fab.postedLost w.src false
        completions := s.fab.completions ++ [⟨w.tag, w.src, w.dst, .fence, if lost then .fenceLoss else .ok, 0⟩] } }

theorem settleFences_eq (s : State) : settleFences s = s.fab.fences.foldl settleFence s := rfl

theorem foldFences_mem (l : List FenceWait) (s : State) {c : Completion} (h : c ∈ s.fab.completions) :
    c ∈ (l.foldl settleFence s).fab.completions := by
  induction l generalizing s with
  | nil => exact h
  | cons w l ih =>
    apply ih
    unfold settleFence
    split
    · exact h
    · simp [h]

theorem foldFences_frame (l : List FenceWait) (s : State) :
    l.foldl settleFence s = { s with fab := (l.foldl settleFence s).fab } ∧ (l.foldl settleFence s).fab.ports = s.fab.ports
      ∧ (l.foldl settleFence s).fab.flights = s.fab.flights := by
  induction l generalizing s with
  | nil => exact ⟨rfl, rfl, rfl⟩
  | cons w l ih =>
    obtain ⟨a, b, c⟩ := ih (settleFence s w)
    have h : settleFence s w = { s with fab := (settleFence s w).fab } ∧ (settleFence s w).fab.ports = s.fab.ports
        ∧ (settleFence s w).fab.flights = s.fab.flights := by
      unfold settleFence
      split <;> exact ⟨rfl, rfl, rfl⟩
    simp only [List.foldl_cons]
    refine ⟨?_, b.trans h.2.1, c.trans h.2.2⟩
    rw [a, h.1]

/-- A completion that was on its way stays on its way when fences complete. -/
theorem settleFences_mem {s : State} {c : Completion} (h : c ∈ s.fab.completions) : c ∈ (settleFences s).fab.completions :=
  foldFences_mem _ _ h

/-- Fences that complete write the fabric and nothing else. -/
theorem settleFences_frame (s : State) : settleFences s = { s with fab := (settleFences s).fab } := (foldFences_frame _ s).1

@[simp] theorem settleFences_ports (s : State) : (settleFences s).fab.ports = s.fab.ports := (foldFences_frame _ s).2.1

@[simp] theorem settleFences_flights (s : State) : (settleFences s).fab.flights = s.fab.flights := (foldFences_frame _ s).2.2

@[simp] theorem settleFences_port (s : State) (j : Island) : port (settleFences s) j = port s j := by simp [port]

/-! ### An island that leaves service (R56 to R60) -/

theorem failAt_state (i : Island) (st : FabricStatus) (f : Flight) (s : State) (j : Island) :
    (port (failAt i st f s) j).state = (port s j).state := by
  unfold failAt
  split
  · unfold dropPosted
    by_cases e : j = i
    · subst e
      simp [port, setPort]
    · simp [port, setPort, pget_pset_other _ e]
  · rfl

theorem failAt_other (i : Island) (st : FabricStatus) (f : Flight) (s : State) {j : Island} (h : j ≠ i) :
    port (failAt i st f s) j = port s j := by
  unfold failAt
  split
  · unfold dropPosted
    simp [port, setPort, pget_pset_other _ h]
  · rfl

theorem answerAbsent_state (i : Island) (f : Flight) (s : State) (j : Island) :
    (port (answerAbsent i f s) j).state = (port s j).state := by
  unfold answerAbsent
  split <;> simp only [logEvent_port, failAt_state]

theorem answerAbsent_other (i : Island) (f : Flight) (s : State) {j : Island} (h : j ≠ i) : port (answerAbsent i f s) j = port s j := by
  unfold answerAbsent
  split <;> simp only [logEvent_port, failAt_other _ _ _ _ h]

theorem answerAll_state (l : List Flight) (i : Island) (s : State) (j : Island) :
    (port (l.foldl (fun s f => answerAbsent i f s) s) j).state = (port s j).state := by
  induction l generalizing s with
  | nil => rfl
  | cons a l ih => simp only [List.foldl_cons, ih, answerAbsent_state]

theorem answerAll_other (l : List Flight) (i : Island) (s : State) {j : Island} (h : j ≠ i) :
    port (l.foldl (fun s f => answerAbsent i f s) s) j = port s j := by
  induction l generalizing s with
  | nil => rfl
  | cons a l ih => simp only [List.foldl_cons, ih, answerAbsent_other _ _ _ h]

theorem fabricLeave_state (i : Island) (s : State) (j : Island) : (port (fabricLeave i s) j).state = (port s j).state := by
  unfold fabricLeave
  dsimp only
  rw [settleFences_port]
  show (port (List.foldl _ _ _) j).state = _
  rw [answerAll_state]
  rfl

theorem fabricLeave_other (i : Island) (s : State) {j : Island} (h : j ≠ i) : port (fabricLeave i s) j = port s j := by
  unfold fabricLeave
  dsimp only
  rw [settleFences_port]
  show port (List.foldl _ _ _) j = _
  rw [answerAll_other _ _ _ h]
  rfl

@[simp] theorem comparatorTrip_fab (b : Bool) (n : Nat) (s : State) : (comparatorTrip b n s).fab = s.fab := by
  unfold comparatorTrip; dsimp only; repeat' split
  all_goals first | rfl | simp [killByComparator, setKill]

@[simp] theorem reconnect_fab (n : Nat) (s : State) : (reconnect n s).fab = s.fab := by
  unfold reconnect; split <;> simp

@[simp] theorem reconnectAll_fab (s t : State) : (reconnectAll s t).fab = t.fab := by
  unfold reconnectAll
  generalize [0, 1, 2, 3] = l
  induction l generalizing t with
  | nil => rfl
  | cons n l ih => rw [List.foldl_cons, ih]; split <;> simp

@[simp] theorem logHold_fab (b : Bool) (x : Time × Nat) (s : State) : (logHold b x s).fab = s.fab := by simp [logHold]

@[simp] theorem holdsEnd_fab (s : State) : (holdsEnd s).fab = s.fab := by
  unfold holdsEnd
  dsimp only
  split <;> split <;> simp

@[simp] theorem resetIsland_fab (i : Island) (s : State) : (resetIsland i s).fab = s.fab := by
  cases i <;> first | rfl | (unfold resetIsland; simp)

/-! ### The session's operations leave the fabric alone (R34, R207, R250) -/

@[simp] theorem refreshAllowed_fab (s : State) : (refreshAllowed s).fab = s.fab := rfl

@[simp] theorem amendStop_fab (r : BitVec 8) (s : State) : (amendStop r s).fab = s.fab := by
  rfl

@[simp] theorem markStop_fab (r : BitVec 8) (s : State) : (markStop r s).fab = s.fab := by unfold markStop; split <;> simp

@[simp] theorem releaseGrant_fab (s : State) : (releaseGrant s).fab = s.fab := by
  unfold releaseGrant; repeat' split
  all_goals rfl

@[simp] theorem commandMove_fab (b : Bool) (s : State) : (commandMove b s).fab = s.fab := by unfold commandMove; split <;> rfl

@[simp] theorem queuePrompt_fab (n : Nat) (b : Bool) (s : State) : (queuePrompt n b s).fab = s.fab := by unfold queuePrompt; split <;> rfl

@[simp] theorem preemptPrompt_fab (n : Nat) (s : State) : (preemptPrompt n s).fab = s.fab := by
  unfold preemptPrompt; dsimp only; repeat' split
  all_goals rfl

@[simp] theorem eventPrompt_fab (n : Nat) (s : State) : (eventPrompt n s).fab = s.fab := by
  unfold eventPrompt; repeat' split
  all_goals simp

@[simp] theorem closeSession_fab (r : BitVec 8) (s : State) : (closeSession r s).fab = s.fab := by
  unfold closeSession; dsimp only; split <;> simp

@[simp] theorem enterEnded_fab (r : BitVec 8) (s : State) : (enterEnded r s).fab = s.fab := by
  unfold enterEnded; dsimp only; repeat' split
  all_goals simp

@[simp] theorem endSession_fab (r : BitVec 8) (s : State) : (endSession r s).fab = s.fab := by simp [endSession]

@[simp] theorem enterPaused_fab (s : State) : (enterPaused s).fab = s.fab := by unfold enterPaused; simp

@[simp] theorem finishBreak_fab (s : State) : (finishBreak s).fab = s.fab := by
  unfold finishBreak enterOffered; dsimp only; repeat' split
  all_goals simp

@[simp] theorem breakStepFive_fab (s : State) : (breakStepFive s).fab = s.fab := by
  unfold breakStepFive; dsimp only; split <;> simp

@[simp] theorem releaseCoil_fab (s : State) : (releaseCoil s).fab = s.fab := by
  unfold releaseCoil; dsimp only; repeat' split
  all_goals simp

@[simp] theorem startBreak_fab (r : BitVec 8) (s : State) : (startBreak r s).fab = s.fab := by
  unfold startBreak; dsimp only; repeat' split
  all_goals simp

@[simp] theorem stopSession_fab (r : BitVec 8) (s : State) : (stopSession r s).fab = s.fab := by
  unfold stopSession; repeat' split
  all_goals simp

@[simp] theorem stopForSafe_fab (s : State) : (stopForSafe s).fab = s.fab := by
  unfold stopForSafe; dsimp only; repeat' split
  all_goals simp

/-- An island that leaves service has the STATE of its leaving. -/
theorem leaveService_state (i : Island) (st : PortState) (s : State) : (port (leaveService i st s) i).state = st := by
  have q : (port (leaveQuietly i st s) i).state = st := by
    unfold leaveQuietly
    dsimp only
    have h : (port (fabricLeave i (setPort s i { port s i with
        state := st, reloadAtReturn := (st == .reloading) || (st == .poweredDown) })) i).state = st := by
      rw [fabricLeave_state]
      simp
    generalize fabricLeave i _ = u at h
    split
    all_goals split <;> simp only [port, resetIsland_fab, logEvent_fab] <;> exact h
  unfold leaveService absenceReaction
  repeat' split
  all_goals first | exact q | (simp only [port, stopForSafe_fab, setKill_fab, logEvent_fab]; exact q)

/-- No other island's port changes when an island leaves service. -/
theorem leaveService_other (i : Island) (st : PortState) (s : State) {j : Island} (h : j ≠ i) :
    port (leaveService i st s) j = port s j := by
  have q : port (leaveQuietly i st s) j = port s j := by
    unfold leaveQuietly
    dsimp only
    have e : port (fabricLeave i (setPort s i { port s i with
        state := st, reloadAtReturn := (st == .reloading) || (st == .poweredDown) })) j = port s j := by
      rw [fabricLeave_other _ _ h]
      simp [port, setPort, pget_pset_other _ h]
    generalize fabricLeave i _ = u at e
    split
    all_goals split <;> simp only [port, resetIsland_fab, logEvent_fab] <;> exact e
  unfold leaveService absenceReaction
  repeat' split
  all_goals first | exact q | (simp only [port, stopForSafe_fab, setKill_fab, logEvent_fab]; exact q)

/-! ### Diagnostics (R253, R254) -/

/-- A diagnostic that fails has its bit set. -/
theorem diagFail_failed (n : Nat) (s : State) : (diagFail n s).safe.failed = setBit s.safe.failed n := by
  unfold diagFail
  dsimp only
  split <;> rfl

/-- Its cause stands from then on, but for the kill-latch test of diagnostic 10. -/
theorem diagFail_standing {n : Nat} (s : State) (h : n ≠ 10) : diagCause n ∈ (diagFail n s).live.standing := by
  have e : (diagFail n s).live.standing
      = if s.live.standing.contains (diagCause n) || n == 10 then s.live.standing else diagCause n :: s.live.standing := by
    unfold diagFail
    dsimp only
    split <;> rfl
  rw [e]
  by_cases k : diagCause n ∈ s.live.standing <;> simp [k, h]

end Sys2Proof.Machine
end

