-- ==== Sys2Proof/WellFormed.lean ====
section
/-! DEFINITION. Which commands are well formed: the operands that a carrier or a frame of the spec can deliver. An ill-formed
command is no event of the part; a PDU that breaks the rules of chapter 05 is well formed here, since the part answers it. -/

namespace Sys2Proof

/-- A copy has its ten FCH bytes, at most 240 payload bytes and its four FCS bytes (R371, R372). -/
def copyWf (c : Copy) : Bool := c.fch.length == 10 && c.payload.length ≤ 240 && c.fcs.length == 4

/-- Well-formed operands: opcode 000b or a reserved one of a FABRIC_READ (Table 2-3), one source of a FENCE, a PDU of at most 240 bytes (R372, R537),
1 to 32 addresses of a NOTIFY (R152), 1 to 8 results of a user list (Table 11-7), at most 1024 samples of a capture (Table 11-11), a frame's payload of 1 to 240 bytes (R372), an FCH of ten bytes, 1 to
200 bytes of a PDU to FwImage (R513), an SPI header of three bytes and at most 64 words (R530), a link queue 0 to 2 (R384). -/
def Instr.wf : Instr → Bool
  | .fabricRead r => r.code == 0 || 5 ≤ r.code.toNat
  | .fabricWrite _ => true
  | .writePosted _ => true
  | .fence src r => r.src == src
  | .fabricReOpen _ => true
  | .completion _ => true
  | .heldRequestAccept _ => true
  | .islandReset _ => true
  | .islandReload _ => true
  | .islandPowerDown _ => true
  | .islandPowerUp _ => true
  | .islandSelect _ => true
  | .clockLost _ => true
  | .islandReturn _ => true
  | .snapshotTimeout _ _ => true
  | .heldWriteDiscard _ _ => true
  | .lossClr _ => true
  | .peakClr => true
  | .hostReopen _ => true
  | .reopenRetry => true
  | .porSupply => true
  | .aonStartFromNothing => true
  | .resetn _ => true
  | .vddcOutOfRange => true
  | .supplyRailLow _ => true
  | .supplyRailRestored _ => true
  | .resetRelease => true
  | .xtalRetry _ => true
  | .islandBootUp _ => true
  | .imageCheck => true
  | .settingsRestore => true
  | .lockHoming => true
  | .startHoldRelease => true
  | .brownOut _ => true
  | .pfailRelease => true
  | .vdd3Recovered => true
  | .pfailHoldLog => true
  | .xtalStop => true
  | .mainsRestore => true
  | .mainsPresentAtStart => true
  | .restart _ _ => true
  | .heldResetRelease => true
  | .commit => true
  | .configRevert _ _ => true
  | .pduReceive d => d.bytes.length ≤ 240
  | .odRead => true
  | .odWrite => true
  | .readBlock => true
  | .writeBlock => true
  | .subscribe => true
  | .notify _ addrs => 1 ≤ addrs.length && addrs.length ≤ 32
  | .subscriptionLapse _ _ => true
  | .blockTransferTimeout _ => true
  | .blockSnapshotTimeout _ => true
  | .sessionToken _ _ => true
  | .sessionInactivityEnd => true
  | .sessionExpiry => true
  | .timeSet _ _ => true
  | .sessionStop _ _ => true
  | .grant _ _ => true
  | .grantDiscard _ _ => true
  | .lockFaultClear _ _ => true
  | .safeStateRelease _ _ => true
  | .audioFaultClear _ _ => true
  | .promptTest _ _ => true
  | .mirrorNonce _ _ => true
  | .mirrorStatementReady => true
  | .fwActivate _ _ => true
  | .coppiceSuspend _ _ => true
  | .coppiceEnable _ _ => true
  | .linkReload => true
  | .displayModeReload => true
  | .pilotPeriodStart => true
  | .measurementWindow _ _ => true
  | .pilotFaultHoldEnd => true
  | .proximityRead _ => true
  | .overdrawLog _ => true
  | .proximityOutOfBandLog => true
  | .make _ => true
  | .pullInElapsed => true
  | .auxInConfirmed _ => true
  | .zeroCrossing _ => true
  | .zeroCrossingTimeout _ => true
  | .auxCloseTimeout => true
  | .zeroCurrentWindowEnd => true
  | .stuckOn => true
  | .auxOpenTimeout => true
  | .readbackCheck _ => true
  | .interlockRelease => true
  | .interlockHoldTimeout => true
  | .economiserSample _ => true
  | .lockMove _ => true
  | .limitTransition _ _ => true
  | .limitConfirmed _ _ => true
  | .lockBrakeEnd => true
  | .hallPulse => true
  | .hallTimeout => true
  | .lockMoveTimeout => true
  | .hallSensorAbsent _ => true
  | .unlockAfterStateA => true
  | .excitationHalfPeriod _ _ => true
  | .residualResult _ _ => true
  | .fastComparatorTrip _ _ => true
  | .comparatorTest _ _ => true
  | .blindWindowEnd _ _ => true
  | .testWindingCheck => true
  | .testWindingStepEnd _ => true
  | .thresholdLoad => true
  | .safeWindow _ => true
  | .islandHeartbeat _ _ => true
  | .sealRead _ _ _ => true
  | .referenceCheck _ _ => true
  | .automaticRelease => true
  | .safeReset => true
  | .evidenceFlush => true
  | .listP _ _ _ => true
  | .listM _ => true
  | .listE _ => true
  | .listS _ _ _ => true
  | .userListTrigger _ => true
  | .go _ => true
  | .userListComplete _ values => 1 ≤ values.length && values.length ≤ 8
  | .windowConfigWrite _ _ _ => true
  | .captureStart _ => true
  | .captureDone samples => samples.length ≤ 1024
  | .calibrationRun _ => true
  | .calibrationDone _ _ _ => true
  | .borrow _ _ => true
  | .metrologyPeriodEnd _ => true
  | .halfCycleEnd _ => true
  | .meterLedPulse => true
  | .meterLedPulseEnd => true
  | .tariffSample _ _ => true
  | .tariffDebounce => true
  | .rtcTick => true
  | .trustLost => true
  | .intervalBoundary => true
  | .ledgerRecordWrite => true
  | .heldRecordWrite => true
  | .cryptoJob => true
  | .frameHandover h => 1 ≤ h.payload.length && h.payload.length ≤ 240
  | .mediumIdle => true
  | .accessSlot _ => true
  | .bandCWaitEnd _ => true
  | .transmitEnd _ => true
  | .frameReceive c => copyWf c
  | .sendAck => true
  | .ackWindowEnd => true
  | .resendStart _ => true
  | .queueAgeDrop prio _ => prio != 3
  | .limitAbort => true
  | .shortHoldEnd => true
  | .thermalShutdown => true
  | .thermalRecovery => true
  | .repeatFrame => true
  | .ackRelay => true
  | .relayedWindowEnd => true
  | .beacon c _ => copyWf c
  | .beaconRepeat => true
  | .curtailmentMessage c => copyWf c
  | .curtailmentLapse => true
  | .wakeWindowOpen => true
  | .wakeWindowClose => true
  | .telemetryHandover => true
  | .fieldPortCopy _ => true
  | .fieldPortGapAbort => true
  | .readBackAbort => true
  | .fieldPortBusyLog => true
  | .fill _ => true
  | .copy _ => true
  | .asset _ => true
  | .rectWrite _ => true
  | .rectData _ => true
  | .rectangleInFlight => true
  | .rectangleFinish _ _ => true
  | .writeRectTimeout _ => true
  | .displayCommit _ _ _ => true
  | .blanking => true
  | .hostOwn _ => true
  | .ownerChange => true
  | .pumpFault => true
  | .pumpRestart _ => true
  | .promptStart => true
  | .promptEnd => true
  | .audShort => true
  | .shutdownEnd => true
  | .retriesReset => true
  | .tick _ => true
  | .topWrite _ _ => true
  | .cmpWrite _ _ => true
  | .clr _ => true
  | .runStart _ => true
  | .runStop _ => true
  | .capture _ => true
  | .captRead _ => true
  | .cfgWrite _ _ => true
  | .scrubWord _ => true
  | .codeBlockCheck _ => true
  | .scrubLate => true
  | .logFlashWrite _ _ => true
  | .erase _ _ => true
  | .eraseDone _ => true
  | .wearCopy _ _ => true
  | .telemetrySnapshot => true
  | .selfTestPilotLoopback _ _ => true
  | .selfTestReference _ _ => true
  | .selfTestWinding _ _ => true
  | .selfTestLineLoopback _ _ => true
  | .selfTestClassD _ _ => true
  | .selfTestAll _ _ => true
  | .islandBist _ _ _ => true
  | .islandBistAll _ _ => true
  | .loopbackTestRun _ _ => true
  | .selfTestConditionTimeout => true
  | .heldSelfTestStart => true
  | .bistIsland _ _ => true
  | .bistIslandNotReturned => true
  | .fwImageBlock _ _ _ _ _ data => 1 ≤ data.length && data.length ≤ 200
  | .loaderHandover => true
  | .streamStall => true
  | .writeFrame _ header words => header.length == 3 && words.length ≤ 64
  | .readFrame _ header => header.length == 3
  | .frameCut _ header words => header.length ≤ 3 && words.length ≤ 64
  | .mailboxGo _ => true
  | .rspAck => true
  | .ntfAck => true
  | .mailboxResponse => true
  | .registerWrite _ _ => true
  | .mediumBusy => true
  | .fchDecode fch => fch.length == 10
  | .protectedSpanEnd => true
  | .vbatLow _ => true
  | .rtcXtalStop => true
  | .safeSelfFault => true

end Sys2Proof
end

