-- ==== Sys2Proof/Laws/PerInstr.lean ====
section
/-! SUPPORT. The per-command family NoWord: the opcode table gives no row any bits, so no word spells a command, well formed or not. -/

namespace Sys2Proof.Laws.NoWord

/-- No word of any length spells the command. -/
def Statement (i : Instr) : Prop := ∀ nbits w : Nat, decodeTableWord nbits w ≠ some i

/-- What every constructor's lemma rests on. -/
theorem none_ne (i : Instr) : Statement i := fun _ _ h => nomatch h

theorem fabricRead (r : CodedRequest) : Statement (.fabricRead r) := none_ne _
theorem fabricWrite (r : Request) : Statement (.fabricWrite r) := none_ne _
theorem writePosted (r : Request) : Statement (.writePosted r) := none_ne _
theorem fence (src : Island) (r : Request) : Statement (.fence src r) := none_ne _
theorem fabricReOpen (r : Request) : Statement (.fabricReOpen r) := none_ne _
theorem completion (src : Island) : Statement (.completion src) := none_ne _
theorem heldRequestAccept (src : Island) : Statement (.heldRequestAccept src) := none_ne _
theorem islandReset (island : BitVec 4) : Statement (.islandReset island) := none_ne _
theorem islandReload (island : BitVec 4) : Statement (.islandReload island) := none_ne _
theorem islandPowerDown (island : BitVec 4) : Statement (.islandPowerDown island) := none_ne _
theorem islandPowerUp (island : BitVec 4) : Statement (.islandPowerUp island) := none_ne _
theorem islandSelect (island : BitVec 4) : Statement (.islandSelect island) := none_ne _
theorem clockLost (i : Island) : Statement (.clockLost i) := none_ne _
theorem islandReturn (i : Island) : Statement (.islandReturn i) := none_ne _
theorem snapshotTimeout (src : Island) (addr : BitVec 16) : Statement (.snapshotTimeout src addr) := none_ne _
theorem heldWriteDiscard (src : Island) (addr : BitVec 16) : Statement (.heldWriteDiscard src addr) := none_ne _
theorem lossClr (mask : BitVec 12) : Statement (.lossClr mask) := none_ne _
theorem peakClr : Statement (.peakClr) := none_ne _
theorem hostReopen (mask : BitVec 12) : Statement (.hostReopen mask) := none_ne _
theorem reopenRetry : Statement (.reopenRetry) := none_ne _
theorem porSupply : Statement (.porSupply) := none_ne _
theorem aonStartFromNothing : Statement (.aonStartFromNothing) := none_ne _
theorem resetn (lowNs : Nat) : Statement (.resetn lowNs) := none_ne _
theorem vddcOutOfRange : Statement (.vddcOutOfRange) := none_ne _
theorem supplyRailLow (rail : Rail) : Statement (.supplyRailLow rail) := none_ne _
theorem supplyRailRestored (rail : Rail) : Statement (.supplyRailRestored rail) := none_ne _
theorem resetRelease : Statement (.resetRelease) := none_ne _
theorem xtalRetry (stable : Bool) : Statement (.xtalRetry stable) := none_ne _
theorem islandBootUp (i : Island) : Statement (.islandBootUp i) := none_ne _
theorem imageCheck : Statement (.imageCheck) := none_ne _
theorem settingsRestore : Statement (.settingsRestore) := none_ne _
theorem lockHoming : Statement (.lockHoming) := none_ne _
theorem startHoldRelease : Statement (.startHoldRelease) := none_ne _
theorem brownOut (onset : BrownOnset) : Statement (.brownOut onset) := none_ne _
theorem pfailRelease : Statement (.pfailRelease) := none_ne _
theorem vdd3Recovered : Statement (.vdd3Recovered) := none_ne _
theorem pfailHoldLog : Statement (.pfailHoldLog) := none_ne _
theorem xtalStop : Statement (.xtalStop) := none_ne _
theorem mainsRestore : Statement (.mainsRestore) := none_ne _
theorem mainsPresentAtStart : Statement (.mainsPresentAtStart) := none_ne _
theorem restart (rq : Requester) (value : Byte) : Statement (.restart rq value) := none_ne _
theorem heldResetRelease : Statement (.heldResetRelease) := none_ne _
theorem commit : Statement (.commit) := none_ne _
theorem configRevert (rq : Requester) (value : Byte) : Statement (.configRevert rq value) := none_ne _
theorem pduReceive (d : Delivered) : Statement (.pduReceive d) := none_ne _
theorem odRead : Statement (.odRead) := none_ne _
theorem odWrite : Statement (.odWrite) := none_ne _
theorem readBlock : Statement (.readBlock) := none_ne _
theorem writeBlock : Statement (.writeBlock) := none_ne _
theorem subscribe : Statement (.subscribe) := none_ne _
theorem notify (mailbox : Bool) (addrs : List (BitVec 16)) : Statement (.notify mailbox addrs) := none_ne _
theorem subscriptionLapse (mailbox : Bool) (addr : BitVec 16) : Statement (.subscriptionLapse mailbox addr) := none_ne _
theorem blockTransferTimeout (addr : BitVec 16) : Statement (.blockTransferTimeout addr) := none_ne _
theorem blockSnapshotTimeout (mailbox : Bool) : Statement (.blockSnapshotTimeout mailbox) := none_ne _
theorem sessionToken (rq : Requester) (token : Bytes) : Statement (.sessionToken rq token) := none_ne _
theorem sessionInactivityEnd : Statement (.sessionInactivityEnd) := none_ne _
theorem sessionExpiry : Statement (.sessionExpiry) := none_ne _
theorem timeSet (rq : Requester) (bytes : Bytes) : Statement (.timeSet rq bytes) := none_ne _
theorem sessionStop (rq : Requester) (value : Byte) : Statement (.sessionStop rq value) := none_ne _
theorem grant (rq : Requester) (bytes : Bytes) : Statement (.grant rq bytes) := none_ne _
theorem grantDiscard (rq : Requester) (value : Byte) : Statement (.grantDiscard rq value) := none_ne _
theorem lockFaultClear (rq : Requester) (value : Byte) : Statement (.lockFaultClear rq value) := none_ne _
theorem safeStateRelease (rq : Requester) (value : Byte) : Statement (.safeStateRelease rq value) := none_ne _
theorem audioFaultClear (rq : Requester) (value : Byte) : Statement (.audioFaultClear rq value) := none_ne _
theorem promptTest (rq : Requester) (prompt : Byte) : Statement (.promptTest rq prompt) := none_ne _
theorem mirrorNonce (rq : Requester) (nonce : Bytes) : Statement (.mirrorNonce rq nonce) := none_ne _
theorem mirrorStatementReady : Statement (.mirrorStatementReady) := none_ne _
theorem fwActivate (rq : Requester) (value : Byte) : Statement (.fwActivate rq value) := none_ne _
theorem coppiceSuspend (rq : Requester) (value : Byte) : Statement (.coppiceSuspend rq value) := none_ne _
theorem coppiceEnable (rq : Requester) (value : Byte) : Statement (.coppiceEnable rq value) := none_ne _
theorem linkReload : Statement (.linkReload) := none_ne _
theorem displayModeReload : Statement (.displayModeReload) := none_ne _
theorem pilotPeriodStart : Statement (.pilotPeriodStart) := none_ne _
theorem measurementWindow (positive : Bool) (mv : BitVec 16) : Statement (.measurementWindow positive mv) := none_ne _
theorem pilotFaultHoldEnd : Statement (.pilotFaultHoldEnd) := none_ne _
theorem proximityRead (code : BitVec 16) : Statement (.proximityRead code) := none_ne _
theorem overdrawLog (phase : Phase3) : Statement (.overdrawLog phase) := none_ne _
theorem proximityOutOfBandLog : Statement (.proximityOutOfBandLog) := none_ne _
theorem make (killTestPass : Bool) : Statement (.make killTestPass) := none_ne _
theorem pullInElapsed : Statement (.pullInElapsed) := none_ne _
theorem auxInConfirmed (closed : Bool) : Statement (.auxInConfirmed closed) := none_ne _
theorem zeroCrossing (phase : Phase3) : Statement (.zeroCrossing phase) := none_ne _
theorem zeroCrossingTimeout (phase : Phase3) : Statement (.zeroCrossingTimeout phase) := none_ne _
theorem auxCloseTimeout : Statement (.auxCloseTimeout) := none_ne _
theorem zeroCurrentWindowEnd : Statement (.zeroCurrentWindowEnd) := none_ne _
theorem stuckOn : Statement (.stuckOn) := none_ne _
theorem auxOpenTimeout : Statement (.auxOpenTimeout) := none_ne _
theorem readbackCheck (gfb : BitVec 4) : Statement (.readbackCheck gfb) := none_ne _
theorem interlockRelease : Statement (.interlockRelease) := none_ne _
theorem interlockHoldTimeout : Statement (.interlockHoldTimeout) := none_ne _
theorem economiserSample (senseMa : BitVec 16) : Statement (.economiserSample senseMa) := none_ne _
theorem lockMove (toLocked : Bool) : Statement (.lockMove toLocked) := none_ne _
theorem limitTransition (which : Limit) (within50 : Nat) : Statement (.limitTransition which within50) := none_ne _
theorem limitConfirmed (which : Limit) (closed : Bool) : Statement (.limitConfirmed which closed) := none_ne _
theorem lockBrakeEnd : Statement (.lockBrakeEnd) := none_ne _
theorem hallPulse : Statement (.hallPulse) := none_ne _
theorem hallTimeout : Statement (.hallTimeout) := none_ne _
theorem lockMoveTimeout : Statement (.lockMoveTimeout) := none_ne _
theorem hallSensorAbsent (microamps : BitVec 16) : Statement (.hallSensorAbsent microamps) := none_ne _
theorem unlockAfterStateA : Statement (.unlockAfterStateA) := none_ne _
theorem excitationHalfPeriod (saturated : Bool) (peakMa : Byte) : Statement (.excitationHalfPeriod saturated peakMa) := none_ne _
theorem residualResult (acUp dcUp : Bool) : Statement (.residualResult acUp dcUp) := none_ne _
theorem fastComparatorTrip (fc : Comparator) (tripped : Conductor) : Statement (.fastComparatorTrip fc tripped) := none_ne _
theorem comparatorTest (fc : Comparator) (pass : Bool) : Statement (.comparatorTest fc pass) := none_ne _
theorem blindWindowEnd (fc : Comparator) (active : Option Conductor) : Statement (.blindWindowEnd fc active) := none_ne _
theorem testWindingCheck : Statement (.testWindingCheck) := none_ne _
theorem testWindingStepEnd (fc0Responded : Bool) : Statement (.testWindingStepEnd fc0Responded) := none_ne _
theorem thresholdLoad : Statement (.thresholdLoad) := none_ne _
theorem safeWindow (xtalCycles : Nat) : Statement (.safeWindow xtalCycles) := none_ne _
theorem islandHeartbeat (i : Island) (advanced : Bool) : Statement (.islandHeartbeat i advanced) := none_ne _
theorem sealRead (phase1 : Byte) (phase2 : Byte) (phase3 : Byte) : Statement (.sealRead phase1 phase2 phase3) := none_ne _
theorem referenceCheck (conv : Converter) (code : BitVec 16) : Statement (.referenceCheck conv code) := none_ne _
theorem automaticRelease : Statement (.automaticRelease) := none_ne _
theorem safeReset : Statement (.safeReset) := none_ne _
theorem evidenceFlush : Statement (.evidenceFlush) := none_ne _
theorem listP (positive : Bool) (drvMv : BitVec 16) (edgeErrNs : Nat) : Statement (.listP positive drvMv edgeErrNs) := none_ne _
theorem listM (x : TickSamples) : Statement (.listM x) := none_ne _
theorem listE (code : BitVec 16) : Statement (.listE code) := none_ne _
theorem listS (input : BitVec 5) (conv : Converter) (code : BitVec 16) : Statement (.listS input conv code) := none_ne _
theorem userListTrigger (k : Bool) : Statement (.userListTrigger k) := none_ne _
theorem go (k : Bool) : Statement (.go k) := none_ne _
theorem userListComplete (k : Bool) (values : List (BitVec 16 × Bool)) : Statement (.userListComplete k values) := none_ne _
theorem windowConfigWrite (w : Fin 16) (band : Bool) (value : Word) : Statement (.windowConfigWrite w band value) := none_ne _
theorem captureStart (ctrl : Word) : Statement (.captureStart ctrl) := none_ne _
theorem captureDone (samples : List (Option (BitVec 16))) : Statement (.captureDone samples) := none_ne _
theorem calibrationRun (conv : Converter) : Statement (.calibrationRun conv) := none_ne _
theorem calibrationDone (conv : Converter) (reference : BitVec 16) (trims : Option Trims) :
    Statement (.calibrationDone conv reference trims) := none_ne _
theorem borrow (conv : Converter) (begins : Bool) : Statement (.borrow conv begins) := none_ne _
theorem metrologyPeriodEnd (period : BitVec 18) : Statement (.metrologyPeriodEnd period) := none_ne _
theorem halfCycleEnd (phase : Phase3) : Statement (.halfCycleEnd phase) := none_ne _
theorem meterLedPulse : Statement (.meterLedPulse) := none_ne _
theorem meterLedPulseEnd : Statement (.meterLedPulseEnd) := none_ne _
theorem tariffSample (tariff0High : Bool) (tariff1High : Bool) : Statement (.tariffSample tariff0High tariff1High) := none_ne _
theorem tariffDebounce : Statement (.tariffDebounce) := none_ne _
theorem rtcTick : Statement (.rtcTick) := none_ne _
theorem trustLost : Statement (.trustLost) := none_ne _
theorem intervalBoundary : Statement (.intervalBoundary) := none_ne _
theorem ledgerRecordWrite : Statement (.ledgerRecordWrite) := none_ne _
theorem heldRecordWrite : Statement (.heldRecordWrite) := none_ne _
theorem cryptoJob : Statement (.cryptoJob) := none_ne _
theorem frameHandover (h : Handover) : Statement (.frameHandover h) := none_ne _
theorem mediumIdle : Statement (.mediumIdle) := none_ne _
theorem accessSlot (tone : Bool) : Statement (.accessSlot tone) := none_ne _
theorem bandCWaitEnd (free : Bool) : Statement (.bandCWaitEnd free) := none_ne _
theorem transmitEnd (limited : Bool) : Statement (.transmitEnd limited) := none_ne _
theorem frameReceive (c : Copy) : Statement (.frameReceive c) := none_ne _
theorem sendAck : Statement (.sendAck) := none_ne _
theorem ackWindowEnd : Statement (.ackWindowEnd) := none_ne _
theorem resendStart (idle : Bool) : Statement (.resendStart idle) := none_ne _
theorem queueAgeDrop (prio : BitVec 2) (index : Nat) : Statement (.queueAgeDrop prio index) := none_ne _
theorem limitAbort : Statement (.limitAbort) := none_ne _
theorem shortHoldEnd : Statement (.shortHoldEnd) := none_ne _
theorem thermalShutdown : Statement (.thermalShutdown) := none_ne _
theorem thermalRecovery : Statement (.thermalRecovery) := none_ne _
theorem repeatFrame : Statement (.repeatFrame) := none_ne _
theorem ackRelay : Statement (.ackRelay) := none_ne _
theorem relayedWindowEnd : Statement (.relayedWindowEnd) := none_ne _
theorem beacon (c : Copy) (clockAtStart : Time) : Statement (.beacon c clockAtStart) := none_ne _
theorem beaconRepeat : Statement (.beaconRepeat) := none_ne _
theorem curtailmentMessage (c : Copy) : Statement (.curtailmentMessage c) := none_ne _
theorem curtailmentLapse : Statement (.curtailmentLapse) := none_ne _
theorem wakeWindowOpen : Statement (.wakeWindowOpen) := none_ne _
theorem wakeWindowClose : Statement (.wakeWindowClose) := none_ne _
theorem telemetryHandover : Statement (.telemetryHandover) := none_ne _
theorem fieldPortCopy (wire : Bytes) : Statement (.fieldPortCopy wire) := none_ne _
theorem fieldPortGapAbort : Statement (.fieldPortGapAbort) := none_ne _
theorem readBackAbort : Statement (.readBackAbort) := none_ne _
theorem fieldPortBusyLog : Statement (.fieldPortBusyLog) := none_ne _
theorem fill (byHost : Bool) : Statement (.fill byHost) := none_ne _
theorem copy (byHost : Bool) : Statement (.copy byHost) := none_ne _
theorem asset (byHost : Bool) : Statement (.asset byHost) := none_ne _
theorem rectWrite (byHost : Bool) : Statement (.rectWrite byHost) := none_ne _
theorem rectData (pixels : Word) : Statement (.rectData pixels) := none_ne _
theorem rectangleInFlight : Statement (.rectangleInFlight) := none_ne _
theorem rectangleFinish (seq : Byte) (afterWindow : Bool) : Statement (.rectangleFinish seq afterWindow) := none_ne _
theorem writeRectTimeout (afterWindow : Bool) : Statement (.writeRectTimeout afterWindow) := none_ne _
theorem displayCommit (byHost : Bool) (buf : Bool) (afterWindow : Bool) : Statement (.displayCommit byHost buf afterWindow) := none_ne _
theorem blanking : Statement (.blanking) := none_ne _
theorem hostOwn (value : Bool) : Statement (.hostOwn value) := none_ne _
theorem ownerChange : Statement (.ownerChange) := none_ne _
theorem pumpFault : Statement (.pumpFault) := none_ne _
theorem pumpRestart (inRegulation : Bool) : Statement (.pumpRestart inRegulation) := none_ne _
theorem promptStart : Statement (.promptStart) := none_ne _
theorem promptEnd : Statement (.promptEnd) := none_ne _
theorem audShort : Statement (.audShort) := none_ne _
theorem shutdownEnd : Statement (.shutdownEnd) := none_ne _
theorem retriesReset : Statement (.retriesReset) := none_ne _
theorem tick (n : Fin 8) : Statement (.tick n) := none_ne _
theorem topWrite (n : Fin 8) (value : Word) : Statement (.topWrite n value) := none_ne _
theorem cmpWrite (n : Fin 8) (value : Word) : Statement (.cmpWrite n value) := none_ne _
theorem clr (n : Fin 8) : Statement (.clr n) := none_ne _
theorem runStart (n : Fin 8) : Statement (.runStart n) := none_ne _
theorem runStop (n : Fin 8) : Statement (.runStop n) := none_ne _
theorem capture (n : Fin 8) : Statement (.capture n) := none_ne _
theorem captRead (n : Fin 8) : Statement (.captRead n) := none_ne _
theorem cfgWrite (n : Fin 8) (value : Word) : Statement (.cfgWrite n value) := none_ne _
theorem scrubWord (result : ScrubResult) : Statement (.scrubWord result) := none_ne _
theorem codeBlockCheck (matched : Bool) : Statement (.codeBlockCheck matched) := none_ne _
theorem scrubLate : Statement (.scrubLate) := none_ne _
theorem logFlashWrite (zone : Zone) (programmed : Bool) : Statement (.logFlashWrite zone programmed) := none_ne _
theorem erase (zone : Zone) (erased : Bool) : Statement (.erase zone erased) := none_ne _
theorem eraseDone (zone : Zone) : Statement (.eraseDone zone) := none_ne _
theorem wearCopy (zone : Zone) (copyGood : Bool) : Statement (.wearCopy zone copyGood) := none_ne _
theorem telemetrySnapshot : Statement (.telemetrySnapshot) := none_ne _
theorem selfTestPilotLoopback (rq : Requester) (queue : Bool) : Statement (.selfTestPilotLoopback rq queue) := none_ne _
theorem selfTestReference (rq : Requester) (queue : Bool) : Statement (.selfTestReference rq queue) := none_ne _
theorem selfTestWinding (rq : Requester) (queue : Bool) : Statement (.selfTestWinding rq queue) := none_ne _
theorem selfTestLineLoopback (rq : Requester) (queue : Bool) : Statement (.selfTestLineLoopback rq queue) := none_ne _
theorem selfTestClassD (rq : Requester) (queue : Bool) : Statement (.selfTestClassD rq queue) := none_ne _
theorem selfTestAll (rq : Requester) (queue : Bool) : Statement (.selfTestAll rq queue) := none_ne _
theorem islandBist (rq : Requester) (code : Byte) (queue : Bool) : Statement (.islandBist rq code queue) := none_ne _
theorem islandBistAll (rq : Requester) (queue : Bool) : Statement (.islandBistAll rq queue) := none_ne _
theorem loopbackTestRun (items : BitVec 12) (noLoad : Bool) : Statement (.loopbackTestRun items noLoad) := none_ne _
theorem selfTestConditionTimeout : Statement (.selfTestConditionTimeout) := none_ne _
theorem heldSelfTestStart : Statement (.heldSelfTestStart) := none_ne _
theorem bistIsland (marchPass : Bool) (signature : Word) : Statement (.bistIsland marchPass signature) := none_ne _
theorem bistIslandNotReturned : Statement (.bistIslandNotReturned) := none_ne _
theorem fwImageBlock (rq : Requester) (first : Bool) (last : Bool) (offset : Word) (total : Word) (data : Bytes) : Statement (.fwImageBlock rq first last offset total data) := none_ne _
theorem loaderHandover : Statement (.loaderHandover) := none_ne _
theorem streamStall : Statement (.streamStall) := none_ne _
theorem writeFrame (mode3 : Bool) (header : Bytes) (words : List Word) : Statement (.writeFrame mode3 header words) := none_ne _
theorem readFrame (mode3 : Bool) (header : Bytes) : Statement (.readFrame mode3 header) := none_ne _
theorem frameCut (read : Bool) (header : Bytes) (words : List Word) : Statement (.frameCut read header words) := none_ne _
theorem mailboxGo (len : Byte) : Statement (.mailboxGo len) := none_ne _
theorem rspAck : Statement (.rspAck) := none_ne _
theorem ntfAck : Statement (.ntfAck) := none_ne _
theorem mailboxResponse : Statement (.mailboxResponse) := none_ne _
theorem registerWrite (addr : BitVec 16) (value : Word) : Statement (.registerWrite addr value) := none_ne _
theorem mediumBusy : Statement (.mediumBusy) := none_ne _
theorem fchDecode (fch : Bytes) : Statement (.fchDecode fch) := none_ne _
theorem protectedSpanEnd : Statement (.protectedSpanEnd) := none_ne _
theorem vbatLow (mv : BitVec 16) : Statement (.vbatLow mv) := none_ne _
theorem rtcXtalStop : Statement .rtcXtalStop := none_ne _
theorem safeSelfFault : Statement (.safeSelfFault) := none_ne _

end Sys2Proof.Laws.NoWord
end

