-- ==== Sys2Proof/Tests/Slice0.lean ====
section
/-! SUPPORT. The model's own tests: ill-formed commands, the worked cases of spec/, and for every obligation with hypotheses the
states and operands that meet them, clause by clause. -/

namespace Sys2Proof

open Machine

section
set_option Elab.async false

/-! ### States for the witnesses -/

/-- Every port in service, with epoch 1. -/
def upPorts : PerIsland Port := pconst { state := .up, epoch := 1 }

/-- A part whose islands are all in service and whose reset is released. -/
def up : State :=
  { State.reset with
    fab := { State.reset.fab with ports := upPorts, views := pconst (pconst 1) }
    pwr := { State.reset.pwr with resetHeld := false, settingsRestored := true, homingDone := true, mainsPresent := true, fromNothing := false }
    sec := { State.reset.sec with slotOk := 0x1F }
    sup := { State.reset.sup with vddcOk := true, vldOk := true, vaudOk := true, voledOk := true, xtalOk := true, rtcXtalOk := true } }

/-- up with the start hold released and a word of the seal accepted: single phase, lock, DC detection, SW8 closed. -/
def run : State :=
  { up with
    safe := { up.safe with startHold := false, active := false, sealAccepted := true, sealValid := true, pos := 0xE6, pulses := true }
    plt := { up.plt with level := .steady, nextLevel := .steady, state := .a, classifying := true }
    pwr := { up.pwr with billing := true }
    bgd := { up.bgd with released := true }
    glt := { up.glt with kill := false } }

/-- up without one island. -/
def without (i : Island) (st : PortState) (s : State) : State := setPort s i { port s i with state := st }

/-- Key slots with known contents: the operator root key is q. -/
def slotsOf (q : Bytes) : Vector KeySlot 6 :=
  #v[{ type := 1, length := 32, key := beBytes 32 7 }, { type := 2, length := 64, key := q }, {}, { type := 4, length := 32, key := beBytes 32 9 },
     { type := 4, length := 32, key := beBytes 32 11 }, {}]

/-- A serial number. -/
def serialAB : Bytes := beBytes 12 0x424C34323030303030303031

/-- s with known keys and a known serial number. -/
def keyed (q : Bytes) (s : State) : State := { s with otp := { s.otp with slots := slotsOf q, serial := serialAB } }

/-- A new unicast frame to node 5. -/
def frameAB : OutFrame :=
  { prio := 1, type := 0, dst := 5, orig := 127, fid := 1, hops := 0, attempt := 0, copiesLeft := 0, firstMode := .b, payload := [1]
    isNotify := false, resent := false, sent := false, placed := false, repeats := false, ackReq := true }

/-- run with the converters calibrated and their lists running. -/
def lists : State := { run with adc := { run.adc with listsRun := true, calibrated := 0xF } }

/-- A grant that is in force at clock 0. -/
def grantAB : Grant :=
  { account := 1, grantId := 1, remaining := 10000, limitDeciA := 0, notBefore := 0, expiry := 0xFFFFFFFFFFFF, countedFrom := 0
    fromTrusted := true }

/-- lists with a vehicle in state C that is offered 16 A, and a session in phase p. -/
def inSes (p : Phase) : State :=
  { lists with
    plt := { run.plt with level := .pwm, nextLevel := .pwm, state := .c, band := .a32, duty := 533 }
    ses := { run.ses with phase := p, diodePassed := 3, inUse := true, grant := some grantAB, allowed := 160, windingDue := false }
    lck := { run.lck with state := 2, limLocked := true, hallOk := true }
    bil := { run.bil with trusted := true, valid := true } }

/-- A request of HOST to SEQ with its parity right. -/
def goodReq (op : FabricOp) : Request :=
  let r : Request := ⟨5, .host, 2, 1, 4, 0x1234, false⟩
  { r with par := parityBit op r }

/-- A request of HOST to SEQ with its parity wrong. -/
def badReq (op : FabricOp) : Request := { goodReq op with par := !(goodReq op).par }

/-- up with the REOPEN bit of SEQ set. -/
def reopening2 : State := { up with fab := { up.fab with reopen := 4 } }

/-- run with an authenticated session. -/
def authed : State := { run with od := { run.od with session := some ⟨1, 1, beBytes 16 3, 0xFFFFFFFFFFFF, 0⟩ } }

/-- The requester of that session at the mailbox. -/
def me : Requester := ⟨.mailbox, .session, 1, 0⟩

/-- s with one request at the head of the OD queue. -/
def headed (q : QueuedPdu) (s : State) : State := { s with od := { s.od with queue := [q] } }

/-- A plain request at the mailbox. -/
def plainPdu (op : BitVec 4) (b : Bytes) : QueuedPdu := ⟨⟨.mailbox, .none, 9, 0⟩, 0, op, b⟩

/-- A request in the session at the mailbox. -/
def signedPdu (op : BitVec 4) (b : Bytes) : QueuedPdu := ⟨⟨.mailbox, .session, 9, 0⟩, 1, op, b⟩

/-- A closed record of twelve registers. -/
def recordAB : Record := { index := 1, kind := .boundary, imports := List.replicate 12 5 }

/-- An operator root key under which timeAB is signed. -/
def timeRoot : Bytes :=
  beBytes 32 0x6BC73A078255FCCA0250A3A46AFAF9D917CCD93E1DADCC294D6FFE7117A12976
    ++ beBytes 32 0xF34253A1B28391279079A9BF47BECCD1F386779E6ECFBD632AACC957E7497195

/-- A time-set message. -/
def timeAB : Bytes :=
  beBytes 32 0x01540000424C34323030303030303031E8030000000000000700000000000000
    ++ beBytes 32 0x7CF27B188D034F7E8A52380304B51AC3C08969E277F21B35A60B48FC47669978
    ++ beBytes 32 0x7CF27B188D034F7E8A52380304B51AC3C08969E277F21B35A60B48FC47669978

/-- An operator root key under which grantBytes is signed. -/
def grantRoot : Bytes :=
  beBytes 32 0x29DB158BC61D202CAA469EFC06C10671D70372E430A367409DA63391173A87CA
    ++ beBytes 32 0xE023394BDB2B0B72803A35F1F40474D01EBB64303E61331BFD1E6033743D02F6

/-- A grant message. -/
def grantBytes : Bytes :=
  beBytes 32 0x01470001424C343230303030303030310500000006000000E8030000A0000000
    ++ beBytes 32 0x000000000000881300000000000000007CF27B188D034F7E8A52380304B51AC3
    ++ beBytes 32 0xC08969E277F21B35A60B48FC476699787CF27B188D034F7E8A52380304B51AC3
    ++ beBytes 16 0xC08969E277F21B35A60B48FC47669978

/-- An operator root key under which tokenAB is signed. -/
def tokenRoot : Bytes :=
  beBytes 32 0x3E1EC87C00B0B977635BEC5DD2CE56BC8E95F8056AB61592ACDDB9FAC3D3E391
    ++ beBytes 32 0x33EEC507C5E6CE9C481CEB33978C28C288E1098DDFF21D3C6C30C2E132CAEAFE

/-- A session token. -/
def tokenAB : Bytes :=
  beBytes 32 0x01530000424C3432303030303030303188130000000000000900000000010203
    ++ beBytes 32 0x0405060708090A0B0C0D0E0F000000007CF27B188D034F7E8A52380304B51AC3
    ++ beBytes 32 0xC08969E277F21B35A60B48FC476699787CF27B188D034F7E8A52380304B51AC3
    ++ beBytes 16 0xC08969E277F21B35A60B48FC47669978

/-- A first WRITE-BLOCK of 100 of 112 bytes. -/
def blockA : Bytes :=
  beBytes 32 0x0070010000000070000000000000006400000000000000000000000000000000
    ++ beBytes 32 0x0000000000000000000000000000000000000000000000000000000000000000
    ++ beBytes 32 0x0000000000000000000000000000000000000000000000000000000000000000
    ++ beBytes 21 0x000000000000000000000000000000000000000000

/-- A last WRITE-BLOCK of 12 bytes whose CRC-32C is wrong. -/
def blockB : Bytes := beBytes 29 0x0070026400000070000000000000000C00000000000000000000000000

/-- A plain READ of one address. -/
def readAB : Bytes := beBytes 14 0x0000070001000000000002000000

/-- A READ of one address under the link key, without its MAC. -/
def linkRead : Bytes := beBytes 14 0x1000070001000000000002000000

/-- run with an operator root key that is 1. -/
def keyedRun : State := keyed (beBytes 64 1) run

/-- linkRead with its MAC. -/
def linkPdu : Delivered := ⟨.line, 1, 0, 127, 0, linkRead ++ cmac64 (linkKey keyedRun) (macPrefix 1 0 127 .line ++ linkRead)⟩

/-- run with its line driver on and a link layer that may send. -/
def linked : State := { run with plc := { run.plc with drvOn := true, mayTransmit := true } }

/-- A copy with the CRC8 and the FCS that belong to it. -/
def copyOf (x : Fch) (payload : Bytes) : Copy := ⟨.line, fchBytes x, payload, frameFcs (fchBytes x) payload⟩

/-- A unicast copy with its FCH fields. -/
def unicast (src dst : Byte) (seg : Nat) : Copy := copyOf ⟨0, 1, 0, true, seg, src, dst, 0, 9, 3, 0, 0⟩ [1, 2, 3]

/-- A copy for this node on the field port. -/
def fieldCopy : Copy := { unicast 4 127 1 with path := .field }

/-- linked with known keys. -/
def keyedLink : State := keyed (beBytes 64 1) linked

/-- b with its MAC under the broadcast key. -/
def withMac (b : Bytes) : Bytes := b ++ cmac64 (broadcastKey keyedLink) (macPrefix 1 0 0xFF .line ++ b)

/-- A beacon without its MAC. -/
def beaconBody : Bytes :=
  beBytes 32 0x014200008813000000000000A000000000000000000000000000000000000000
    ++ beBytes 20 0x0000000000000000000000000000000007000000

/-- A beacon with the payload p. -/
def beaconAB (p : Bytes) : Copy := copyOf ⟨2, 0, 0, false, 1, 0, 0xFF, 0, 3, 60, 4, 0⟩ p

/-- A curtailment message. -/
def curtailAB : Copy := copyOf ⟨2, 0, 0, false, 1, 0, 0xFF, 0, 3, 20, 4, 0⟩ (withMac (beBytes 12 0x024200006400000009000000))

/-- run with the event zone as given. -/
def zoned (z : FlashZone) : State := { run with flash := { run.flash with events := z } }

/-- A rectangle of 2 by 2 pixels at (1, 1). -/
def rectAB (op : RectOp) : Rect := ⟨0, op, true, 1, 1, 2, 2, 7, [], false⟩

/-- run with one rectangle in flight, and content in both buffers. -/
def flying (op : RectOp) : State := { run with disp := { run.disp with flight := [rectAB op], fb0 := [(3, 1)], fb1 := [(2, 5)] } }

/-- linked with the frame f waiting for its ACK. -/
def awaitsAck (n : BitVec 3) (relayed : Bool) : State :=
  let f : OutFrame := { frameAB with sent := true, attempt := n }
  { linked with plc := { linked.plc with q1 := [f], ackWindow := some f, relayed := relayed } }

/-! ### Ill-formed commands are refused, one for each check of WellFormed -/

/-- A copy with nine FCH bytes. -/
def badCopy : Copy := ⟨.line, zeros 9, [], zeros 4⟩

theorem test_wf_pdu : (Instr.pduReceive ⟨.line, 1, 0, 1, 0, zeros 241⟩).wf = false := by decide +kernel
theorem test_wf_notify_none : (Instr.notify true []).wf = false := by decide +kernel
theorem test_wf_notify_many : (Instr.notify true (List.replicate 33 0)).wf = false := by decide +kernel
theorem test_wf_user_list : (Instr.userListComplete true []).wf = false ∧ (Instr.userListComplete true (List.replicate 9 (0, false))).wf = false := by decide +kernel
theorem test_wf_capture : (Instr.captureDone (List.replicate 1025 none)).wf = false := by decide +kernel
theorem test_wf_handover : (Instr.frameHandover ⟨1, 5, [], false⟩).wf = false ∧ (Instr.frameHandover ⟨1, 5, zeros 241, false⟩).wf = false := by decide +kernel
theorem test_wf_copies : (Instr.frameReceive badCopy).wf = false ∧ (Instr.beacon badCopy 0).wf = false ∧ (Instr.curtailmentMessage badCopy).wf = false
    ∧ (Instr.frameReceive ⟨.line, zeros 10, zeros 241, zeros 4⟩).wf = false ∧ (Instr.frameReceive ⟨.line, zeros 10, [], []⟩).wf = false := by decide +kernel
theorem test_wf_age_drop : (Instr.queueAgeDrop 3 0).wf = false := by decide +kernel
theorem test_wf_fw_image : (Instr.fwImageBlock ⟨.mailbox, .link, 0, 0⟩ true false 0 8192 []).wf = false
    ∧ (Instr.fwImageBlock ⟨.mailbox, .link, 0, 0⟩ true false 0 8192 (zeros 201)).wf = false := by decide +kernel
theorem test_wf_frames : (Instr.writeFrame false [0, 0] []).wf = false ∧ (Instr.writeFrame false [0, 0, 0] (List.replicate 65 0)).wf = false
    ∧ (Instr.readFrame false []).wf = false ∧ (Instr.frameCut true [0, 0, 0, 0] []).wf = false
    ∧ (Instr.frameCut true [] (List.replicate 65 0)).wf = false := by decide +kernel
theorem test_wf_fch : (Instr.fchDecode (zeros 9)).wf = false := by decide +kernel
theorem test_wf_accepts : (Instr.commit).wf = true ∧ (Instr.readFrame false [0x81, 0x30, 0x40]).wf = true := by decide

/-! ### The worked cases of spec/, and the vectors of the standards that Table 14-1 names -/

/-- 22_host_port_and_registers.md, worked case: the command byte 81h reads two words from 3040h. -/
theorem test_worked_read_header : parseFrame [0x81, 0x30, 0x40] = ⟨true, false, 2, 0x3040⟩ := by decide

/-- The same: 00h 94h 4Ch writes one word to THK_REOPEN. -/
theorem test_worked_write_header : parseFrame [0x00, 0x94, 0x4C] = ⟨false, false, 1, 0x944C⟩ := by decide

/-- The same: bit 3 of THK_REOPEN names MET, and stays set until the RE-OPEN completes. -/
theorem test_worked_reopen : (match Machine.exec (.registerWrite 0x944C 8) run with
    | .next t => t.fab.reopen == 8 | _ => false) = true := by decide +kernel

/-- 05_object_dictionary_model.md, worked case: the addresses of 09:051 and 09:052. -/
theorem test_worked_addresses : od 9 0x51 = 0x2451 ∧ od 9 0x52 = 0x2452 := by decide

/-- The same: the header of the WRITE. -/
theorem test_worked_write_pdu : parseHeader [0x21, 0, 0x53, 0x01, 0x2A, 0, 0, 0, 0x07, 0, 0x0A, 0]
    = { op := 1, keysel := .session, resp := false, reserved := false, status := 0, xid := 0x153, seq := 0x2A, session := 7, len := 10 } := by decide

/-- The same: its two records. -/
theorem test_worked_records : parseRecords [0x51, 0x24, 0x02, 0xBC, 0x02, 0x52, 0x24, 0x02, 0xB8, 0x0B]
    = some [⟨od 9 0x51, leBytes 2 700⟩, ⟨od 9 0x52, leBytes 2 3000⟩] := by decide +kernel

/-- 06_object_dictionary_catalogue.md, worked case: PilotStatus in Make with the contactor closed reads A5C3h. -/
theorem test_worked_pilot_status : odRead false { run with
      plt := { run.plt with state := .c, level := .pwm, band := .a32, duty := 1066 }, ses := { run.ses with phase := .make }
      swg := { run.swg with coilCmd := true, aux := true } } (od 8 0x10) = (0, [0xC3, 0xA5, 0, 0]) := by decide +kernel

/-- 07_pilot_and_proximity.md, worked case: 32 A is 1066 and 16 A is 533 in PLT_DUTY. -/
theorem test_worked_duty : dutyFor 320 = 1066 ∧ dutyFor 160 = 0x215 := by decide

/-- 11_converters_and_windows.md, worked case: 3FFAh is below LOW, 43FFh is not yet back inside, 4400h is. -/
theorem test_worked_window :
    let w : WinComp := { en := true, count := 5, hys := 0x400, low := 0x4000 }
    let x := (evalWindow false 0x3FFA w).1
    x.out = true ∧ x.cnt = 1 ∧ (evalWindow false 0x43FF x).1.out = true ∧ (evalWindow false 0x4400 x).1.out = false := by decide

/-- The same: the fifth result beyond LOW fires the window. -/
theorem test_worked_window_fires : (evalWindow false 0x3FF0 { en := true, count := 5, low := 0x4000, out := true, cnt := 4 }).2 = true := by decide

/-- 12_metrology.md, worked case: a period of 20.000 ms gives 50.0 Hz. -/
theorem test_worked_frequency : (match Machine.exec (.metrologyPeriodEnd 200000) { run with met := { run.met with goodPeriods := 1 } } with
    | .next t => t.met.freq == 0x00320000 | _ => false) = true := by decide +kernel

/-- 18_timers.md, worked case: what 005B_6000h configures. -/
theorem test_worked_timer_config : (match Machine.exec (.cfgWrite 0 0x005B6000) run with
    | .next t => let c := chan t 0
      c.clk == 0 && c.gateSrc == 6 && c.gateEn && c.gateLvl && c.capSrc == 6 && c.capEdge == 1 && c.filt == 0
    | _ => false) = true := by decide +kernel

/-- 15_zornouno_line_link.md, worked case: a frame of 30 bytes takes 40 ms in A-Q. -/
theorem test_worked_frame_time : frameUs false .q 30 = 40000 := by decide

/-- FIPS 180-4: SHA-256 of "abc" begins BA7816BF. -/
theorem test_sha256 : (sha256 (ascii "abc")).take 4 = [0xBA, 0x78, 0x16, 0xBF] := by decide +kernel

/-- FIPS 197, appendix B: the first word of the cipher text. -/
theorem test_aes128 : (aes128 (beBytes 16 0x2B7E151628AED2A6ABF7158809CF4F3C) (beBytes 16 0x3243F6A8885A308D313198A2E0370734)).take 4
    = [0x39, 0x25, 0x84, 0x1D] := by decide +kernel

/-- The check value of CRC-32C. -/
theorem test_crc32c : crc32c (ascii "123456789") = 0xE3069283 := by decide +kernel

/-! ### Open values do not stop a command -/

/-- R87: a RESETN pulse from 200 ns to 1 µs, whose effect the spec leaves open, completes. -/
theorem test_resetn_completes : ∃ t, Machine.exec (.resetn 500) run = .next t := ⟨_, rfl⟩

/-- The reset state settles and its frame buffers have their one form. -/
theorem test_reset_forms : Canonical State.reset.disp.fb0 ∧ Canonical State.reset.disp.fb1 ∧ State.reset.pending = [] := by decide +kernel

/-- States and operands that meet the hypotheses of FabricRequestsServed. -/
theorem test_meets_FabricRequestsServed :
    (∃ s ∈ ([up] : List State), Passes .read (goodReq .read) .seq s)
    ∧ (∃ s ∈ ([up] : List State), Passes .write (goodReq .write) .seq s)
    ∧ (∃ s ∈ ([up] : List State), Passes .writePosted (goodReq .writePosted) .seq s)
    ∧ (∃ s ∈ ([reopening2] : List State), Passes .reOpen (goodReq .reOpen) .seq s) := by decide +kernel

/-- States and operands that meet the hypotheses of ParityFirst. -/
theorem test_meets_ParityFirst :
    (∃ s ∈ ([up] : List State), islandOf (badReq .read).dst.toNat = some .seq ∧ s.flash.writable = true ∧
        NewRequest .read (badReq .read) s ∧ parityOk ⟨.read, badReq .read⟩ = false)
    ∧ (∃ s ∈ ([up] : List State), NewRequest .write (badReq .write) s ∧ parityOk ⟨.write, badReq .write⟩ = false)
    ∧ (∃ s ∈ ([reopening2] : List State), s.flash.writable = true ∧ NewRequest .reOpen (badReq .reOpen) s ∧
        parityOk ⟨.reOpen, badReq .reOpen⟩ = false)
    ∧ (∃ s ∈ ([without .seq .resetting up] : List State), NewRequest .writePosted (badReq .writePosted) s ∧
        parityOk ⟨.writePosted, badReq .writePosted⟩ = false) := by decide +kernel

/-- States and operands that meet the hypotheses of PortStatuses. -/
theorem test_meets_PortStatuses :
    (∃ s ∈ ([up] : List State), let r : Request := ⟨5, .aon, 12, 1, 4, 0, false⟩; let q := { r with par := parityBit .read r };
        NewRequest .read q s ∧ parityOk ⟨.read, q⟩ = true ∧ islandOf q.dst.toNat = none)
    ∧ (∃ s ∈ ([without .seq .resetting up] : List State), NewRequest .write (goodReq .write) s ∧ parityOk ⟨.write, goodReq .write⟩ = true ∧
        islandOf (goodReq .write).dst.toNat = some .seq ∧ isUp s .seq = false)
    ∧ (∃ s ∈ ([setPort up .seq { state := .up, epoch := 7 }] : List State), NewRequest .read (goodReq .read) s ∧
        parityOk ⟨.read, goodReq .read⟩ = true ∧ isUp s .seq = true ∧ epochOk s .seq ⟨.read, goodReq .read⟩ = false)
    ∧ (∃ s ∈ ([without .seq .resetting up] : List State), NewRequest .writePosted (goodReq .writePosted) s ∧
        parityOk ⟨.writePosted, goodReq .writePosted⟩ = true ∧ isUp s .seq = false)
    ∧ (∃ s ∈ ([setPort up .seq { state := .up, epoch := 7 }] : List State), NewRequest .writePosted (goodReq .writePosted) s ∧
        parityOk ⟨.writePosted, goodReq .writePosted⟩ = true ∧ epochOk s .seq ⟨.writePosted, goodReq .writePosted⟩ = false)
    ∧ (∃ s ∈ ([up] : List State), 5 ≤ (7 : BitVec 3).toNat ∧ NewRequest (readOp 7) (goodReq (readOp 7)) s ∧
        parityOk ⟨readOp 7, goodReq (readOp 7)⟩ = true ∧ isUp s .seq = true) := by decide +kernel

/-- States and operands that meet the hypotheses of HeldForWantOfTag. -/
theorem test_meets_HeldForWantOfTag :
    (∃ s ∈ ([up] : List State), tagsOf s .host < (allotment .host).1)
    ∧ (∃ s ∈ ([{ up with fab := { up.fab with flights := (List.range 1000).map fun n => ⟨.read, ⟨BitVec.ofNat 10 n, .host, 2, 1, 0, 0, false⟩⟩ } }] : List State),
        isUp s .host = true ∧ tagUsed s 1001 = false ∧ s.fab.held.any (·.req.tag == 1001) = false ∧ tagFree s .host = false ∧
        mayIssue .write { goodReq .write with tag := 1001 } s = true)
    ∧ (∃ s ∈ ([{ up with fab := { up.fab with held := [⟨.read, goodReq .read⟩] } }] : List State),
        s.fab.held.find? (·.req.src == .host) = some ⟨.read, goodReq .read⟩ ∧ s.fab.fences.any (·.src == .host) = false ∧
        tagFree s .host = true ∧ tagUsed s 5 = false ∧ overtakes s .host = false) := by decide +kernel

/-- States and operands that meet the hypotheses of FencesAndCompletions. -/
theorem test_meets_FencesAndCompletions :
    (∃ s ∈ ([up] : List State), isUp s .host = true ∧ tagUsed s 5 = false ∧ s.fab.held.any (·.req.tag == 5) = false ∧
        mustHold s .host = false ∧ parityOk ⟨.fence, goodReq .fence⟩ = true ∧ s.fab.flights.any (·.req.src == .host) = false)
    ∧ (∃ s ∈ ([{ up with fab := { up.fab with flights := [⟨.read, ⟨6, .host, 2, 1, 0, 0, false⟩⟩] } }] : List State), tagUsed s 5 = false ∧
        mustHold s .host = false ∧ parityOk ⟨.fence, goodReq .fence⟩ = true ∧ s.fab.flights.any (·.req.src == .host) = true)
    ∧ (∃ s ∈ ([up] : List State), mustHold s .host = false ∧ parityOk ⟨.fence, badReq .fence⟩ = false)
    ∧ (∃ s ∈ ([{ up with fab := { up.fab with completions := [⟨5, .host, 2, .reOpen, .ok, 1⟩] } }] : List State),
        oldestFor s .host = some ⟨5, .host, 2, .reOpen, .ok, 1⟩ ∧ isUp s .host = true ∧ islandOf 2 = some Island.seq) := by decide +kernel

/-- States and operands that meet the hypotheses of IslandCommands. -/
theorem test_meets_IslandCommands :
    (∃ s ∈ ([up] : List State), isUp s .host = true ∧ Island.seq ≠ .aon ∧ Island.seq ≠ .safe ∧ isUp s .seq = true ∧ Island.seq ≠ .host)
    ∧ (∃ s ∈ ([without .plc .poweredDown up] : List State), isUp s .host = true ∧ (port s .plc).state = .poweredDown)
    ∧ (∃ s ∈ ([up] : List State), isUp s .host = true ∧ 12 ≤ (12 : BitVec 4).toNat ∧ (0x800 : BitVec 12).getLsbD (islandNum .tmr) = true ∧
        (0x800 : BitVec 12).getLsbD (islandNum .aon) = false) := by decide +kernel

/-- States and operands that meet the hypotheses of ReopenAndReturn. -/
theorem test_meets_ReopenAndReturn :
    (∃ s ∈ ([reopening2] : List State), isUp s .host = true ∧ s.fab.reopen.getLsbD (islandNum .seq) = true ∧
        (0x800 : BitVec 12).getLsbD (islandNum .tmr) = true ∧ isUp s .seq = true ∧ isUp s .safe = true)
    ∧ (∃ s ∈ ([without .plc .resetting up] : List State), (port s .plc).state = .resetting ∧ mayReturn s .plc = true ∧
        s.tst.awaiting ≠ some .plc)
    ∧ (∃ s ∈ ([without .plc .reloading up] : List State), (port s .plc).state = .reloading)
    ∧ (∃ s ∈ ([setPort up .plc { state := .resetting, epoch := 255 }] : List State), mayReturn s .plc = true ∧
        (port s .plc).epoch = 255) := by decide +kernel

/-- States and operands that meet the hypotheses of ResetSources. -/
theorem test_meets_ResetSources :
    (∃ s ∈ ([up] : List State), 199 < 200 ∧ 1000 ≤ 1000 ∧ resetWaits .pin s = false ∧ 200 ≤ 200 ∧ 999 < 1000)
    ∧ (∃ s ∈ ([{ up with pwr := { up.pwr with brown := { active := true } } }] : List State), 1000 ≤ 1000 ∧ resetWaits .pin s = true)
    ∧ (∃ s ∈ ([{ up with pwr := { up.pwr with heldResets := [.pin, .safeReq] } }] : List State), s.pwr.heldResets = [.pin, .safeReq] ∧
        [ResetCause.pin, .safeReq] ≠ [] ∧ s.tst.pending = false)
    ∧ (∃ s ∈ ([State.reset] : List State), s.pwr.resetHeld = true) := by decide +kernel

/-- States and operands that meet the hypotheses of SupplyMonitors. -/
theorem test_meets_SupplyMonitors :
    (∃ s ∈ ([{ up with plc := { up.plc with tx := some frameAB, txPaths := [.line] } }] : List State), s.plc.txPaths.contains .line = true)
    ∧ (∃ s ∈ ([{ up with disp := { up.disp with pixelMode := true } }] : List State), s.disp.pixelMode = true ∧
        s.plc.txPaths.contains .line = false)
    ∧ (∃ s ∈ ([setPort up .host {}] : List State), isUp s .safe = true ∧ hasCome s .host = false)
    ∧ (∃ s ∈ ([setPort up .plc { state := .reloading, epoch := 1 }] : List State), hasCome s .host = true ∧ s.sup.xtalOk = true ∧
        (port s .plc).state = .reloading ∧ isUp s .seq = true)
    ∧ (∃ s ∈ ([{ up with sup := { up.sup with pfail := true } }] : List State), s.safe.startHold = true ∧ s.sup.pfail = true ∧
        s.pwr.resetHeld = false ∧ s.flash.writable = true)
    ∧ (∃ s ∈ ([{ up with met := { up.met with mainsLoss := true }, live := { up.live with highHalf := #v[true, true, true] } }] : List State),
        isUp s .met = true ∧ s.met.mainsLoss = true ∧ mainsGood s = true)
    ∧ (∃ s ∈ ([{ up with met := { up.met with mainsLoss := true } }] : List State), isUp s .met = true ∧ s.met.mainsLoss = true ∧
        mainsGood s = false)
    ∧ (∃ s ∈ ([up] : List State), isUp s .met = true ∧ s.met.mainsLoss = false) := by decide +kernel

/-- States and operands that meet the hypotheses of BootRows. -/
theorem test_meets_BootRows_partA :
    (∃ s ∈ ([{ State.reset with pwr := { State.reset.pwr with resetHeld := false } }] : List State), s.pwr.resetHeld = false ∧
        (port s .aon).state = .notYetUp ∧ (port s .aon).epoch = 0 ∧ bootDue s .aon = true)
    ∧ (∃ s ∈ ([setPort up .seq {}] : List State), isUp s .sec = true ∧ hasCome s .seq = false ∧ s.pwr.imageOk = false ∧
        s.pwr.loaderState = false ∧ s.fw.request ≠ 1 ∧ imageValid s = true)
    ∧ (∃ s ∈ ([{ up with pwr := { up.pwr with settingsRestored := false, fromNothing := false }, cfg := { up.cfg with begun := 1, done := 1, valid := 1, newest := 0 }, areas := { up.areas with grant := false, protocol := false, deviceRt := false, evidence := false } }] : List State),
        s.pwr.loaderState = false ∧ isUp s .seq = true ∧ isUp s .sec = true ∧ restoreRowDone s = false ∧
        (chooseSource true s).isSome = true ∧ s.od.waiting = [] ∧ s.pwr.fromNothing = false) := by decide +kernel

/-- States and operands that meet the hypotheses of BootRows. -/
theorem test_meets_BootRows_partB :
    (∃ s ∈ ([{ up with pwr := { up.pwr with homingStarted := false, homingDone := false }, safe := { up.safe with sealAccepted := true, pos := 0x20 } }] : List State),
        s.pwr.settingsRestored = true ∧ s.safe.startHold = true ∧ s.pwr.homingStarted = false ∧ s.pwr.loaderState = false ∧
        isUp s .tmr = true ∧ s.safe.sealAccepted = true ∧ s.pwr.brown.active = false ∧ homingSkipped s = false ∧ s.lck.limUnlocked = false ∧
        s.lck.hallKnown = false)
    ∧ (∃ s ∈ ([{ up with pwr := { up.pwr with homingStarted := false, homingDone := false }, safe := { up.safe with sealAccepted := true, pos := 0x20 }, lck := { up.lck with limUnlocked := true } }] : List State),
        s.pwr.homingStarted = false ∧ homingSkipped s = false ∧ s.lck.limUnlocked = true)
    ∧ (∃ s ∈ ([{ up with pwr := { up.pwr with homingStarted := false, homingDone := false }, safe := { up.safe with sealAccepted := true, pos := 0 } }] : List State),
        s.safe.startHold = true ∧ s.pwr.homingStarted = false ∧ isUp s .tmr = true ∧ s.safe.sealAccepted = true ∧ homingSkipped s = true)
    ∧ (∃ s ∈ ([{ up with safe := { up.safe with sealAccepted := true, sealValid := true, sealStable := 9, passed := 0x3FF, pos := 0xE6 }, rcd := { up.rcd with excLock := true }, adc := { up.adc with calibrated := 0xF, listsRun := true }, met := { up.met with valid := true } }] : List State),
        mayRelease s = true ∧ s.boot.stage ≠ 8) := by decide +kernel

/-- States and operands that meet the hypotheses of BrownOutSequence. -/
theorem test_meets_BrownOutSequence :
    (∃ s ∈ ([{ run with bil := { run.bil with pendState := .open, pendCrcOk := true } }] : List State), s.pwr.resetHeld = false ∧
        s.pwr.brown.active = false ∧ s.pwr.billing = true ∧ s.pwr.loaderState = false ∧ s.bil.pendState = .open)
    ∧ (∃ s ∈ ([up] : List State), s.pwr.resetHeld = false ∧ s.pwr.brown.active = false ∧ s.pwr.billing = false)
    ∧ (∃ s ∈ ([{ run with pwr := { run.pwr with brown := { active := true, earlyWarning := false, duringBoot := false } } }] : List State),
        s.pwr.brown.active = true ∧ s.pwr.brown.earlyWarning = false ∧ s.pwr.brown.duringBoot = false ∧ s.pwr.resetHeld = false ∧
        s.set.commit = none)
    ∧ (∃ s ∈ ([{ run with pwr := { run.pwr with brown := { active := true, earlyWarning := true, duringBoot := false } } }] : List State),
        s.pwr.brown.active = true ∧ s.pwr.brown.earlyWarning = true ∧ s.pwr.brown.duringBoot = false ∧ s.set.commit = none)
    ∧ (∃ s ∈ ([{ run with pwr := { run.pwr with brown := { active := true, earlyWarning := true, duringBoot := false } }, set := { run.set with commit := some ⟨1, [], 0, true, 0, ⟨.mailbox, .session, 1, 0⟩⟩ } }] : List State),
        s.pwr.brown.active = true ∧ s.pwr.brown.earlyWarning = true ∧ s.pwr.brown.duringBoot = false ∧ s.set.commit ≠ none)
    ∧ (∃ s ∈ ([{ run with pwr := { run.pwr with brown := { active := true, earlyWarning := false, duringBoot := true } } }] : List State),
        s.pwr.brown.active = true ∧ s.pwr.brown.duringBoot = true ∧ s.tst.scanning = false ∧ s.pwr.brown.earlyWarning = false)
    ∧ (∃ s ∈ ([{ run with pwr := { run.pwr with brown := { active := true, earlyWarning := true, duringBoot := true } } }] : List State),
        s.pwr.brown.duringBoot = true ∧ s.tst.scanning = false ∧ s.pwr.brown.earlyWarning = true) := by decide +kernel

/-- States and operands that meet the hypotheses of PilotPeriodsAndBands. -/
theorem test_meets_PilotPeriodsAndBands_partA :
    (∃ s ∈ ([{ run with plt := { run.plt with level := .pwm, nextLevel := .pwm, next := 300 } }] : List State), isUp s .tmr = true ∧
        s.plt.level ≠ .stateF ∧ s.ses.phase ≠ .break ∧ s.plt.nextLevel = .pwm)
    ∧ (∃ s ∈ ([{ run with plt := { run.plt with level := .pwm, nextLevel := .steady } }] : List State), s.plt.level ≠ .stateF ∧
        s.ses.phase ≠ .break ∧ s.plt.nextLevel ≠ .pwm)
    ∧ (∃ s ∈ ([{ run with plt := { run.plt with level := .stateF } }] : List State), isUp s .tmr = true ∧ s.plt.level = .stateF)
    ∧ (∃ s ∈ ([{ inSes .break with plt := { run.plt with level := .pwm, nextLevel := .steady }, ses := { (inSes .break).ses with breakStep := 5, breakStop := 2 } }] : List State),
        s.plt.level ≠ .stateF ∧ s.ses.phase = .break ∧ s.ses.breakStep = 5 ∧ s.plt.nextLevel ≠ .pwm ∧ s.ses.breakStop ≠ 0 ∧
        s.ses.inUse = true)
    ∧ (∃ s ∈ ([{ inSes .break with plt := { run.plt with level := .pwm, nextLevel := .steady }, ses := { (inSes .break).ses with breakStep := 5, breakStop := 6, inUse := false } }] : List State),
        s.ses.phase = .break ∧ s.ses.breakStep = 5 ∧ s.plt.nextLevel ≠ .pwm ∧ s.ses.breakStop ≠ 0 ∧ s.ses.inUse = false)
    ∧ (∃ s ∈ ([{ inSes .break with plt := { run.plt with level := .pwm, nextLevel := .steady }, ses := { (inSes .break).ses with breakStep := 5, allowed := 59 } }] : List State),
        s.ses.phase = .break ∧ s.ses.breakStep = 5 ∧ s.plt.nextLevel ≠ .pwm ∧ s.ses.breakStop = 0 ∧
        s.ses.allowed.toNat < 60) := by decide +kernel

/-- States and operands that meet the hypotheses of PilotPeriodsAndBands. -/
theorem test_meets_PilotPeriodsAndBands_partB :
    (∃ s ∈ ([{ lists with plt := { run.plt with state := .b } }] : List State), isUp s .tmr = true ∧ adcRuns s = true ∧
        s.plt.classifying = true ∧ s.plt.level ≠ .stateF ∧ readingOf s.plt.state (9000 : BitVec 16).toInt = s.plt.state)
    ∧ (∃ s ∈ ([{ lists with plt := { run.plt with state := .a, candidate := .b, count := 2 } }] : List State),
        readingOf s.plt.state (9000 : BitVec 16).toInt ≠ s.plt.state ∧ readingOf s.plt.state (9000 : BitVec 16).toInt = s.plt.candidate ∧
        2 ≤ s.plt.count.toNat ∧ adcRuns s = true)
    ∧ (∃ s ∈ ([{ lists with plt := { run.plt with state := .a, candidate := .b, count := 1 } }] : List State),
        readingOf s.plt.state (9000 : BitVec 16).toInt = s.plt.candidate ∧ s.plt.count.toNat < 2)
    ∧ (∃ s ∈ ([{ lists with plt := { run.plt with state := .a, candidate := .c, count := 2 } }] : List State),
        readingOf s.plt.state (9000 : BitVec 16).toInt ≠ s.plt.state ∧ readingOf s.plt.state (9000 : BitVec 16).toInt ≠ s.plt.candidate)
    ∧ (∃ s ∈ ([{ run with plt := { run.plt with holdF := true, level := .stateF } }] : List State), s.plt.holdF = true ∧
        s.safe.active = false ∧ s.pwr.brown.active = false)
    ∧ (∃ s ∈ ([{ run with plt := { run.plt with holdF := true, level := .stateF }, safe := { run.safe with active := true } }] : List State),
        s.plt.holdF = true ∧ s.safe.active = true)
    ∧ (∃ s ∈ ([{ lists with plt := { run.plt with level := .stateF, candidate := .f, count := 2 } }] : List State), adcRuns s = true ∧
        s.plt.classifying = true ∧ s.plt.level = .stateF ∧ -10500 < (-10499 : BitVec 16).toInt ∧ (-10500 : BitVec 16).toInt ≤ -10500 ∧
        s.plt.state ≠ .f ∧ s.plt.candidate = .f ∧ 2 ≤ s.plt.count.toNat)
    ∧ (∃ s ∈ ([{ lists with plt := { run.plt with level := .stateF } }] : List State), s.plt.level = .stateF ∧ s.plt.state ≠ .f ∧
        s.plt.candidate ≠ .f) := by decide +kernel

/-- States and operands that meet the hypotheses of DiodeCheck. -/
theorem test_meets_DiodeCheck :
    (∃ s ∈ ([{ lists with plt := { run.plt with level := .pwm, diodeCount := 1 } }] : List State), isUp s .tmr = true ∧ adcRuns s = true ∧
        s.plt.classifying = true ∧ s.plt.level = .pwm ∧ (-10500 : BitVec 16).toInt ≤ -10500 ∧ -10500 < (-10499 : BitVec 16).toInt ∧
        s.plt.diodeCount.toNat < 2)
    ∧ (∃ s ∈ ([{ lists with plt := { run.plt with level := .pwm, diodeCount := 2 } }] : List State), adcRuns s = true ∧ s.plt.level = .pwm ∧
        2 ≤ s.plt.diodeCount.toNat)
    ∧ (∃ s ∈ ([lists] : List State), isUp s .tmr = true ∧ adcRuns s = true ∧ s.plt.classifying = true ∧ s.plt.level = .steady)
    ∧ (∃ s ∈ ([inSes .offered] : List State), isUp s .tmr = true ∧ adcRuns s = true ∧ s.plt.classifying = true ∧
        mayMake s = true) := by decide +kernel

/-- States and operands that meet the hypotheses of ProximityAndLogs. -/
theorem test_meets_ProximityAndLogs :
    (∃ s ∈ ([{ lists with plt := { run.plt with band := .a32, bandCand := .a32, bandCount := 2 } }] : List State), isUp s .tmr = true ∧
        adcRuns s = true ∧ s.plt.vrefWithheld = false ∧ ohmsBand (ppOhms 14185) = .a32 ∧ s.plt.bandCand = .a32 ∧ 2 ≤ s.plt.bandCount)
    ∧ (∃ s ∈ ([{ lists with plt := { run.plt with band := .open, bandCand := .open } }] : List State),
        stillInBand s.plt.band (ppOhms 14185) = false ∧ ohmsBand (ppOhms 14185) ≠ s.plt.bandCand ∧ adcRuns s = true)
    ∧ (∃ s ∈ ([{ lists with plt := { run.plt with vrefWithheld := true } }] : List State), s.plt.vrefWithheld = true)
    ∧ (∃ s ∈ ([{ inSes .charging with met := { run.met with iRms := #v[0x300000, 0, 0, 0] } }] : List State), sessionOn s = true ∧
        s.ses.overdrawLogged.getLsbD (phaseNum .l1) = false ∧ (phases s).contains (phaseNum .l1) = true ∧ overdrawn (phaseNum .l1) s = true)
    ∧ (∃ s ∈ ([{ inSes .charging with ses := { (inSes .charging).ses with overdrawLogged := 1 } }] : List State),
        s.ses.overdrawLogged.getLsbD (phaseNum .l1) = true ∧ overdrawn (phaseNum .l2) s = false)
    ∧ (∃ s ∈ ([{ run with plt := { run.plt with band := .outside } }] : List State), s.plt.band = .outside ∧ sessionOn s = false ∧
        s.plt.outsideLogged = false)
    ∧ (∃ s ∈ ([{ run with plt := { run.plt with band := .outside, outsideLogged := true } }] : List State),
        s.plt.outsideLogged = true) := by decide +kernel

/-- States and operands that meet the hypotheses of MakeSteps. -/
theorem test_meets_MakeSteps_partA :
    (∃ s ∈ ([inSes .offered] : List State), mayMake s = true ∧ s.swg.gateCmd = 0 ∧ s.swg.gateFb = 0)
    ∧ (∃ s ∈ ([{ inSes .offered with swg := { run.swg with gateFb := 1 } }] : List State), mayMake s = true ∧ s.swg.gateCmd = 0 ∧
        s.swg.gateFb ≠ 0)
    ∧ (∃ s ∈ ([{ inSes .make with ses := { (inSes .make).ses with makeStep := 1 } }] : List State), isUp s .tmr = true ∧
        s.ses.phase = .make ∧ s.ses.makeStep = 1)
    ∧ (∃ s ∈ ([{ inSes .make with ses := { (inSes .make).ses with makeStep := 3 }, swg := { run.swg with coilCmd := true } }] : List State),
        s.ses.phase = .make ∧ s.ses.makeStep = 3 ∧ s.swg.aux = false ∧ s.ses.inUse = true)
    ∧ (∃ s ∈ ([{ inSes .make with ses := { (inSes .make).ses with makeStep := 3 }, swg := { run.swg with coilCmd := true, aux := true } }] : List State),
        s.ses.phase = .make ∧ s.ses.makeStep = 3 ∧ s.swg.aux = true ∧ gateBar s = none)
    ∧ (∃ s ∈ ([{ inSes .make with ses := { (inSes .make).ses with makeStep := 3 }, swg := { run.swg with coilCmd := true, aux := true }, safe := { run.safe with sealValid := false } }] : List State),
        s.ses.phase = .make ∧ s.ses.makeStep = 3 ∧ s.swg.aux = true ∧ (gateBar s).isSome = true) := by decide +kernel

/-- States and operands that meet the hypotheses of MakeSteps. -/
theorem test_meets_MakeSteps_partB :
    (∃ s ∈ ([{ inSes .make with ses := { (inSes .make).ses with makeStep := 3, pulledIn := true }, swg := { run.swg with coilCmd := true } }] : List State),
        isUp s .tmr = true ∧ s.ses.phase = .make ∧ s.ses.makeStep = 3 ∧ s.ses.pulledIn = true ∧ s.swg.coilCmd = true ∧ gateBar s = none)
    ∧ (∃ s ∈ ([{ inSes .make with ses := { (inSes .make).ses with makeStep := 5 }, swg := { run.swg with coilCmd := true, aux := true, gateCmd := 8 }, met := { run.met with beyond10 := #v[true, false, false] } }] : List State),
        s.ses.phase = .make ∧ s.ses.makeStep = 5 ∧ (phases s).contains (phaseNum .l1) = true ∧
        s.swg.gateCmd.getLsbD (phaseNum .l1) = false ∧ s.swg.aux = true ∧ gateBar s = none ∧ isUp s .met = true ∧ isUp s .tmr = true ∧
        s.met.beyond10.toList.getD (phaseNum .l1) false = true ∧ s.met.beyond10.toList.getD (phaseNum .l2) false = false)
    ∧ (∃ s ∈ ([{ inSes .make with ses := { (inSes .make).ses with makeStep := 5 }, swg := { run.swg with coilCmd := true, aux := true, gateCmd := 9 } }] : List State),
        isUp s .tmr = true ∧ s.ses.phase = .make ∧ s.ses.makeStep = 5 ∧ s.swg.gateCmd = declaredGates s ∧
        s.glt.kill = false) := by decide +kernel

/-- States and operands that meet the hypotheses of BreakSteps. -/
theorem test_meets_BreakSteps_partA :
    (∃ s ∈ ([{ inSes .charging with swg := { run.swg with coilCmd := true, aux := true, gateCmd := 9, gateFb := 9 } }] : List State),
        isUp s .tmr = true ∧ s.ses.phase ≠ .make ∧ s.ses.phase ≠ .break ∧
        ((8 : BitVec 4) &&& declaredGates s) ≠ (if s.glt.kill then 0 else s.swg.gateCmd))
    ∧ (∃ s ∈ ([{ inSes .break with ses := { (inSes .break).ses with breakStep := 2, breakStop := 2 }, swg := { run.swg with coilCmd := true, aux := true } }] : List State),
        isUp s .met = true ∧ s.ses.phase = .break ∧ s.ses.breakStep = 2 ∧ s.swg.gateFb = 0 ∧ s.swg.coilCmd = true ∧ s.swg.aux = true)
    ∧ (∃ s ∈ ([{ inSes .break with ses := { (inSes .break).ses with breakStep := 2, breakStop := 2 }, swg := { run.swg with coilCmd := true, aux := true, gateFb := 1 } }] : List State),
        isUp s .met = true ∧ s.ses.phase = .break ∧ s.ses.breakStep = 2 ∧ s.swg.gateFb ≠ 0 ∧ s.swg.coilCmd = true)
    ∧ (∃ s ∈ ([{ inSes .break with ses := { (inSes .break).ses with breakStep := 3, breakStop := 2 }, swg := { run.swg with coilCmd := true, aux := true, gateFb := 1 } }] : List State),
        s.ses.phase = .break ∧ 1 ≤ s.ses.breakStep ∧ s.ses.breakStep ≤ 3 ∧ s.swg.aux = true)
    ∧ (∃ s ∈ ([{ inSes .break with ses := { (inSes .break).ses with breakStep := 4, breakStop := 2 }, swg := { run.swg with coilCmd := true, aux := true } }] : List State),
        s.ses.phase = .break ∧ s.ses.breakStep = 4 ∧ s.swg.aux = true ∧ s.plt.level = .pwm) := by decide +kernel

/-- States and operands that meet the hypotheses of BreakSteps. -/
theorem test_meets_BreakSteps_partB :
    (∃ s ∈ ([{ run with swg := { run.swg with interlock := true, heldCoil := some true } }] : List State), s.swg.interlock = true ∧
        s.swg.heldCoil = some true ∧ s.swg.gateFb = 0 ∧ s.swg.heldGates = 0)
    ∧ (∃ s ∈ ([{ run with swg := { run.swg with interlock := true, heldCoil := some false, coilCmd := true, aux := true } }] : List State),
        s.swg.interlock = true ∧ s.swg.heldCoil = some false ∧ s.swg.gateFb = 0 ∧ s.swg.coilCmd = true ∧ s.swg.aux = true)
    ∧ (∃ s ∈ ([{ run with swg := { run.swg with interlock := true, aux := true, heldGates := 8 } }] : List State), s.swg.interlock = true ∧
        s.swg.heldCoil = none ∧ s.swg.aux = true ∧ s.swg.heldGates ≠ 0)
    ∧ (∃ s ∈ ([{ lists with swg := { run.swg with coilCmd := true } }] : List State), isUp s .tmr = true ∧ adcRuns s = true ∧
        s.swg.coilCmd = true ∧ s.swg.openLoop = false ∧ 3000 < (3001 : BitVec 16).toNat ∧
        senseFails (((800, s.swg.coilDuty) :: s.swg.recent).take 10) 800 = false ∧ s.ses.phase ≠ .make)
    ∧ (∃ s ∈ ([lists] : List State), isUp s .tmr = true ∧ adcRuns s = true ∧ s.swg.coilCmd = false) := by decide +kernel

/-- States and operands that meet the hypotheses of LockMoves. -/
theorem test_meets_LockMoves_partA :
    (∃ s ∈ ([{ run with lck := { run.lck with queued := some true } }] : List State), isUp s .tmr = true ∧ lockFitted s = true ∧
        s.lck.queued = some true ∧ s.lck.moving = none ∧ s.lck.drive = .free ∧ s.lck.faults = 0 ∧ safeInForce s = false ∧
        s.pwr.brown.active = false ∧ s.lck.limLocked = false ∧ s.lck.hallKnown = false)
    ∧ (∃ s ∈ ([{ run with lck := { run.lck with queued := some false, hallKnown := true } }] : List State), s.lck.queued = some false ∧
        s.lck.moving = none ∧ s.lck.drive = .free ∧ s.lck.faults = 0 ∧ safeInForce s = false ∧ s.lck.limUnlocked = false ∧
        s.lck.hallKnown = true ∧ s.lck.hallOk = false)
    ∧ (∃ s ∈ ([{ run with lck := { run.lck with faults := 1 } }] : List State), isUp s .tmr = true ∧ lockFitted s = true ∧
        s.lck.faults ≠ 0 ∧ 4 < 5 ∧ 4 ≤ 4)
    ∧ (∃ s ∈ ([{ run with lck := { run.lck with moving := some true, drive := .locking } }] : List State), isUp s .tmr = true ∧
        lockFitted s = true ∧ s.lck.moving = some true ∧ s.lck.homing = false ∧ s.lck.limUnlocked = false ∧ s.lck.moving ≠ none)
    ∧ (∃ s ∈ ([{ run with lck := { run.lck with limUnlocked := true } }] : List State), isUp s .tmr = true ∧ lockFitted s = true ∧
        s.lck.limUnlocked = true)
    ∧ (∃ s ∈ ([{ run with lck := { run.lck with drive := .brake, afterBrake := 2 } }] : List State),
        s.lck.drive = .brake) := by decide +kernel

/-- States and operands that meet the hypotheses of LockMoves. -/
theorem test_meets_LockMoves_partB :
    (∃ s ∈ ([{ lists with lck := { run.lck with moving := some true, drive := .locking } }] : List State), isUp s .tmr = true ∧
        lockFitted s = true ∧ adcRuns s = true ∧ s.lck.moving ≠ none ∧ 1000 ≤ (1000 : BitVec 16).toNat ∧ (20000 : BitVec 16).toNat ≤ 20000 ∧
        (999 : BitVec 16).toNat < 1000)
    ∧ (∃ s ∈ ([{ lists with lck := { run.lck with state := 2, limLocked := true, hallOk := true } }] : List State), adcRuns s = true ∧
        s.lck.moving = none ∧ s.lck.state = 2 ∧ s.lck.limLocked = true ∧ 20000 < (20001 : BitVec 16).toNat ∧ s.lck.faults.getLsbD 2 = false)
    ∧ (∃ s ∈ ([{ run with ses := { run.ses with unlockWaits := true } }] : List State), isUp s .tmr = true ∧ lockFitted s = true ∧
        s.ses.unlockWaits = true ∧ s.plt.state = .a ∧ s.safe.active = false ∧ s.lck.faults = 0) := by decide +kernel

/-- States and operands that meet the hypotheses of ResidualCurrent. -/
theorem test_meets_ResidualCurrent :
    (∃ s ∈ ([{ lists with rcd := { run.rcd with goodHalves := 1, miss := 3, excLock := true, stream := [0x100] } }] : List State),
        isUp s .adc = true ∧ 20 ≤ (20 : Byte).toNat ∧ (60 : Byte).toNat ≤ 60 ∧ 1 ≤ s.rcd.goodHalves ∧ s.rcd.miss = 3 ∧
        (19 : Byte).toNat < 20 ∧ 60 < (61 : Byte).toNat ∧ adcRuns s = true ∧ s.rcd.excLock = true ∧ residualSamples s ≠ [])
    ∧ (∃ s ∈ ([run] : List State), isUp s .adc = true ∧ s.rcd.excLock = false) := by decide +kernel

/-- States and operands that meet the hypotheses of GradedTrips. -/
theorem test_meets_GradedTrips :
    (∃ s ∈ ([setWin 10 { en := true, src := 0x11, count := 100, high := 509, hys := 51, out := true, cnt := 99 } { run with rcd := { run.rcd with dcArmed := true, excLock := true } }] : List State),
        0 < 6 ∧ levelArmed s 0 = true ∧ (winAt s (10 + 0)).en = true ∧ s.rcd.windingRun = false ∧ (winAt s (10 + 0)).out = true ∧
        (winAt s (10 + 0)).cnt + 1 = (winAt s (10 + 0)).count ∧ (winAt s (10 + 0)).cnt ≠ 255 ∧
        backInside false (winAt s (10 + 0)) 600 = false ∧ s.pwr.brown.active = false)
    ∧ (∃ s ∈ ([setWin 10 { en := true, src := 0x11, count := 100, high := 509, hys := 51, out := true, cnt := 99 } { run with rcd := { run.rcd with dcArmed := true, excLock := true }, pwr := { run.pwr with brown := { active := true } } }] : List State),
        levelArmed s 0 = true ∧ s.rcd.windingRun = false ∧ (winAt s (10 + 0)).cnt + 1 = (winAt s (10 + 0)).count ∧
        backInside false (winAt s (10 + 0)) 600 = false ∧ s.pwr.brown.active = true ∧ safeInForce s = false)
    ∧ (∃ s ∈ ([setWin 10 { en := true, src := 0x11, count := 100, high := 509, hys := 51, out := true, cnt := 50 } { run with rcd := { run.rcd with dcArmed := true, excLock := true } }] : List State),
        levelArmed s 0 = true ∧ (winAt s (10 + 0)).en = true ∧ s.rcd.windingRun = false ∧ (winAt s (10 + 0)).out = true ∧
        backInside false (winAt s (10 + 0)) 458 = true) := by decide +kernel

/-- States and operands that meet the hypotheses of FastComparators. -/
theorem test_meets_FastComparators :
    (∃ s ∈ ([run] : List State), (conductors s).contains (conductorNum .l1) = true ∧ (conductors s).contains (conductorNum .l2) = false ∧
        diverted s (fcNum .fc0) = false ∧ s.glt.trip = 0 ∧ isUp s .adc = true ∧ isUp s .safe = true ∧ s.glt.testing = 0 ∧
        s.glt.testFail = 0 ∧ s.pwr.brown.active = false)
    ∧ (∃ s ∈ ([{ run with glt := { run.glt with trip := 1, first := 1, kill := true }, pwr := { run.pwr with brown := { active := true } } }] : List State),
        (conductors s).contains (conductorNum .l1) = true ∧ diverted s (fcNum .fc3) = false ∧ s.glt.trip ≠ 0 ∧ s.pwr.brown.active = true ∧
        safeInForce s = false)
    ∧ (∃ s ∈ ([{ run with glt := { run.glt with testing := 1 } }] : List State), fcNum .fc0 ≠ 3 ∧ diverted s (fcNum .fc0) = true ∧
        s.glt.testing.getLsbD (fcNum .fc0) = true ∧ s.glt.testing ≠ 0 ∧ s.rcd.windingStep ≠ 4)
    ∧ (∃ s ∈ ([{ run with glt := { run.glt with testing := 8 } }] : List State), (conductors s).contains (conductorNum .l1) = true ∧
        diverted s (fcNum .fc3) = true ∧ s.glt.testing.getLsbD (fcNum .fc3) = true) := by decide +kernel

/-- States and operands that meet the hypotheses of TestWinding. -/
theorem test_meets_TestWinding :
    (∃ s ∈ ([run] : List State), windingMay s = true ∧ s.ses.windingDue = true)
    ∧ (∃ s ∈ ([{ run with rcd := { run.rcd with windingRun := true, windingStep := 1, baseline := true } }] : List State),
        isUp s .adc = true ∧ s.rcd.windingRun = true ∧ s.rcd.windingStep = 1 ∧ s.rcd.baseline = true)
    ∧ (∃ s ∈ ([{ run with rcd := { run.rcd with windingRun := true, windingStep := 1 } }] : List State), s.rcd.windingRun = true ∧
        s.rcd.windingStep = 1 ∧ s.rcd.baseline = false)
    ∧ (∃ s ∈ ([{ run with rcd := { run.rcd with windingRun := true, windingStep := 2, dc := 800 } }] : List State), s.rcd.windingStep = 2 ∧
        800 ≤ s.rcd.dc.toInt ∧ s.rcd.dc.toInt ≤ 1200 ∧ s.rcd.dcArmed = false)
    ∧ (∃ s ∈ ([{ run with rcd := { run.rcd with windingRun := true, windingStep := 3, ac := 1200 } }] : List State), s.rcd.windingStep = 3 ∧
        800 ≤ s.rcd.ac.toNat ∧ s.rcd.ac.toNat ≤ 1200)
    ∧ (∃ s ∈ ([{ run with rcd := { run.rcd with windingRun := true, windingStep := 4 } }] : List State), s.rcd.windingStep = 4 ∧
        s.glt.active.getLsbD 0 = false)
    ∧ (∃ s ∈ ([{ run with rcd := { run.rcd with windingRun := true, windingStep := 4 }, glt := { run.glt with active := 1 } }] : List State),
        isUp s .adc = true ∧ s.rcd.windingStep = 4 ∧ s.glt.active.getLsbD 0 = true ∧ s.glt.testing.getLsbD 0 = false)
    ∧ (∃ s ∈ ([{ run with rcd := { run.rcd with windingRun := true, windingStep := 5, fc0Ok := true } }] : List State),
        s.rcd.windingStep = 5 ∧ s.rcd.fc0Ok = true)
    ∧ (∃ s ∈ ([{ run with rcd := { run.rcd with windingRun := true, windingStep := 2, dc := 799 } }] : List State),
        s.rcd.windingRun = true ∧ s.rcd.windingStep = 2 ∧ s.rcd.dc.toInt < 800)
    ∧ (∃ s ∈ ([inSes .offered] : List State), mayMake s = true) := by decide +kernel

/-- States and operands that meet the hypotheses of SafeStateEntry. -/
theorem test_meets_SafeStateEntry :
    (∃ s ∈ ([{ inSes .offered with safe := { run.safe with reports := [0x101, 0x301] } }] : List State), isUp s .safe = true ∧
        safeInForce s = false ∧ s.safe.reports ≠ [])
    ∧ (∃ s ∈ ([{ inSes .charging with swg := { run.swg with coilCmd := true, aux := true, gateCmd := 9, gateFb := 9 }, safe := { run.safe with reports := [0x101] } }] : List State),
        isUp s .safe = true ∧ safeInForce s = false ∧ s.safe.reports ≠ [])
    ∧ (∃ s ∈ ([{ inSes .make with ses := { (inSes .make).ses with makeStep := 3 }, swg := { run.swg with heldCoil := some true, interlock := true }, safe := { run.safe with reports := [0x101] } }] : List State),
        isUp s .safe = true ∧ safeInForce s = false ∧ s.safe.reports ≠ [])
    ∧ (∃ s ∈ ([{ up with safe := { up.safe with reports := [0x101, 0x301] } }] : List State), isUp s .safe = true ∧ safeInForce s = false ∧
        s.safe.reports ≠ []) := by decide +kernel

/-- States and operands that meet the hypotheses of SafetyWatches. -/
theorem test_meets_SafetyWatches_partA :
    (∃ s ∈ ([run] : List State), isUp s .safe = true ∧ s.safe.reports = [] ∧ s.swg.aux = s.swg.coilCmd ∧ xtalHasRun s = true ∧
        Island.seq ≠ .safe ∧ isUp s .seq = true ∧ underTest s .seq = false)
    ∧ (∃ s ∈ ([{ run with swg := { run.swg with aux := true }, live := { run.live with auxDiffers := 148 } }] : List State),
        isUp s .safe = true ∧ s.safe.reports = [] ∧ s.live.auxDiffers < 149)
    ∧ (∃ s ∈ ([{ run with swg := { run.swg with aux := true }, live := { run.live with auxDiffers := 149 } }] : List State),
        isUp s .safe = true ∧ isUp s .tmr = true ∧ s.safe.reports = [] ∧ safeInForce s = false ∧ s.ses.phase ≠ .make ∧
        s.ses.phase ≠ .break ∧ s.swg.aux ≠ s.swg.coilCmd ∧ 149 ≤ s.live.auxDiffers ∧ 0x208 ∉ s.live.standing)
    ∧ (∃ s ∈ ([{ run with safe := { run.safe with misses := pset (pset run.safe.misses .seq 2) .aon 2 } }] : List State),
        isUp s .seq = true ∧ underTest s .seq = false ∧ pget s.safe.misses .seq = 2 ∧ Island.seq ≠ .aon ∧ isUp s .aon = true ∧
        underTest s .aon = false ∧ pget s.safe.misses .aon = 2)
    ∧ (∃ s ∈ ([{ lists with adc := { lists.adc with refValue := #v[10000, 10000, 10000, 10000], refSeen := 0xE }, safe := { run.safe with refBad := #v[1, 0, 0, 0] } }] : List State),
        isUp s .safe = true ∧ isUp s .adc = true ∧ s.adc.listsRun = true ∧
        refNear (s.adc.refValue.toList.getD (convNum .a0) 0) 10010 = true ∧ setBit s.adc.refSeen (convNum .a0) = 0xF ∧
        refNear (s.adc.refValue.toList.getD (convNum .a0) 0) 10011 = false ∧ 1 ≤ s.safe.refBad.toList.getD (convNum .a0) 0)
    ∧ (∃ s ∈ ([{ lists with adc := { lists.adc with refValue := #v[10000, 10000, 10000, 10000] } }] : List State),
        refNear (s.adc.refValue.toList.getD (convNum .a0) 0) 10010 = true ∧ setBit s.adc.refSeen (convNum .a0) ≠ 0xF) := by decide +kernel

/-- States and operands that meet the hypotheses of SafetyWatches. -/
theorem test_meets_SafetyWatches_partB :
    (∃ s ∈ ([{ run with safe := { run.safe with active := true, startHold := false, needsReset := true } }] : List State),
        safeInForce s = true ∧ s.safe.needsReset = true ∧ resetWaits .safeReq s = false)
    ∧ (∃ s ∈ ([{ run with glt := { run.glt with safeFault := true }, set := { run.set with commit := some ⟨1, [], 0, true, 0, ⟨.mailbox, .session, 1, 0⟩⟩ } }] : List State),
        s.glt.safeFault = true ∧ resetWaits .safeReq s = true)
    ∧ (∃ s ∈ ([{ run with safe := { run.safe with active := true, startHold := false, passed := 0x1E7, seen := [0x401], cause := 0x401, evidence := [[1], [2]] }, plt := { run.plt with level := .stateF, nextLevel := .stateF } }] : List State),
        s.flash.writable = true ∧ s.safe.evidence ≠ [] ∧ isUp s .safe = true ∧ safeInForce s = true ∧
        releaseOk true s = true) := by decide +kernel

/-- States and operands that meet the hypotheses of SealReads. -/
theorem test_meets_SealReads :
    (∃ s ∈ ([run] : List State), isUp s .safe = true ∧ isUp s .aon = true ∧ s.safe.pulses = true ∧ s.safe.sealAccepted = true ∧
        s.pwr.loaderState = false ∧ s.tst.scanning = false ∧ invalidLines 68 162 25 = 0 ∧ positions 68 162 25 = s.safe.pos)
    ∧ (∃ s ∈ ([{ run with safe := { run.safe with sealCandidate := some 0x66 } }] : List State), s.safe.pulses = true ∧
        s.safe.sealAccepted = true ∧ invalidLines 68 34 153 = 0 ∧ positions 68 34 153 ≠ s.safe.pos ∧
        s.safe.sealCandidate = some (positions 68 34 153))
    ∧ (∃ s ∈ ([run] : List State), invalidLines 68 34 153 = 0 ∧ positions 68 34 153 ≠ s.safe.pos ∧
        s.safe.sealCandidate ≠ some (positions 68 34 153))
    ∧ (∃ s ∈ ([inSes .charging] : List State), isUp s .safe = true ∧ s.safe.pulses = true ∧ s.safe.sealAccepted = true ∧
        invalidLines 255 255 0 ≠ 0 ∧ s.safe.lineFault &&& invalidLines 255 255 0 = 0 ∧ s.ses.phase = .charging ∧ s.ses.inUse = true)
    ∧ (∃ s ∈ ([{ run with safe := { run.safe with lineFault := 1 } }] : List State), isUp s .safe = true ∧ s.safe.pulses = true ∧
        s.safe.sealAccepted = true ∧ invalidLines 255 255 0 ≠ 0 ∧ s.safe.lineFault &&& invalidLines 255 255 0 ≠ 0 ∧
        0x302 ∉ s.live.standing) := by decide +kernel

/-- States and operands that meet the hypotheses of ListResults. -/
theorem test_meets_ListResults :
    (∃ s ∈ ([{ lists with plt := { run.plt with level := .pwm } }] : List State), adcRuns s = true ∧ isUp s .tmr = true ∧
        isUp s .safe = true ∧ isUp s .met = true ∧ s.plt.level = .pwm ∧ s.safe.pilotWindowBad = false ∧
        ((-12500 : BitVec 16).toInt - commandedMv s false).natAbs ≤ 1000)
    ∧ (∃ s ∈ ([lists] : List State), s.plt.level ≠ .pwm ∧ s.safe.pilotWindowBad = false ∧
        ((13000 : BitVec 16).toInt - commandedMv s true).natAbs ≤ 1000 ∧ 2000 ≤ 2000)
    ∧ (∃ s ∈ ([{ lists with safe := { run.safe with pilotBad := 2 } }] : List State), adcRuns s = true ∧ s.plt.level ≠ .pwm ∧
        1000 < ((13001 : BitVec 16).toInt - commandedMv s true).natAbs ∧ 2 ≤ s.safe.pilotBad)
    ∧ (∃ s ∈ ([{ lists with plt := { run.plt with level := .pwm }, safe := { run.safe with pilotBad := 2, pilotWindowBad := true } }] : List State),
        s.safe.pilotWindowBad = true ∧ 2 ≤ s.safe.pilotBad ∧ adcRuns s = true)
    ∧ (∃ s ∈ ([without .tmr .resetting lists] : List State), adcRuns s = true ∧ isUp s .tmr = false)
    ∧ (∃ s ∈ ([without .safe .resetting lists] : List State), adcRuns s = true ∧ isUp s .safe = false)
    ∧ (∃ s ∈ ([without .met .resetting lists] : List State), adcRuns s = true ∧ isUp s .met = false)
    ∧ (∃ s ∈ ([setWin 9 { en := true, low := 100, count := 1 } { lists with swg := { run.swg with coilCmd := true } }] : List State),
        adcRuns s = true ∧ isUp s .tmr = true ∧ s.swg.coilCmd = true ∧ s.swg.openLoop = false ∧
        (evalWindow false (5 : BitVec 16).toNat (winAt s 9)).2 = true)
    ∧ (∃ s ∈ ([setWin 9 { en := true, low := 100, count := 1 } (without .tmr .resetting lists)] : List State), adcRuns s = true ∧
        isUp s .tmr = false ∧ (evalWindow false (5 : BitVec 16).toNat (winAt s 9)).2 = true) := by decide +kernel

/-- States and operands that meet the hypotheses of UserListsAndCaptures. -/
theorem test_meets_UserListsAndCaptures :
    (∃ s ∈ ([{ lists with adc := { lists.adc with u0 := { en := true } } }] : List State), adcRuns s = true ∧
        (userList s false).running = false ∧ (userList s false).en = true ∧ (userList s false).trig = 0)
    ∧ (∃ s ∈ ([{ lists with adc := { lists.adc with u1 := { running := true, last := 0 } } }] : List State), adcRuns s = true ∧
        (userList s true).running = true ∧ (userList s true).last = 0)
    ∧ (∃ s ∈ ([lists] : List State), isUp s .adc = true ∧ 8 ≤ (8 : Fin 16).val ∧ (7 : Fin 16).val < 8 ∧
        bits (0x123 : Word).toNat 1 5 ≤ 0x11 ∧ bits (0x123 : Word).toNat 8 8 ≠ 0 ∧ adcRuns s = true ∧ s.adc.capBusy = false ∧
        (1 : Word).getLsbD 7 = false ∧ (0x81 : Word).getLsbD 7 = true)
    ∧ (∃ s ∈ ([{ lists with adc := { lists.adc with capBusy := true, capLength := 3 } }] : List State), adcRuns s = true ∧
        s.adc.capBusy = true ∧ (1 : Word).getLsbD 7 = false)
    ∧ (∃ s ∈ ([run] : List State), isUp s .adc = true ∧ s.adc.capBusy = false ∧ s.adc.listsRun = false) := by decide +kernel

/-- States and operands that meet the hypotheses of Calibration. -/
theorem test_meets_Calibration :
    (∃ s ∈ ([run] : List State), isUp s .adc = true ∧ s.adc.calRun = none ∧ mayCalibrate s = true ∧ Converter.a0 = calibratorNext s)
    ∧ (∃ s ∈ ([{ lists with adc := { lists.adc with calRun := some .a3, borrowed := 8 } }] : List State), isUp s .adc = true ∧
        s.adc.calRun = some .a3 ∧ s.flash.writable = true ∧ adcRuns s = true ∧ trimsFound .a3 none = none ∧
        trimsFound .a3 (some ⟨0, 0, 250⟩) = some ⟨0, 0, 250⟩) := by decide +kernel

/-- States and operands that meet the hypotheses of TimerChannels. -/
theorem test_meets_TimerChannels :
    (∃ s ∈ ([{ run with tmr := { run.tmr with ch := #v[{ run := true, top := 10, count := 9, cmp := 10 }, {}, {}, {}, {}, {}, {}, {}] } }] : List State),
        isUp s .tmr = true ∧ (chan s 0).clk ≠ 5 ∧ (chan s 0).run = true ∧ (chan s 0).gateEn = false ∧
        (chan s 0).count.toNat < (chan s 0).top.toNat ∧ (chan s 0).matched = false ∧ (chan s 0).cmp.toNat ≤ (chan s 0).count.toNat + 1)
    ∧ (∃ s ∈ ([{ run with tmr := { run.tmr with ch := #v[{ run := true, top := 10, count := 10, topNext := some 20, oneshot := true }, {}, {}, {}, {}, {}, {}, { run := true, top := 10, count := 10 }] } }] : List State),
        (chan s 0).run = true ∧ (chan s 0).gateEn = false ∧ (chan s 0).top.toNat ≤ (chan s 0).count.toNat ∧ (chan s 1).clk ≠ 5 ∧
        (chan s 7).clk ≠ 5 ∧ (chan s 7).run = true ∧ (chan s 7).gateEn = false ∧ (chan s 7).top.toNat ≤ (chan s 7).count.toNat)
    ∧ (∃ s ∈ ([run] : List State), isUp s .tmr = true ∧ (chan s 3).clk ≠ 5 ∧ (chan s 3).run = false ∧ 6 ≤ (6 : Fin 8).val ∧
        clkOk (0 : Fin 8) (bits (4 : Word).toNat 0 3) = true ∧ clkOk (0 : Fin 8) (bits (5 : Word).toNat 0 3) = false ∧
        (chan s 0).capEdge = 0)
    ∧ (∃ s ∈ ([{ run with tmr := { run.tmr with ch := #v[{ run := true, count := 9 }, { count := 9, capEdge := 1 }, {}, {}, {}, {}, {}, {}] } }] : List State),
        (0 : Fin 8).val < 6 ∧ immediate (chan s 0) = false ∧ immediate (chan s 1) = true ∧ (chan s 1).matched = false ∧
        (9 : Word).toNat ≤ (chan s 1).count.toNat ∧ (chan s 1).capEdge ≠ 0) := by decide +kernel

/-- States and operands that meet the hypotheses of MetrologyPeriods. -/
theorem test_meets_MetrologyPeriods :
    (∃ s ∈ ([{ run with met := { run.met with goodPeriods := 1, samples := [(⟨20000, 0, 0, 9000, 0, 0, 1⟩, false), (⟨30000, 0, 0, 12000, 0, 0, 1⟩, false)] } }] : List State),
        isUp s .met = true ∧ (153800 : BitVec 18) ≠ 0 ∧ (phases s).contains 0 = true ∧ (phases s).contains 1 = false ∧ s.met.samples ≠ [] ∧
        153800 ≤ (153800 : BitVec 18).toNat ∧ (222200 : BitVec 18).toNat ≤ 222200 ∧ s.met.mainsLoss = false ∧ 1 ≤ s.met.goodPeriods ∧
        s.ses.grant = none ∧ s.ses.inUse = false ∧ s.ses.counting = false)
    ∧ (∃ s ∈ ([{ inSes .charging with ses := { (inSes .charging).ses with counting := true } }] : List State), isUp s .met = true ∧
        (222201 : BitVec 18) ≠ 0 ∧ s.ses.counting = true ∧ 222200 < (222201 : BitVec 18).toNat ∧
        (153799 : BitVec 18).toNat < 153800) := by decide +kernel

/-- States and operands that meet the hypotheses of HalfCyclesAndPulses. -/
theorem test_meets_HalfCyclesAndPulses :
    (∃ s ∈ ([{ run with met := { run.met with half := Vector.replicate 4 { n := 4, v2 := 0, i2 := 0 } }, live := { run.live with lowHalves := #v[1, 0, 0] } }] : List State),
        isUp s .met = true ∧ (phases s).contains (phaseNum .l1) = true ∧ belowLoss s (halfOf s 0) = true ∧
        1 ≤ s.live.lowHalves.toList.getD 0 0 ∧ overCurrent (overLevel s) (halfOf s 0) = false)
    ∧ (∃ s ∈ ([{ run with met := { run.met with half := Vector.replicate 4 { n := 1, v2 := 2 ^ 90, i2 := 2 ^ 90 } }, live := { run.live with overCounts := #v[19, 0, 0, 0] } }] : List State),
        isUp s .met = true ∧ (phases s).contains (phaseNum .l1) = true ∧ belowLoss s (halfOf s 0) = false ∧
        overCurrent (overLevel s) (halfOf s 0) = true ∧ s.live.overCounts.toList.getD 0 0 = 19)
    ∧ (∃ s ∈ ([{ run with met := { run.met with ledOwed := 2 } }] : List State), isUp s .met = true ∧ s.met.ledOwed ≠ 0 ∧
        s.met.ledOn = false ∧ s.pwr.brown.active = false) := by decide +kernel

/-- States and operands that meet the hypotheses of ClockAndTariffs. -/
theorem test_meets_ClockAndTariffs :
    (∃ s ∈ ([{ run with bil := { run.bil with rawSame := 5120 } }] : List State), debounceSamples s ≤ s.bil.rawSame)
    ∧ (∃ s ∈ ([{ run with bil := { run.bil with slewCounts := 4, slewTicks := 199, clock := 100 } }] : List State),
        s.bil.rawSame < debounceSamples s ∧ 2 ≤ s.bil.slewCounts ∧ 199 ≤ s.bil.slewTicks.toNat ∧ 4 ≤ s.bil.slewCounts)
    ∧ (∃ s ∈ ([{ run with bil := { run.bil with slewCounts := -4, slewTicks := 199, clock := 100 } }] : List State), s.bil.slewCounts ≤ -2 ∧
        199 ≤ s.bil.slewTicks.toNat ∧ s.bil.slewCounts ≤ -4)
    ∧ (∃ s ∈ ([{ run with bil := { run.bil with slewCounts := 9, slewTicks := 198, clock := 100 } }] : List State),
        s.bil.slewTicks.toNat < 199 ∧ s.bil.trusted = false)
    ∧ (∃ s ∈ ([{ run with bil := { run.bil with trusted := true, valid := true, pendState := .open, clock := 100 * 65536 }, sup := { run.sup with rtcXtalOk := false } }] : List State),
        s.bil.trusted = true ∧ s.sup.rtcXtalOk = false ∧ s.bil.pendState = .open ∧ s.pwr.billing = true ∧
        s.bil.held.length + s.bil.closed.length < 4 ∧ boundaryDue s.bil.clock s = false) := by decide +kernel

/-- States and operands that meet the hypotheses of LedgerRecords. -/
theorem test_meets_LedgerRecords_open :
    (∃ s ∈ ([{ run with bil := { run.bil with pendState := .open, clock := 900 * 65536 + 2 } }] : List State),
        boundaryDue s.bil.clock s = true ∧ s.pwr.billing = true ∧ s.bil.held.length + s.bil.closed.length < 4)
    ∧ (∃ s ∈ ([{ run with bil := { run.bil with pendState := .open, clock := 901 * 65536 } }] : List State),
        boundaryDue s.bil.clock s = false)
    ∧ (∃ s ∈ ([without .sec .resetting { run with bil := { run.bil with closed := [recordAB] } }] : List State), isUp s .seq = true ∧
        s.bil.closedFresh ≤ 0 ∧ s.flash.writable = true ∧ canSign s = false)
    ∧ (∃ s ∈ ([without .sec .resetting { run with bil := { run.bil with closed := [recordAB], discarded := some (7, 5) }, flash := { run.flash with writable := false } }] : List State),
        isUp s .seq = true ∧ s.bil.closedFresh ≤ 0 ∧ canSign s = false ∧ s.flash.writable = false) := by decide +kernel

/-- States and operands that meet the hypotheses of SessionActions. -/
theorem test_meets_SessionActions :
    (∃ s ∈ ([{ inSes .charging with od := authed.od, swg := { run.swg with coilCmd := true, aux := true, gateCmd := 9, gateFb := 9 } }] : List State),
        Accepted me false (od 5 4) [1] s ∧ s.ses.phase = .charging ∧ s.swg.gateCmd ≠ 0)
    ∧ (∃ s ∈ ([{ inSes .paused with od := authed.od }] : List State), Accepted me false (od 5 4) [1] s ∧ s.ses.phase = .paused)
    ∧ (∃ s ∈ ([{ authed with ses := { run.ses with grant := some grantAB } }] : List State), Accepted me false (od 0x1C 5) [1] s)
    ∧ (∃ s ∈ ([{ authed with lck := { run.lck with faults := 1 } }] : List State), Accepted me false (od 0x0A 4) [1] s ∧
        lockFitted s = true)
    ∧ (∃ s ∈ ([{ authed with safe := { run.safe with active := true, passed := 0x3FF, seen := [0x103], sealStable := 9 }, glt := { run.glt with kill := true }, plt := { run.plt with level := .stateF } }] : List State),
        Accepted me false (od 0x0D 3) [1] s ∧ safeInForce s = true)
    ∧ (∃ s ∈ ([authed] : List State), Accepted me false (od 0x0D 3) [1] s ∧ safeInForce s = false ∧
        Accepted me false (od 0x1D 0) (beBytes 16 5) s ∧ s.sec.slotOk.getLsbD 0 = true ∧ s.sec.slotOk.getLsbD 3 = true ∧
        s.sec.signFault = false)
    ∧ (∃ s ∈ ([{ authed with aud := { run.aud with faults := 2, latched := true } }] : List State), Accepted me false (od 0x15 3) [1] s)
    ∧ (∃ s ∈ ([{ authed with aud := { run.aud with released := true } }] : List State), Accepted me false (od 0x15 4) [3] s ∧
        isUp s .aud = true ∧ s.aud.latched = false ∧ s.aud.released = true ∧ s.aud.queue = []) := by decide +kernel

/-- States and operands that meet the hypotheses of DeviceActions. -/
theorem test_meets_DeviceActions :
    (∃ s ∈ ([authed] : List State), Accepted me false (od 0x28 3) [0xA5] s ∧ Accepted me false (od 0x22 0) [7] s)
    ∧ (∃ s ∈ ([{ authed with pwr := { run.pwr with loaderState := true }, fw := { run.fw with phase := 5 } }] : List State),
        Accepted me false (od 0x20 4) [1] s)
    ∧ (∃ s ∈ ([{ authed with cfg := { run.cfg with valid := 1 } }] : List State), Accepted me false (od 0 0x26) [1] s ∧
        (chooseSource false s).isSome = true)
    ∧ (∃ s ∈ ([{ authed with flash := { run.flash with events := { run.flash.events with erasing := some 4 } } }] : List State),
        Accepted me false (od 0x22 1) [4] s) := by decide +kernel

/-- States and operands that meet the hypotheses of SignedWrites. -/
theorem test_meets_SignedWrites_time :
    (∃ s ∈ ([keyed timeRoot { authed with bil := { run.bil with clock := 999 * 65536, trusted := true, valid := true } }] : List State),
        isUp s .sec = true ∧ s.sec.slotOk.getLsbD 1 = true ∧ Accepted me true (od 2 2) timeAB s ∧ timeSetOk s timeAB = true ∧
        s.bil.trusted = true ∧ (diffMs (timeOf (slice 0x10 6 timeAB)) s.bil.clock).natAbs ≤ setting? s 2 3)
    ∧ (∃ s ∈ ([keyed timeRoot { authed with bil := { run.bil with clock := 5, trusted := true, valid := true } }] : List State),
        Accepted me true (od 2 2) timeAB s ∧ s.bil.trusted = true ∧
        setting? s 2 3 < (diffMs (timeOf (slice 0x10 6 timeAB)) s.bil.clock).natAbs)
    ∧ (∃ s ∈ ([keyed timeRoot { authed with bil := { run.bil with clock := 5 } }] : List State), Accepted me true (od 2 2) timeAB s ∧
        s.bil.trusted = false)
    ∧ (∃ s ∈ ([keyed timeRoot { authed with bil := { run.bil with tsCounter := 7 } }] : List State), Accepted me true (od 2 2) timeAB s ∧
        timeSetOk s timeAB = false) := by decide +kernel

/-- States and operands that meet the hypotheses of SignedWrites. -/
theorem test_meets_SignedWrites_grant :
    (∃ s ∈ ([keyed grantRoot authed] : List State), isUp s .sec = true ∧ s.sec.slotOk.getLsbD 1 = true ∧
        Accepted me true (od 0x1C 0) grantBytes s ∧ grantOk s grantBytes = true)
    ∧ (∃ s ∈ ([keyed grantRoot authed] : List State), Accepted me true (od 0x1C 0) (zeros 112) s ∧
        grantOk s (zeros 112) = false) := by decide +kernel

/-- States and operands that meet the hypotheses of SignedWrites. -/
theorem test_meets_SignedWrites_token :
    (∃ s ∈ ([keyed tokenRoot run] : List State), isUp s .sec = true ∧ s.sec.slotOk.getLsbD 1 = true ∧
        Accepted (⟨.mailbox, .link, 1, 0⟩ : Requester) true (od 0x1C 0x10) tokenAB s ∧ tokenOk s tokenAB = true)
    ∧ (∃ s ∈ ([keyed tokenRoot run] : List State), Accepted (⟨.mailbox, .link, 1, 0⟩ : Requester) true (od 0x1C 0x10) (zeros 112) s ∧
        tokenOk s (zeros 112) = false) := by decide +kernel

/-- States and operands that meet the hypotheses of OdTimeouts. -/
theorem test_meets_OdTimeouts :
    (∃ s ∈ ([{ authed with sec := { run.sec with ctx := .session, yew := zeros 16 } }] : List State), s.od.session.isSome = true ∧
        s.sec.ctx = .session)
    ∧ (∃ s ∈ ([run] : List State), s.od.session = none)
    ∧ (∃ s ∈ ([{ run with od := { run.od with session := some ⟨1, 1, [], 0, 0⟩ } }] : List State), s.od.session = some ⟨1, 1, [], 0, 0⟩ ∧
        sessionExpired s ⟨1, 1, [], 0, 0⟩ = true)
    ∧ (∃ s ∈ ([{ run with od := { run.od with session := some ⟨1, 1, [], 0xFFFFFFFFFFFF, 0⟩ } }] : List State),
        s.od.session = some ⟨1, 1, [], 0xFFFFFFFFFFFF, 0⟩ ∧ sessionExpired s ⟨1, 1, [], 0xFFFFFFFFFFFF, 0⟩ = false) := by decide +kernel

/-- States and operands that meet the hypotheses of PdusReceived. -/
theorem test_meets_PdusReceived_partA :
    (∃ s ∈ ([State.reset] : List State), odListens s = false)
    ∧ (∃ s ∈ ([run] : List State), odListens s = true ∧ (parseHeader readAB).keysel = .none ∧ 12 ≤ readAB.length ∧
        requestOk (parseHeader readAB) readAB = true ∧ s.od.queue.length + (if s.set.commit.isSome then 1 else 0) < 8)
    ∧ (∃ s ∈ ([{ run with od := { run.od with queue := List.replicate 8 (plainPdu 0 []) } }] : List State), odListens s = true ∧
        8 ≤ s.od.queue.length + (if s.set.commit.isSome then 1 else 0)) := by decide +kernel

/-- States and operands that meet the hypotheses of PdusReceived. -/
theorem test_meets_PdusReceived_partB :
    (∃ s ∈ ([keyedRun] : List State), odListens s = true ∧ linkPdu.path ≠ .mailbox ∧ linkPdu.orig = 0 ∧
        (parseHeader linkPdu.bytes).keysel = .link ∧ 20 ≤ linkPdu.bytes.length ∧ isUp s .sec = true ∧ macRight s .link linkPdu = true ∧
        s.od.floor = none ∧ (windowTake s.od.winNode0 (parseHeader linkPdu.bytes).seq).isSome = true ∧
        macRight s .link { linkPdu with bytes := linkRead ++ zeros 8 } = false) := by decide +kernel

/-- States and operands that meet the hypotheses of PdusReceived. -/
theorem test_meets_PdusReceived_partC :
    (∃ s ∈ ([{ keyedRun with od := { run.od with winNode0 := ⟨5, 0xFFFFFFFF⟩ } }] : List State), macRight s .link linkPdu = true ∧
        s.od.floor = none ∧ windowTake s.od.winNode0 (parseHeader linkPdu.bytes).seq = none) := by decide +kernel

/-- States and operands that meet the hypotheses of ReadsAndWrites. -/
theorem test_meets_ReadsAndWrites_partA :
    (∃ s ∈ ([headed (plainPdu 0 (beBytes 4 0x02000004)) run] : List State), AtHead 0 (plainPdu 0 (beBytes 4 0x02000004)) [] s ∧
        (parseAddrs (beBytes 4 0x02000004)).isSome = true ∧
        (((parseAddrs (beBytes 4 0x02000004)).getD []).flatMap fun a => resultRecord a (odRead false run a).1 (odRead false run a).2).length ≤ 220)
    ∧ (∃ s ∈ ([headed (signedPdu 1 (beBytes 9 0x030802F40102100101)) authed] : List State),
        AtHead 1 (signedPdu 1 (beBytes 9 0x030802F40102100101)) [] s ∧
        2 ≤ ((parseRecords (beBytes 9 0x030802F40102100101)).getD []).length ∧
        ((parseRecords (beBytes 9 0x030802F40102100101)).getD []).any (fun x => isMarkedAction x.addr) = false ∧
        firstFailure ⟨.mailbox, .session, 9, 0⟩ false ((parseRecords (beBytes 9 0x030802F40102100101)).getD []) authed = none)
    ∧ (∃ s ∈ ([headed (signedPdu 1 (beBytes 9 0x030802F40102100109)) authed] : List State),
        AtHead 1 (signedPdu 1 (beBytes 9 0x030802F40102100109)) [] s ∧
        2 ≤ ((parseRecords (beBytes 9 0x030802F40102100109)).getD []).length ∧
        (firstFailure ⟨.mailbox, .session, 9, 0⟩ false ((parseRecords (beBytes 9 0x030802F40102100109)).getD []) authed).isSome = true) := by decide +kernel

/-- States and operands that meet the hypotheses of ReadsAndWrites. -/
theorem test_meets_ReadsAndWrites_partB :
    (∃ s ∈ ([headed (plainPdu 2 (beBytes 8 0x0500000000004000)) keyedRun] : List State),
        AtHead 2 (plainPdu 2 (beBytes 8 0x0500000000004000)) [] s ∧
        (parseReadBlock (beBytes 8 0x0500000000004000)).map (fun b => (b.addr, b.offset, b.maximum)) = some (5, 0, 64) ∧
        (blockValue keyedRun 5).1 = stOk ∧ (blockValue keyedRun 5).2.length = 64)
    ∧ (∃ s ∈ ([headed (plainPdu 2 (beBytes 8 0x0500000000002800)) keyedRun] : List State),
        AtHead 2 (plainPdu 2 (beBytes 8 0x0500000000002800)) [] s ∧
        (parseReadBlock (beBytes 8 0x0500000000002800)).map (fun b => (b.addr, b.offset, b.maximum)) = some (5, 0, 40)) := by decide +kernel

/-- States and operands that meet the hypotheses of TransfersAndSubscriptions. -/
theorem test_meets_TransfersAndSubscriptions :
    (∃ s ∈ ([headed (signedPdu 3 blockA) authed] : List State), AtHead 3 (signedPdu 3 blockA) [] s ∧
        (parseWriteBlock blockA).any (fun b => b.addr == 0x7000 && b.first && !b.last && b.offset == 0 && b.data.length == 100 && b.total == 112) = true ∧
        (0x7000 : BitVec 16) ≠ od 0x20 1 ∧ (odEntry authed 0x7000).1 = stOk ∧ s.od.transfers = [])
    ∧ (∃ s ∈ ([headed (signedPdu 3 blockB) { authed with od := { authed.od with transfers := [⟨true, 0x7000, 112, zeros 100⟩] } }] : List State),
        AtHead 3 (signedPdu 3 blockB) [] s ∧
        (parseWriteBlock blockB).any (fun b => b.addr == 0x7000 && !b.first && b.last && b.offset == 100 && b.data == zeros 12 && b.total == 112 && crc32c (zeros 100 ++ b.data) != b.crc) = true ∧
        s.od.transfers = [⟨true, 0x7000, 112, zeros 100⟩] ∧ (odEntry authed 0x7000).1 = stOk)
    ∧ (∃ s ∈ ([headed (plainPdu 5 (beBytes 7 0x0004010A003C00)) run] : List State),
        AtHead 5 (plainPdu 5 (beBytes 7 0x0004010A003C00)) [] s ∧ s.pwr.loaderState = false ∧ s.od.subs = [] ∧
        ((parseSubscribe (beBytes 7 0x0004010A003C00)).map fun b => (subscribeStatus run b, b.period)) = some (stOk, 10))
    ∧ (∃ s ∈ ([{ run with od := { run.od with subs := [⟨true, true, 0x400, true, false, 10, 60, []⟩] } }] : List State),
        odListens s = true ∧ s.od.subs.any (notifyDue s true [0x400]) = true ∧
        s.od.subs.any (notifyDue s true [0x401]) = false) := by decide +kernel

/-- States and operands that meet the hypotheses of CommitBurnsAGeneration. -/
theorem test_meets_CommitBurnsAGeneration :
    (∃ s ∈ ([headed (signedPdu 4 []) { authed with cfg := { run.cfg with begun := 1, done := 1, valid := 1 }, set := { run.set with running := [⟨od 2 3, [0xF4, 1]⟩] } }] : List State),
        AtHead 4 (signedPdu 4 []) [] s ∧ commitStatus (signedPdu 4 []).requester s = stOk)
    ∧ (∃ s ∈ ([headed (plainPdu 4 []) run] : List State), AtHead 4 (plainPdu 4 []) [] s ∧ commitStatus (plainPdu 4 []).requester s ≠ stOk)
    ∧ (∃ s ∈ ([{ run with set := { run.set with commit := some ⟨1, [], 0, true, 0, ⟨.mailbox, .session, 9, 0⟩⟩ }, cfg := { run.cfg with begun := 3, busy := true } }] : List State),
        s.set.commit.isSome = true ∧ isUp s .sec = true ∧ s.set.otpFaults = 0)
    ∧ (∃ s ∈ ([{ run with set := { run.set with commit := some ⟨1, [], 0, true, 0, ⟨.mailbox, .session, 9, 0⟩⟩, otpFaults := 1 }, cfg := { run.cfg with begun := 3, busy := true } }] : List State),
        s.set.commit.isSome = true ∧ isUp s .sec = true ∧ s.set.otpFaults ≠ 0)
    ∧ (∃ s ∈ ([without .sec .resetting { run with set := { run.set with commit := some ⟨1, [], 0, true, 0, ⟨.mailbox, .session, 9, 0⟩⟩ } }] : List State),
        s.set.commit.isSome = true ∧ isUp s .sec = false) := by decide +kernel

/-- States and operands that meet the hypotheses of SelfTestRequests. -/
theorem test_meets_SelfTestRequests :
    (∃ s ∈ ([authed] : List State),
        ([1, 2, 3, 4, 5, 6, 0x24, 0x2F].all fun code => decide (Accepted me false (od 0x24 0) (leBytes 2 (code + 256 * bit false)) s)) = true ∧
        inSession s = false ∧ isBist 0x24 = true ∧ isBist 0x2F = true)
    ∧ (∃ s ∈ ([{ inSes .charging with od := authed.od, swg := { run.swg with coilCmd := true, aux := true, gateCmd := 9, gateFb := 9 } }] : List State),
        Accepted me false (od 0x24 0) (leBytes 2 (1 + 256 * bit true)) s ∧ inSession s = true ∧ barredInSession 1 = true)
    ∧ (∃ s ∈ ([{ authed with tst := { run.tst with pending := true, todo := [.aud] }, pwr := { run.pwr with heldResets := [.odRestart] } }] : List State),
        s.tst.pending = true ∧ s.pwr.heldResets = [.odRestart]) := by decide +kernel

/-- States and operands that meet the hypotheses of SelfTestRuns. -/
theorem test_meets_SelfTestRuns :
    (∃ s ∈ ([{ run with tst := { run.tst with waiting := some 1 } }] : List State), s.tst.waiting = some 1 ∧ isUp s .seq = true ∧
        testMayRun 1 s = true ∧ (16 : BitVec 12).getLsbD 11 = false)
    ∧ (∃ s ∈ ([{ run with tst := { run.tst with waiting := some 4 } }] : List State), s.tst.waiting = some 4 ∧ testMayRun 4 s = true ∧
        (1 : BitVec 12).getLsbD 11 = false)
    ∧ (∃ s ∈ ([{ run with tst := { run.tst with waiting := some 3 } }] : List State), s.tst.waiting = some 3 ∧ isUp s .seq = true ∧
        testMayRun 3 s = true)
    ∧ (∃ s ∈ ([{ run with tst := { run.tst with waiting := some 1 }, plt := { run.plt with state := .b } }] : List State),
        s.tst.waiting = some 1 ∧ testMayRun 1 s = false ∧ s.rcd.windingRun = false)
    ∧ (∃ s ∈ ([{ run with tst := { run.tst with held := some 1 } }] : List State), s.tst.held = some 1 ∧ isUp s .seq = true ∧
        inSession s = false ∧ isBist 1 = false)
    ∧ (∃ s ∈ ([{ run with tst := { run.tst with todo := [.plc], scanning := true } }] : List State), s.tst.todo = [.plc] ∧
        s.tst.awaiting = none ∧ s.tst.scanning = true)
    ∧ (∃ s ∈ ([{ up with tst := { up.tst with todo := [.plc], bistBoot := true }, safe := { up.safe with sealAccepted := true, sealValid := true, sealStable := 9, passed := 0x3FF, pos := 0xE6 }, rcd := { up.rcd with excLock := true }, adc := { up.adc with calibrated := 0xF, listsRun := true }, met := { up.met with valid := true } }] : List State),
        s.tst.todo = [.plc] ∧ s.tst.awaiting = none ∧ s.tst.scanning = false ∧ s.tst.bistBoot = true ∧ startReady s = true)
    ∧ (∃ s ∈ ([{ run with tst := { run.tst with todo := [.aud], awaiting := some .plc, scanning := true } }] : List State),
        s.tst.awaiting = some .plc ∧ s.tst.todo ≠ [])
    ∧ (∃ s ∈ ([{ run with tst := { run.tst with awaiting := some .plc, scanning := true } }] : List State), s.tst.awaiting = some .plc ∧
        s.tst.todo = []) := by decide +kernel

/-- States and operands that meet the hypotheses of FirmwareStreams. -/
theorem test_meets_FirmwareStreams :
    (∃ s ∈ ([run] : List State), odServed s = true ∧ isUp s .sec = true ∧ s.pwr.loaderState = false ∧ mayStream s = true ∧
        s.fw.stream = none ∧ s.od.fwUpdateMode = 0 ∧ (8192 : Word).toNat % 4096 = 0 ∧ 8192 ≤ (8192 : Word).toNat ∧
        (1028096 : Word).toNat ≤ 1028096 ∧ (zeros 200).length ≤ 200)
    ∧ (∃ s ∈ ([{ run with fw := { run.fw with stream := some ⟨true, false, 8192, 200, zeros 200⟩ } }] : List State), odServed s = true ∧
        isUp s .sec = true ∧ s.fw.stream = some ⟨true, false, 8192, 200, zeros 200⟩ ∧ (me.path = .mailbox : Bool) = true ∧
        (0 : Word) ≠ 200 ∧ (200 : Word).toNat < 4096)
    ∧ (∃ s ∈ ([{ run with pwr := { run.pwr with handoverDue := true } }] : List State), s.pwr.handoverDue = true ∧
        s.pwr.loaderState = false ∧ resetWaits .loader s = false) := by decide +kernel

/-- States and operands that meet the hypotheses of KeysAndMirror. -/
theorem test_meets_KeysAndMirror :
    (∃ s ∈ ([{ run with sec := { run.sec with jobs := [.conf 3, .verify] } }] : List State), isUp s .sec = true ∧ s.sec.scanLock = false ∧
        nextJob s.sec.jobs = some .verify ∧ s.sec.jobs ≠ [])
    ∧ (∃ s ∈ ([run] : List State), isUp s .sec = true ∧ s.sec.scanLock = false ∧ s.sec.jobs = [] ∧ s.sec.mirrorNonce = none)
    ∧ (∃ s ∈ ([{ keyedRun with bil := { run.bil with closed := [recordAB] } }] : List State), isUp s .sec = true ∧ s.sec.scanLock = false ∧
        recordFirst s = true) := by decide +kernel

/-- States and operands that meet the hypotheses of QueuesAndAccess. -/
theorem test_meets_QueuesAndAccess_partA :
    (∃ s ∈ ([linked] : List State), handoverOk s ⟨1, 5, [1, 2], false⟩ = true ∧ (queueOf s 1).length < 8 ∧ s.plc.idle = false ∧
        isUp s .plc = true ∧ s.net.closeDue = false ∧ candidate s = none ∧ awake s = true ∧ receives s .line = true ∧
        waitingAt s 1 0 = none)
    ∧ (∃ s ∈ ([{ linked with plc := { linked.plc with q1 := List.replicate 8 frameAB } }] : List State),
        handoverOk s ⟨1, 5, [1, 2], false⟩ = true ∧ 8 ≤ (queueOf s 1).length)
    ∧ (∃ s ∈ ([{ linked with plc := { linked.plc with q1 := [frameAB] } }] : List State), isUp s .plc = true ∧ s.net.closeDue = false ∧
        s.plc.tx = none ∧ s.plc.access = .none ∧ s.plc.ackWindow = none ∧ s.plc.spanHold = false ∧ candidate s = some frameAB ∧
        (linkPaths s frameAB).all (pathReady s) = true ∧ waitingAt s 1 0 = some frameAB ∧ s.plc.idle = false) := by decide +kernel

/-- States and operands that meet the hypotheses of QueuesAndAccess. -/
theorem test_meets_QueuesAndAccess_partB :
    (∃ s ∈ ([{ linked with plc := { linked.plc with access := .window 0, current := some frameAB } }] : List State),
        s.plc.access = .window 0 ∧ s.plc.current = some frameAB ∧ 0 < frameAB.prio.toNat ∧ 0 < 2)
    ∧ (∃ s ∈ ([{ linked with plc := { linked.plc with access := .random 2, current := some frameAB } }] : List State),
        s.plc.access = .random 2 ∧ s.plc.current = some frameAB)
    ∧ (∃ s ∈ ([{ linked with plc := { linked.plc with access := .random 1, current := some frameAB } }] : List State),
        s.plc.access = .random 1 ∧ frameAB.repeats = false ∧ frameAB.attempt = 0 ∧ frameAB.sent = false ∧
        (linkPaths s { frameAB with firstMode := (destOf s 5).mode }).all (pathReady s) = true ∧
        reachesSpan s (copyAndWindowUs s { frameAB with firstMode := (destOf s 5).mode }) = false)
    ∧ (∃ s ∈ ([{ linked with plc := { linked.plc with access := .bandC, bandC := true, current := some frameAB } }] : List State),
        s.plc.access = .bandC ∧ s.plc.current = some frameAB ∧
        (linkPaths s { frameAB with firstMode := (destOf s 5).mode }).all (pathReady s) = true ∧
        reachesSpan s (copyAndWindowUs s { frameAB with firstMode := (destOf s 5).mode }) = false)
    ∧ (∃ s ∈ ([{ linked with plc := { linked.plc with spanHold := true } }] : List State), s.plc.idle = false) := by decide +kernel

/-- States and operands that meet the hypotheses of SendingAndAcks. -/
theorem test_meets_SendingAndAcks_partA :
    (∃ s ∈ ([{ linked with plc := { linked.plc with tx := some frameAB, txPaths := [.line], aborts := 3 } }] : List State),
        s.plc.tx = some frameAB ∧ frameAB.type ≠ 1 ∧ frameAB.repeats = false ∧ frameAB.dst ≠ 0xFF ∧ isUp s .plc = true ∧
        s.plc.txPaths.contains .line = true)
    ∧ (∃ s ∈ ([{ linked with plc := { linked.plc with acks := [⟨5, 5, 1, 0, 1, .line⟩], relays := [⟨5, 5, 1, 0, 1, .line⟩] } }] : List State),
        s.plc.acks = [⟨5, 5, 1, 0, 1, .line⟩] ∧ s.plc.relays = [⟨5, 5, 1, 0, 1, .line⟩] ∧ s.plc.tx = none ∧ pathReady s .line = true)
    ∧ (∃ s ∈ ([awaitsAck 7 false] : List State), s.plc.ackWindow = some { frameAB with sent := true, attempt := 7 } ∧ s.plc.relayed = false)
    ∧ (∃ s ∈ ([awaitsAck 3 false] : List State), s.plc.ackWindow = some { frameAB with sent := true, attempt := 3 } ∧ s.plc.relayed = false)
    ∧ (∃ s ∈ ([awaitsAck 7 true] : List State), s.plc.ackWindow = some { frameAB with sent := true, attempt := 7 } ∧ s.plc.relayed = true)
    ∧ (∃ s ∈ ([awaitsAck 2 true] : List State), s.plc.ackWindow = some { frameAB with sent := true, attempt := 2 } ∧
        s.plc.relayed = true) := by decide +kernel

/-- States and operands that meet the hypotheses of SendingAndAcks. -/
theorem test_meets_SendingAndAcks_partB :
    (∃ s ∈ ([{ linked with plc := { linked.plc with q1 := [{ frameAB with sent := true, attempt := 2, placed := true }] } }] : List State),
        let f : OutFrame := { frameAB with sent := true, attempt := 2, placed := true }; placedHead s = some f ∧ isUp s .plc = true ∧
        underWay s = false ∧ (linkPaths s f).all (pathReady s) = true ∧ reachesSpan s (copyAndWindowUs s f) = false ∧ s.plc.bandC = false)
    ∧ (∃ s ∈ ([{ linked with plc := { linked.plc with repeats := [{ frameAB with repeats := true }], idle := true } }] : List State),
        s.plc.repeats = [{ frameAB with repeats := true }] ∧ isUp s .plc = true ∧ s.plc.idle = true ∧ s.plc.spanHold = false ∧
        underWay s = false ∧ s.plc.q0 = [] ∧ s.plc.q1 = [] ∧ s.plc.q2 = [] ∧
        (linkPaths s { frameAB with repeats := true }).all (pathReady s) = true)
    ∧ (∃ s ∈ ([{ linked with plc := { linked.plc with tx := some frameAB, txPaths := [.line], aborts := 7 } }] : List State),
        s.plc.tx.isSome = true ∧ s.plc.txPaths.contains .line = true ∧ s.plc.aborts = 7)
    ∧ (∃ s ∈ ([{ linked with plc := { linked.plc with shortHold := true, aborts := 8 } }] : List State), s.plc.shortHold = true ∧
        s.flash.writable = true)
    ∧ (∃ s ∈ ([{ linked with plc := { linked.plc with thermal := true } }] : List State), s.plc.thermal = true ∧ s.flash.writable = true)
    ∧ (∃ s ∈ ([{ linked with plc := { linked.plc with reloadDue := true } }] : List State), isUp s .plc = true ∧ isUp s .seq = true ∧
        s.plc.reloadDue = true) := by decide +kernel

/-- States and operands that meet the hypotheses of CopiesReceived. -/
theorem test_meets_CopiesReceived_partA :
    (∃ s ∈ ([linked] : List State), crc8Ok (zeros 9 ++ [1]) = false ∧ (unicast 4 127 2).path = .line ∧
        (parseFch (unicast 4 127 2).fch).seg ≠ segmentNumber s % 256)
    ∧ (∃ s ∈ ([linked] : List State), let c := unicast 127 5 1; receives s c.path = true ∧ crc8Ok c.fch = true ∧
        (parseFch c.fch).seg = segmentNumber s % 256 ∧ (parseFch c.fch).src = BitVec.ofNat 8 (nodeAddress s))
    ∧ (∃ s ∈ ([linked] : List State), let c := unicast 4 127 1; let h := parseFch c.fch; receives s c.path = true ∧ crc8Ok c.fch = true ∧
        h.seg = segmentNumber s % 256 ∧ h.type = 0 ∧ h.ackReq = true ∧ h.dst = BitVec.ofNat 8 (nodeAddress s) ∧
        h.orig ≠ BitVec.ofNat 8 (nodeAddress s) ∧ fcsOk c = true ∧ h.orig = 0 ∧ isNew s h = true) := by decide +kernel

/-- States and operands that meet the hypotheses of CopiesReceived. -/
theorem test_meets_CopiesReceived_partB :
    (∃ s ∈ ([{ linked with plc := { linked.plc with linkPath := 2 } }] : List State), receives s .field = true ∧
        crc8Ok fieldCopy.fch = true ∧ fieldCopy.path = .field ∧
        wireCopy ([0x55, 0xD5] ++ fieldCopy.fch ++ fieldCopy.payload ++ fieldCopy.fcs) = some fieldCopy ∧ wireCopy [1, 2] = none)
    ∧ (∃ s ∈ ([{ linked with plc := { linked.plc with tx := some frameAB, txPaths := [.field], linkPath := 1 } }] : List State),
        s.plc.tx.isSome = true ∧ s.plc.txPaths = [.field] ∧ isUp s .plc = true ∧ s.plc.linkPath ≠ 0 ∧ s.net.fpBusyLogged = false)
    ∧ (∃ s ∈ ([{ linked with plc := { linked.plc with tx := some frameAB, txPaths := [.line, .field], linkPath := 2 } }] : List State),
        s.plc.tx.isSome = true ∧ s.plc.txPaths = [.line, .field]) := by decide +kernel

/-- States and operands that meet the hypotheses of BeaconsAndWindows. -/
theorem test_meets_BeaconsAndWindows_windows :
    (∃ s ∈ ([{ linked with net := { linked.net with beaconCopy := some (zeros 10, zeros 60) } }] : List State),
        s.net.beaconCopy = some (zeros 10, zeros 60) ∧ isUp s .plc = true ∧ s.plc.tx = none ∧ beaconPaths s ≠ [])
    ∧ (∃ s ∈ ([{ linked with net := { linked.net with curtail := 100, sync := 1 } }] : List State), s.net.curtail ≠ 0xFFFF ∧
        s.pwr.loaderState = false ∧ isUp s .plc = true ∧ s.net.sync.toNat < 2)
    ∧ (∃ s ∈ ([{ linked with net := { linked.net with sync := 0, windowOpen := true, gotBeacon := true } }] : List State),
        s.net.windowOpen = true ∧ s.plc.busy = false ∧ s.net.gotBeacon = true)
    ∧ (∃ s ∈ ([{ linked with net := { linked.net with sync := 0, windowOpen := true, misses := 2 } }] : List State),
        s.net.windowOpen = true ∧ s.plc.busy = false ∧ s.net.gotBeacon = false ∧ s.net.misses.toNat < 3)
    ∧ (∃ s ∈ ([{ linked with net := { linked.net with sync := 1, windowOpen := true, misses := 3 } }] : List State),
        s.net.windowOpen = true ∧ s.plc.busy = false ∧ s.net.gotBeacon = false ∧ s.net.sync = 1 ∧ s.net.misses = 3)
    ∧ (∃ s ∈ ([{ linked with bgd := { linked.bgd with snapshot := some [1, 2], snapshotDue := true } }] : List State),
        s.bgd.snapshot = some [1, 2] ∧ s.bgd.snapshotDue = true ∧ isUp s .plc = true ∧ isUp s .seq = true) := by decide +kernel

/-- States and operands that meet the hypotheses of BeaconsAndWindows. -/
theorem test_meets_BeaconsAndWindows_beacon :
    (∃ s ∈ ([keyedLink] : List State), let c := beaconAB (withMac beaconBody); let h := parseFch c.fch; receives s c.path = true ∧
        crc8Ok c.fch = true ∧ h.seg = segmentNumber s % 256 ∧ h.type = 2 ∧ c.payload.length ≠ 20 ∧ h.dst = 0xFF ∧ h.orig = 0 ∧
        BitVec.ofNat 8 (nodeAddress s) ≠ 0 ∧ fcsOk c = true ∧ isNew s h = true ∧ beaconForm s h c.payload = true ∧ isUp s .sec = true ∧
        s.sec.slotOk.getLsbD 4 = true ∧ s.sec.scanLock = false ∧ broadcastMacOk s c.path c.payload = true ∧ s.net.bcastLost = true ∧
        s.pwr.loaderState = false)
    ∧ (∃ s ∈ ([keyedLink] : List State), let c := beaconAB (beaconBody ++ zeros 8); let h := parseFch c.fch; receives s c.path = true ∧
        crc8Ok c.fch = true ∧ h.seg = segmentNumber s % 256 ∧ h.type = 2 ∧ c.payload.length ≠ 20 ∧ h.dst = 0xFF ∧ h.orig = 0 ∧
        fcsOk c = true ∧ isNew s h = true ∧ beaconForm s h c.payload = true ∧
        broadcastMacOk s c.path c.payload = false) := by decide +kernel

/-- States and operands that meet the hypotheses of BeaconsAndWindows. -/
theorem test_meets_BeaconsAndWindows_curtailment :
    (∃ s ∈ ([keyedLink] : List State), let c := curtailAB; let h := parseFch c.fch; receives s c.path = true ∧ crc8Ok c.fch = true ∧
        h.seg = segmentNumber s % 256 ∧ h.type = 2 ∧ h.dst = 0xFF ∧ h.orig = 0 ∧ BitVec.ofNat 8 (nodeAddress s) ≠ 0 ∧ fcsOk c = true ∧
        isNew s h = true ∧ curtailForm c.payload = true ∧ isUp s .sec = true ∧ s.sec.slotOk.getLsbD 4 = true ∧ s.sec.scanLock = false ∧
        s.pwr.loaderState = false ∧ broadcastMacOk s c.path c.payload = true ∧ s.net.bcastSeq.toNat < fieldLe 8 4 c.payload % 2 ^ 32)
    ∧ (∃ s ∈ ([{ keyedLink with net := { linked.net with bcastLost := false, bcastSeq := 9 } }] : List State),
        broadcastMacOk s curtailAB.path curtailAB.payload = true ∧
        fieldLe 8 4 curtailAB.payload % 2 ^ 32 ≤ s.net.bcastSeq.toNat) := by decide +kernel

/-- States and operands that meet the hypotheses of RectangleSubmissions. -/
theorem test_meets_RectangleSubmissions :
    (∃ s ∈ ([{ run with disp := { run.disp with dstBuf := true } }] : List State), isUp s .disp = true ∧ isOwner s true = false)
    ∧ (∃ s ∈ ([{ run with disp := { run.disp with dstBuf := true, sizeW := 49 } }] : List State), isUp s .disp = true ∧
        isOwner s false = true ∧ submitOk .fill s = false ∧ inBounds s (rectOf .fill s) = false)
    ∧ (∃ s ∈ ([{ run with disp := { run.disp with dstBuf := true, sizeW := 48, sizeH := 8, queue := List.replicate 7 (rectAB .fill) } }] : List State),
        isOwner s false = true ∧ submitOk .copy s = true)
    ∧ (∃ s ∈ ([{ run with disp := { run.disp with dstBuf := true, pending := true, buf := true } }] : List State), isOwner s false = true ∧
        submitOk .write s = false ∧ s.disp.pending = true ∧ s.disp.dstBuf = s.disp.buf)
    ∧ (∃ s ∈ ([run] : List State), isOwner s false = true ∧ submitOk .write s = false ∧ s.disp.pending = false ∧
        s.disp.dstBuf = s.disp.shown)
    ∧ (∃ s ∈ ([{ run with disp := { run.disp with dstBuf := true, queue := List.replicate 8 (rectAB .fill) } }] : List State),
        isOwner s false = true ∧ submitOk .fill s = false ∧ 8 ≤ s.disp.queue.length ∧ inBounds s (rectOf .fill s) = true)
    ∧ (∃ s ∈ ([{ run with disp := { run.disp with fifo := List.replicate 64 0 } }] : List State), isUp s .disp = true ∧
        64 ≤ s.disp.fifo.length)
    ∧ (∃ s ∈ ([{ run with disp := { run.disp with fifo := List.replicate 63 0 } }] : List State), s.disp.fifo.length < 64 ∧
        s.disp.flight.any needsData = false)
    ∧ (∃ s ∈ ([flying .write] : List State), s.disp.fifo = [] ∧ s.disp.flight = [rectAB .write] ∧ needsData (rectAB .write) = true)
    ∧ (∃ s ∈ ([{ run with disp := { run.disp with queue := [rectAB .fill] } }] : List State), s.disp.queue = [rectAB .fill] ∧
        s.disp.fifo = [] ∧ mayFly s (rectAB .fill) = true)
    ∧ (∃ s ∈ ([{ flying .copy with disp := { (flying .copy).disp with queue := [rectAB .fill] } }] : List State),
        s.disp.queue = [rectAB .fill] ∧ s.disp.fifo = [] ∧ mayFly s (rectAB .fill) = false) := by decide +kernel

/-- States and operands that meet the hypotheses of RectanglesFinish. -/
theorem test_meets_RectanglesFinish :
    (∃ s ∈ ([{ flying .fill with disp := { (flying .fill).disp with doneSeq := 0xFFFF } }] : List State), isUp s .disp = true ∧
        s.disp.flight = [rectAB .fill] ∧ (rectAB .fill).seq = s.disp.doneSeq + 1 ∧ s.disp.finished = [] ∧ s.disp.fifo = [] ∧
        Canonical s.disp.fb0 ∧ Canonical s.disp.fb1 ∧ needsData (rectAB .fill) = false ∧ (rectAB .fill).op = .fill)
    ∧ (∃ s ∈ ([{ flying .write with disp := { (flying .write).disp with doneSeq := 0xFFFF } }] : List State), isUp s .disp = true ∧
        s.disp.flight = [rectAB .write] ∧ (rectAB .write).seq = s.disp.doneSeq + 1 ∧ s.disp.finished = [] ∧ s.disp.fifo = [] ∧
        Canonical s.disp.fb0 ∧ Canonical s.disp.fb1 ∧ needsData (rectAB .write) = true) := by decide +kernel

/-- States and operands that meet the hypotheses of CommitsAndBlankings. -/
theorem test_meets_CommitsAndBlankings :
    (∃ s ∈ ([run] : List State), isUp s .disp = true ∧ isOwner s true = false ∧ isOwner s false = true ∧ s.disp.pending = false ∧
        s.disp.queue = [] ∧ s.disp.flight = [] ∧ s.disp.lcdDue = false)
    ∧ (∃ s ∈ ([{ run with disp := { run.disp with pending := true, lcdDue := true } }] : List State), isOwner s false = true ∧
        s.disp.pending = true ∧ s.disp.lcdDue = true ∧ s.disp.commitDone = false)
    ∧ (∃ s ∈ ([{ run with disp := { run.disp with pending := true, commitDone := true, buf := true } }] : List State),
        s.disp.pending = true ∧ s.disp.commitDone = true ∧ s.disp.commitLate = false ∧ isUp s .host = true)
    ∧ (∃ s ∈ ([{ run with disp := { run.disp with pumpOk := false, reloadDue := true } }] : List State), s.disp.pixelMode = false ∧
        s.disp.pumpOk = false ∧ isUp s .seq = true ∧ s.disp.reloadDue = true) := by decide +kernel

/-- States and operands that meet the hypotheses of Annunciator. -/
theorem test_meets_Annunciator :
    (∃ s ∈ ([{ run with aud := { run.aud with released := true, queue := [⟨3, false, false⟩] }, fw := { run.fw with manifest := .blank } }] : List State),
        isUp s .aud = true ∧ s.aud.queue = [⟨3, false, false⟩] ∧ s.aud.playing = none ∧ s.aud.released = true ∧ s.aud.latched = false ∧
        promptExists s 3 = false)
    ∧ (∃ s ∈ ([{ run with aud := { run.aud with released := true, queue := [⟨3, false, false⟩] }, fw := { run.fw with manifest := .bytes (zeros 16 ++ [1] ++ zeros 111 ++ [8, 0, 0, 0, 0, 0, 0, 0, 16, 0, 0, 0, 0, 0, 0, 0]), written := [(0, [1, 0, 0, 0, 3] ++ zeros 11)] } }] : List State),
        isUp s .aud = true ∧ s.aud.queue = [⟨3, false, false⟩] ∧ promptExists s 3 = true)
    ∧ (∃ s ∈ ([{ run with aud := { run.aud with released := true, stageOn := true, retries := 4 } }] : List State), s.aud.stageOn = true ∧
        s.aud.released = true ∧ s.aud.hold = false ∧ s.aud.latched = false ∧ s.aud.retries.toNat < 5)
    ∧ (∃ s ∈ ([{ run with aud := { run.aud with released := true, stageOn := true, retries := 5 } }] : List State), s.aud.stageOn = true ∧
        s.aud.hold = false ∧ s.aud.latched = false ∧ 5 ≤ s.aud.retries.toNat)
    ∧ (∃ s ∈ ([{ run with aud := { run.aud with released := true, hold := true } }] : List State), isUp s .aud = true ∧
        s.aud.hold = true) := by decide +kernel

/-- States and operands that meet the hypotheses of BackgroundEngines. -/
theorem test_meets_BackgroundEngines :
    (∃ s ∈ ([{ run with bgd := { run.bgd with sramWord := 0x1FFFF, scrubLate := true } }] : List State), engineRuns s 0 = true ∧
        s.bgd.sramWord = 0x1FFFF ∧ s.bgd.sweepLate = false)
    ∧ (∃ s ∈ ([{ run with bgd := { run.bgd with sramWord := 5, codeBlock := 5 } }] : List State), engineRuns s 0 = true ∧
        s.bgd.sramWord ≠ 0x1FFFF ∧ Island.plc ≠ .aon ∧ Island.plc ≠ .safe ∧ Island.plc ≠ .bgd ∧ isUp s .safe = true ∧ isUp s .plc = true ∧
        s.flash.writable = true ∧ s.bgd.codeRepeat = false)
    ∧ (∃ s ∈ ([{ run with bgd := { run.bgd with codeBlock := 5, codeRepeat := true } }] : List State), engineRuns s 0 = true ∧
        s.bgd.codeRepeat = true)
    ∧ (∃ s ∈ ([{ run with bgd := { run.bgd with suspended := 1 } }] : List State), engineRuns s 0 = false)
    ∧ (∃ s ∈ ([run] : List State), isUp s .bgd = true ∧ s.bgd.released = true ∧ s.flash.writable = true ∧ engineRuns s 3 = true ∧
        isUp s .seq = true ∧ s.bil.closed = []) := by decide +kernel

/-- States and operands that meet the hypotheses of LogFlashZones. -/
theorem test_meets_LogFlashZones :
    (∃ s ∈ ([zoned ⟨[⟨0, 1, true⟩], [3], [], 126, none, false⟩] : List State), isUp s .sec = true ∧
        (zoneOf s.flash .events).fill < perBlock .events)
    ∧ (∃ s ∈ ([zoned ⟨[⟨0, 1, true⟩], [5, 3], [], 127, none, false⟩] : List State), isUp s .sec = true ∧
        perBlock .events ≤ (zoneOf s.flash .events).fill ∧ (zoneOf s.flash .events).free ≠ [])
    ∧ (∃ s ∈ ([let s := zoned ⟨[⟨0, 1, true⟩], [5, 3], [], 127, none, false⟩; { s with bgd := { s.bgd with suspended := 4 } }] : List State),
        s.bgd.suspended.getLsbD 2 = true ∧ isUp s .sec = true ∧ reserveLow (takePlace .events s) = true)
    ∧ (∃ s ∈ ([zoned ⟨[⟨0, 1, true⟩], [], [], 127, none, false⟩] : List State), perBlock .events ≤ (zoneOf s.flash .events).fill ∧
        (zoneOf s.flash .events).free = [])
    ∧ (∃ s ∈ ([zoned ⟨[⟨0, 1, true⟩], [3], [7, 8], 1, none, false⟩] : List State), isUp s .bgd = true ∧ s.bgd.released = true ∧
        s.pwr.brown.active = false ∧ (zoneOf s.flash .events).free.length ≤ 1 ∧ (zoneOf s.flash .events).erasing = none ∧
        s.bgd.suspended.getLsbD 2 = false ∧ (zoneOf s.flash .events).dirty ≠ [])
    ∧ (∃ s ∈ ([zoned ⟨[⟨0, 1, true⟩, ⟨1, 2, true⟩], [], [], 1, none, false⟩] : List State), (zoneOf s.flash .events).free.length ≤ 1 ∧
        (zoneOf s.flash .events).erasing = none ∧ (zoneOf s.flash .events).dirty = [] ∧
        (zoneOf s.flash .events).used = [⟨0, 1, true⟩, ⟨1, 2, true⟩])
    ∧ (∃ s ∈ ([zoned ⟨[⟨0, 1, true⟩], [], [], 1, some 4, false⟩] : List State), (zoneOf s.flash .events).erasing = some 4 ∧
        (zoneOf s.flash .events).suspended = false ∧ s.pwr.brown.active = false)
    ∧ (∃ s ∈ ([zoned ⟨[⟨0, 1, true⟩, ⟨1, 2001, true⟩], [6, 4], [], 1, none, false⟩] : List State), engineRuns s 2 = true ∧
        wornBlock s .events = some 1 ∧ (zoneOf s.flash .events).free ≠ []) := by decide +kernel

/-- States and operands that meet the hypotheses of HostPortFrames. -/
theorem test_meets_HostPortFrames_frames :
    (∃ s ∈ ([run] : List State), isUp s .host = true ∧ (parseFrame [0x00, 0x20, 0x04]).read = false ∧
        (parseFrame [0x00, 0x20, 0x04]).len = 1 ∧ outside (parseFrame [0x00, 0x20, 0x04]) 0 = false ∧ s.hst.pending.toNat < 256 ∧
        mustHold s .host = false ∧ ([0x00] : Bytes).length ≠ 3)
    ∧ (∃ s ∈ ([run] : List State), let h := parseFrame [0x80, 0x80, 0x00]; h.read = true ∧ h.len = 1 ∧ HostQuiet s ∧ FencesWait s ∧
        outside h 0 = false ∧ islandOf (h.addr / 0x1000) = some Island.aud ∧ NoneWaitAt (h.addr / 0x1000) s ∧ isUp s .aud = true ∧
        epochOk s .aud (hostRequest .read h.addr 0 s) = true)
    ∧ (∃ s ∈ ([without .aud .resetting run] : List State), let h := parseFrame [0x80, 0x80, 0x00]; isUp s .host = true ∧ HostQuiet s ∧
        FencesWait s ∧ NoneWaitAt (h.addr / 0x1000) s ∧ isUp s .aud = false)
    ∧ (∃ s ∈ ([setPort run .aud { state := .up, epoch := 7 }] : List State), let h := parseFrame [0x80, 0x80, 0x00]; isUp s .host = true ∧
        HostQuiet s ∧ FencesWait s ∧ isUp s .aud = true ∧ epochOk s .aud (hostRequest .read h.addr 0 s) = false)
    ∧ (∃ s ∈ ([run] : List State), let h := parseFrame [0x80, 0xC0, 0x00]; h.read = true ∧ h.len = 1 ∧ HostQuiet s ∧ FencesWait s ∧
        outside h 0 = true) := by decide +kernel

/-- States and operands that meet the hypotheses of HostPortFrames. -/
theorem test_meets_HostPortFrames_mailbox :
    (∃ s ∈ ([run] : List State), s.hst.request = none ∧ s.pwr.loaderState = false ∧ isUp s .seq = true ∧ s.hst.responses = [] ∧
        s.hst.notifies = [] ∧ s.hst.fail = false ∧ islandOf 0xC = none ∧ islandOf 8 = some Island.aud ∧ isUp s .aud = true ∧
        epochOk s .aud (hostRequest .write 0x8000 1 s) = true ∧ (11 : Byte).toNat < 12 ∧ 240 < (241 : Byte).toNat ∧
        (240 : Byte).toNat ≤ 240)
    ∧ (∃ s ∈ ([without .seq .resetting run] : List State), s.hst.request = none ∧ 12 ≤ (12 : Byte).toNat ∧ s.pwr.loaderState = false ∧
        isUp s .seq = false ∧ islandOf 2 = some Island.seq)
    ∧ (∃ s ∈ ([{ run with hst := { run.hst with responses := [[1], [2]], notifies := [[3]] } }] : List State),
        s.hst.responses = [[1], [2]] ∧ s.hst.notifies = [[3]])
    ∧ (∃ s ∈ ([{ run with hst := { run.hst with responses := List.replicate 7 [9] }, od := { run.od with out := [⟨.mailbox, 0, false, [1]⟩] } }] : List State),
        s.od.out.find? (·.path == .mailbox) = some ⟨.mailbox, 0, false, [1]⟩ ∧ s.hst.responses.length < 8)
    ∧ (∃ s ∈ ([{ run with hst := { run.hst with responses := List.replicate 8 [9] }, od := { run.od with out := [⟨.mailbox, 0, false, [1]⟩] } }] : List State),
        s.od.out.find? (·.path == .mailbox) = some ⟨.mailbox, 0, false, [1]⟩ ∧ 8 ≤ s.hst.responses.length)
    ∧ (∃ s ∈ ([{ run with hst := { run.hst with notifies := List.replicate 3 [9] }, od := { run.od with out := [⟨.mailbox, 0, true, [1]⟩] } }] : List State),
        s.od.out.find? (·.path == .mailbox) = some ⟨.mailbox, 0, true, [1]⟩ ∧ s.hst.notifies.length < 4)
    ∧ (∃ s ∈ ([{ run with hst := { run.hst with notifies := List.replicate 4 [9] }, od := { run.od with out := [⟨.mailbox, 0, true, [1]⟩] } }] : List State),
        s.od.out.find? (·.path == .mailbox) = some ⟨.mailbox, 0, true, [1]⟩ ∧ 4 ≤ s.hst.notifies.length) := by decide +kernel

/-! ### A record and a statement that are signed -/

/-- keyedRun with a nonce to answer. -/
def mirrored : State := { keyedRun with sec := { run.sec with mirrorNonce := some (zeros 16) }, fw := { run.fw with manifest := .blank } }

/-- The private scalar for recordAB. -/
def ledgerD : Nat := 0x2B5134DF76F5E6F5AAD7461AAFDFF401DE94DCC9BA6A8AEE7A9E7E7DA142F784

/-- The nonce key for recordAB. -/
def ledgerK : Bytes := beBytes 32 0xD6DCDF458D38CDC1AF15B9700A8A94AB92E140B67CCB1B23E9390084A3EB201A

/-- The hash for recordAB. -/
def ledgerH : Bytes := beBytes 32 0x859437EEE2D64FBEE2AB1491A33B56426C291AC2D64108BB7171D4E8797E30B1

/-- The public key for recordAB. -/
def ledgerP : Bytes := beBytes 32 0x21687060BEC5DB2AE8D303CB8AC881E62C4C1D172D3F61CB1632ABB2900462A9
    ++ beBytes 32 0x0ADC1B8F8A2158B6CCAE63196167C008EF5AA9619A675A3CB27A44894204AD14

/-- The signature for recordAB. -/
def ledgerS : Bytes := beBytes 32 0x0180BD3A3EF8B1E9F94EBE255DB1D44A0114A58C149BC767F935A6791246F4FA
    ++ beBytes 32 0x3CC3E951A3A58B81460846DBD4570109CB34E9F3AC16190D84DBB3632FDAC1BB

/-- The private scalar for the statement of mirrored. -/
def mirrorD : Nat := 7

/-- The nonce key for the statement of mirrored. -/
def mirrorK : Bytes := beBytes 32 0x2E38186FC7C5F197812487CC2DD61910757B9E7C0C82DBAC3F37C4B3B0379E80

/-- The hash for the statement of mirrored. -/
def mirrorH : Bytes := beBytes 32 0xC984091C584259B5BC022A5188E39BAC549871E8C0845B98277025A8B3956101

/-- The public key for the statement of mirrored. -/
def mirrorP : Bytes := beBytes 32 0x8E533B6FA0BF7B4625BB30667C01FB607EF9F8B8A80FEF5B300628703187B2A3
    ++ beBytes 32 0x73EB1DBDE03318366D069F83A6F5900053C73633CB041B21C55E1A86C1F400B4

/-- The signature for the statement of mirrored. -/
def mirrorS : Bytes := beBytes 32 0xFE0954840A9F203F9279EBCEFDB237F32FD0CCAB826A4B617D6EAF7918F085A3
    ++ beBytes 32 0xAAD1827B5D2C5452E48EE7CDA00666D5D20CE171490F6B6FC139202CB8A3E059

theorem test_ledger_scalar : (ledgerKeys keyedRun).1 = ledgerD := by decide +kernel
theorem test_ledger_nonce : (ledgerKeys keyedRun).2 = ledgerK := by decide +kernel
theorem test_ledger_hash : sha256 (recordHead recordAB ++ prevHash keyedRun) = ledgerH := by decide +kernel
theorem test_ledger_public : publicKey ledgerD = ledgerP := by decide +kernel
theorem test_ledger_try : ecdsaTry ledgerD ledgerK ledgerH 0#8 = some ledgerS := by decide +kernel
theorem test_ledger_verifies : ecdsaVerify ledgerP ledgerH ledgerS = true := by decide +kernel
theorem test_mirror_nonce : hkdf [] (slotKey mirrored 3) (ascii "HL-NONCE-M") 32 = mirrorK := by decide +kernel
theorem test_mirror_hash : sha256 (mirrorBody (zeros 16) (mirrored.sec.mirrorCount + 1) mirrored) = mirrorH := by decide +kernel
theorem test_mirror_public : publicKey mirrorD = mirrorP := by decide +kernel
theorem test_mirror_try : ecdsaTry mirrorD mirrorK mirrorH 0#8 = some mirrorS := by decide +kernel
theorem test_mirror_verifies : ecdsaVerify mirrorP mirrorH mirrorS = true := by decide +kernel

/-- The record is signed. -/
theorem test_ledger_signs : recordSignature recordAB keyedRun = some ledgerS := by
  rw [recordSignature, test_ledger_scalar, test_ledger_nonce, test_ledger_hash]
  exact ecdsaSign_first test_ledger_public test_ledger_try test_ledger_verifies

/-- The statement is signed. -/
theorem test_mirror_signs : mirrorSignature (mirrorBody (zeros 16) (mirrored.sec.mirrorCount + 1) mirrored) mirrored = some mirrorS := by
  rw [mirrorSignature, test_mirror_nonce, test_mirror_hash, show identity mirrored = mirrorD by decide +kernel]
  exact ecdsaSign_first test_mirror_public test_mirror_try test_mirror_verifies

/-- Only the keys, the head of the chain and the record decide the signature. -/
theorem test_signature_depends (r : Record) (s : State) (b : Billing) (hg : b.genesisDone = s.bil.genesisDone)
    (hh : b.headHash = s.bil.headHash) : recordSignature r { s with bil := b } = recordSignature r s := by
  simp only [recordSignature, ledgerKeys, prevHash, identity, slotKey, devicePublicKey, hg, hh]

/-- States and operands that meet the hypotheses of LedgerRecords: a record that is closed, and one that is held. -/
theorem test_meets_LedgerRecords_signed :
    (∃ s : State, s.bil.closed = [recordAB] ∧ isUp s .seq = true ∧ s.bil.closedFresh ≤ 0 ∧ s.bil.held = [] ∧ canSign s = true ∧
        recordSignature (afterDiscarded s.bil.discarded recordAB) s = some ledgerS)
    ∧ (∃ s : State, s.bil.held = [recordAB] ∧ canSign s = true ∧ recordSignature recordAB s = some ledgerS) :=
  ⟨⟨{ keyedRun with bil := { run.bil with closed := [recordAB] } }, rfl, by decide +kernel, by decide +kernel, rfl, by decide +kernel,
      (test_signature_depends recordAB keyedRun { run.bil with closed := [recordAB] } rfl rfl).trans test_ledger_signs⟩,
    ⟨{ keyedRun with bil := { run.bil with held := [recordAB] } }, rfl, by decide +kernel,
      (test_signature_depends recordAB keyedRun { run.bil with held := [recordAB] } rfl rfl).trans test_ledger_signs⟩⟩

/-- A state that meets the hypotheses of KeysAndMirror's third clause. -/
theorem test_meets_KeysAndMirror_signed : isUp mirrored .sec = true ∧ mirrored.sec.scanLock = false
    ∧ mirrored.sec.mirrorNonce = some (zeros 16) ∧ mirrored.sec.signFault = false ∧ recordFirst mirrored = false
    ∧ mirrorSignature (mirrorBody (zeros 16) (mirrored.sec.mirrorCount + 1) mirrored) mirrored = some mirrorS :=
  ⟨by decide +kernel, by decide +kernel, by decide +kernel, by decide +kernel, by decide +kernel, test_mirror_signs⟩

/-- States that meet the hypotheses of StepTakesTheFrontCommand and of OtpOnlyGrows. -/
theorem test_meets_StepTakesTheFrontCommand :
    (∃ t, Machine.step { run with pending := [.commit] } = .next t) ∧ run.pending = [] ∧ Machine.step run = .next run := ⟨⟨_, rfl⟩, rfl, rfl⟩

/-- A state that meets the hypotheses of EveryStepKeepsSettled. -/
theorem test_meets_EveryStepKeepsSettled : Settled run ∧ Machine.step run = .next run :=
  ⟨⟨fun h => absurd h (by decide +kernel), by unfold PeakHeld; decide +kernel⟩, rfl⟩

end

end Sys2Proof
end

section
/-! The host's user lists, windows and captures (11): what a trigger, a completed run, a write of a window register and a write of
ADC_CAP_CTRL do to ADC's block, and what they leave alone. -/

namespace Sys2Proof.Machine

/-! ### User lists (R274, R287) -/

@[simp] theorem userList_settle (s : State) (k : Bool) : userList (settle s) k = userList s k := rfl

@[simp] theorem userList_setUserList_same (k : Bool) (u : UserList) (s : State) : userList (setUserList k u s) k = u := by
  cases k <;> rfl

theorem setUserList_frame (k : Bool) (u : UserList) (s : State) :
    setUserList k u s = { s with adc := (setUserList k u s).adc } := by
  cases k <;> rfl

theorem triggerList_of_idle {k : Bool} {s : State} (h : (userList s k).running = false) :
    triggerList k s = setUserList k { userList s k with running := true } s := by
  simp [triggerList, h]

theorem triggerList_of_running {k : Bool} {s : State} (h : (userList s k).running = true) :
    triggerList k s = setUserList k { userList s k with missed := satInc (userList s k).missed } s := by
  simp [triggerList, h]

theorem exec_go {k : Bool} {s : State} (h : adcRuns s = true) : exec (.go k) s = .next (settle (triggerList k s)) := by
  show execGo k s = _
  rw [execGo, h, guarded_true, done_eq]

theorem exec_userListTrigger_periodic {k : Bool} {s : State} (h : adcRuns s = true) (he : (userList s k).en = true)
    (ht : (userList s k).trig = 0) : exec (.userListTrigger k) s = .next (settle (triggerList k s)) := by
  show execUserListTrigger k s = _
  simp [execUserListTrigger, h, he, ht, done_eq]

/-! ### Windows (R281 to R283) -/

@[simp] theorem winAt_settle (s : State) (i : Nat) : winAt (settle s) i = winAt s i := rfl

theorem winAt_setWin_same {i : Nat} (h : i < 16) (w : WinComp) (s : State) : winAt (setWin i w s) i = w := by
  simp [winAt, setWin, h]

/-- Nothing but the window comparators, what they have fired and the event log differs from s to t. -/
def OnlyWindows (s t : State) : Prop :=
  t = { s with adc := { s.adc with wins := t.adc.wins, fired := t.adc.fired }, flash := t.flash }

theorem OnlyWindows.rfl {s : State} : OnlyWindows s s := Eq.refl s

theorem OnlyWindows.trans {s t u : State} (h : OnlyWindows s t) (h' : OnlyWindows t u) : OnlyWindows s u := by
  unfold OnlyWindows at *
  rw [h', h]

theorem OnlyWindows.userList_eq {s t : State} (h : OnlyWindows s t) (k : Bool) : userList t k = userList s k := by
  rw [h]
  rfl

theorem onFire_onlyWindows (i : Nat) (s : State) : OnlyWindows s (onFire i s) := by
  unfold onFire
  split
  · exact Eq.refl _
  · split
    · unfold OnlyWindows
      rw [logEvent_adc]
      exact logEvent_frame _ s
    · exact .rfl

/-- A value that reaches a window changes the window and, if it fires, what firing does (R281, Table 11-3). -/
theorem feedWindow_onlyWindows (signed : Bool) (v : Int) (i : Nat) (s : State) : OnlyWindows s (feedWindow signed v i s) := by
  have hset (w : WinComp) : OnlyWindows s (setWin i w s) := Eq.refl _
  unfold feedWindow
  dsimp only
  split
  · exact (hset _).trans (onFire_onlyWindows _ _)
  · exact hset _

theorem feedSource_onlyWindows (signed : Bool) (src : Nat) (v : Int) (s : State) : OnlyWindows s (feedSource signed src v s) := by
  refine List.foldlRecOn (motive := OnlyWindows s) _ _ .rfl fun t ht i _ => ?_
  split
  · exact ht.trans (feedWindow_onlyWindows _ _ _ _)
  · exact ht

/-- A result stands in its entry of the list, whatever windows watch it (Table 11-10). -/
theorem userList_takeResult (k : Bool) (e : Nat) (v : BitVec 16) (clip : Bool) (s : State) :
    userList (takeResult k e v clip s) k = { userList s k with
      values := (userList s k).values.setIfInBounds e v, clips := (userList s k).clips.setIfInBounds e clip
      seqs := (userList s k).seqs.setIfInBounds e ((userList s k).seqs.toList.getD e 0 + 1) } := by
  unfold takeResult
  rw [(feedSource_onlyWindows _ _ _ _).userList_eq, userList_setUserList_same]

theorem takeResult_frame (k : Bool) (e : Nat) (v : BitVec 16) (clip : Bool) (s : State) :
    takeResult k e v clip s = { s with adc := (takeResult k e v clip s).adc, flash := (takeResult k e v clip s).flash } := by
  unfold takeResult
  dsimp only
  generalize hu : setUserList k _ s = u
  have hs : u = { s with adc := u.adc } := hu ▸ setUserList_frame k _ s
  generalize ht : feedSource _ _ _ u = t
  have htu : OnlyWindows u t := ht ▸ feedSource_onlyWindows _ _ _ u
  rw [htu, hs]

/-- A run that has given one result (R274): it stands in entry 0, and the run ends. -/
theorem exec_userListComplete_one {k : Bool} {v : BitVec 16} {clip : Bool} {s : State} (h : adcRuns s = true)
    (hr : (userList s k).running = true) :
    exec (.userListComplete k [(v, clip)]) s = .next (settle (setUserList k { userList (takeResult k 0 v clip s) k with
      running := false, runs := (userList (takeResult k 0 v clip s) k).runs + 1 } (takeResult k 0 v clip s))) := by
  show execUserListComplete k [(v, clip)] s = _
  simp [execUserListComplete, h, hr, done_eq]

theorem exec_windowConfigWrite {w : Fin 16} {band : Bool} {v : Word} {s : State} (h : isUp s .adc = true) :
    exec (.windowConfigWrite w band v) s = .next (settle (windowWrite w band v s)) := by
  show execWindowConfigWrite w band v s = _
  rw [execWindowConfigWrite, h, guarded_true, done_eq]

/-- The host writes no window of the controller (R282). -/
theorem windowWrite_own {w : Nat} (h : 8 ≤ w) (band : Bool) (v : Word) (s : State) : windowWrite w band v s = s := by
  simp [windowWrite, h]

/-- CFG of a window with a source and a count that are not reserved: every field is taken, and the count starts again (R283). -/
theorem winAt_windowWrite_cfg {w : Nat} {v : Word} (s : State) (h : w < 8) (hs : bits v.toNat 1 5 ≤ 0x11) (hc : bits v.toNat 8 8 ≠ 0) :
    winAt (windowWrite w false v s) w = { winAt s w with
      en := hasBit v.toNat 0, src := BitVec.ofNat 5 (bits v.toNat 1 5), count := BitVec.ofNat 8 (bits v.toNat 8 8)
      hys := BitVec.ofNat 16 (bits v.toNat 16 16), out := false, cnt := 0 } := by
  rw [windowWrite, if_neg (by omega), if_neg Bool.false_ne_true, winCfgWrite]
  refine (winAt_setWin_same (by omega) _ s).trans ?_
  rw [if_pos hs, if_neg hc]

theorem windowWrite_cfg_frame (w : Nat) (v : Word) (s : State) : windowWrite w false v s
    = { s with adc := { s.adc with wins := (windowWrite w false v s).adc.wins, cfgErr := (windowWrite w false v s).adc.cfgErr } } := by
  unfold windowWrite
  split <;> rfl

/-! ### Captures (R20, R276, R279) -/

/-- The write that carries START (Table 11-11): its bit 31 is set, and TRIG_TMR is the operand's bit 7. -/
theorem hasBit_31_or_start (c : Word) : hasBit (c.toNat ||| 0x80000000) 31 = true := by
  rw [hasBit, Nat.testBit_or, show Nat.testBit 0x80000000 31 = true by decide, Bool.or_true]

theorem hasBit_7_or_start (c : Word) : hasBit (c.toNat ||| 0x80000000) 7 = c.getLsbD 7 := by
  rw [hasBit, Nat.testBit_or, show Nat.testBit 0x80000000 7 = false by decide, Bool.or_false, BitVec.getLsbD]

/-- CAPTURE_START starts after the fields of ADC_CAP_CTRL are taken (R20): u has the fields, and of the capture's state nothing else. -/
theorem exec_captureStart {c : Word} {s : State} (h : isUp s .adc = true) :
    ∃ u, exec (.captureStart c) s = .next (settle (startCapture u)) ∧ u.adc.capTrigTmr = c.getLsbD 7
      ∧ u.adc.capBusy = s.adc.capBusy ∧ u.adc.capBuf = s.adc.capBuf ∧ u.adc.capRefused = s.adc.capRefused
      ∧ u.adc.listsRun = s.adc.listsRun := by
  have hexec : exec (.captureStart c) s = execCaptureStart c s := rfl
  rw [hexec, execCaptureStart, h, guarded_true, done_eq, capCtrlWrite, hasBit_31_or_start]
  exact ⟨_, rfl, hasBit_7_or_start c, rfl, rfl, rfl, rfl⟩

theorem startCapture_of_busy {s : State} (h : s.adc.capBusy = true) :
    startCapture s = { s with adc := { s.adc with capRefused := true } } := by
  rw [startCapture, if_pos h]

theorem startCapture_of_waits {s : State} (hb : s.adc.capBusy = false) (hw : s.adc.capTrigTmr = true ∨ s.adc.listsRun = false) :
    startCapture s = { s with adc := { s.adc with capStart := true } } := by
  rw [startCapture, if_neg (by simp [hb]), if_pos (by simpa using hw)]

theorem startCapture_of_free {s : State} (hb : s.adc.capBusy = false) (ht : s.adc.capTrigTmr = false) (hl : s.adc.listsRun = true) :
    startCapture s = captureBegins s := by
  rw [startCapture, if_neg (by simp [hb]), if_neg (by simp [ht, hl])]

theorem adcRuns_iff (s : State) : adcRuns s = true ↔ isUp s .adc = true ∧ s.adc.listsRun = true := by
  simp [adcRuns]

/-- The end of a capture fills the buffer with LENGTH samples. -/
theorem exec_captureDone {l : List (Option (BitVec 16))} {s : State} (h : adcRuns s = true) (hb : s.adc.capBusy = true) :
    ∃ t, exec (.captureDone l) s = .next t ∧ t.adc.capBusy = false ∧ t.adc.capDone = true
      ∧ t.adc.capBuf.length = s.adc.capLength.toNat ∧ t = { s with adc := t.adc, fab := t.fab, glt := t.glt } := by
  have hexec : exec (.captureDone l) s = execCaptureDone l s := rfl
  rw [hexec, execCaptureDone, h, hb, Bool.and_true, guarded_true, done_eq]
  refine ⟨_, rfl, rfl, rfl, ?_, rfl⟩
  simp

/-- Settles O26: a trigger, a run of one entry, a window's CFG and a capture's START and end, each by what it does to ADC's block. -/
theorem userListsAndCaptures : Obligations.UserListsAndCaptures := by
  unfold Obligations.UserListsAndCaptures
  intro s
  refine ⟨?go, ?missed, ?complete, ?ownWindow, ?hostWindow, ?refused, ?begins, ?waits, fun l => exec_captureDone⟩
  case go =>
    intro k hrun hidle
    refine ⟨?_, fun hen htrig => ?_⟩
    · rw [exec_go hrun, triggerList_of_idle hidle]
    · rw [exec_userListTrigger_periodic hrun hen htrig, triggerList_of_idle hidle]
  case missed =>
    intro k hrun hbusy
    rw [exec_go hrun, triggerList_of_running hbusy]
  case complete =>
    intro k v clip hrun hbusy _
    refine ⟨_, exec_userListComplete_one hrun hbusy, ?_, ?_, ?_, ?_, ?_⟩
    · simp [userList_takeResult]
    · simp [userList_takeResult]
    · simp
    · simp [userList_takeResult]
    · rw [settle_frame, setUserList_frame, takeResult_frame]
  case ownWindow =>
    intro w v hup hown
    constructor <;> rw [exec_windowConfigWrite hup, windowWrite_own hown]
  case hostWindow =>
    intro w v hup hhost hsrc hcount
    have hwin := winAt_windowWrite_cfg s hhost hsrc hcount
    refine ⟨_, exec_windowConfigWrite hup, ?_, ?_, ?_, ?_, ?_⟩
    case refine_5 => rw [settle_frame, windowWrite_cfg_frame]
    all_goals rw [winAt_settle, hwin]
  case refused =>
    intro c hrun hbusy _
    obtain ⟨u, hexec, -, hubusy, hubuf, -, -⟩ := exec_captureStart (c := c) ((adcRuns_iff s).1 hrun).1
    rw [startCapture_of_busy (hubusy.trans hbusy)] at hexec
    exact ⟨_, hexec, rfl, hubusy.trans hbusy, hubuf⟩
  case begins =>
    intro c hrun hfree htrig
    obtain ⟨hup, hlists⟩ := (adcRuns_iff s).1 hrun
    obtain ⟨u, hexec, hutrig, hubusy, -, hurefused, hulists⟩ := exec_captureStart (c := c) hup
    rw [startCapture_of_free (hubusy.trans hfree) (hutrig.trans htrig) (hulists.trans hlists)] at hexec
    exact ⟨_, hexec, rfl, rfl, hurefused⟩
  case waits =>
    intro c hup hfree hwait
    obtain ⟨u, hexec, hutrig, hubusy, -, -, hulists⟩ := exec_captureStart (c := c) hup
    rw [startCapture_of_waits (hubusy.trans hfree) (hwait.imp hutrig.trans hulists.trans)] at hexec
    exact ⟨_, hexec, hubusy.trans hfree, rfl⟩

end Sys2Proof.Machine
end

section
/-! The operations of a charging session (01, 08): which blocks of the state they write, and what Break and the end of a session leave. -/

namespace Sys2Proof.Machine

/-! ### The open record (R322, R324) -/

theorem closeOne_frame (k : RecordKind) (e n : Time) (a : Int) (s : State) :
    closeOne k e n a s = { s with bil := (closeOne k e n a s).bil } := by
  unfold closeOne
  split <;> rfl

theorem closeDueAtStart_frame (t : Time) (s : State) : closeDueAtStart t s = { s with bil := (closeDueAtStart t s).bil } := by
  unfold closeDueAtStart closeDue
  dsimp only
  split
  · rw [closeOne_frame]
  · rfl

theorem closeAtPeriodStart_frame (k : RecordKind) (t : Time) (s : State) :
    closeAtPeriodStart k t s = { s with bil := (closeAtPeriodStart k t s).bil } := by
  unfold closeAtPeriodStart
  dsimp only
  split
  · exact closeDueAtStart_frame t s
  · rw [closeOne_frame, closeDueAtStart_frame]

/-- A stop reason that is recorded writes the open record, and of the session only that it stands there (R324). -/
theorem markStop_frame (r : BitVec 8) (s : State) : markStop r s
    = { s with bil := (markStop r s).bil, ses := { s.ses with stopMarked := (markStop r s).ses.stopMarked } } := by
  unfold markStop
  split <;> rfl

/-! ### Prompts and moves of the lock -/

theorem queuePrompt_frame (n : Nat) (b : Bool) (s : State) : queuePrompt n b s = { s with aud := (queuePrompt n b s).aud } := by
  unfold queuePrompt
  split <;> rfl

theorem preemptPrompt_frame (n : Nat) (s : State) : preemptPrompt n s = { s with aud := (preemptPrompt n s).aud } := by
  unfold preemptPrompt
  dsimp only
  repeat' split
  all_goals rfl

theorem eventPrompt_frame (n : Nat) (s : State) : eventPrompt n s = { s with aud := (eventPrompt n s).aud } := by
  unfold eventPrompt
  split
  · rfl
  · split
    · exact preemptPrompt_frame n s
    · exact queuePrompt_frame n false s

theorem commandMove_frame (b : Bool) (s : State) : commandMove b s = { s with lck := (commandMove b s).lck } := by
  unfold commandMove
  split <;> rfl

@[simp] theorem eventPrompt_ses (n : Nat) (s : State) : (eventPrompt n s).ses = s.ses := by rw [eventPrompt_frame]

@[simp] theorem commandMove_ses (b : Bool) (s : State) : (commandMove b s).ses = s.ses := by rw [commandMove_frame]

/-! ### What a session's operations write -/

/-- From s to t at most the session, the pilot, the lock, the open record and the prompts differ. -/
def OnlySession (s t : State) : Prop :=
  t = { s with ses := t.ses, plt := t.plt, lck := t.lck, bil := t.bil, aud := t.aud }

/-- From s to t at most those and the switches differ. -/
def OnlySwitching (s t : State) : Prop :=
  t = { s with ses := t.ses, plt := t.plt, lck := t.lck, bil := t.bil, aud := t.aud, swg := t.swg }

theorem OnlySession.trans {s t u : State} (h : OnlySession s t) (h' : OnlySession t u) : OnlySession s u := by
  unfold OnlySession at *
  rw [h', h]

theorem OnlySession.onlySwitching {s t : State} (h : OnlySession s t) : OnlySwitching s t := by
  unfold OnlySession OnlySwitching at *
  rw [h]

theorem OnlySwitching.trans {s t u : State} (h : OnlySwitching s t) (h' : OnlySwitching t u) : OnlySwitching s u := by
  unfold OnlySwitching at *
  rw [h', h]

theorem OnlySession.swg_eq {s t : State} (h : OnlySession s t) : t.swg = s.swg := by rw [h]

theorem OnlySwitching.safe_eq {s t : State} (h : OnlySwitching s t) : t.safe = s.safe := by rw [h]

theorem OnlySwitching.live_eq {s t : State} (h : OnlySwitching s t) : t.live = s.live := by rw [h]

theorem markStop_onlySession (r : BitVec 8) (s : State) : OnlySession s (markStop r s) := by
  unfold OnlySession
  rw [markStop_frame]

theorem eventPrompt_onlySession (n : Nat) (s : State) : OnlySession s (eventPrompt n s) := by
  unfold OnlySession
  rw [eventPrompt_frame]

theorem commandMove_onlySession (b : Bool) (s : State) : OnlySession s (commandMove b s) := by
  unfold OnlySession
  rw [commandMove_frame]

theorem releaseGrant_onlySession (s : State) : OnlySession s (releaseGrant s) := by
  unfold releaseGrant
  repeat' split
  all_goals exact Eq.refl _

theorem closeSession_onlySession (r : BitVec 8) (s : State) : OnlySession s (closeSession r s) := by
  unfold closeSession
  split
  · exact Eq.refl _
  · exact ((markStop_onlySession r s).trans (releaseGrant_onlySession _)).trans (Eq.refl _)

/-- Ended as PilotStatus shows it, and the PWM's next duty dropped. -/
def phaseEnded (s : State) : State :=
  { s with ses := { s.ses with phase := .ended, breakStep := 0, makeStep := 0, breakStop := 0 }
           plt := { s.plt with next := 0, digital := false } }

/-- What becomes of the lock at a session's end (R217). -/
def lockAtEnd (r : BitVec 8) (s : State) : State :=
  if r = 6 || s.safe.active then s
  else if !lockFitted s || s.lck.state == 5 || s.lck.faults != 0 then s
  else if setting? s 10 3 = 1 then commandMove false s
  else { s with ses := { s.ses with unlockWaits := true } }

/-- The prompt of a session's end (Table 17-3). -/
def endPrompt (r : BitVec 8) (s : State) : State :=
  if r = 5 then eventPrompt 8 s else if 1 ≤ r.toNat ∧ r.toNat ≤ 4 then eventPrompt 6 s else s

theorem enterEnded_eq (r : BitVec 8) (s : State) : enterEnded r s = endPrompt r (lockAtEnd r (phaseEnded s)) := rfl

theorem lockAtEnd_onlySession (r : BitVec 8) (s : State) : OnlySession s (lockAtEnd r s) := by
  unfold lockAtEnd
  repeat' split
  case isFalse.isFalse.isTrue => exact commandMove_onlySession _ _
  all_goals exact Eq.refl _

/-- Of the session, the lock's part at the end decides only whether it waits for state A. -/
theorem lockAtEnd_ses (r : BitVec 8) (s : State) :
    (lockAtEnd r s).ses = { s.ses with unlockWaits := (lockAtEnd r s).ses.unlockWaits } := by
  unfold lockAtEnd
  repeat' split
  all_goals simp

theorem endPrompt_onlySession (r : BitVec 8) (s : State) : OnlySession s (endPrompt r s) := by
  unfold endPrompt
  repeat' split
  · exact eventPrompt_onlySession _ _
  · exact eventPrompt_onlySession _ _
  · exact Eq.refl _

@[simp] theorem endPrompt_ses (r : BitVec 8) (s : State) : (endPrompt r s).ses = s.ses := by
  unfold endPrompt
  repeat' split
  all_goals simp

theorem enterEnded_onlySession (r : BitVec 8) (s : State) : OnlySession s (enterEnded r s) :=
  (lockAtEnd_onlySession r (phaseEnded s)).trans (endPrompt_onlySession r _)

theorem enterEnded_ses (r : BitVec 8) (s : State) : (enterEnded r s).ses = { s.ses with
    phase := .ended, breakStep := 0, makeStep := 0, breakStop := 0, unlockWaits := (enterEnded r s).ses.unlockWaits } := by
  rw [enterEnded_eq, endPrompt_ses, lockAtEnd_ses]
  rfl

/-- The session that is closed has its one stop reason, and its grant is released (R34, R41). -/
theorem closeSession_ses {r : BitVec 8} {s : State} (h : s.ses.inUse = true) : (closeSession r s).ses.stop = r
    ∧ (closeSession r s).ses.inUse = false ∧ (closeSession r s).ses.grant = none := by
  have hon : sessionOn s = true := h
  have hmark : (markStop r s).ses.inUse = true := by rw [markStop_frame]; exact h
  rw [closeSession, hon]
  simp only [Bool.not_true, Bool.false_eq_true, if_false, releaseGrant, hmark, if_true]
  split
  · rename_i hnone
    exact ⟨rfl, rfl, hnone⟩
  · exact ⟨rfl, rfl, rfl⟩

theorem endSession_onlySession (r : BitVec 8) (s : State) : OnlySession s (endSession r s) :=
  (closeSession_onlySession r s).trans (enterEnded_onlySession r _)

/-- A session that ends is over, with its stop reason and no grant (R34, R41). -/
theorem endSession_ses {r : BitVec 8} {s : State} (h : s.ses.inUse = true) : (endSession r s).ses.phase = .ended
    ∧ (endSession r s).ses.stop = r ∧ (endSession r s).ses.inUse = false ∧ (endSession r s).ses.grant = none := by
  rw [endSession, enterEnded_ses]
  exact ⟨rfl, closeSession_ses h⟩

theorem endSession_phase (r : BitVec 8) (s : State) : (endSession r s).ses.phase = .ended := by
  rw [endSession, enterEnded_ses]

/-! ### Break (R207) -/

theorem enterPaused_onlySession (s : State) : OnlySession s (enterPaused s) :=
  eventPrompt_onlySession 5 { s with ses := { s.ses with phase := .paused, breakStep := 0 } }

@[simp] theorem enterPaused_phase (s : State) : (enterPaused s).ses.phase = .paused := by simp [enterPaused]

/-- What Break leads to: a pause, its resumption at once, or the session's end (R33, R34). -/
def breakOutcome (s : State) : State :=
  if s.ses.breakStop = 0 then
    if 60 ≤ (enterPaused s).ses.allowed.toNat && !(enterPaused s).safe.active then enterOffered (enterPaused s) else enterPaused s
  else endSession s.ses.breakStop s

/-- A pilot fault's hold begins where it waited for the PWM to stop (R193). -/
def dueHold (s : State) : State :=
  if s.plt.holdDue then
    { s with plt := { s.plt with holdDue := false, holdF := true, level := .stateF, nextLevel := .stateF, duty := 0, next := 0 } }
  else s

theorem finishBreak_eq (s : State) : finishBreak s = dueHold (breakOutcome { s with ses := { s.ses with breakStep := 0 } }) := rfl

theorem breakOutcome_onlySession (s : State) : OnlySession s (breakOutcome s) := by
  unfold breakOutcome
  repeat' split
  · exact (enterPaused_onlySession s).trans (Eq.refl _)
  · exact enterPaused_onlySession s
  · exact endSession_onlySession _ s

theorem dueHold_onlySession (s : State) : OnlySession s (dueHold s) := by
  unfold dueHold
  split <;> exact Eq.refl _

@[simp] theorem dueHold_ses (s : State) : (dueHold s).ses = s.ses := by
  unfold dueHold
  split <;> rfl

theorem finishBreak_onlySession (s : State) : OnlySession s (finishBreak s) := by
  rw [finishBreak_eq]
  show OnlySession { s with ses := { s.ses with breakStep := 0 } } _
  exact (breakOutcome_onlySession _).trans (dueHold_onlySession _)

theorem breakStepFive_onlySession (s : State) : OnlySession s (breakStepFive s) := by
  unfold breakStepFive
  dsimp only
  split
  · exact Eq.refl _
  · exact finishBreak_onlySession _

theorem releaseCoil_onlySwitching (s : State) : OnlySwitching s (releaseCoil s) := by
  unfold releaseCoil
  dsimp only
  repeat' split
  case isTrue.isTrue.isFalse | isFalse.isFalse => exact (breakStepFive_onlySession _).onlySwitching
  all_goals exact Eq.refl _

/-- Break as it begins: the gates are commanded off, and the stop reason is recorded unless this is a pause (R33, R207). -/
def breakBegins (r : BitVec 8) (s : State) : State :=
  let s := { s with
    ses := { s.ses with phase := .break, breakStop := r, stopFresh := true, makeStep := 0, breakStep := 1 }
    swg := { s.swg with gateCmd := 0, heldGates := 0, heldCoil := none, interlock := false } }
  if r = 0 then s else markStop r s

theorem startBreak_eq (r : BitVec 8) (s : State) : startBreak r s =
    if s.swg.gateCmd != 0 then { breakBegins r s with
      ses := { (breakBegins r s).ses with breakStep := if (breakBegins r s).swg.gateFb = 0 then 2 else 1 } }
    else releaseCoil (breakBegins r s) := rfl

theorem breakBegins_onlySwitching (r : BitVec 8) (s : State) : OnlySwitching s (breakBegins r s) := by
  unfold breakBegins
  dsimp only
  split
  · exact Eq.refl _
  · exact (markStop_onlySession r _).onlySwitching

@[simp] theorem breakBegins_swg (r : BitVec 8) (s : State) : (breakBegins r s).swg
    = { s.swg with gateCmd := 0, heldGates := 0, heldCoil := none, interlock := false } := by
  unfold breakBegins
  dsimp only
  split
  · rfl
  · rw [markStop_frame]

theorem breakBegins_ses (r : BitVec 8) (s : State) : (breakBegins r s).ses = { s.ses with
    phase := .break, breakStop := r, stopFresh := true, makeStep := 0, breakStep := 1
    stopMarked := (breakBegins r s).ses.stopMarked } := by
  unfold breakBegins
  dsimp only
  split
  · rfl
  · rw [markStop_frame]

theorem startBreak_onlySwitching (r : BitVec 8) (s : State) : OnlySwitching s (startBreak r s) := by
  rw [startBreak_eq]
  split
  · exact (breakBegins_onlySwitching r s).trans (Eq.refl _)
  · exact (breakBegins_onlySwitching r s).trans (releaseCoil_onlySwitching _)

/-! What Break leaves of the switches. -/

/-- The coil's release writes the coil's command alone: at most a release stays held back (R207, R210). -/
theorem releaseCoil_swg (s : State) : (releaseCoil s).swg.gateCmd = s.swg.gateCmd
    ∧ (releaseCoil s).swg.auxFault = s.swg.auxFault
    ∧ (s.swg.heldCoil ≠ some true → (releaseCoil s).swg.heldCoil ≠ some true) := by
  unfold releaseCoil
  dsimp only
  repeat' split
  all_goals simp [(breakStepFive_onlySession _).swg_eq]

theorem startBreak_swg (r : BitVec 8) (s : State) : (startBreak r s).swg.gateCmd = 0
    ∧ (startBreak r s).swg.auxFault = s.swg.auxFault ∧ (startBreak r s).swg.heldCoil ≠ some true := by
  rw [startBreak_eq]
  split
  · simp
  · obtain ⟨hgate, hfault, hheld⟩ := releaseCoil_swg (breakBegins r s)
    exact ⟨by simp [hgate], by simp [hfault], hheld (by simp)⟩

/-! Where Break leads. -/

/-- Neither Make nor Charging: no gate is to turn on. -/
def NotEnergising (s : State) : Prop := s.ses.phase ≠ .make ∧ s.ses.phase ≠ .charging

/-- The session has stopped with a reason, or will when Break is complete. -/
def StopsWith (r : BitVec 8) (s : State) : Prop := s.ses.breakStop = r ∨ s.ses.stop = r

theorem finishBreak_notEnergising (s : State) : NotEnergising (finishBreak s) := by
  unfold NotEnergising
  rw [finishBreak_eq, dueHold_ses, breakOutcome]
  repeat' split
  · simp [enterOffered]
  · simp
  · simp [endSession_phase]

theorem breakStepFive_notEnergising {s : State} (h : s.ses.phase = .break) : NotEnergising (breakStepFive s) := by
  unfold breakStepFive
  dsimp only
  split
  · simp [NotEnergising, h]
  · exact finishBreak_notEnergising _

theorem releaseCoil_notEnergising {s : State} (h : s.ses.phase = .break) : NotEnergising (releaseCoil s) := by
  unfold releaseCoil
  dsimp only
  repeat' split
  case isTrue.isTrue.isFalse | isFalse.isFalse => exact breakStepFive_notEnergising h
  all_goals simp [NotEnergising, h]

theorem startBreak_notEnergising (r : BitVec 8) (s : State) : NotEnergising (startBreak r s) := by
  have hbreak : (breakBegins r s).ses.phase = .break := by rw [breakBegins_ses]
  rw [startBreak_eq]
  split
  · simp [NotEnergising, hbreak]
  · exact releaseCoil_notEnergising hbreak

theorem finishBreak_stop {s : State} (h : s.ses.inUse = true) (hr : s.ses.breakStop ≠ 0) :
    (finishBreak s).ses.stop = s.ses.breakStop := by
  rw [finishBreak_eq, dueHold_ses, breakOutcome, if_neg hr]
  exact (endSession_ses (s := { s with ses := { s.ses with breakStep := 0 } }) h).2.1

theorem breakStepFive_stop {s : State} (h : s.ses.inUse = true) (hr : s.ses.breakStop ≠ 0) :
    StopsWith s.ses.breakStop (breakStepFive s) := by
  unfold breakStepFive
  dsimp only
  split
  · exact .inl rfl
  · exact .inr (finishBreak_stop h hr)

theorem releaseCoil_stop {s : State} (h : s.ses.inUse = true) (hr : s.ses.breakStop ≠ 0) :
    StopsWith s.ses.breakStop (releaseCoil s) := by
  unfold releaseCoil
  dsimp only
  repeat' split
  case isTrue.isTrue.isFalse | isFalse.isFalse => exact breakStepFive_stop h hr
  all_goals exact .inl rfl

theorem startBreak_stop {r : BitVec 8} {s : State} (h : s.ses.inUse = true) (hr : r ≠ 0) : StopsWith r (startBreak r s) := by
  have hses := breakBegins_ses r s
  have hstop : (breakBegins r s).ses.breakStop = r := by rw [hses]
  have huse : (breakBegins r s).ses.inUse = true := by rw [hses]; exact h
  rw [startBreak_eq]
  split
  · exact .inl hstop
  · have hcoil := releaseCoil_stop huse (by rwa [hstop])
    rwa [hstop] at hcoil

/-! ### Stops and the minimum-of rule (R34, R36, R185) -/

theorem stopSession_onlySwitching (r : BitVec 8) (s : State) : OnlySwitching s (stopSession r s) := by
  unfold stopSession
  repeat' split
  case h_1.isTrue => exact (markStop_onlySession r _).onlySwitching
  case h_2 | h_3 | h_4 => exact startBreak_onlySwitching r s
  case h_5 => exact (endSession_onlySession r s).onlySwitching
  all_goals exact Eq.refl _

theorem recompute_onlySwitching (s : State) : OnlySwitching s (recompute s) := by
  unfold recompute pauseSession
  dsimp only
  repeat' split
  case isFalse.isTrue.isTrue.isTrue => exact (startBreak_onlySwitching 0 _)
  all_goals exact Eq.refl _

end Sys2Proof.Machine
end

section
/-! Make (08): the five steps, what stops them, and what each command of the row does. -/

namespace Sys2Proof.Machine

/-! ### Gates -/

theorem turnOn_of_aux {g : BitVec 4} {s : State} (h : s.swg.aux = true) :
    turnOn g s = { s with swg := { s.swg with gateCmd := s.swg.gateCmd ||| (g &&& declaredGates s) } } := by
  rw [turnOn, if_pos h]

/-- GATE_N is declared for one phase and for three (R200). -/
theorem declaredGates_neutral (s : State) : (declaredGates s).getLsbD 3 = true := by
  unfold declaredGates
  split <;> rfl

/-- The gate of a declared phase is a declared gate (R200). -/
theorem declaredGates_phase {p : Phase3} {s : State} (h : (phases s).contains (phaseNum p) = true) :
    (declaredGates s).getLsbD (phaseNum p) = true := by
  unfold phases at h
  unfold declaredGates
  split at h
  case isTrue h3 =>
    rw [if_pos h3]
    cases p <;> rfl
  case isFalse h1 =>
    rw [if_neg h1]
    cases p with
    | l1 => rfl
    | l2 => exact absurd h (by decide)
    | l3 => exact absurd h (by decide)

theorem getLsbD_setBit_phase (p : Phase3) : (setBit (0 : BitVec 4) (phaseNum p)).getLsbD (phaseNum p) = true := by
  cases p <;> rfl

theorem firstGate_frame (s : State) :
    firstGate s = { s with bil := (firstGate s).bil, ses := { s.ses with gatesSeen := true, counting := true } } := by
  unfold firstGate
  dsimp only
  split
  · rw [closeAtPeriodStart_frame]
  · rfl

theorem gateBar_logEvent (k : EventKind) (s : State) : gateBar (logEvent k s) = gateBar s := by
  rw [logEvent_frame]
  rfl

/-! ### Steps 1 and 2 -/

theorem exec_make {b : Bool} {s : State} (hmay : mayMake s = true) (hgates : s.swg.gateCmd = 0) :
    exec (.make b) s = .next (settle (if b then beginMake s else diagFail 10 s)) := by
  show execMake b s = _
  rw [execMake, hmay, hgates]
  rfl

/-- The read-backs show off: the coil is energised at full voltage (R204). -/
theorem beginMake_of_off {s : State} (h : s.swg.gateFb = 0) :
    beginMake s = makeStepTwo false { diagPass 10 s with ses := { s.ses with phase := .make, makeStep := 1, pulledIn := false } } := by
  unfold beginMake
  exact if_pos h

/-- Otherwise Make waits in step 1, with the switches as they are (R204). -/
theorem beginMake_of_on {s : State} (h : s.swg.gateFb ≠ 0) :
    beginMake s = { diagPass 10 s with ses := { s.ses with phase := .make, makeStep := 1, pulledIn := false } } := by
  unfold beginMake
  exact if_neg h

/-! ### Steps 3 and 4 -/

/-- The contactor is closed and nothing bars a gate: the hold loop takes the coil and GATE_N turns on (R204). -/
theorem makeStepFour_of_free {s : State} (hphase : s.ses.phase = .make) (hstep : s.ses.makeStep = 3) (haux : s.swg.aux = true)
    (hpull : s.ses.pulledIn = true) (hbar : gateBar s = none) :
    (makeStepFour s).ses.makeStep = 5 ∧ (makeStepFour s).swg.gateCmd.getLsbD 3 = true ∧ (makeStepFour s).swg.aux = true
      ∧ (makeStepFour s).ses.counting = true ∧ (makeStepFour s).ses.gatesSeen = true := by
  have hfirst := firstGate_frame s
  unfold makeStepFour
  rw [hphase, hstep, haux, hpull, hbar]
  simp only [beq_self_eq_true, decide_true, Bool.and_true, if_true, nextFree]
  rw [turnOn_of_aux (by rw [hfirst]; exact haux), hfirst]
  simp [declaredGates_neutral]
  exact haux

/-- A condition that fails stops Make (R206). -/
theorem makeStepFour_of_barred {s : State} {r : BitVec 8} (hphase : s.ses.phase = .make) (hstep : s.ses.makeStep = 3)
    (haux : s.swg.aux = true) (hpull : s.ses.pulledIn = true) (hbar : gateBar s = some r) : makeStepFour s = startBreak r s := by
  unfold makeStepFour
  rw [hphase, hstep, haux, hpull, hbar]
  rfl

/-- The contactor is not closed: Make waits for AUX_IN (R204). -/
theorem makeStepFour_of_open {s : State} (haux : s.swg.aux = false) : makeStepFour s = s := by
  simp [makeStepFour, haux]

/-- EconomiserPullInMs is over (R204). -/
def pullInOver (s : State) : State := { s with ses := { s.ses with pulledIn := true } }

theorem exec_pullInElapsed {s : State} (hphase : s.ses.phase = .make) (hstep : s.ses.makeStep = 3) :
    exec .pullInElapsed s = .next (settle (makeStepFour (pullInOver s))) := by
  show execPullInElapsed s = _
  rw [execPullInElapsed, hphase, hstep]
  rfl

/-- AUX_IN reads closed while the coil is commanded: diagnostic 4 passes, and Make goes on (R204, R253). -/
theorem exec_auxInConfirmed_closed {s : State} (hup : isUp s .tmr = true) (hcoil : s.swg.coilCmd = true) :
    exec (.auxInConfirmed true) s = .next (settle (makeStepFour (diagPass 4 { s with swg := { s.swg with aux := true } }))) := by
  show execAuxInConfirmed true s = _
  rw [execAuxInConfirmed, hup, guarded_true, done_eq, auxConfirmed, hcoil]
  rfl

/-! ### Step 5 -/

/-- A declared phase gate that is off turns on when nothing bars it (R204). -/
theorem phaseGate_of_free {p : Phase3} {s : State} (hphase : s.ses.phase = .make) (hstep : s.ses.makeStep = 5)
    (hdecl : (phases s).contains (phaseNum p) = true) (hoff : s.swg.gateCmd.getLsbD (phaseNum p) = false)
    (haux : s.swg.aux = true) (hbar : gateBar s = none) :
    (phaseGate p s).swg.gateCmd.getLsbD (phaseNum p) = true ∧ (phaseGate p s).ses.counting = true
      ∧ (phaseGate p s).ses.gatesSeen = true := by
  have hfirst := firstGate_frame s
  have hbit : (declaredGates (firstGate s)).getLsbD (phaseNum p) = true := by
    rw [hfirst]
    exact declaredGates_phase hdecl
  unfold phaseGate
  rw [hphase, hstep, hdecl, hoff, hbar]
  simp only [beq_self_eq_true, decide_true, Bool.not_false, Bool.and_true, if_true]
  rw [turnOn_of_aux (by rw [hfirst]; exact haux)]
  refine ⟨?_, by rw [hfirst], by rw [hfirst]⟩
  rw [BitVec.getLsbD_or, BitVec.getLsbD_and, hbit, getLsbD_setBit_phase, Bool.and_self, Bool.or_true]

theorem exec_zeroCrossing_of_armed {p : Phase3} {s : State} (hmet : isUp s .met = true) (htmr : isUp s .tmr = true)
    (harmed : s.met.beyond10.toList.getD (phaseNum p) false = true) : exec (.zeroCrossing p) s = .next (settle (phaseGate p
      { s with met := { s.met with beyond10 := s.met.beyond10.setIfInBounds (phaseNum p) false } })) := by
  show execZeroCrossing p s = _
  rw [execZeroCrossing, hmet, harmed, Bool.and_self, guarded_true, done_eq]
  exact congrArg (fun u => Host.Outcome.next (settle u)) (if_pos htmr)

theorem exec_zeroCrossing_of_unarmed {p : Phase3} {s : State} (h : s.met.beyond10.toList.getD (phaseNum p) false = false) :
    exec (.zeroCrossing p) s = .next (settle s) := by
  show execZeroCrossing p s = _
  rw [execZeroCrossing, h, Bool.and_false, guarded_false, done_eq]

theorem exec_zeroCrossingTimeout {p : Phase3} {s : State} (hphase : s.ses.phase = .make) (hstep : s.ses.makeStep = 5)
    (hdecl : (phases s).contains (phaseNum p) = true) (hoff : s.swg.gateCmd.getLsbD (phaseNum p) = false) :
    exec (.zeroCrossingTimeout p) s = .next (settle (phaseGate p (logEvent (.crossingTimeout p) s))) := by
  show execZeroCrossingTimeout p s = _
  rw [execZeroCrossingTimeout, hphase, hstep, hdecl, hoff]
  rfl

/-! ### Read-backs, and a contactor that does not close -/

/-- The gates that are driven: those commanded, unless gate-kill overrides them (R203). -/
def drivenGates (s : State) : BitVec 4 := if s.glt.kill then 0 else s.swg.gateCmd

/-- The read-back is taken and compared with what is driven (R202). -/
def readbackJudged (g : BitVec 4) (s : State) : State :=
  let fb := g &&& declaredGates s
  if fb = drivenGates s then diagPass 3 { s with swg := { s.swg with gateFb := fb } }
  else diagFail 3 { s with swg := { s.swg with gateFb := fb, fbMismatch := true } }

/-- A read-back that shows off ends step 1 of Break, or of Make (R207, R210). -/
def stepOneEnds (fb : BitVec 4) (s : State) : State :=
  if s.ses.phase == .break && s.ses.breakStep = 1 && fb = 0 then { s with ses := { s.ses with breakStep := 2 } }
  else if s.ses.phase == .make && s.ses.makeStep = 1 && fb = 0 then makeStepTwo true s
  else s

theorem readback_eq (g : BitVec 4) (s : State) :
    readback g s = stepOneEnds (g &&& declaredGates s) (makeComplete (readbackJudged g s)) := rfl

theorem exec_readbackCheck {g : BitVec 4} {s : State} (h : isUp s .tmr = true) :
    exec (.readbackCheck g) s = .next (settle (readback g s)) := by
  show execReadbackCheck g s = _
  rw [execReadbackCheck, h, guarded_true, done_eq]

@[simp] theorem readbackJudged_ses (g : BitVec 4) (s : State) : (readbackJudged g s).ses = s.ses := by
  unfold readbackJudged
  dsimp only
  split
  · rfl
  · simp

theorem readbackJudged_swg (g : BitVec 4) (s : State) : (readbackJudged g s).swg
    = { s.swg with gateFb := g &&& declaredGates s, fbMismatch := (readbackJudged g s).swg.fbMismatch } := by
  unfold readbackJudged
  dsimp only
  split
  · rfl
  · simp

/-- A read-back that shows off in step 1 of Make: the interlock holds the coil's command for its 50 µs (R210). -/
theorem readback_makeStepOne {s : State} (hphase : s.ses.phase = .make) (hstep : s.ses.makeStep = 1) :
    readback 0 s = makeStepTwo true (readbackJudged 0 s) := by
  have hwait : makeComplete (readbackJudged 0 s) = readbackJudged 0 s := by simp [makeComplete, hstep]
  rw [readback_eq, hwait]
  simp [stepOneEnds, hphase, hstep]

/-- Every declared gate is on and reads back on: Charging (R204). -/
theorem makeComplete_of_on {s : State} (hphase : s.ses.phase = .make) (hstep : s.ses.makeStep = 5)
    (hcmd : s.swg.gateCmd = declaredGates s) (hfb : s.swg.gateFb = s.swg.gateCmd) :
    makeComplete s = eventPrompt 4 { s with ses := { s.ses with phase := .charging, makeStep := 0 } } := by
  unfold makeComplete
  exact if_pos (by simp [hphase, hstep, ← hcmd, hfb])

theorem readbackJudged_of_agree {s : State} (hcmd : s.swg.gateCmd = declaredGates s) (hkill : s.glt.kill = false) :
    readbackJudged (declaredGates s) s = diagPass 3 { s with swg := { s.swg with gateFb := declaredGates s } } := by
  simp [readbackJudged, drivenGates, hkill, hcmd]

/-- A read-back that shows every declared gate on, all of them commanded, ends Make (R204). -/
theorem readback_complete {s : State} (hphase : s.ses.phase = .make) (hstep : s.ses.makeStep = 5)
    (hcmd : s.swg.gateCmd = declaredGates s) (hkill : s.glt.kill = false) :
    readback (declaredGates s) s = eventPrompt 4 { diagPass 3 s with
      ses := { s.ses with phase := .charging, makeStep := 0 }, swg := { s.swg with gateFb := declaredGates s } } := by
  have hon := makeComplete_of_on (s := diagPass 3 { s with swg := { s.swg with gateFb := declaredGates s } })
    hphase hstep hcmd hcmd.symm
  rw [readback_eq, readbackJudged_of_agree hcmd hkill, hon]
  simp [stepOneEnds]
  rfl

/-- The contactor has not closed in time: diagnostic 4 fails, and Make stops for the safe state (R205). -/
theorem exec_auxCloseTimeout {s : State} (hphase : s.ses.phase = .make) (hstep : s.ses.makeStep = 3) (haux : s.swg.aux = false) :
    exec .auxCloseTimeout s = .next (settle (startBreak 6 (diagFail 4 { s with swg := { s.swg with auxFault := true } }))) := by
  show execAuxCloseTimeout s = _
  rw [execAuxCloseTimeout, hphase, hstep, haux]
  rfl

/-- Settles O15: Make's five steps, each by the state that its command leads to. -/
theorem makeSteps : Obligations.MakeSteps := by
  unfold Obligations.MakeSteps
  intro s
  refine ⟨?energised, ?waitsForOff, ?interlocked, ?killTestFails, ?auxAwaited, ?gateN, ?barred, ?auxCloses, ?phaseGates,
    fun p => exec_zeroCrossing_of_unarmed, ?charging, ?notClosed⟩
  case energised =>
    intro hmay hgates hoff
    refine ⟨_, exec_make hmay hgates, ?_⟩
    rw [if_pos rfl, beginMake_of_off hoff]
    exact ⟨rfl, rfl, rfl, rfl, hgates, rfl⟩
  case waitsForOff =>
    intro hmay hgates hon
    refine ⟨_, exec_make hmay hgates, ?_⟩
    rw [if_pos rfl, beginMake_of_on hon]
    exact ⟨rfl, rfl, rfl⟩
  case interlocked =>
    intro hup hphase hstep
    refine ⟨_, exec_readbackCheck hup, ?_⟩
    rw [readback_makeStepOne hphase hstep]
    have hswg := readbackJudged_swg 0 s
    refine ⟨rfl, rfl, rfl, ?_, ?_⟩
    · show (readbackJudged 0 s).swg.coilCmd = _
      rw [hswg]
    · show satInc (readbackJudged 0 s).swg.contactorOps = _
      rw [hswg]
  case killTestFails =>
    intro hmay hgates
    exact exec_make hmay hgates
  case auxAwaited =>
    intro hphase hstep haux
    rw [exec_pullInElapsed hphase hstep, makeStepFour_of_open (s := pullInOver s) haux]
    rfl
  case gateN =>
    intro hphase hstep haux hbar
    obtain ⟨hfive, hgate, -, hcount, hseen⟩ := makeStepFour_of_free (s := pullInOver s) hphase hstep haux rfl hbar
    exact ⟨_, exec_pullInElapsed hphase hstep, hfive, hgate, hcount, hseen⟩
  case barred =>
    intro hphase hstep haux hbar
    obtain ⟨r, hr⟩ := Option.isSome_iff_exists.mp hbar
    refine ⟨_, exec_pullInElapsed hphase hstep, ?_⟩
    rw [makeStepFour_of_barred (s := pullInOver s) hphase hstep haux rfl hr]
    obtain ⟨hgates, -, hheld⟩ := startBreak_swg r (pullInOver s)
    exact ⟨(startBreak_notEnergising r _).1, hgates, hheld⟩
  case auxCloses =>
    intro hup hphase hstep hpull hcoil hbar
    obtain ⟨hfive, hgate, haux, -, -⟩ :=
      makeStepFour_of_free (s := diagPass 4 { s with swg := { s.swg with aux := true } }) hphase hstep rfl hpull hbar
    exact ⟨_, exec_auxInConfirmed_closed hup hcoil, haux, hfive, hgate⟩
  case phaseGates =>
    intro p hphase hstep hdecl hoff haux hbar
    constructor
    · intro hmet htmr harmed
      exact ⟨_, exec_zeroCrossing_of_armed hmet htmr harmed, phaseGate_of_free
        (s := { s with met := { s.met with beyond10 := s.met.beyond10.setIfInBounds (phaseNum p) false } })
        hphase hstep hdecl hoff haux hbar⟩
    · refine ⟨_, exec_zeroCrossingTimeout hphase hstep hdecl hoff, ?_⟩
      apply phaseGate_of_free
      case hphase => rw [logEvent_ses, hphase]
      case hstep => rw [logEvent_ses, hstep]
      case hdecl => rw [logEvent_frame]; exact hdecl
      case hoff => rw [logEvent_swg, hoff]
      case haux => rw [logEvent_swg, haux]
      case hbar => rw [gateBar_logEvent, hbar]
  case charging =>
    intro hup hphase hstep hcmd hkill
    refine ⟨_, exec_readbackCheck hup, ?_⟩
    rw [readback_complete hphase hstep hcmd hkill]
    constructor
    · rw [settle_ses, eventPrompt_ses]
    · rw [settle_swg, (eventPrompt_onlySession _ _).swg_eq]
  case notClosed =>
    intro hphase hstep haux
    refine ⟨_, exec_auxCloseTimeout hphase hstep haux, ?_⟩
    generalize hu : diagFail 4 { s with swg := { s.swg with auxFault := true } } = u
    have hfault : u.swg.auxFault = true := by rw [← hu, diagFail_swg]
    have hcause : 0x208 ∈ u.live.standing := hu ▸ diagFail_standing (n := 4) _ (by decide)
    have huse : u.ses.inUse = s.ses.inUse := by rw [← hu, diagFail_ses]
    obtain ⟨-, hkeep, hheld⟩ := startBreak_swg 6 u
    refine ⟨hkeep.trans hfault, ?_, hheld, fun hin => startBreak_stop (huse.trans hin) (by decide)⟩
    rw [settle_live, (startBreak_onlySwitching 6 u).live_eq]
    exact hcause

end Sys2Proof.Machine
end

section
/-! The seal (10): what a read of the eight lines notes, what a change and a fault report, and what a read leaves alone. -/

namespace Sys2Proof.Machine

/-! ### What follows a seal word leaves SAFE's block alone (R123, R185, R217) -/

theorem noLock_frame (s : State) : noLock s = { s with lck := (noLock s).lck } := by
  unfold noLock
  split <;> rfl

theorem foldl_logEvent_frame {α : Type} (k : α → EventKind) (l : List α) (s : State) :
    l.foldl (fun s x => logEvent (k x) s) s = { s with flash := (l.foldl (fun s x => logEvent (k x) s) s).flash } := by
  induction l generalizing s with
  | nil => rfl
  | cons x l ih =>
    rw [List.foldl_cons, ih, logEvent_frame]

/-- Bounding writes the settings, both copies and the event log (R123). -/
theorem sealBounding_frame (s : State) : sealBounding s = { s with
    set := (sealBounding s).set, copyA := (sealBounding s).copyA, copyB := (sealBounding s).copyB, flash := (sealBounding s).flash } := by
  unfold sealBounding
  dsimp only
  split
  · rfl
  · rw [foldl_logEvent_frame]
    rfl

/-- Levels write their windows and their counts (R244, R282). -/
theorem setLevels_frame (l : List Nat) (s : State) : setLevels l s = { s with adc := (setLevels l s).adc, rcd := (setLevels l s).rcd } := by
  unfold setLevels
  induction l generalizing s with
  | nil => rfl
  | cons n l ih =>
    rw [List.foldl_cons, ih]
    rfl

@[simp] theorem recompute_safe (s : State) : (recompute s).safe = s.safe := (recompute_onlySwitching s).safe_eq

theorem sealFollow_safe (s : State) : (sealFollow s).safe = s.safe := by
  have hlock : (noLock s).safe = s.safe := by rw [noLock_frame]
  have hbound (u : State) : (sealBounding u).safe = u.safe := by rw [sealBounding_frame]
  unfold sealFollow
  dsimp only
  rw [recompute_safe]
  repeat' split
  case isTrue.isTrue => rw [setLevels_frame, hbound, hlock]
  case isTrue.isFalse => rw [hbound, hlock]
  case isFalse.isTrue => rw [setLevels_frame, hlock]
  case isFalse.isFalse => rw [hlock]

/-! ### One read (R257, R258) -/

/-- Diagnostic 6 passes at a read that raises no cause: n reports stood before the read (R253). -/
def passSix (n : Nat) (s : State) : State :=
  if s.safe.reports.length = n && !s.live.standing.contains 0x302 then
    { s with safe := { s.safe with passed := setBit s.safe.passed 6 } }
  else s

theorem passSix_frame (n : Nat) (s : State) : passSix n s = { s with safe := { s.safe with passed := (passSix n s).safe.passed } } := by
  unfold passSix
  split <;> rfl

theorem exec_sealRead {p1 p2 p3 : Byte} {s : State} (hsafe : isUp s .safe = true) (haon : isUp s .aon = true)
    (hpulses : s.safe.pulses = true) : exec (.sealRead p1 p2 p3) s = .next (settle (passSix s.safe.reports.length
      (if invalidLines p1 p2 p3 = 0 then validRead (positions p1 p2 p3) s else sealLost (invalidRead (invalidLines p1 p2 p3) s)))) := by
  show execSealRead p1 p2 p3 s = _
  rw [execSealRead, hsafe, haon, hpulses]
  rfl

/-- What every valid read notes once a word is accepted (R258). -/
def validNoted (pos : Byte) (s : State) : State :=
  { s with safe := { s.safe with lineFault := 0, sealFault := false, sealCandidate := some pos, sealValid := true }
           live := { s.live with standing := s.live.standing.filter (· != 0x302) } }

/-- A valid read after a word was accepted: the word again, a change confirmed, or a change that waits for its second read (R258). -/
theorem validRead_of_accepted {pos : Byte} {s : State} (h : s.safe.sealAccepted = true) : validRead pos s =
    if pos = s.safe.pos then
      { validNoted pos s with safe := { (validNoted pos s).safe with sealStable := s.safe.sealStable + 1, sealCandidate := none } }
    else if s.safe.sealCandidate = some pos then sealChange pos (validNoted pos s)
    else { validNoted pos s with safe := { (validNoted pos s).safe with sealStable := 0 } } := by
  unfold validRead
  simp [h, validNoted]

/-- Outside the loader state and a BIST run a seal fault is a cause (R258, R504, R525). -/
theorem sealReport_safe {c : BitVec 16} {s : State} (hload : s.pwr.loaderState = false) (hscan : s.tst.scanning = false) :
    (sealReport c s).safe = { s.safe with failed := setBit s.safe.failed 6, reports := s.safe.reports ++ [c] } := by
  rw [sealReport, hload, hscan]
  rfl

/-- A confirmed change reports cause 0301h, with the new word and CHANGED (R258, R268). -/
theorem sealChange_safe {pos : Byte} {s : State} (hload : s.pwr.loaderState = false) (hscan : s.tst.scanning = false) :
    (sealChange pos s).safe = { s.safe with
      pos := pos, sealChanged := true, sealStable := 1, sealCandidate := none
      failed := setBit s.safe.failed 6, reports := s.safe.reports ++ [0x301] } := by
  rw [sealChange, sealFollow_safe]
  exact sealReport_safe hload hscan

/-- What every read with an invalid line notes (R258). -/
def invalidNoted (bad : Byte) (s : State) : State :=
  { s with safe := { s.safe with lineFault := bad, sealFault := true, sealValid := false, sealCandidate := none, sealStable := 0 } }

theorem invalidRead_of_first {bad : Byte} {s : State} (h : s.safe.lineFault &&& bad = 0) :
    invalidRead bad s = invalidNoted bad s := by
  simp [invalidRead, invalidNoted, h]

/-- A line invalid in two reads running is cause 0302h (R258). -/
theorem invalidRead_of_second_safe {bad : Byte} {s : State} (h : s.safe.lineFault &&& bad ≠ 0) (hnew : 0x302 ∉ s.live.standing)
    (hload : s.pwr.loaderState = false) (hscan : s.tst.scanning = false) :
    (invalidRead bad s).safe = { (invalidNoted bad s).safe with
      failed := setBit s.safe.failed 6, reports := s.safe.reports ++ [0x302] } := by
  have hcause : (s.safe.lineFault &&& bad != 0 && !s.live.standing.contains 0x302) = true := by
    simpa using ⟨h, hnew⟩
  unfold invalidRead
  dsimp only
  rw [if_pos hcause]
  split
  · refine (sealReport_safe ?_ ?_).trans ?_
    case refine_1 => rw [sealBounding_frame]; exact hload
    case refine_2 => rw [sealBounding_frame]; exact hscan
    case refine_3 => rw [sealBounding_frame]; rfl
  · exact sealReport_safe hload hscan

/-- A read that is not valid stops what energises, and leaves SAFE's block alone (R30). -/
theorem sealLost_safe (s : State) : (sealLost s).safe = s.safe := by
  unfold sealLost
  split
  · exact (stopSession_onlySwitching 6 s).safe_eq
  · rfl

theorem stopSession_of_charging {r : BitVec 8} {s : State} (huse : s.ses.inUse = true) (hphase : s.ses.phase = .charging) :
    stopSession r s = startBreak r s := by
  have hon : sessionOn s = true := huse
  simp [stopSession, hon, hphase]

theorem sealLost_of_charging {s : State} (huse : s.ses.inUse = true) (hphase : s.ses.phase = .charging) :
    sealLost s = startBreak 6 s := by
  rw [sealLost, hphase, stopSession_of_charging huse hphase]
  rfl

/-- Settles O24: a read by its lines, the word that they show and what the last read showed. -/
theorem sealReads : Obligations.SealReads := by
  unfold Obligations.SealReads
  intro s p1 p2 p3 hsafe haon hpulses haccepted hload hscan
  have hexec := exec_sealRead (p1 := p1) (p2 := p2) (p3 := p3) hsafe haon hpulses
  refine ⟨?same, ?changed, ?waits, ?first, ?second⟩
  case same =>
    intro hvalid hpos
    rw [if_pos hvalid, validRead_of_accepted haccepted, if_pos hpos, passSix_frame] at hexec
    exact ⟨_, hexec, rfl, rfl, rfl, rfl, rfl, rfl, rfl⟩
  case changed =>
    intro hvalid hpos hagain
    rw [if_pos hvalid, validRead_of_accepted haccepted, if_neg hpos, if_pos hagain, passSix_frame] at hexec
    refine ⟨_, hexec, ?_⟩
    dsimp only [settle_safe]
    rw [sealChange_safe (s := validNoted _ s) hload hscan]
    exact ⟨rfl, rfl, rfl⟩
  case waits =>
    intro hvalid hpos hnew
    rw [if_pos hvalid, validRead_of_accepted haccepted, if_neg hpos, if_neg hnew, passSix_frame] at hexec
    exact ⟨_, hexec, rfl, rfl, rfl, rfl⟩
  case first =>
    intro hinvalid honce
    rw [if_neg hinvalid, invalidRead_of_first honce, passSix_frame] at hexec
    refine ⟨_, hexec, ?_, ?_, ?_, ?_, fun hphase huse => ?_⟩
    case refine_5 =>
      rw [sealLost_of_charging (s := invalidNoted _ s) huse hphase]
      exact ⟨(startBreak_notEnergising 6 _).2, (startBreak_swg 6 _).1⟩
    all_goals
      dsimp only [settle_safe]
      rw [sealLost_safe]
      rfl
  case second =>
    intro hinvalid htwice hnew
    rw [if_neg hinvalid, passSix_frame] at hexec
    refine ⟨_, hexec, ?_⟩
    dsimp only [settle_safe]
    rw [sealLost_safe, invalidRead_of_second_safe htwice hnew hload hscan]
    exact ⟨rfl, rfl, rfl⟩

end Sys2Proof.Machine
end

section
/-! Action entries of the object dictionary (05, 06): a write that passes its checks is answered OK with its effect, and what the actions
on the session, the lock, the safe state, the prompts and the mirror do. -/

namespace Sys2Proof.Machine

/-! ### A PDU that leaves (R137, R142, R345) -/

/-- From s to t PDUs have been built: their counters and queue, and what Yew holds; the status last answered stands. -/
def Sends (s t : State) : Prop := t.od.lastStatus = s.od.lastStatus
  ∧ t = { s with od := t.od, sec := { s.sec with ctx := t.sec.ctx, yew := t.sec.yew, usesLeft := t.sec.usesLeft } }

theorem Sends.rfl {s : State} : Sends s s := ⟨Eq.refl _, Eq.refl _⟩

theorem Sends.trans {s t u : State} (h : Sends s t) (h' : Sends t u) : Sends s u := by
  obtain ⟨hst, ht⟩ := h
  obtain ⟨htu, hu⟩ := h'
  exact ⟨htu.trans hst, by rw [hu, ht]⟩

theorem loadYew_sends (c : YewCtx) (key : Bytes) (n : Nat) (s : State) : Sends s (loadYew c key n s) := by
  unfold loadYew
  split <;> exact ⟨rfl, rfl⟩

theorem useSeq_sends (k : KeySel) (s : State) : Sends s (useSeq k s) := by
  cases k <;> exact ⟨rfl, rfl⟩

theorem sendPdu_sends (p : Path) (prio : BitVec 2) (note : Bool) (op : Nat) (k : KeySel) (st : Nat) (xid : BitVec 16) (b : Bytes)
    (s : State) : Sends s (sendPdu p prio note op k st xid b s) := by
  unfold sendPdu
  dsimp only
  generalize pduBody _ _ _ _ _ _ _ _ = body
  split
  · split
    · exact (useSeq_sends _ s).trans ⟨rfl, rfl⟩
    · exact .rfl
  · exact .rfl
  · split
    · exact .rfl
    · exact ((loadYew_sends _ _ _ s).trans (useSeq_sends _ _)).trans ⟨rfl, rfl⟩

theorem epochNotify_sends (s : State) : Sends s (epochNotify s) := sendPdu_sends _ _ _ _ _ _ _ _ s

/-! ### A write of one action entry (R145, R170) -/

/-- A write whose checks have passed has the effect of its entry. -/
theorem writeEntry_of_accepted {rq : Requester} {a : BitVec 16} {v : Bytes} {s : State} (h : Accepted rq false a v s)
    (hact : isAction a = true) : writeEntry rq false a v s = actionEffect a v s := by
  obtain ⟨-, hcheck, hbusy⟩ := h
  rw [writeEntry, hcheck, hact, hbusy]
  rfl

/-- An accepted write of an action entry that is not long is answered OK over the state of its effect (R132, R145, R170). -/
theorem action_answered {rq : Requester} {a : BitVec 16} {v : Bytes} {s u : State} {l : Later} (h : Accepted rq false a v s)
    (hact : isAction a = true) (hlong : (odRow? a).map OdRow.long = some false) (heff : actionEffect a v s = ⟨stOk, u, l⟩)
    (hl : l = .nothing ∨ l = .notify) :
    ∃ (o : Od) (c : YewCtx) (y : Bytes) (n : BitVec 16), o.lastStatus = 0 ∧ done (actionRowWrite rq a v s)
      = .next (settle { u with od := o, sec := { u.sec with ctx := c, yew := y, usesLeft := n } }) := by
  obtain ⟨r, hrow, hshort⟩ := Option.map_eq_some_iff.mp hlong
  have hserved : odServed s = true := h.1
  have hwrite : actionRowWrite rq a v s = runLater l (respond rq 1 stOk [] u) := by
    simp only [actionRowWrite, hrow, hserved, hshort, if_true, Bool.false_eq_true, if_false]
    rw [writeEntry_of_accepted h hact, heff]
    rfl
  have hresp : Sends { u with od := { u.od with lastStatus := 0 } } (respond rq 1 stOk [] u) := sendPdu_sends _ _ _ _ _ _ _ _ _
  have hlater (t : State) : Sends t (runLater l t) := by
    obtain rfl | rfl := hl
    · exact .rfl
    · exact epochNotify_sends t
  obtain ⟨hok, ht⟩ := hresp.trans (hlater _)
  rw [done_eq, hwrite]
  generalize runLater l (respond rq 1 stOk [] u) = t at hok ht
  exact ⟨t.od, t.sec.ctx, t.sec.yew, t.sec.usesLeft, hok, congrArg (fun t => Host.Outcome.next (settle t)) ht⟩

/-! ### The release of the safe state (R262, R263) -/

/-- The safe state is over: no diagnostic stands failed, the pilot is back at +12 V or held at state F level, and the line may be used. -/
def IsReleased (hold : Bool) (t : State) : Prop := t.safe.active = false ∧ t.safe.failed = 0
  ∧ t.plt.level = (if hold then .stateF else .steady) ∧ t.plc.mayTransmit = true

theorem writeEvidence_frame (type : Nat) (c : BitVec 16) (s : State) :
    writeEvidence type c s = { s with safe := (writeEvidence type c s).safe, flash := (writeEvidence type c s).flash } := by
  unfold writeEvidence
  dsimp only
  repeat' split
  case isTrue.isTrue | isFalse.isTrue => rw [logEvent_frame]
  all_goals rfl

theorem resumeBilling_frame (s : State) : resumeBilling s
    = { s with pwr := (resumeBilling s).pwr, bil := (resumeBilling s).bil, ses := (resumeBilling s).ses } := by
  unfold resumeBilling
  dsimp only
  repeat' split
  case isFalse.isTrue.isTrue => rw [markStop_frame]
  case isFalse.isTrue.isFalse => rw [markStop_frame]; rfl
  all_goals rfl

theorem commonRelease_isReleased (s : State) : IsReleased s.plt.holdF (commonRelease s) := by
  have hplt : (setActive false (clearKill s)).plt = s.plt := by simp
  rw [← hplt]
  unfold IsReleased commonRelease
  dsimp only
  rw [resumeBilling_frame]
  split <;> exact ⟨rfl, rfl, rfl, rfl⟩

theorem commandMove_isReleased {hold : Bool} {s : State} (b : Bool) (h : IsReleased hold s) : IsReleased hold (commandMove b s) := by
  rw [commandMove_frame]
  exact h

theorem versionKept_isReleased {hold : Bool} {s : State} (h : IsReleased hold s) : IsReleased hold (versionKept s) := by
  rw [versionKept, logEvent_frame]
  exact h

/-- Either release ends the safe state (R263). -/
theorem releaseQuietly_isReleased (automatic : Bool) (s : State) : IsReleased s.plt.holdF (releaseQuietly automatic s) := by
  have hold (u : State) (h : u.plt = s.plt) : IsReleased s.plt.holdF (commonRelease u) := h ▸ commonRelease_isReleased u
  unfold releaseQuietly
  dsimp only
  generalize hu : (if automatic then _ else _ : State) = u
  have hplt : u.plt = s.plt := by
    rw [← hu, writeEvidence_frame]
    split <;> rfl
  have hmoved := hold u hplt
  repeat' split
  · exact versionKept_isReleased (commandMove_isReleased _ hmoved)
  · exact versionKept_isReleased hmoved
  · exact commandMove_isReleased _ hmoved
  · exact hmoved

/-! ### Sessions -/

theorem stopSession_of_paused {r : BitVec 8} {s : State} (huse : s.ses.inUse = true) (hphase : s.ses.phase = .paused) :
    stopSession r s = endSession r s := by
  have hon : sessionOn s = true := huse
  simp [stopSession, hon, hphase]

/-- A session stopped with gates on is in Break with its reason, and goes on until Break is complete (R34, R207). -/
theorem startBreak_of_gatesOn {r : BitVec 8} {s : State} (hgates : s.swg.gateCmd ≠ 0) : (startBreak r s).ses.phase = .break
    ∧ (startBreak r s).ses.breakStop = r ∧ (startBreak r s).ses.inUse = s.ses.inUse := by
  rw [startBreak_eq, if_pos (by simpa using hgates)]
  dsimp only
  rw [breakBegins_ses]
  exact ⟨rfl, rfl, rfl⟩

/-- Without a session only the allowed current follows its inputs (R185). -/
theorem recompute_of_idle {s : State} (h : s.ses.inUse = false) : recompute s = refreshAllowed s := by
  have hoff : sessionOn (refreshAllowed s) = false := h
  rw [recompute, hoff]
  rfl

/-- SessionStop is BUSY without a session (R34). -/
theorem inUse_of_sessionStop_free {v : Bytes} {s : State} (h : actionBusy s (od 5 4) v = false) : s.ses.inUse = true := by
  have hbusy : (!s.ses.inUse || (s.ses.phase == .break && s.ses.breakStop == 4)) = false := h
  simpa using (Bool.or_eq_false_iff.mp hbusy).1

/-! ### The lock, the prompts and the mirror -/

theorem commandMove_of_fitted {b : Bool} {s : State} (h : lockFitted s = true) :
    commandMove b s = { s with lck := { s.lck with queued := some b } } := if_pos h

/-- What LockFaultClear clears: the faults, LOCKED_LOST and the bars on a session (R223). -/
def lockCleared (s : State) : State :=
  { s with lck := { s.lck with faults := 0, lockedLost := false }, ses := { s.ses with lockBarred := false, lockExcused := false } }

theorem lockFaultClear_of_fitted {s : State} (h : lockFitted s = true) : lockFaultClear s = ⟨stOk, { lockCleared s with
    lck := { (lockCleared s).lck with homingDue := true, queued := some false } }, .nothing⟩ := by
  have hmove := commandMove_of_fitted (b := false)
    (s := { lockCleared s with lck := { (lockCleared s).lck with homingDue := true } }) h
  exact congrArg (Reply.mk stOk · .nothing) ((if_pos h).trans hmove)

theorem lockFaultClear_of_none {s : State} (h : lockFitted s = false) : lockFaultClear s = ⟨stOk, lockCleared s, .nothing⟩ :=
  congrArg (Reply.mk stOk · .nothing) (if_neg (Bool.eq_false_iff.mp h))

theorem safeStateRelease_of_inForce {s : State} (h : safeInForce s = true) : safeStateRelease s
    = ⟨stOk, releaseQuietly false s, if releasesStart s then .notify else .nothing⟩ := if_pos h

theorem safeStateRelease_of_none {s : State} (h : safeInForce s = false) : safeStateRelease s = ⟨stOk, s, .nothing⟩ :=
  if_neg (by simp [h])

/-- A prompt joins an empty queue while AUD can play (R441). -/
theorem queuePrompt_of_empty {n : Nat} {b : Bool} {s : State} (hup : isUp s .aud = true) (hlatch : s.aud.latched = false)
    (hrel : s.aud.released = true) (hqueue : s.aud.queue = []) :
    queuePrompt n b s = { s with aud := { s.aud with queue := [⟨BitVec.ofNat 6 n, false, b⟩] } } := by
  simp [queuePrompt, hup, hlatch, hrel, hqueue]

/-- A statement is begun while both slots verify and SEC signs (R356, Table 14-9). -/
theorem mirrorNonce_of_keys {nonce : Bytes} {s : State} (hkey : s.sec.slotOk.getLsbD 0 = true) (hledger : s.sec.slotOk.getLsbD 3 = true)
    (hfault : s.sec.signFault = false) : mirrorNonce nonce s
      = ⟨stOk, { s with sec := { s.sec with mirrorNonce := some nonce, jobs := s.sec.jobs ++ [.mirrorSign] } }, .nothing⟩ := by
  simp only [mirrorNonce, hkey, hledger, hfault]
  rfl

/-- Settles O33: each action by the state of its effect, answered OK. -/
theorem sessionActions : Obligations.SessionActions := by
  unfold Obligations.SessionActions
  intro s rq v
  refine ⟨?stopCharging, ?stopPaused, ?discard, ?clearLock, ?release, ?nothingToRelease, ?clearAudio, ?prompt, ?mirror⟩
  case stopCharging =>
    intro h hphase hgates
    have huse := inUse_of_sessionStop_free h.2.2
    obtain ⟨o, c, y, n, hok, hexec⟩ := action_answered h rfl rfl (u := stopSession 4 s) (l := .nothing) rfl (.inl rfl)
    rw [stopSession_of_charging huse hphase] at hexec
    obtain ⟨hbreak, hstop, hkeep⟩ := startBreak_of_gatesOn (r := 4) hgates
    exact ⟨_, hexec, hok, hbreak, hstop, (startBreak_swg 4 s).1, hkeep.trans huse⟩
  case stopPaused =>
    intro h hphase
    have huse := inUse_of_sessionStop_free h.2.2
    obtain ⟨o, c, y, n, hok, hexec⟩ := action_answered h rfl rfl (u := stopSession 4 s) (l := .nothing) rfl (.inl rfl)
    rw [stopSession_of_paused huse hphase] at hexec
    exact ⟨_, hexec, hok, endSession_ses huse⟩
  case discard =>
    intro h
    have hidle : s.ses.inUse = false := h.2.2
    obtain ⟨o, c, y, n, hok, hexec⟩ := action_answered h rfl rfl (u := recompute { s with ses := { s.ses with grant := none } })
      (l := .nothing) rfl (.inl rfl)
    rw [recompute_of_idle (s := { s with ses := { s.ses with grant := none } }) hidle] at hexec
    exact ⟨_, hexec, hok, rfl, rfl, rfl, rfl⟩
  case clearLock =>
    intro h
    cases hfit : lockFitted s with
    | true =>
      obtain ⟨o, c, y, n, hok, hexec⟩ := action_answered h rfl rfl (lockFaultClear_of_fitted hfit) (.inl rfl)
      exact ⟨_, hexec, hok, rfl, rfl, rfl, fun _ => ⟨rfl, rfl, rfl⟩, rfl⟩
    | false =>
      obtain ⟨o, c, y, n, hok, hexec⟩ := action_answered h rfl rfl (lockFaultClear_of_none hfit) (.inl rfl)
      exact ⟨_, hexec, hok, rfl, rfl, rfl, fun hlock => absurd hlock Bool.false_ne_true, rfl⟩
  case release =>
    intro h hforce
    obtain ⟨o, c, y, n, hok, hexec⟩ := action_answered h rfl rfl (safeStateRelease_of_inForce hforce)
      (by split <;> simp)
    exact ⟨_, hexec, hok, releaseQuietly_isReleased false s⟩
  case nothingToRelease =>
    intro h hforce
    obtain ⟨o, c, y, n, hok, hexec⟩ := action_answered h rfl rfl (safeStateRelease_of_none hforce) (.inl rfl)
    exact ⟨_, hexec, hok, rfl⟩
  case clearAudio =>
    intro h
    obtain ⟨o, c, y, n, hok, hexec⟩ := action_answered h rfl rfl (u := (audioFaultClear s).state) (l := .nothing) rfl (.inl rfl)
    exact ⟨_, hexec, hok, rfl, rfl⟩
  case prompt =>
    intro h hup hlatch hrel hqueue
    obtain ⟨o, c, y, n, hok, hexec⟩ := action_answered h rfl rfl (u := queuePrompt (ofLe [v]) true s) (l := .nothing) rfl (.inl rfl)
    have hnumber : BitVec.ofNat 6 (ofLe [v]) = v.setWidth 6 := rfl
    rw [queuePrompt_of_empty hup hlatch hrel hqueue, hnumber] at hexec
    exact ⟨_, hexec, hok, rfl, rfl⟩
  case mirror =>
    intro nonce h hkey hledger hfault
    obtain ⟨o, c, y, n, hok, hexec⟩ := action_answered h rfl rfl (mirrorNonce_of_keys hkey hledger hfault) (.inl rfl)
    exact ⟨_, hexec, hok, rfl, rfl, rfl⟩

end Sys2Proof.Machine
end

section
/-! What every command leaves (02): each ends by settling gate-kill and PEAK, whatever it did before. -/

namespace Sys2Proof.Machine

/-- The command completes, and the last that it does is to settle gate-kill and PEAK (R65, R98, Table 2-11). -/
def EndsSettled (o : Host.Outcome State Fault Refusal) : Prop := ∃ u, o = done u

theorem endsSettled_done (u : State) : EndsSettled (done u) := ⟨u, rfl⟩

theorem EndsSettled.settled {o : Host.Outcome State Fault Refusal} {t : State} (h : EndsSettled o) (ht : o = .next t) : Settled t := by
  obtain ⟨u, rfl⟩ := h
  obtain rfl : settle u = t := by simpa [done_eq] using ht
  exact settle_settled u

/-- Every command ends settled: on each branch of a condition, and whether or not there is something for it to act on. -/
theorem exec_endsSettled (c : Instr) (s : State) : EndsSettled (exec c s) := by
  cases c
  case resetn | settingsRestore | brownOut | heldResetRelease =>
    dsimp only [exec, execResetn, execSettingsRestore, execBrownOut, execHeldResetRelease]
    repeat' split
    all_goals exact endsSettled_done _
  -- The head of a list that waits.
  case ledgerRecordWrite | heldRecordWrite | sendAck | repeatFrame | ackRelay | promptStart | rectangleInFlight | bistIsland =>
    dsimp only [exec, execLedgerRecordWrite, execHeldRecordWrite, execSendAck, execRepeatFrame, execAckRelay, execPromptStart,
      execRectangleInFlight, execBistIsland]
    split <;> exact endsSettled_done _
  -- What may be there or not.
  case completion | commit | sessionExpiry | mirrorStatementReady | cryptoJob | accessSlot | bandCWaitEnd | transmitEnd | ackWindowEnd
      | resendStart | queueAgeDrop | relayedWindowEnd | beaconRepeat | telemetryHandover | fieldPortCopy | rectangleFinish
      | writeRectTimeout | eraseDone | wearCopy | heldSelfTestStart | bistIslandNotReturned | streamStall | mailboxResponse
      | registerWrite =>
    dsimp only [exec, execCompletion, execCommit, execSessionExpiry, execMirrorStatementReady, execCryptoJob, execAccessSlot,
      execBandCWaitEnd, execTransmitEnd, execAckWindowEnd, execResendStart, execQueueAgeDrop, execRelayedWindowEnd, execBeaconRepeat,
      execTelemetryHandover, execFieldPortCopy, execRectangleFinish, execWriteRectTimeout, execEraseDone, execWearCopy,
      execHeldSelfTestStart, execBistIslandNotReturned, execStreamStall, execMailboxResponse, execRegisterWrite]
    split <;> exact endsSettled_done _
  all_goals exact endsSettled_done _

/-- A step ends settled, and one on an empty queue leaves what it found. -/
theorem step_endsSettled (s : State) : s.pending = [] ∧ step s = .next s ∨ EndsSettled (step s) := by
  unfold step
  split
  next h => exact .inl ⟨h, rfl⟩
  next => exact .inr (exec_endsSettled _ _)

/-- Settles O59: a command settles gate-kill and PEAK as it ends, and an idle step leaves them as they stood. -/
theorem everyStepKeepsSettled : Obligations.EveryStepKeepsSettled := by
  unfold Obligations.EveryStepKeepsSettled
  refine ⟨fun s t hs ht => ?_, fun c s t ht => (exec_endsSettled c s).settled ht⟩
  obtain ⟨-, hidle⟩ | hend := step_endsSettled s
  · obtain rfl : s = t := by simpa [hidle] using ht
    exact hs
  · exact hend.settled ht

end Sys2Proof.Machine
end

section
/-! New requests at their destination's port (02): what the port makes of a request whose turn it is, as it is answered, dropped, refused
for its parity, or passed on to the island. -/

namespace Sys2Proof.Machine

/-! ### What the fabric's operations write -/

/-- From s to t at most the fabric and gate-kill differ. -/
def OnlyFabric (s t : State) : Prop := t = { s with fab := t.fab, glt := t.glt }

/-- From s to t at most those and log flash differ. -/
def OnlyFabricAndLog (s t : State) : Prop := t = { s with fab := t.fab, flash := t.flash, glt := t.glt }

theorem OnlyFabric.trans {s t u : State} (h : OnlyFabric s t) (h' : OnlyFabric t u) : OnlyFabric s u := by
  unfold OnlyFabric at *
  rw [h', h]

theorem OnlyFabricAndLog.trans {s t u : State} (h : OnlyFabricAndLog s t) (h' : OnlyFabricAndLog t u) : OnlyFabricAndLog s u := by
  unfold OnlyFabricAndLog at *
  rw [h', h]

theorem OnlyFabric.andLog {s t : State} (h : OnlyFabric s t) : OnlyFabricAndLog s t := by
  unfold OnlyFabric at h
  unfold OnlyFabricAndLog
  rw [h]

theorem OnlyFabric.flash_eq {s t : State} (h : OnlyFabric s t) : t.flash = s.flash := by rw [h]

theorem settle_onlyFabric (s : State) : OnlyFabric s (settle s) := settle_frame s

theorem settleFences_onlyFabric (s : State) : OnlyFabric s (settleFences s) := by
  unfold OnlyFabric
  rw [settleFences_frame]

theorem logEvent_onlyFabricAndLog (k : EventKind) (s : State) : OnlyFabricAndLog s (logEvent k s) := by
  unfold OnlyFabricAndLog
  rw [logEvent_frame]

theorem unaccept_onlyFabric (f : Flight) (s : State) : OnlyFabric s (unaccept f s) := Eq.refl _

theorem complete_onlyFabric (f : Flight) (st : FabricStatus) (w : Word) (s : State) : OnlyFabric s (complete f st w s) := Eq.refl _

theorem dropPosted_onlyFabric (d src : Island) (s : State) : OnlyFabric s (dropPosted d src s) := Eq.refl _

/-! ### A request that has been accepted and whose turn it is (R49, R52) -/

/-- The state in which a port judges a new request: it holds its tag, and its turn is noted. -/
def taken (f : Flight) (s : State) : State := noteTurn f (accept f s)

theorem taken_onlyFabric (f : Flight) (s : State) : OnlyFabric s (taken f s) := by
  unfold OnlyFabric taken
  rw [noteTurn_frame]
  rfl

@[simp] theorem taken_ports (f : Flight) (s : State) : (taken f s).fab.ports = s.fab.ports := by
  rw [taken, noteTurn_frame]
  rfl

@[simp] theorem taken_port (f : Flight) (s : State) (i : Island) : port (taken f s) i = port s i :=
  congrArg (pget · i) (taken_ports f s)

@[simp] theorem taken_isUp (f : Flight) (s : State) (i : Island) : isUp (taken f s) i = isUp s i := by simp [isUp]

@[simp] theorem taken_epochOk (f g : Flight) (s : State) (i : Island) : epochOk (taken f s) i g = epochOk s i g := by simp [epochOk]

/-! ### The port's judgement (R47, R56, R62, R79) -/

section
variable {f : Flight} {d : Island} {s : State}

theorem portTakes_of_noPort (hd : islandOf f.req.dst.toNat = none) : portTakes f s = noPort f (unaccept f s) := by
  simp [portTakes, hd]

theorem portTakes_of_badParity (hd : islandOf f.req.dst.toNat = some d) (hpar : parityOk f = false) :
    portTakes f s = logEvent (.parity f.req.dst) (failAt d .parity f (unaccept f s)) := by
  simp [portTakes, hd, hpar]

theorem portTakes_of_absent (hd : islandOf f.req.dst.toNat = some d) (hpar : parityOk f = true) (hup : isUp s d = false) :
    portTakes f s = failAt d .absent f (unaccept f s) := by
  simp [portTakes, hd, hpar, hup]

theorem portTakes_of_reserved (hd : islandOf f.req.dst.toNat = some d) (hpar : parityOk f = true) (hup : isUp s d = true)
    (hop : reservedOp f.op = true) : portTakes f s = complete f .noport 0 (unaccept f s) := by
  simp [portTakes, hd, hpar, hup, hop]

theorem portTakes_of_stale (hd : islandOf f.req.dst.toNat = some d) (hpar : parityOk f = true) (hup : isUp s d = true)
    (hop : reservedOp f.op = false) (hepoch : epochOk s d f = false) : portTakes f s = failAt d .stale f (unaccept f s) := by
  simp [portTakes, hd, hpar, hup, hop, hepoch]

theorem portTakes_of_passes (hd : islandOf f.req.dst.toNat = some d) (hpar : parityOk f = true) (hup : isUp s d = true)
    (hop : reservedOp f.op = false) (hepoch : epochOk s d f = true) : portTakes f s = applyAt d f s := by
  simp [portTakes, hd, hpar, hup, hop, hepoch]

theorem failAt_of_notPosted {st : FabricStatus} (h : f.op ≠ .writePosted) : failAt d st f s = complete f st 0 s := by
  simp [failAt, isPosted, h]

theorem failAt_of_posted {st : FabricStatus} (h : f.op = .writePosted) : failAt d st f s = dropPosted d f.req.src s := by
  simp [failAt, isPosted, h]

theorem noPort_of_notPosted (h : f.op ≠ .writePosted) : noPort f s = complete f .noport 0 s := by
  simp [noPort, isPosted, h]

end

/-! ### A new request, served at once -/

/-- What a new request that is served at once leaves. -/
def served (f : Flight) (s : State) : State := settle (settleFences (portTakes f (taken f s)))

theorem present_served {op : FabricOp} {r : Request} {s : State} (h : NewRequest op r s) :
    done (present op r s) = .next (served ⟨op, r⟩ s) := by
  rw [present_new h]
  rfl

/-- The codes above RE-OPEN's are reserved (Table 2-3). -/
theorem readOp_reserved : ∀ code : BitVec 3, 5 ≤ code.toNat → reservedOp (readOp code) = true := by decide

theorem completion_mem_complete (f : Flight) (st : FabricStatus) (w : Word) (s : State) :
    (⟨f.req.tag, f.req.src, f.req.dst, f.op, st, w⟩ : Completion) ∈ (complete f st w s).fab.completions := by
  simp [complete]

/-- A request whose port answers it has its completion on its way, and nothing is applied. -/
theorem served_answered {f : Flight} {st : FabricStatus} {w : Word} {s : State}
    (h : portTakes f (taken f s) = complete f st w (unaccept f (taken f s))) :
    (⟨f.req.tag, f.req.src, f.req.dst, f.op, st, w⟩ : Completion) ∈ (served f s).fab.completions ∧ OnlyFabric s (served f s) := by
  unfold served
  rw [h]
  exact ⟨settleFences_mem (completion_mem_complete f st w _),
    (taken_onlyFabric f s).trans <| (unaccept_onlyFabric f _).trans <| (complete_onlyFabric f st w _).trans <|
      (settleFences_onlyFabric _).trans (settle_onlyFabric _)⟩

theorem lossCount_dropPosted (d src : Island) (s : State) : (port (dropPosted d src s) d).lossCount = satInc (port s d).lossCount :=
  congrArg Port.lossCount (setPort_port_same s d _)

/-- A posted write that its port drops is counted there, and nothing is applied (R58). -/
theorem served_dropped {f : Flight} {d : Island} {s : State}
    (h : portTakes f (taken f s) = dropPosted d f.req.src (unaccept f (taken f s))) :
    (port (served f s) d).lossCount = satInc (port s d).lossCount ∧ OnlyFabric s (served f s) := by
  unfold served
  rw [h]
  refine ⟨?_, (taken_onlyFabric f s).trans <| (unaccept_onlyFabric f _).trans <| (dropPosted_onlyFabric d _ _).trans <|
      (settleFences_onlyFabric _).trans (settle_onlyFabric _)⟩
  rw [settle_port, settleFences_port, lossCount_dropPosted]
  exact congrArg (satInc ·.lossCount) (taken_port f s d)

/-! ### Parity (R79) -/

/-- What an event logged after the port's answer adds: the event, after those that the log holds. -/
theorem served_logged {f : Flight} {k : EventKind} {u s : State} (hu : OnlyFabric s u) (hw : s.flash.writable = true)
    (h : portTakes f (taken f s) = logEvent k u) :
    (∃ i, (served f s).flash.log = s.flash.log ++ [(i, k)]) ∧ OnlyFabricAndLog s (served f s) := by
  unfold served
  rw [h]
  refine ⟨⟨satInc s.flash.eventCount, ?_⟩, hu.andLog.trans <| (logEvent_onlyFabricAndLog k u).trans <|
    (settleFences_onlyFabric _).andLog.trans (settle_onlyFabric _).andLog⟩
  rw [settle_flash, (settleFences_onlyFabric _).flash_eq, logEvent_appends (hu.flash_eq ▸ hw), hu.flash_eq]

/-- A request of wrong parity that is not a posted write draws PARITY. -/
theorem parity_answered {op : FabricOp} {r : Request} {d : Island} {s : State} (hop : op ≠ .writePosted)
    (hd : islandOf r.dst.toNat = some d) (hw : s.flash.writable = true) (hpar : parityOk ⟨op, r⟩ = false) :
    (⟨r.tag, r.src, r.dst, op, .parity, 0⟩ : Completion) ∈ (served ⟨op, r⟩ s).fab.completions
      ∧ (∃ i, (served ⟨op, r⟩ s).flash.log = s.flash.log ++ [(i, .parity r.dst)])
      ∧ OnlyFabricAndLog s (served ⟨op, r⟩ s) := by
  have htakes := portTakes_of_badParity (s := taken ⟨op, r⟩ s) hd hpar
  rw [failAt_of_notPosted hop] at htakes
  refine ⟨?_, served_logged ((taken_onlyFabric _ s).trans ((unaccept_onlyFabric _ _).trans (complete_onlyFabric _ _ _ _))) hw htakes⟩
  unfold served
  rw [htakes]
  refine settleFences_mem ?_
  rw [logEvent_fab]
  exact completion_mem_complete _ _ _ _

/-- A posted write of wrong parity is dropped and counted. -/
theorem parity_dropped {r : Request} {d : Island} {s : State} (hd : islandOf r.dst.toNat = some d) (hw : s.flash.writable = true)
    (hpar : parityOk ⟨.writePosted, r⟩ = false) :
    (port (served ⟨.writePosted, r⟩ s) d).lossCount = satInc (port s d).lossCount
      ∧ (∃ i, (served ⟨.writePosted, r⟩ s).flash.log = s.flash.log ++ [(i, .parity r.dst)])
      ∧ OnlyFabricAndLog s (served ⟨.writePosted, r⟩ s) := by
  have htakes := portTakes_of_badParity (s := taken ⟨.writePosted, r⟩ s) hd hpar
  rw [failAt_of_posted rfl] at htakes
  refine ⟨?_, served_logged ((taken_onlyFabric _ s).trans ((unaccept_onlyFabric _ _).trans (dropPosted_onlyFabric _ _ _))) hw htakes⟩
  unfold served
  rw [htakes, settle_port, settleFences_port, logEvent_port, lossCount_dropPosted]
  exact congrArg (satInc ·.lossCount) (taken_port _ s d)

/-- Settles O2: the port judges parity before anything else. -/
theorem parityFirst : Obligations.ParityFirst := by
  unfold Obligations.ParityFirst
  intro s r d hd hw
  refine ⟨fun hnew hpar => ?read, fun hnew hpar => ?write, fun hnew hpar => ?reOpen, fun hnew hpar => ?posted⟩
  case read => exact ⟨_, present_served hnew, parity_answered nofun hd hw hpar⟩
  case write => exact ⟨_, present_served hnew, parity_answered nofun hd hw hpar⟩
  case reOpen => exact ⟨_, present_served hnew, parity_answered nofun hd hw hpar⟩
  case posted => exact ⟨_, present_served hnew, parity_dropped hd hw hpar⟩

/-! ### Statuses (Tables 2-2 to 2-4) -/

/-- Settles O3: the port's judgement of a request of right parity, clause by clause. -/
theorem portStatuses : Obligations.PortStatuses := by
  unfold Obligations.PortStatuses
  intro s r
  refine ⟨fun op hop hnew hpar => ?answered, fun d hnew hpar hd hout => ?dropped, fun code d hcode hnew hpar hd hup => ?reserved⟩
  case answered =>
    have hposted : op ≠ .writePosted := by rintro rfl; simp at hop
    have hreserved : reservedOp op = false := by obtain rfl | rfl := hop <;> rfl
    have hexec : exec (if op = .read then .fabricRead ⟨r, 0⟩ else .fabricWrite r) s = done (present op r s) := by
      obtain rfl | rfl := hop <;> rfl
    refine ⟨_, hexec.trans (present_served hnew), fun hd => ?_, fun d hd hup => ?_, fun d hd hup hepoch => ?_⟩
    · exact served_answered ((portTakes_of_noPort hd).trans (noPort_of_notPosted hposted))
    · exact served_answered ((portTakes_of_absent hd hpar (by simpa using hup)).trans (failAt_of_notPosted hposted))
    · exact served_answered ((portTakes_of_stale hd hpar (by simpa using hup) hreserved (by simpa using hepoch)).trans
        (failAt_of_notPosted hposted))
  case dropped =>
    refine ⟨_, present_served hnew, served_dropped ?_⟩
    cases hup : isUp s d with
    | false => exact (portTakes_of_absent hd hpar (by simpa using hup)).trans (failAt_of_posted rfl)
    | true =>
      have hepoch := hout.resolve_left (by simp [hup])
      exact (portTakes_of_stale hd hpar (by simpa using hup) rfl (by simpa using hepoch)).trans (failAt_of_posted rfl)
  case reserved =>
    exact ⟨_, present_served hnew, served_answered (portTakes_of_reserved hd hpar (by simpa using hup) (readOp_reserved code hcode))⟩

/-! ### Requests that pass (R48, R53, R62) -/

theorem served_of_passes {op : FabricOp} {r : Request} {d : Island} {s : State} (hop : reservedOp op = false) (h : Passes op r d s) :
    done (present op r s) = .next (settle (settleFences (applyAt d ⟨op, r⟩ (taken ⟨op, r⟩ s)))) := by
  obtain ⟨hnew, hd, hpar, hup, hepoch⟩ := h
  rw [present_served hnew, served, portTakes_of_passes hd hpar (by simpa using hup) hop (by simpa using hepoch)]

/-- Settles O1: what the island makes of each operation that its port passes to it. -/
theorem fabricRequestsServed : Obligations.FabricRequestsServed := by
  unfold Obligations.FabricRequestsServed
  intro s r d
  dsimp only
  refine ⟨fun h => ?read, fun h => ?write, fun h => ?posted, fun h => ?reOpen⟩
  case read => exact served_of_passes rfl h
  case write => exact served_of_passes rfl h
  case posted => exact served_of_passes rfl h
  case reOpen =>
    have hport : (port (taken ⟨.reOpen, r⟩ s) d).epoch = (port s d).epoch := congrArg Port.epoch (taken_port _ s d)
    rw [← hport]
    exact served_of_passes rfl h

end Sys2Proof.Machine
end

section
/-! Requests that wait at their source (02): those held for want of a tag, fences and completions on their way back. -/

namespace Sys2Proof.Machine

theorem exec_fence (r : Request) (s : State) : exec (.fence r.src r) s = done (issueFence r s) := rfl

/-! ### Held requests (R50, R51) -/

theorem tagFree_of_reserve {s : State} {i : Island} (h : tagsOf s i < (allotment i).1) : tagFree s i = true := by
  simp [tagFree, h]

theorem mustHold_of_noTag {s : State} {i : Island} (h : tagFree s i = false) : mustHold s i = true := by
  simp [mustHold, h]

/-- A request that its source may issue and that must wait joins those held, last. -/
theorem present_of_mustHold {op : FabricOp} {r : Request} {s : State} (hup : isUp s r.src = true) (htag : tagUsed s r.tag = false)
    (hheld : s.fab.held.any (·.req.tag == r.tag) = false) (hmay : mayIssue op r s = true) (hmust : mustHold s r.src = true) :
    present op r s = hold ⟨op, r⟩ s := by
  simp only [present, find_none_of_tag htag, hup, htag, hheld, hmay, hmust]
  rfl

theorem issueFence_of_mustHold {r : Request} {s : State} (hup : isUp s r.src = true) (htag : tagUsed s r.tag = false)
    (hheld : s.fab.held.any (·.req.tag == r.tag) = false) (hmust : mustHold s r.src = true) :
    issueFence r s = hold ⟨.fence, r⟩ s := by
  simp only [issueFence, hup, htag, hheld, hmust]
  rfl

theorem acceptHeld_of_free {src : Island} {f : Flight} {s : State} (hfirst : s.fab.held.find? (·.req.src == src) = some f)
    (hfence : s.fab.fences.any (·.src == src) = false) (hfree : tagFree s src = true) (htag : tagUsed s f.req.tag = false)
    (hover : overtakes s src = false) :
    acceptHeld src s = if f.op = .fence then acceptFence f.req { s with fab := { s.fab with held := s.fab.held.erase f } }
      else accept f { s with fab := { s.fab with held := s.fab.held.erase f } } := by
  simp only [acceptHeld, hfirst, hfence, hfree, htag, hover, beq_iff_eq]
  rfl

/-- Settles O4: without a tag every request joins those held, and the first held one is accepted as a tag is free. -/
theorem heldForWantOfTag : Obligations.HeldForWantOfTag := by
  unfold Obligations.HeldForWantOfTag
  intro s r
  refine ⟨tagFree_of_reserve, fun hup htag hheld hfree => ?held, fun f hfirst hfence hfree htag hover => ?accepted⟩
  case held =>
    have hmust := mustHold_of_noTag hfree
    have hpresent (op : FabricOp) (hmay : mayIssue op r s = true) : done (present op r s) = .next (settle (hold ⟨op, r⟩ s)) := by
      rw [present_of_mustHold hup htag hheld hmay hmust, done_eq]
    refine ⟨hpresent .read, hpresent .write, hpresent .writePosted, hpresent .reOpen, ?_⟩
    rw [exec_fence, issueFence_of_mustHold hup htag hheld hmust, done_eq]
    rfl
  case accepted =>
    have hexec : exec (.heldRequestAccept r.src) s = done (acceptHeld r.src s) := rfl
    rw [hexec, acceptHeld_of_free hfirst hfence hfree htag hover, done_eq]

/-! ### Fences (R54, R79) -/

/-- A fence that nothing bars is accepted by its source's port. -/
theorem issueFence_of_free {r : Request} {s : State} (hup : isUp s r.src = true) (htag : tagUsed s r.tag = false)
    (hheld : s.fab.held.any (·.req.tag == r.tag) = false) (hmust : mustHold s r.src = false) : issueFence r s = acceptFence r s := by
  simp only [issueFence, hup, htag, hheld, hmust]
  rfl

theorem noFence_of_mayGo {s : State} {i : Island} (h : mustHold s i = false) : ∀ w ∈ s.fab.fences, w.src ≠ i := by
  simp only [mustHold, Bool.or_eq_false_iff, List.any_eq_false, beq_iff_eq] at h
  obtain ⟨⟨⟨-, hfences⟩, -⟩, -⟩ := h
  exact hfences

theorem settleFence_of_outstanding {s : State} {w : FenceWait} (h : s.fab.flights.any (·.req.src == w.src) = true) :
    settleFence s w = s := by
  simp [settleFence, h]

/-- A fence with nothing outstanding completes, with FENCE-LOSS if a posted write of its source was dropped (R54). -/
theorem settleFence_of_quiet {s : State} {w : FenceWait} (h : s.fab.flights.any (·.req.src == w.src) = false) :
    settleFence s w = { s with fab := { s.fab with
      fences := s.fab.fences.filter (· != w), postedLost := pset s.fab.postedLost w.src false
      completions := s.fab.completions ++
        [⟨w.tag, w.src, w.dst, .fence, if pget s.fab.postedLost w.src then .fenceLoss else .ok, 0⟩] } } := by
  simp [settleFence, h]

/-- A fence of one source leaves what stands of another: whether it lost a posted write, and its fences. -/
theorem settleFence_otherSource {s : State} {w : FenceWait} {i : Island} (h : w.src ≠ i) :
    pget (settleFence s w).fab.postedLost i = pget s.fab.postedLost i
      ∧ ∀ v : FenceWait, v.src = i → v ∈ s.fab.fences → v ∈ (settleFence s w).fab.fences := by
  cases hq : s.fab.flights.any (·.req.src == w.src) with
  | true =>
    rw [settleFence_of_outstanding hq]
    exact ⟨rfl, fun _ _ hv => hv⟩
  | false =>
    rw [settleFence_of_quiet hq]
    refine ⟨pget_pset_other _ (Ne.symm h) _, fun v hsrc hv => List.mem_filter.mpr ⟨hv, ?_⟩⟩
    have hne : v ≠ w := by
      rintro rfl
      exact h hsrc
    simpa using hne

theorem foldFences_otherSources {l : List FenceWait} {i : Island} (h : ∀ w ∈ l, w.src ≠ i) (s : State) :
    pget (l.foldl settleFence s).fab.postedLost i = pget s.fab.postedLost i
      ∧ ∀ v : FenceWait, v.src = i → v ∈ s.fab.fences → v ∈ (l.foldl settleFence s).fab.fences := by
  induction l generalizing s with
  | nil => exact ⟨rfl, fun _ _ hv => hv⟩
  | cons w l ih =>
    obtain ⟨hlost, hstay⟩ := settleFence_otherSource (s := s) (h w (by simp))
    obtain ⟨hlost', hstay'⟩ := ih (fun v hv => h v (by simp [hv])) (settleFence s w)
    exact ⟨hlost'.trans hlost, fun v hsrc hv => hstay' v hsrc (hstay v hsrc hv)⟩

/-- The state in which an accepted fence waits: behind those that wait already. -/
def fenceAdded (r : Request) (s : State) : State :=
  notePeak { s with fab := { s.fab with fences := s.fab.fences ++ [⟨r.src, r.tag, r.dst⟩] } }

theorem acceptFence_of_parity {r : Request} {s : State} (h : parityOk ⟨.fence, r⟩ = true) : acceptFence r s
    = settleFence (s.fab.fences.foldl settleFence (fenceAdded r s)) ⟨r.src, r.tag, r.dst⟩ := by
  rw [acceptFence, if_pos h, settleFences_eq]
  exact List.foldl_concat settleFence (fenceAdded r s) _ s.fab.fences

theorem acceptFence_of_badParity {r : Request} {s : State} (h : parityOk ⟨.fence, r⟩ = false) :
    acceptFence r s = logEvent (.parity r.dst) (notePeak (complete ⟨.fence, r⟩ .parity 0 s)) := by
  simp [acceptFence, h]

theorem acceptFence_onlyFabric {r : Request} {s : State} (h : parityOk ⟨.fence, r⟩ = true) : OnlyFabric s (acceptFence r s) := by
  rw [acceptFence, if_pos h]
  exact OnlyFabric.trans (t := fenceAdded r s) (Eq.refl _) (settleFences_onlyFabric _)

section
variable {r : Request} {s : State}

/-- When those before it have been looked at, a fence of a source with nothing outstanding completes. -/
theorem acceptFence_of_quiet (hpar : parityOk ⟨.fence, r⟩ = true) (hfirst : ∀ w ∈ s.fab.fences, w.src ≠ r.src)
    (hquiet : s.fab.flights.any (·.req.src == r.src) = false) :
    (⟨r.tag, r.src, r.dst, .fence, if pget s.fab.postedLost r.src then .fenceLoss else .ok, 0⟩ : Completion)
        ∈ (acceptFence r s).fab.completions
      ∧ pget (acceptFence r s).fab.postedLost r.src = false := by
  obtain ⟨-, -, hflights⟩ := foldFences_frame s.fab.fences (fenceAdded r s)
  obtain ⟨hlost, -⟩ := foldFences_otherSources hfirst (fenceAdded r s)
  rw [acceptFence_of_parity hpar, settleFence_of_quiet (by rw [hflights]; exact hquiet)]
  refine ⟨?_, pget_pset_same _ _ _⟩
  rw [← show pget (fenceAdded r s).fab.postedLost r.src = pget s.fab.postedLost r.src from rfl, ← hlost]
  exact List.mem_append_right _ (List.mem_singleton.mpr rfl)

/-- A fence of a source with a request outstanding waits. -/
theorem acceptFence_of_outstanding (hpar : parityOk ⟨.fence, r⟩ = true) (hfirst : ∀ w ∈ s.fab.fences, w.src ≠ r.src)
    (hout : s.fab.flights.any (·.req.src == r.src) = true) : (⟨r.src, r.tag, r.dst⟩ : FenceWait) ∈ (acceptFence r s).fab.fences := by
  obtain ⟨-, -, hflights⟩ := foldFences_frame s.fab.fences (fenceAdded r s)
  obtain ⟨-, hstay⟩ := foldFences_otherSources hfirst (fenceAdded r s)
  rw [acceptFence_of_parity hpar, settleFence_of_outstanding (by rw [hflights]; exact hout)]
  exact hstay _ rfl (List.mem_append_right _ (List.mem_singleton.mpr rfl))

end

/-! ### Completions that arrive (R49, R62, R72) -/

/-- What a completed RE-OPEN brings its source: the epoch (R62), and for the host port the end of its REOPEN bit (R72). -/
def reopened (c : Completion) (s : State) : State :=
  if c.op == .reOpen && c.status == .ok then
    match islandOf c.dst.toNat with
    | some d => { s with fab := { s.fab with
        views := pset s.fab.views c.src (pset (pget s.fab.views c.src) d (c.data.setWidth 8))
        reopen := if c.src == .host then s.fab.reopen &&& ~~~(setBit 0 (islandNum d)) else s.fab.reopen } }
    | none => s
  else s

/-- What the host port notes of a completion of its own (Tables 2-13, 22-5). -/
def hostNotes (c : Completion) (s : State) : State := if c.src == .host then frameWordDone c (hostSaw c.dst c.status s) else s

/-- The state without a completion that has arrived. -/
def arrived (c : Completion) (s : State) : State := { s with fab := { s.fab with completions := s.fab.completions.erase c } }

theorem deliver_eq (c : Completion) (s : State) :
    deliver c s = if isUp s c.src then hostNotes c (reopened c (arrived c s)) else arrived c s := by
  have hup : isUp (arrived c s) c.src = isUp s c.src := rfl
  show (if (!isUp (arrived c s) c.src) = true then arrived c s else hostNotes c (reopened c (arrived c s))) = _
  rw [hup]
  cases isUp s c.src <;> rfl

theorem reopened_frame (c : Completion) (s : State) : reopened c s
    = { s with fab := { s.fab with views := (reopened c s).fab.views, reopen := (reopened c s).fab.reopen } } := by
  unfold reopened
  repeat' split
  all_goals rfl

theorem views_reopened {c : Completion} {d : Island} {s : State} (hop : c.op = .reOpen) (hst : c.status = .ok)
    (hd : islandOf c.dst.toNat = some d) : pget (pget (reopened c s).fab.views c.src) d = c.data.setWidth 8 := by
  simp [reopened, hop, hst, hd]

theorem writeFailed_frame (code addr : Nat) (s : State) : writeFailed code addr s = { s with hst := (writeFailed code addr s).hst } := by
  unfold writeFailed
  split <;> rfl

theorem frameWordDone_frame (c : Completion) (s : State) : frameWordDone c s = { s with hst := (frameWordDone c s).hst } := by
  unfold frameWordDone
  repeat' split
  · rfl
  · rfl
  · rw [writeFailed_frame]

theorem hostSaw_frame (dst : BitVec 4) (st : FabricStatus) (s : State) : hostSaw dst st s = { s with fab := { s.fab with
    absentSeen := (hostSaw dst st s).fab.absentSeen, staleSeen := (hostSaw dst st s).fab.staleSeen } } := by
  cases st <;> rfl

theorem hostNotes_frame (c : Completion) (s : State) : hostNotes c s = { s with hst := (hostNotes c s).hst, fab := { s.fab with
    absentSeen := (hostNotes c s).fab.absentSeen, staleSeen := (hostNotes c s).fab.staleSeen } } := by
  unfold hostNotes
  split
  · rw [frameWordDone_frame, hostSaw_frame]
  · rfl

/-- A completion that arrives writes the fabric and the host port's record of its failures, and takes itself off those on their way. -/
theorem deliver_frame (c : Completion) (s : State) : deliver c s = { s with fab := (deliver c s).fab, hst := (deliver c s).hst }
    ∧ (deliver c s).fab.completions = s.fab.completions.erase c := by
  rw [deliver_eq]
  split
  · rw [hostNotes_frame, reopened_frame]
    exact ⟨rfl, rfl⟩
  · exact ⟨rfl, rfl⟩

theorem views_deliver {c : Completion} {d : Island} {s : State} (hup : isUp s c.src = true) (hop : c.op = .reOpen)
    (hst : c.status = .ok) (hd : islandOf c.dst.toNat = some d) :
    pget (pget (deliver c s).fab.views c.src) d = c.data.setWidth 8 := by
  rw [deliver_eq, if_pos hup, hostNotes_frame]
  exact views_reopened hop hst hd

theorem exec_completion {c : Completion} {s : State} (h : oldestFor s c.src = some c) :
    exec (.completion c.src) s = .next (settle (deliver c s)) := by
  have hexec : exec (.completion c.src) s = execCompletion c.src s := rfl
  rw [hexec, execCompletion, h]
  rfl

/-- Settles O5: a fence by its parity and by what its source has outstanding, and a completion by what it brings. -/
theorem fencesAndCompletions : Obligations.FencesAndCompletions := by
  unfold Obligations.FencesAndCompletions
  refine ⟨fun s r hup htag hheld hmust => ?fences, fun s c holdest => ?completions⟩
  case fences =>
    have hexec : exec (.fence r.src r) s = .next (settle (acceptFence r s)) := by
      rw [exec_fence, issueFence_of_free hup htag hheld hmust, done_eq]
    have hfirst := noFence_of_mayGo hmust
    refine ⟨fun hpar hquiet => ⟨_, hexec, ?_⟩, fun hpar hout => ⟨_, hexec, ?_⟩, fun hpar => ⟨_, hexec, ?_⟩⟩
    · obtain ⟨hdone, hlost⟩ := acceptFence_of_quiet hpar hfirst hquiet
      exact ⟨hdone, hlost, (acceptFence_onlyFabric hpar).trans (settle_onlyFabric _)⟩
    · exact ⟨acceptFence_of_outstanding hpar hfirst hout, (acceptFence_onlyFabric hpar).trans (settle_onlyFabric _)⟩
    · rw [acceptFence_of_badParity hpar]
      have hcomplete : OnlyFabric s (notePeak (complete ⟨.fence, r⟩ .parity 0 s)) := Eq.refl _
      refine ⟨?_, (hcomplete.andLog.trans (logEvent_onlyFabricAndLog _ _)).trans (settle_onlyFabric _).andLog⟩
      rw [settle_fab_completions, logEvent_fab]
      exact completion_mem_complete ⟨.fence, r⟩ .parity 0 s
  case completions =>
    obtain ⟨hframe, herase⟩ := deliver_frame c s
    refine ⟨_, exec_completion holdest, herase, fun d => views_deliver, ?_⟩
    rw [settle_frame, hframe]

end Sys2Proof.Machine
end

section
/-! The host's commands to islands (02): THK_ISL_CMD, THK_TAGS.PEAK and the loss counters. -/

namespace Sys2Proof.Machine

/-! ### Numbers of islands, and THK registers -/

theorem islandOf_islandNum (i : Island) : islandOf (islandNum i) = some i := by cases i <;> rfl

theorem islandNum_lt (i : Island) : islandNum i < 12 := by cases i <;> decide

theorem toNat_islandNum (i : Island) : (BitVec.ofNat 4 (islandNum i)).toNat = islandNum i := by
  have := islandNum_lt i
  simp only [BitVec.toNat_ofNat]
  omega

theorem islandOf_none {n : Nat} (h : 12 ≤ n) : islandOf n = none := List.getElem?_eq_none h

theorem thkCommand_up {f : State → State} {s : State} (h : isUp s .host = true) : thkCommand f s = .next (settle (f s)) := by
  rw [thkCommand, h, guarded_true, done_eq]

/-! ### THK_ISL_CMD (R71, Table 2-10) -/

/-- The fields of the word that commands an island are the island and the command. -/
theorem bits_commandWord : ∀ (k : BitVec 4) (cmd : Fin 8), bits (commandWord k cmd).toNat 0 4 = k.toNat
    ∧ bits (commandWord k cmd).toNat 4 3 = cmd := by decide

section
variable {i : Island} {k : BitVec 4} {s : State}

/-- What THK_ISL_CMD makes of a command to an island, by the command. -/
theorem islandCommand_island (i : Island) (cmd : Fin 8) (s : State) :
    islandCommand (commandWord (BitVec.ofNat 4 (islandNum i)) cmd) s =
      if (cmd : Nat) = 0 then { s with fab := { s.fab with cmdIsland := BitVec.ofNat 4 (islandNum i) } }
      else if (cmd : Nat) = 1 then commandReset false i s
      else if (cmd : Nat) = 2 then commandReset true i s
      else if (cmd : Nat) = 3 then commandDown i s
      else if (cmd : Nat) = 4 then commandUp i s
      else commandRefused s := by
  obtain ⟨hisland, hcmd⟩ := bits_commandWord (BitVec.ofNat 4 (islandNum i)) cmd
  rw [toNat_islandNum] at hisland
  simp only [islandCommand, hisland, hcmd, islandOf_islandNum]

/-- A reserved island's number is refused, or with CMD 000b logged (R20, R71). -/
theorem islandCommand_reserved (hk : 12 ≤ k.toNat) (cmd : Fin 8) (s : State) : islandCommand (commandWord k cmd) s =
    if (cmd : Nat) = 0 then logEvent (.rejected 0x9444 (commandWord k cmd)) s else commandRefused s := by
  obtain ⟨hisland, hcmd⟩ := bits_commandWord k cmd
  simp only [islandCommand, hisland, hcmd, islandOf_none hk]

theorem commandReset_never (h : neverCommanded i = true) (reload : Bool) : commandReset reload i s = commandRefused s := by
  simp [commandReset, h]

theorem commandDown_refused (h : neverCommanded i = true ∨ i = .host) : commandDown i s = commandRefused s := by
  rw [commandDown, if_pos (by simpa using h)]

theorem neverCommanded_false (haon : i ≠ .aon) (hsafe : i ≠ .safe) : neverCommanded i = false := by simp [neverCommanded, haon, hsafe]

/-- An accepted command writes no port. -/
theorem commandAccepted_port (i j : Island) (s : State) : port (commandAccepted i s) j = port s j := rfl

theorem isUp_iff : isUp s i = true ↔ (port s i).state = .up := by simp [isUp]

theorem commandReset_up (hcmd : neverCommanded i = false) (hup : isUp s i = true) (reload : Bool) :
    commandReset reload i s = leaveService i (if reload then .reloading else .resetting) (commandAccepted i s) := by
  rw [isUp_iff] at hup
  simp [commandReset, hcmd, commandAccepted_port, hup]

theorem commandDown_up (hcmd : neverCommanded i = false) (hhost : i ≠ .host) (hup : isUp s i = true) :
    commandDown i s = leaveService i .poweredDown (commandAccepted i s) := by
  rw [isUp_iff] at hup
  simp [commandDown, hcmd, hhost, commandAccepted_port, hup]

theorem commandUp_up (hup : isUp s i = true) : commandUp i s = commandAccepted i s := by
  rw [isUp_iff] at hup
  simp [commandUp, commandAccepted_port, hup]

theorem commandUp_poweredDown (hdown : (port s i).state = .poweredDown) : commandUp i s
    = setPort (commandAccepted i s) i { port s i with state := .reloading, reloadAtReturn := true } := by
  simp [commandUp, commandAccepted_port, hdown]

end

section
variable {s : State} (h : isUp s .host = true)
include h

/-! The commands of THK_ISL_CMD while HOST is in service: to an island, and to a reserved number. -/

theorem exec_islandReset_island (i : Island) :
    exec (.islandReset (BitVec.ofNat 4 (islandNum i))) s = .next (settle (commandReset false i s)) :=
  (thkCommand_up h).trans (congrArg done (islandCommand_island i 1 s))

theorem exec_islandReload_island (i : Island) :
    exec (.islandReload (BitVec.ofNat 4 (islandNum i))) s = .next (settle (commandReset true i s)) :=
  (thkCommand_up h).trans (congrArg done (islandCommand_island i 2 s))

theorem exec_islandPowerDown_island (i : Island) :
    exec (.islandPowerDown (BitVec.ofNat 4 (islandNum i))) s = .next (settle (commandDown i s)) :=
  (thkCommand_up h).trans (congrArg done (islandCommand_island i 3 s))

theorem exec_islandPowerUp_island (i : Island) :
    exec (.islandPowerUp (BitVec.ofNat 4 (islandNum i))) s = .next (settle (commandUp i s)) :=
  (thkCommand_up h).trans (congrArg done (islandCommand_island i 4 s))

theorem exec_islandSelect_island (i : Island) : exec (.islandSelect (BitVec.ofNat 4 (islandNum i))) s
    = .next (settle { s with fab := { s.fab with cmdIsland := BitVec.ofNat 4 (islandNum i) } }) :=
  (thkCommand_up h).trans (congrArg done (islandCommand_island i 0 s))

variable {k : BitVec 4} (hk : 12 ≤ k.toNat)
include hk

theorem exec_islandReset_reserved : exec (.islandReset k) s = .next (settle (commandRefused s)) :=
  (thkCommand_up h).trans (congrArg done (islandCommand_reserved hk 1 s))

theorem exec_islandReload_reserved : exec (.islandReload k) s = .next (settle (commandRefused s)) :=
  (thkCommand_up h).trans (congrArg done (islandCommand_reserved hk 2 s))

theorem exec_islandPowerDown_reserved : exec (.islandPowerDown k) s = .next (settle (commandRefused s)) :=
  (thkCommand_up h).trans (congrArg done (islandCommand_reserved hk 3 s))

theorem exec_islandPowerUp_reserved : exec (.islandPowerUp k) s = .next (settle (commandRefused s)) :=
  (thkCommand_up h).trans (congrArg done (islandCommand_reserved hk 4 s))

theorem exec_islandSelect_reserved :
    exec (.islandSelect k) s = .next (settle (logEvent (.rejected 0x9444 (commandWord k 0)) s)) :=
  (thkCommand_up h).trans (congrArg done (islandCommand_reserved hk 0 s))

end

/-! ### THK_TAGS.PEAK and LOSS_CLR (Tables 2-9, 2-11) -/

/-- PEAK that was cleared takes the tags in flight. -/
theorem peak_of_cleared (s : State) :
    (settle { s with fab := { s.fab with peak := 0 } }).fab.peak.toNat = min 2047 (tagsInFlight s) := by
  show (if 0 < tagsInFlight s then BitVec.ofNat 11 (min 2047 (tagsInFlight s)) else 0).toNat = _
  split
  · rw [BitVec.toNat_ofNat, Nat.mod_eq_of_lt (by omega)]
  · simp; omega

/-- One island's loss counter is cleared if its bit of the mask is set (R76). -/
def lossClearOne (mask : BitVec 12) (s : State) (i : Island) : State :=
  if mask.getLsbD (islandNum i) then setPort s i { port s i with lossCount := 0, lossSat := false } else s

theorem lossClear_eq (mask : BitVec 12) (s : State) : lossClear mask s = allIslands.foldl (lossClearOne mask) s := rfl

theorem lossClearOne_unmasked {mask : BitVec 12} {i : Island} (h : mask.getLsbD (islandNum i) = false) (s : State) (j : Island) :
    port (lossClearOne mask s j) i = port s i := by
  unfold lossClearOne
  split
  next hj =>
    refine setPort_port_other s ?_ _
    rintro rfl
    simp [h] at hj
  next => rfl

/-- The losses of a port are cleared. -/
def LossCleared (p : Port) : Prop := p.lossCount = 0 ∧ p.lossSat = false

theorem lossClearOne_keeps_cleared {mask : BitVec 12} {i : Island} {s : State} (h : LossCleared (port s i)) (j : Island) :
    LossCleared (port (lossClearOne mask s j) i) := by
  unfold lossClearOne
  split
  · by_cases e : i = j
    · subst e
      rw [setPort_port_same]
      exact ⟨rfl, rfl⟩
    · rwa [setPort_port_other s e]
  · exact h

theorem lossClearOne_masked {mask : BitVec 12} {i : Island} (h : mask.getLsbD (islandNum i) = true) (s : State) :
    LossCleared (port (lossClearOne mask s i) i) := by
  rw [lossClearOne, if_pos h, setPort_port_same]
  exact ⟨rfl, rfl⟩

theorem lossClear_unmasked {mask : BitVec 12} {i : Island} (h : mask.getLsbD (islandNum i) = false) (s : State) :
    port (lossClear mask s) i = port s i := by
  rw [lossClear_eq]
  exact List.foldlRecOn (motive := fun t => port t i = port s i) _ _ rfl
    fun t ht j _ => (lossClearOne_unmasked h t j).trans ht

/-- After a fold over a list that reaches an item which brings about what every item keeps, it holds. -/
theorem foldl_of_reached {α β : Type} {f : β → α → β} {P : β → Prop} {l : List α} {a : α} (hmem : a ∈ l)
    (hbrings : ∀ b, P (f b a)) (hkeeps : ∀ b x, P b → P (f b x)) (b : β) : P (l.foldl f b) := by
  obtain ⟨before, after, rfl⟩ := List.append_of_mem hmem
  rw [List.foldl_append, List.foldl_cons]
  exact List.foldlRecOn (motive := P) _ _ (hbrings _) fun b hb x _ => hkeeps b x hb

theorem mem_allIslands (i : Island) : i ∈ allIslands := by cases i <;> decide

theorem lossClear_masked {mask : BitVec 12} {i : Island} (h : mask.getLsbD (islandNum i) = true) (s : State) :
    LossCleared (port (lossClear mask s) i) := by
  rw [lossClear_eq]
  exact foldl_of_reached (P := fun t => LossCleared (port t i)) (mem_allIslands i) (lossClearOne_masked h)
    (fun _ j ht => lossClearOne_keeps_cleared ht j) s

/-- Settles O6: each command by its island, then PEAK and the loss counters. -/
theorem islandCommands : Obligations.IslandCommands := by
  unfold Obligations.IslandCommands
  intro s i hhost
  dsimp only
  refine ⟨fun hi => ?never, ?hostDown, fun haon hsafe hup => ?leaves, fun hup => ?stays, fun hdown => ?powerUp, ?select,
    fun k hk => ?reserved, ?peak, fun mask => ⟨thkCommand_up hhost, fun h => lossClear_masked h s, fun h => lossClear_unmasked h s⟩⟩
  case never =>
    have hnever : neverCommanded i = true := by obtain rfl | rfl := hi <;> rfl
    rw [exec_islandReset_island hhost, exec_islandReload_island hhost, exec_islandPowerDown_island hhost, commandReset_never hnever,
      commandReset_never hnever, commandDown_refused (.inl hnever)]
    exact ⟨rfl, rfl, rfl⟩
  case hostDown =>
    have hrefused : commandDown .host s = commandRefused s := commandDown_refused (.inr rfl)
    exact hrefused ▸ exec_islandPowerDown_island hhost .host
  case leaves =>
    have hnever := neverCommanded_false haon hsafe
    rw [exec_islandReset_island hhost, exec_islandReload_island hhost, exec_islandPowerDown_island hhost, commandReset_up hnever hup,
      commandReset_up hnever hup]
    exact ⟨rfl, rfl, fun hne => by rw [commandDown_up hnever hne hup]⟩
  case stays => rw [exec_islandPowerUp_island hhost, commandUp_up hup]
  case powerUp =>
    rw [exec_islandPowerUp_island hhost, commandUp_poweredDown hdown]
    refine ⟨_, rfl, ?_, rfl, rfl⟩
    rw [settle_port, setPort_port_same]
  case select => exact exec_islandSelect_island hhost i
  case reserved =>
    exact ⟨exec_islandSelect_reserved hhost hk, exec_islandReset_reserved hhost hk, exec_islandReload_reserved hhost hk,
      exec_islandPowerDown_reserved hhost hk, exec_islandPowerUp_reserved hhost hk⟩
  case peak => exact ⟨_, thkCommand_up hhost, peak_of_cleared s, rfl⟩

end Sys2Proof.Machine
end

section
/-! Re-opens of the host port, and islands that leave service and return (02): R61, R66, R67, R72, R78. -/

namespace Sys2Proof.Machine

/-! ### RE-OPEN by the host port (R72) -/

/-- The host port re-opens one island if its REOPEN bit is set and no RE-OPEN to it is outstanding. -/
def reopenStep (s : State) (i : Island) : State :=
  if s.fab.reopen.getLsbD (islandNum i) && !reopening s i then reopenOne i s else s

theorem reopenAll_eq (s : State) : reopenAll s = allIslands.foldl reopenStep s := rfl

/-- A RE-OPEN of the host port to an island. -/
def IsReopen (i : Island) (f : Flight) : Prop := f.op = .reOpen ∧ f.req.src = .host ∧ f.req.dst.toNat = islandNum i

theorem hostRequest_isReopen (i : Island) (s : State) : IsReopen i (hostRequest .reOpen (islandNum i * 0x1000) 0 s) := by
  refine ⟨rfl, rfl, ?_⟩
  show (BitVec.ofNat 4 (islandNum i * 0x1000 / 0x1000)).toNat = islandNum i
  rw [Nat.mul_div_cancel _ (by decide), toNat_islandNum]

theorem reopening_iff {s : State} {i : Island} : reopening s i = true ↔ (∃ f ∈ s.fab.flights ++ s.fab.held, IsReopen i f)
    ∨ ∃ c ∈ s.fab.completions, c.op = .reOpen ∧ c.src = .host ∧ c.dst.toNat = islandNum i := by
  simp only [reopening, IsReopen, Bool.or_eq_true, List.any_eq_true, Bool.and_eq_true, beq_iff_eq, and_assoc]

theorem hostIssue_onlyFabric (f : Flight) (s : State) : OnlyFabric s (hostIssue f s) := by
  unfold hostIssue
  split <;> exact Eq.refl _

/-- What the host port issues is accepted or held; nothing else is, and no completion and no REOPEN bit changes. -/
theorem hostIssue_adds (f : Flight) (s : State) : (hostIssue f s).fab.completions = s.fab.completions
    ∧ (hostIssue f s).fab.reopen = s.fab.reopen
    ∧ ∀ g, g ∈ (hostIssue f s).fab.flights ++ (hostIssue f s).fab.held ↔ g = f ∨ g ∈ s.fab.flights ++ s.fab.held := by
  unfold hostIssue
  split
  · refine ⟨rfl, rfl, fun g => ?_⟩
    simp only [hold, List.mem_append, List.mem_singleton]
    tauto
  · refine ⟨rfl, rfl, fun g => ?_⟩
    simp only [accept, notePeak, List.mem_append, List.mem_singleton]
    tauto

theorem reopening_reopenOne (i : Island) (s : State) : reopening (reopenOne i s) i = true := by
  obtain ⟨-, -, hmem⟩ := hostIssue_adds (hostRequest .reOpen (islandNum i * 0x1000) 0 s) s
  exact reopening_iff.mpr (.inl ⟨_, (hmem _).mpr (.inl rfl), hostRequest_isReopen i s⟩)

theorem reopening_reopenOne_of {i : Island} (j : Island) {s : State} (h : reopening s i = true) :
    reopening (reopenOne j s) i = true := by
  obtain ⟨hcompl, -, hmem⟩ := hostIssue_adds (hostRequest .reOpen (islandNum j * 0x1000) 0 s) s
  rw [reopening_iff] at h ⊢
  obtain ⟨f, hf, hre⟩ | ⟨c, hc, hre⟩ := h
  · exact .inl ⟨f, (hmem f).mpr (.inr hf), hre⟩
  · exact .inr ⟨c, hcompl ▸ hc, hre⟩

theorem reopenStep_onlyFabric (s : State) (i : Island) : OnlyFabric s (reopenStep s i) := by
  unfold reopenStep
  split
  · exact hostIssue_onlyFabric _ s
  · exact Eq.refl _

@[simp] theorem reopenStep_reopen (s : State) (i : Island) : (reopenStep s i).fab.reopen = s.fab.reopen := by
  unfold reopenStep
  split
  · exact (hostIssue_adds _ s).2.1
  · rfl

/-- Every REOPEN bit of an island that is set has its RE-OPEN outstanding. -/
def ReopenIssued (i : Island) (s : State) : Prop := s.fab.reopen.getLsbD (islandNum i) = true → reopening s i = true

theorem reopenStep_issues (s : State) (i : Island) : ReopenIssued i (reopenStep s i) := by
  intro hbit
  rw [reopenStep_reopen] at hbit
  cases hre : reopening s i with
  | true => simp [reopenStep, hre]
  | false =>
    rw [reopenStep, hbit, hre]
    exact reopening_reopenOne i s

theorem reopenStep_keeps_issued {i : Island} (s : State) (j : Island) (h : ReopenIssued i s) : ReopenIssued i (reopenStep s j) := by
  intro hbit
  rw [reopenStep_reopen] at hbit
  unfold reopenStep
  split
  · exact reopening_reopenOne_of j (h hbit)
  · exact h hbit

theorem reopenAll_issued (i : Island) (s : State) : ReopenIssued i (reopenAll s) := by
  rw [reopenAll_eq]
  exact foldl_of_reached (mem_allIslands i) (reopenStep_issues · i) reopenStep_keeps_issued s

theorem reopenAll_frame (s : State) : OnlyFabric s (reopenAll s) ∧ (reopenAll s).fab.reopen = s.fab.reopen := by
  rw [reopenAll_eq]
  refine List.foldlRecOn (motive := fun t => OnlyFabric s t ∧ t.fab.reopen = s.fab.reopen) _ _ ⟨Eq.refl _, rfl⟩ ?_
  rintro t ⟨hframe, hreopen⟩ j -
  exact ⟨hframe.trans (reopenStep_onlyFabric t j), (reopenStep_reopen t j).trans hreopen⟩

/-! ### Loss of a clock (R78) -/

theorem clockLoss_state {i : Island} {s : State}
    (h : isUp s i = true ∨ (port s i).state = .resetting ∨ (port s i).state = .reloading) :
    (port (clockLoss i s) i).state = .clockLost := by
  have hlogged (t : State) (ht : (port t i).state = .clockLost) :
      (port (if isUp t .safe && i != .aon then logEvent (.islandReset i) t else t) i).state = .clockLost := by
    split
    · rwa [logEvent_port]
    · exact ht
  unfold clockLoss
  dsimp only
  by_cases hup : (port s i).state = .up
  · rw [if_pos (by simpa using hup)]
    exact hlogged _ (leaveService_state i .clockLost s)
  · rw [if_neg (by simpa using hup), if_pos (by simpa [isUp_iff, hup] using h)]
    exact hlogged _ (congrArg Port.state (setPort_port_same s i _))

/-- SAFE, in service, logs the reset of an island that has lost its clock. -/
theorem clockLoss_up {i : Island} {s : State} (hup : isUp s i = true) (hsafe : isUp s .safe = true) (haon : i ≠ .aon)
    (hne : i ≠ .safe) : clockLoss i s = logEvent (.islandReset i) (leaveService i .clockLost s) := by
  have hstill : isUp (leaveService i .clockLost s) .safe = true := by
    rw [isUp, leaveService_other i .clockLost s hne.symm]
    exact hsafe
  rw [isUp_iff] at hup
  simp [clockLoss, hup, hstill, haon]

/-! ### An island that returns (R61) -/

/-- What an island loads as it returns touches neither the fabric nor the state of a self-test. -/
def SameFabricAndTest (s t : State) : Prop := t.fab = s.fab ∧ t.tst = s.tst

theorem SameFabricAndTest.rfl {s : State} : SameFabricAndTest s s := ⟨Eq.refl _, Eq.refl _⟩

theorem SameFabricAndTest.trans {s t u : State} (h : SameFabricAndTest s t) (h' : SameFabricAndTest t u) : SameFabricAndTest s u :=
  ⟨h'.1.trans h.1, h'.2.trans h.2⟩

/-- What starts from an update of other blocks starts from the state itself. -/
theorem SameFabricAndTest.ofUpdate {s u t : State} (h : SameFabricAndTest u t) (hfab : u.fab = s.fab := by rfl)
    (htst : u.tst = s.tst := by rfl) : SameFabricAndTest s t := ⟨h.1.trans hfab, h.2.trans htst⟩

theorem logEvent_same (k : EventKind) (s : State) : SameFabricAndTest s (logEvent k s) := ⟨logEvent_fab s k, logEvent_tst s k⟩

theorem foldl_same {α : Type} {f : State → α → State} (h : ∀ s a, SameFabricAndTest s (f s a)) (l : List α) (s : State) :
    SameFabricAndTest s (l.foldl f s) :=
  List.foldlRecOn (motive := SameFabricAndTest s) _ _ .rfl fun t ht a _ => ht.trans (h t a)

theorem Sends.same {s t : State} (h : Sends s t) : SameFabricAndTest s t := by
  obtain ⟨-, h⟩ := h
  exact ⟨by rw [h], by rw [h]⟩

/-! ADC's windows, the rails, the minimum-of rule and the tariff code (R84, R185, R279, R309). -/

theorem adcConfigure_same (s : State) : SameFabricAndTest s (adcConfigure s) := by
  unfold adcConfigure
  exact ⟨by rw [setLevels_frame]; rfl, by rw [setLevels_frame]; rfl⟩

theorem reportRail_same (r : Rail) (s : State) : SameFabricAndTest s (reportRail r s) := by
  unfold reportRail
  split
  · exact .rfl
  · exact (logEvent_same _ _).ofUpdate

theorem recompute_same (s : State) : SameFabricAndTest s (recompute s) := by
  have h : OnlySwitching s (recompute s) := recompute_onlySwitching s
  unfold OnlySwitching at h
  exact ⟨by rw [h], by rw [h]⟩

theorem noteCodes_same (s : State) : SameFabricAndTest s (noteCodes s) := by
  have hdue : SameFabricAndTest s (closeDueAtStart s.bil.clock s) := ⟨by rw [closeDueAtStart_frame], by rw [closeDueAtStart_frame]⟩
  unfold noteCodes
  dsimp only
  repeat' split
  case isFalse.isFalse.isTrue => exact hdue.trans ⟨by rw [closeAtPeriodStart_frame], by rw [closeAtPeriodStart_frame]⟩
  all_goals exact hdue

/-! SEC: its slots, and the map of log flash (R364, R485, R487). -/

theorem setZone_same (z : Zone) (x : FlashZone) (s : State) : SameFabricAndTest s (setZone z x s) := .rfl

theorem dropUnmapped_same (z : Zone) (gone : List Nat) (s : State) : SameFabricAndTest s (dropUnmapped z gone s) := by
  cases z <;> exact .rfl

theorem dropOldest_same (z : Zone) (s : State) : SameFabricAndTest s (dropOldest z s) := by
  cases z <;> exact .rfl

theorem judgeHeaders_same (z : Zone) (s : State) : SameFabricAndTest s (judgeHeaders z s) :=
  (setZone_same z _ s).trans (dropUnmapped_same z _ _)

theorem takeForErase_same {z : Zone} {s : State} {r : Nat × State} (h : takeForErase z s = some r) : SameFabricAndTest s r.2 := by
  unfold takeForErase at h
  dsimp only at h
  repeat' split at h
  · obtain rfl := Option.some.inj h
    exact setZone_same z _ s
  · obtain rfl := Option.some.inj h
    exact (dropOldest_same z s).trans (setZone_same z _ _)
  · exact nomatch h

/-- One zone of log flash, as SEC's flash controller starts. -/
def zoneStart (s : State) (z : Zone) : State :=
  let s := judgeHeaders z s
  let x := zoneOf s.flash z
  let again := x.erasing.toList.map (· + 1)
  let s := setZone z { x with erasing := none, suspended := false, free := x.free ++ again } s
  if (zoneOf s.flash z).free.isEmpty then
    match takeForErase z s with
    | none => s
    | some r => setZone z { zoneOf r.2.flash z with free := [r.1 + 1] } r.2
  else s

theorem flashStart_eq (s : State) : flashStart s = allZones.foldl zoneStart s := rfl

theorem zoneStart_same (s : State) (z : Zone) : SameFabricAndTest s (zoneStart s z) := by
  unfold zoneStart
  dsimp only
  have hjudged := judgeHeaders_same z s
  repeat' split
  next => exact hjudged
  next hsome => exact hjudged.trans (takeForErase_same hsome).ofUpdate
  next => exact hjudged

theorem secLoad_same (s : State) : SameFabricAndTest s (secLoad s) := by
  unfold secLoad
  dsimp only
  rw [flashStart_eq]
  refine .trans (.trans ?_ (foldl_same (fun t n => ?_) _ _)) (foldl_same zoneStart_same _ _)
  · split
    · exact (logEvent_same _ _).ofUpdate
    · exact .rfl
  · split
    · exact .rfl
    · exact logEvent_same _ _

/-! PDUs that waited for Laurel-B (R163, R537). -/

theorem respond_same (rq : Requester) (op st : Nat) (p : Bytes) (s : State) : SameFabricAndTest s (respond rq op st p s) := by
  unfold respond
  exact (sendPdu_sends _ _ _ _ _ _ _ _ _).same.ofUpdate

theorem enqueue_same (rq : Requester) (h : PduHeader) (b : Bytes) (s : State) : SameFabricAndTest s (enqueue rq h b s) := by
  unfold enqueue
  generalize s.od.queue.length + _ = n
  repeat' split
  · exact respond_same _ _ _ _ _
  · exact respond_same _ _ _ _ _
  all_goals exact .rfl

theorem setWindow_same (m k : Bool) (w : Window32) (s : State) : SameFabricAndTest s (setWindow m k w s) := by
  unfold setWindow
  repeat' split
  all_goals exact .rfl

theorem windowJudges_same (rq : Requester) (h : PduHeader) (b : Bytes) (s : State) : SameFabricAndTest s (windowJudges rq h b s) := by
  unfold windowJudges
  dsimp only
  generalize (_ && _ && _) = below
  repeat' split
  · exact respond_same _ _ _ _ _
  · exact .rfl
  · exact (setWindow_same _ _ _ s).trans (enqueue_same _ _ _ _).ofUpdate

theorem keyedReceive_same (d : Delivered) (h : PduHeader) (s : State) : SameFabricAndTest s (keyedReceive d h s) := by
  unfold keyedReceive macJudged
  repeat' split
  case isFalse.isFalse.isTrue => exact (loadYew_sends _ _ _ s).same.trans (windowJudges_same _ _ _ _)
  all_goals exact .rfl

theorem pduTaken_same (d : Delivered) (s : State) : SameFabricAndTest s (pduTaken d s) := by
  unfold pduTaken plainReceive
  dsimp only
  repeat' split
  case isTrue.isTrue.isFalse | isFalse.isFalse.isFalse => exact keyedReceive_same _ _ s
  case isTrue.isFalse.isFalse => exact enqueue_same _ _ _ s
  all_goals exact .rfl

theorem pduReceive_same (d : Delivered) (s : State) : SameFabricAndTest s (pduReceive d s) := by
  unfold pduReceive
  repeat' split
  · exact pduTaken_same d s
  all_goals exact .rfl

theorem drainWaiting_same (s : State) : SameFabricAndTest s (drainWaiting s) := by
  unfold drainWaiting
  split
  · exact (foldl_same (fun t d => pduReceive_same d t) _ _).ofUpdate
  · exact .rfl

theorem handRequest_same (s : State) : SameFabricAndTest s (handRequest s) := by
  unfold handRequest
  generalize (_ && _) = there
  repeat' split
  · exact .rfl
  · exact (pduReceive_same _ _).ofUpdate
  · exact .rfl

theorem afterReturn_same (i : Island) (s : State) : SameFabricAndTest s (afterReturn i s) := by
  cases i
  case seq => exact (epochNotify_sends _).same.ofUpdate
  all_goals exact .rfl

/-- An island's loads leave the fabric and the self-test as they are (R61). -/
theorem islandReloads_same (i : Island) (s : State) : SameFabricAndTest s (islandReloads i s) := by
  have hafter := afterReturn_same i s
  cases i
  case adc => exact hafter.trans (adcConfigure_same _)
  case plc =>
    have hdriver : SameFabricAndTest s (refreshDriver (afterReturn .plc s)) := hafter
    exact hdriver.trans ((recompute_same _).trans (reportRail_same _ _))
  case disp =>
    have hdrive : SameFabricAndTest s (refreshDrive (afterReturn .disp s)) := hafter
    exact hdrive.trans (reportRail_same _ _)
  case aud =>
    have hstage : SameFabricAndTest s (refreshStage (afterReturn .aud s)) := hafter
    exact hstage.trans (reportRail_same _ _)
  case sec => exact secLoad_same s
  case seq => exact hafter.trans ((handRequest_same _).trans (drainWaiting_same _))
  case met => exact SameFabricAndTest.ofUpdate (u := applyCode _) (noteCodes_same _)
  case host => exact hafter
  case safe | aon | bgd | tmr => exact .rfl

/-- Without a BIST run that awaits it, an island that returns is up with the next epoch. -/
theorem islandReturn_port {i : Island} {s : State} (h : s.tst.awaiting ≠ some i) :
    port (islandReturn i s) i = port (comeUp i s) i := by
  obtain ⟨hfab, htst⟩ := islandReloads_same i (comeUp i s)
  have hawaits : (islandReloads i (comeUp i s)).tst.awaiting ≠ some i := by
    rw [htst]
    exact h
  rw [islandReturn, if_neg (by simpa using hawaits)]
  exact congrArg (fun x => pget x.ports i) hfab

theorem comeUp_port (i : Island) (s : State) : (port (comeUp i s) i).state = .up
    ∧ (port (comeUp i s) i).epoch = if (port s i).epoch = 255 then 1 else (port s i).epoch + 1 := by
  rw [comeUp, setPort_port_same]
  exact ⟨rfl, rfl⟩

/-- Settles O7: RE-OPENs, loss of a clock and a return, and the values that are given up. -/
theorem reopenAndReturn : Obligations.ReopenAndReturn := by
  unfold Obligations.ReopenAndReturn
  intro s i
  refine ⟨fun hhost mask => ?reopen, fun hhost hbit => ?retry, fun h => ⟨_, rfl, clockLoss_state h⟩, fun hup hsafe haon hne => ?clock,
    fun hmay hawait => ?returns, fun a => rfl, fun a => rfl⟩
  case reopen =>
    obtain ⟨hframe, hreopen⟩ := reopenAll_frame { s with fab := { s.fab with reopen := s.fab.reopen ||| mask } }
    refine ⟨_, thkCommand_up hhost, hreopen, fun hbit => ?_, ?_⟩
    · refine reopenAll_issued i _ ?_
      rw [hreopen, BitVec.getLsbD_or, hbit, Bool.or_true]
    · have hset : OnlyFabric s { s with fab := { s.fab with reopen := s.fab.reopen ||| mask } } := Eq.refl _
      exact (hset.trans hframe).trans (settle_onlyFabric _)
  case retry =>
    obtain ⟨hframe, hreopen⟩ := reopenAll_frame s
    refine ⟨_, thkCommand_up hhost, reopenAll_issued i s ?_, hreopen, hframe.trans (settle_onlyFabric _)⟩
    rw [hreopen, hbit]
  case clock =>
    have hexec : exec (.clockLost i) s = done (clockLoss i s) := rfl
    rw [hexec, clockLoss_up hup hsafe haon hne, done_eq]
  case returns =>
    have hexec : exec (.islandReturn i) s = done (guarded (mayReturn s i) (islandReturn i) s) := rfl
    obtain ⟨hstate, hepoch⟩ := comeUp_port i s
    rw [hexec, hmay, guarded_true, done_eq]
    refine ⟨_, rfl, ?_, ?_⟩
    · rw [settle_isUp, isUp_iff, islandReturn_port hawait, hstate]
    · rw [settle_port, islandReturn_port hawait, hepoch]

end Sys2Proof.Machine
end

section
/-! The state after reset (02, 22): its ports, gate-kill and the documented registers. -/

namespace Sys2Proof.Machine

theorem reset_settled : Settled State.reset := ⟨fun _ => rfl, Nat.min_le_right 2047 0⟩

/-- Settles O57: the reset state is closed, so each register's word is what its read evaluates to. -/
theorem resetValues : Obligations.ResetValues := by
  unfold Obligations.ResetValues
  refine ⟨fun i => ?ports, rfl, reset_settled, rfl, ?registers⟩
  case ports => cases i <;> rfl
  case registers => decide +kernel

end Sys2Proof.Machine
end

section
/-! Whole-device resets (03): what their sources record, what the reset leaves, and the resets that wait. -/

namespace Sys2Proof.Machine

/-! ### Causes (Table 3-2) -/

/-- Recording a cause sets its bit and no other. -/
theorem causeBit_markCause_eq (c d : ResetCause) (r : RstCause) : causeBit c (markCause d r) = (decide (c = d) || causeBit c r) := by
  cases c <;> cases d <;> rfl

theorem causeBit_markCause (c : ResetCause) (r : RstCause) : causeBit c (markCause c r) = true := by
  rw [causeBit_markCause_eq, decide_eq_true rfl, Bool.true_or]

theorem causeBit_markCause_of {c : ResetCause} (d : ResetCause) {r : RstCause} (h : causeBit c r = true) :
    causeBit c (markCause d r) = true := by
  rw [causeBit_markCause_eq, h, Bool.or_true]

/-- A cause that was recorded stays recorded when others join it. -/
theorem causeBit_foldl_of {c : ResetCause} (l : List ResetCause) {r : RstCause} (h : causeBit c r = true) :
    causeBit c (l.foldl (fun r d => markCause d r) r) = true :=
  List.foldlRecOn (motive := fun r => causeBit c r = true) _ _ h fun _ hr d _ => causeBit_markCause_of d hr

theorem causeBit_foldl_of_mem {c : ResetCause} {l : List ResetCause} (h : c ∈ l) (r : RstCause) :
    causeBit c (l.foldl (fun r d => markCause d r) r) = true :=
  foldl_of_reached (P := fun r => causeBit c r = true) h (causeBit_markCause c) (fun _ d hr => causeBit_markCause_of d hr) r

/-! ### The close at a reset's onset (R335) -/

theorem pendingClose_frame (k : RecordKind) (s : State) : pendingClose k s = { s with bil := { s.bil with
    pendState := (pendingClose k s).bil.pendState, pendCrcOk := (pendingClose k s).bil.pendCrcOk
    lossDue := (pendingClose k s).bil.lossDue, openRec := (pendingClose k s).bil.openRec } } := by
  unfold pendingClose
  split <;> rfl

theorem resetClose_frame (s : State) : resetClose s = { s with bil := { s.bil with
    pendState := (resetClose s).bil.pendState, pendCrcOk := (resetClose s).bil.pendCrcOk
    lossDue := (resetClose s).bil.lossDue, openRec := (resetClose s).bil.openRec } } := by
  unfold resetClose
  split
  · exact pendingClose_frame _ s
  · rfl

/-! ### The reset (R81, R85, R86) -/

theorem discardTest_frame (s : State) :
    discardTest s = { s with flash := (discardTest s).flash, tst := (discardTest s).tst } := by
  unfold discardTest
  split
  · rfl
  · rw [logEvent_frame]

theorem discardTest_of_none {s : State} (h : s.tst.held = none) : discardTest s = s := by simp [discardTest, h]

theorem wholeReset_held {c : ResetCause} {s : State} (h : s.pwr.resetHeld = true) :
    wholeReset c s = { s with rst := markCause c s.rst } := if_pos h

/-- The state from which a reset that begins takes its Reset values: its cause recorded, a test that was held discarded. -/
def resetOnset (c : ResetCause) (s : State) : State :=
  { discardTest s with rst := { markCause c s.rst with count := satInc s.rst.count } }

theorem wholeReset_begins {c : ResetCause} {s : State} (h : s.pwr.resetHeld = false) :
    wholeReset c s = afterReset false (resetOnset c s) := by
  have hrst : (discardTest s).rst = s.rst := by rw [discardTest_frame]
  rw [wholeReset, h, resetOnset, ← hrst]
  rfl

theorem causeBit_count (c : ResetCause) (r : RstCause) (n : BitVec 8) : causeBit c { r with count := n } = causeBit c r := by
  cases c <;> rfl

/-- After a source the reset is held, its cause recorded, and VDD3 stands as it stood. -/
theorem wholeReset_power (c : ResetCause) (s : State) : (wholeReset c s).pwr.resetHeld = true
    ∧ causeBit c (wholeReset c s).rst = true ∧ (wholeReset c s).pwr.vdd3Up = s.pwr.vdd3Up
    ∧ (wholeReset c s).sup = s.sup := by
  cases h : s.pwr.resetHeld with
  | true =>
    rw [wholeReset_held h]
    exact ⟨h, causeBit_markCause c _, rfl, rfl⟩
  | false =>
    rw [wholeReset_begins h, resetOnset, discardTest_frame]
    exact ⟨rfl, (causeBit_count c _ _).trans (causeBit_markCause c _), rfl, rfl⟩

theorem wholeReset_heldResets {c : ResetCause} {s : State} (h : s.pwr.heldResets = []) :
    (wholeReset c s).pwr.heldResets = [] := by
  cases hheld : s.pwr.resetHeld with
  | true => rwa [wholeReset_held hheld]
  | false => rw [wholeReset_begins hheld]; rfl

theorem wholeReset_retains (c : ResetCause) (s : State) : Retains s (wholeReset c s) := by
  cases h : s.pwr.resetHeld with
  | true =>
    rw [wholeReset_held h]
    exact ⟨rfl, rfl, fun _ => rfl, rfl, rfl, rfl, rfl, rfl⟩
  | false =>
    rw [wholeReset_begins h, resetOnset, discardTest_frame]
    exact ⟨rfl, rfl, fun hnone => by rw [discardTest_of_none hnone]; rfl, rfl, rfl, rfl, rfl, rfl⟩

/-- The close at its onset writes the open record alone, so the reset leaves the rest as it was. -/
theorem wholeReset_resetClose_retains (c : ResetCause) (s : State) : Retains s (wholeReset c (resetClose s)) := by
  obtain ⟨hclock, hotp, hflash, hcopies⟩ := wholeReset_retains c (resetClose s)
  rw [resetClose_frame] at hflash hotp hclock hcopies ⊢
  exact ⟨hclock, hotp, hflash, hcopies⟩

/-! ### Resets that can be held back (R87, R102, R577) -/

theorem heldBackReset_of_waits {c : ResetCause} {s : State} (h : resetWaits c s = true) : heldBackReset c s = awaitReset c s :=
  if_pos h

theorem heldBackReset_of_free {c : ResetCause} {s : State} (h : resetWaits c s = false) :
    heldBackReset c s = wholeReset c (resetClose s) := if_neg (Bool.eq_false_iff.mp h)

theorem exec_resetn_long {n : Nat} {s : State} (h : 1000 ≤ n) : exec (.resetn n) s = .next (settle (heldBackReset .pin s)) := by
  show execResetn n s = _
  rw [execResetn, if_neg (by omega), if_neg (by omega), done_eq]

theorem exec_resetn_short {n : Nat} {s : State} (h : n < 200) : exec (.resetn n) s = .next (settle s) := by
  show execResetn n s = _
  rw [execResetn, if_pos h, done_eq]

/-- Between the two bounds the pulse may be taken or ignored. -/
theorem exec_resetn_free {n : Nat} {s : State} (hlow : 200 ≤ n) (hhigh : n < 1000) : exec (.resetn n) s = .next (settle
    (if Config.resetPulse s.free then heldBackReset .pin { s with free := s.free + 1 } else { s with free := s.free + 1 })) := by
  show execResetn n s = _
  rw [execResetn, if_neg (by omega), if_pos hhigh]
  rfl

/-- The resets that waited take effect together (R102, R577): the first begins the reset, the others record their causes. -/
theorem exec_heldResetRelease {c : ResetCause} {r : List ResetCause} {s : State} (h : s.pwr.heldResets = c :: r)
    (ht : s.tst.pending = false) : exec .heldResetRelease s
      = .next (settle (let t := wholeReset c (resetClose { s with pwr := { s.pwr with heldResets := [] } })
        { t with rst := r.foldl (fun a x => markCause x a) t.rst })) := by
  have hpend : (resetClose { s with pwr := { s.pwr with heldResets := [] } }).tst.pending = false := by
    rw [resetClose_frame]
    exact ht
  show execHeldResetRelease s = _
  simp only [execHeldResetRelease, h, hpend, Bool.false_and, Bool.false_eq_true, if_false, done_eq]

theorem exec_resetRelease {s : State} (h : s.pwr.resetHeld = true) : exec .resetRelease s
    = .next (settle (setSupply (fun p => { p with vddcOk := true }) { s with
      pwr := { s.pwr with resetHeld := false, vdd3Up := true, xtalMissed := false } })) := by
  show execResetRelease s = _
  rw [execResetRelease, h, guarded_true, done_eq]

/-- Settles O8: each source by the state of its reset, RESETN in its three ranges, and the resets that waited. -/
theorem resetSources : Obligations.ResetSources := by
  unfold Obligations.ResetSources
  refine ⟨fun s => ?supply, fun s => ?vddc, fun s n h => exec_resetn_short h, fun s n hn hw => ?pin, fun s n hn hw => ?waits,
    fun s n hlow hhigh => ?free, fun s => ?nothing, fun s l hl hne ht => ?held, fun s h => ?release⟩
  case supply =>
    obtain ⟨hheld, hcause, -, -⟩ := wholeReset_power .porSupply s
    exact ⟨_, rfl, hheld, rfl, hcause, rfl, wholeReset_retains .porSupply s⟩
  case vddc =>
    obtain ⟨hheld, hcause, hvdd, -⟩ := wholeReset_power .porSupply s
    exact ⟨_, rfl, hheld, hcause, hvdd, wholeReset_retains .porSupply s⟩
  case pin =>
    obtain ⟨hheld, hcause, -, -⟩ := wholeReset_power .pin (resetClose s)
    rw [exec_resetn_long hn, heldBackReset_of_free hw]
    exact ⟨_, rfl, hheld, hcause, wholeReset_resetClose_retains .pin s⟩
  case waits =>
    rw [exec_resetn_long hn, heldBackReset_of_waits hw]
    rfl
  case free =>
    rw [exec_resetn_free hlow hhigh]
    refine ⟨_, rfl, ?_⟩
    split
    · exact .inr rfl
    · exact .inl rfl
  case nothing => exact ⟨_, rfl, rfl, rfl, rfl, rfl, rfl, rfl, rfl, rfl, rfl, rfl, rfl⟩
  case held =>
    obtain ⟨c, r, rfl⟩ := List.exists_cons_of_ne_nil hne
    rw [exec_heldResetRelease hl ht]
    refine ⟨_, rfl, (wholeReset_power c _).1, wholeReset_heldResets ?_, fun d hd => ?_, wholeReset_resetClose_retains c _⟩
    · rw [resetClose_frame]
    · obtain rfl | hd := List.mem_cons.mp hd
      · exact causeBit_foldl_of r (wholeReset_power _ _).2.1
      · exact causeBit_foldl_of_mem hd _
  case release => exact ⟨_, exec_resetRelease h, rfl, rfl, rfl⟩

end Sys2Proof.Machine
end

section
/-! The minimum-of rule's consequences for a session (R33, R185): a pause, a resumption or a new duty, and what they leave alone. -/

namespace Sys2Proof.Machine

/-- From s to t at most what a pause and its resumption write differs: the session's phase and Break's marks, the pilot, the commands of
the switches, and the prompts (R33, R186, R187). -/
def OnlyPause (s t : State) : Prop := t = { s with
  ses := { s.ses with
    phase := t.ses.phase, breakStop := t.ses.breakStop, breakStep := t.ses.breakStep, makeStep := t.ses.makeStep
    stopFresh := t.ses.stopFresh, diodePassed := t.ses.diodePassed }
  plt := { s.plt with
    level := t.plt.level, nextLevel := t.plt.nextLevel, duty := t.plt.duty, next := t.plt.next, digital := t.plt.digital
    diodeCount := t.plt.diodeCount, holdDue := t.plt.holdDue, holdF := t.plt.holdF }
  swg := { s.swg with
    gateCmd := t.swg.gateCmd, heldGates := t.swg.heldGates, heldCoil := t.swg.heldCoil, interlock := t.swg.interlock
    coilCmd := t.swg.coilCmd, coilDuty := t.swg.coilDuty, openLoop := t.swg.openLoop, recent := t.swg.recent }
  aud := t.aud }

theorem OnlyPause.rfl {s : State} : OnlyPause s s := Eq.refl s

theorem OnlyPause.trans {s t u : State} (h : OnlyPause s t) (h' : OnlyPause t u) : OnlyPause s u := by
  unfold OnlyPause at *
  rw [h', h]

theorem eventPrompt_onlyPause (n : Nat) (s : State) : OnlyPause s (eventPrompt n s) := by
  unfold OnlyPause
  rw [eventPrompt_frame]

theorem enterPaused_onlyPause (s : State) : OnlyPause s (enterPaused s) := by
  have hphase : OnlyPause s { s with ses := { s.ses with phase := .paused, breakStep := 0 } } := Eq.refl _
  exact hphase.trans (eventPrompt_onlyPause 5 _)

theorem enterOffered_onlyPause (s : State) : OnlyPause s (enterOffered s) := Eq.refl _

theorem dueHold_onlyPause (s : State) : OnlyPause s (dueHold s) := by
  unfold dueHold
  split <;> exact Eq.refl _

theorem breakOutcome_onlyPause {s : State} (h : s.ses.breakStop = 0) : OnlyPause s (breakOutcome s) := by
  rw [breakOutcome, if_pos h]
  split
  · exact (enterPaused_onlyPause s).trans (enterOffered_onlyPause _)
  · exact enterPaused_onlyPause s

/-- Break that carries no stop reason ends in a pause. -/
theorem finishBreak_onlyPause {s : State} (h : s.ses.breakStop = 0) : OnlyPause s (finishBreak s) := by
  have hstep : OnlyPause s { s with ses := { s.ses with breakStep := 0 } } := Eq.refl _
  rw [finishBreak_eq]
  exact (hstep.trans (breakOutcome_onlyPause h)).trans (dueHold_onlyPause _)

theorem breakStepFive_onlyPause {s : State} (h : s.ses.breakStop = 0) : OnlyPause s (breakStepFive s) := by
  have hstep : OnlyPause s { s with ses := { s.ses with breakStep := 5 }, plt := { s.plt with next := 0 } } := Eq.refl _
  unfold breakStepFive
  dsimp only
  split
  · exact hstep.trans (Eq.refl _)
  · exact hstep.trans (finishBreak_onlyPause h)

/-- The coil's command is given up, and Break goes on to step 4. -/
def coilReleased (s : State) : State := { s with
  swg := { s.swg with coilCmd := false, coilDuty := 0, openLoop := false, recent := []
                      heldCoil := none, interlock := s.swg.heldGates != 0 }
  ses := { s.ses with breakStep := 4 } }

theorem releaseCoil_onlyPause {s : State} (h : s.ses.breakStop = 0) : OnlyPause s (releaseCoil s) := by
  have hcoil : OnlyPause s (coilReleased s) := Eq.refl _
  unfold releaseCoil
  dsimp only
  repeat' split
  case isTrue.isTrue.isTrue => exact hcoil
  case isTrue.isTrue.isFalse => exact hcoil.trans (breakStepFive_onlyPause (s := coilReleased s) h)
  case isTrue.isFalse => exact Eq.refl _
  case isFalse.isTrue => exact Eq.refl _
  case isFalse.isFalse => exact breakStepFive_onlyPause h

theorem startBreak_onlyPause (s : State) : OnlyPause s (startBreak 0 s) := by
  have hbegins : OnlyPause s (breakBegins 0 s) := Eq.refl _
  rw [startBreak_eq]
  split
  · exact hbegins.trans (Eq.refl _)
  · exact hbegins.trans (releaseCoil_onlyPause (Eq.refl _))

/-- Once the allowed current has followed its inputs, a pause, a resumption or a new duty is all that follows (R185). -/
theorem recompute_onlyPause (s : State) : OnlyPause (refreshAllowed s) (recompute s) := by
  unfold recompute pauseSession
  dsimp only
  repeat' split
  case isFalse.isTrue.isTrue.isTrue => exact startBreak_onlyPause _
  all_goals exact Eq.refl _

end Sys2Proof.Machine
end

section
/-! The end of a half-cycle (12): what a phase's voltage and current bring about (R94, R255), and the METER_LED. -/

namespace Sys2Proof.Machine

/-! ### Mains loss (R94, R95) -/

/-- From s to t at most what a half-cycle writes differs: what the minimum-of rule changes, the judgements of voltage and current, and the
reports to SAFE; and what the end of the command settles. -/
def OnlyHalfCycle (s t : State) : Prop := t = { s with
  ses := t.ses, plt := t.plt, swg := t.swg, aud := t.aud, live := t.live, plc := { s.plc with mainsRef := t.plc.mainsRef }
  fab := t.fab, glt := t.glt
  met := { s.met with
    mainsLoss := t.met.mainsLoss, freqValid := t.met.freqValid, freq := t.met.freq, goodPeriods := t.met.goodPeriods, half := t.met.half }
  safe := { s.safe with reports := t.safe.reports } }

theorem OnlyHalfCycle.trans {s t u : State} (h : OnlyHalfCycle s t) (h' : OnlyHalfCycle t u) : OnlyHalfCycle s u := by
  unfold OnlyHalfCycle at *
  rw [h', h]

theorem OnlyHalfCycle.kept {s t : State} (h : OnlyHalfCycle s t) :
    t.met.eimp = s.met.eimp ∧ t.bil.ledger = s.bil.ledger ∧ t.lck.faults = s.lck.faults := by
  rw [h]
  exact ⟨rfl, rfl, rfl⟩

/-- Mains loss is declared, before R185 follows (R94, R296, R390). -/
def lossNoted (s : State) : State := { s with
  met := { s.met with mainsLoss := true, freqValid := false, freq := 0, goodPeriods := 0 }, plc := { s.plc with mainsRef := false } }

theorem declareLoss_of_lost {s : State} (h : s.met.mainsLoss = true) : declareLoss s = s := if_pos h

theorem declareLoss_of_present {s : State} (h : s.met.mainsLoss = false) : declareLoss s = recompute (lossNoted s) :=
  if_neg (Bool.eq_false_iff.mp h)

/-- A loss that is declared stands; the level of R255, the sums and what SAFE and the half-cycles have noted are as they were. -/
structure LossDeclared (s t : State) : Prop where
  only : OnlyHalfCycle s t
  lost : t.met.mainsLoss = true
  live : t.live = s.live
  safe : t.safe = s.safe
  half : t.met.half = s.met.half
  level : overLevel t = overLevel s

theorem declareLoss_declared (s : State) : LossDeclared s (declareLoss s) := by
  cases h : s.met.mainsLoss with
  | true =>
    rw [declareLoss_of_lost h]
    exact ⟨rfl, h, rfl, rfl, rfl, rfl⟩
  | false =>
    rw [declareLoss_of_present h, recompute_onlyPause]
    exact ⟨rfl, rfl, rfl, rfl, rfl, rfl⟩

/-! ### The voltage of a phase (R94) -/

/-- The low half-cycles in a row, this one included, as far as two. -/
def lowInRow (p : Nat) (h : HalfSum) (s : State) : Nat :=
  if belowLoss s h then min 2 (s.live.lowHalves.toList.getD p 0 + 1) else 0

/-- A half-cycle's voltage is noted. -/
def voltageNoted (p : Nat) (h : HalfSum) (s : State) : State := { s with live := { s.live with
  lowHalves := s.live.lowHalves.setIfInBounds p (lowInRow p h s)
  highHalf := s.live.highHalf.setIfInBounds p (aboveRestore s h) } }

theorem judgeVoltage_eq (p : Nat) (h : HalfSum) (s : State) :
    judgeVoltage p h s = if lowInRow p h s = 2 then declareLoss (voltageNoted p h s) else voltageNoted p h s := rfl

theorem judgeVoltage_of_second {p : Nat} {h : HalfSum} {s : State} (hlow : belowLoss s h = true)
    (hone : 1 ≤ s.live.lowHalves.toList.getD p 0) : judgeVoltage p h s = declareLoss (voltageNoted p h s) := by
  rw [judgeVoltage_eq, if_pos]
  rw [lowInRow, if_pos hlow]
  omega

theorem lowInRow_of_good {p : Nat} {h : HalfSum} {s : State} (hgood : belowLoss s h = false) : lowInRow p h s = 0 :=
  if_neg (Bool.eq_false_iff.mp hgood)

theorem judgeVoltage_of_good {p : Nat} {h : HalfSum} {s : State} (hgood : belowLoss s h = false) :
    judgeVoltage p h s = voltageNoted p h s := by
  rw [judgeVoltage_eq, lowInRow_of_good hgood]
  rfl

/-- Whether or not the loss is declared, the voltage alone is noted, and nothing that the current's judgement reads changes. -/
structure VoltageJudged (p : Nat) (h : HalfSum) (s t : State) : Prop where
  only : OnlyHalfCycle s t
  live : t.live = (voltageNoted p h s).live
  half : t.met.half = s.met.half
  level : overLevel t = overLevel s

theorem judgeVoltage_judged (p : Nat) (h : HalfSum) (s : State) : VoltageJudged p h s (judgeVoltage p h s) := by
  have hnoted : VoltageJudged p h s (voltageNoted p h s) := ⟨rfl, rfl, rfl, rfl⟩
  rw [judgeVoltage_eq]
  split
  · have hloss := declareLoss_declared (voltageNoted p h s)
    exact ⟨hnoted.only.trans hloss.only, hloss.live, hloss.half.trans hnoted.half, hloss.level.trans hnoted.level⟩
  · exact hnoted

/-! ### The current of a conductor (R255) -/

/-- The overcurrents in a row, this half-cycle included, as far as twenty. -/
def overInRow (c : Nat) (h : HalfSum) (s : State) : Nat :=
  if overCurrent (overLevel s) h then min 20 (s.live.overCounts.toList.getD c 0 + 1) else 0

/-- A half-cycle's current is noted. -/
def currentNoted (c : Nat) (h : HalfSum) (s : State) : State := { s with live := { s.live with
  overCounts := s.live.overCounts.setIfInBounds c (overInRow c h s)
  halfDeciA := s.live.halfDeciA.setIfInBounds c (BitVec.ofNat 16 (min 65535 (halfDeciA h))) } }

theorem judgeCurrent_eq (c : Nat) (h : HalfSum) (s : State) : judgeCurrent c h s =
    if overInRow c h s = 20 && s.live.overCounts.toList.getD c 0 < 20 then report 0x106 (currentNoted c h s)
    else currentNoted c h s := rfl

/-- The twentieth overcurrent in a row is reported (R255). -/
theorem judgeCurrent_of_twentieth {c : Nat} {h : HalfSum} {s : State} (hover : overCurrent (overLevel s) h = true)
    (hcount : s.live.overCounts.toList.getD c 0 = 19) : judgeCurrent c h s = report 0x106 (currentNoted c h s) := by
  rw [judgeCurrent_eq, overInRow, if_pos hover, hcount]
  rfl

theorem overInRow_of_below {c : Nat} {h : HalfSum} {s : State} (hbelow : overCurrent (overLevel s) h = false) :
    overInRow c h s = 0 := if_neg (Bool.eq_false_iff.mp hbelow)

/-- What the judgement of a current writes: its note, and at most one report more. -/
structure CurrentJudged (c : Nat) (h : HalfSum) (s t : State) : Prop where
  only : OnlyHalfCycle s t
  live : t.live = (currentNoted c h s).live
  met : t.met = s.met
  reports : ∀ x ∈ s.safe.reports, x ∈ t.safe.reports

theorem judgeCurrent_judged (c : Nat) (h : HalfSum) (s : State) : CurrentJudged c h s (judgeCurrent c h s) := by
  rw [judgeCurrent_eq]
  split
  · exact ⟨rfl, rfl, rfl, fun x hx => List.mem_append_left _ hx⟩
  · exact ⟨rfl, rfl, rfl, fun x hx => hx⟩

/-! ### A phase's half-cycle, and the neutral's with that of L1 (R295) -/

/-- The half-cycle of phase p is judged and its sums start again. -/
def phaseJudged (p : Nat) (s : State) : State := clearHalf p (judgeCurrent p (halfOf s p) (judgeVoltage p (halfOf s p) s))

/-- The neutral's half-cycle is judged and its sums start again. -/
def neutralJudged (s : State) : State := clearHalf 3 (judgeCurrent 3 (halfOf s 3) s)

theorem halfCycle_eq (p : Nat) (s : State) :
    halfCycle p s = if p = 0 then neutralJudged (phaseJudged p s) else phaseJudged p s := rfl

theorem clearHalf_onlyHalfCycle (c : Nat) (s : State) : OnlyHalfCycle s (clearHalf c s) := Eq.refl _

theorem halfOf_clearHalf_same {c : Nat} (h : c < 4) (s : State) : halfOf (clearHalf c s) c = {} := by
  simp [halfOf, clearHalf, h]

theorem halfOf_clearHalf_other {c d : Nat} (h : d ≠ c) (s : State) : halfOf (clearHalf c s) d = halfOf s d := by
  simp [halfOf, clearHalf, h.symm]

/-- What a phase's half-cycle has left stands on in t. -/
structure PhaseStands (p : Nat) (s t : State) : Prop where
  only : OnlyHalfCycle s t
  half : halfOf t p = halfOf s p
  lost : t.met.mainsLoss = s.met.mainsLoss
  low : t.live.lowHalves = s.live.lowHalves
  high : t.live.highHalf = s.live.highHalf
  amps : t.live.halfDeciA.toList[p]? = s.live.halfDeciA.toList[p]?
  counts : t.live.overCounts.toList[p]? = s.live.overCounts.toList[p]?
  reports : ∀ x ∈ s.safe.reports, x ∈ t.safe.reports

theorem PhaseStands.rfl {p : Nat} {s : State} : PhaseStands p s s :=
  ⟨Eq.refl s, Eq.refl _, Eq.refl _, Eq.refl _, Eq.refl _, Eq.refl _, Eq.refl _, fun _ hx => hx⟩

/-- The judgement of the neutral touches nothing of a phase. -/
theorem CurrentJudged.stands {h : HalfSum} {s t : State} (hj : CurrentJudged 3 h s t) {p : Nat} (hp : p < 3) :
    PhaseStands p s (clearHalf 3 t) := by
  have hne : 3 ≠ p := by omega
  refine ⟨hj.only.trans (clearHalf_onlyHalfCycle 3 t), ?half, (congrArg Met.mainsLoss hj.met :), ?low, ?high, ?amps, ?counts, hj.reports⟩
  case half => rw [halfOf_clearHalf_other hne.symm, halfOf, hj.met, halfOf]
  case low | high => rw [clearHalf, hj.live, currentNoted]
  case amps | counts =>
    rw [clearHalf, hj.live, currentNoted]
    simp [hne]

theorem neutralJudged_stands {p : Nat} (h : p < 3) (s : State) : PhaseStands p s (neutralJudged s) :=
  (judgeCurrent_judged 3 (halfOf s 3) s).stands h

theorem halfCycle_stands {p : Nat} (h : p < 3) (s : State) : PhaseStands p (phaseJudged p s) (halfCycle p s) := by
  rw [halfCycle_eq]
  split
  · exact neutralJudged_stands h _
  · exact .rfl

/-- What the half-cycle of one phase notes (R94, R255), read at that phase. -/
structure PhaseNoted (p : Nat) (s t : State) : Prop where
  only : OnlyHalfCycle s t
  half : halfOf t p = {}
  lost : t.met.mainsLoss = (judgeVoltage p (halfOf s p) s).met.mainsLoss
  low : t.live.lowHalves.toList[p]? = some (lowInRow p (halfOf s p) s)
  high : t.live.highHalf.toList[p]? = some (aboveRestore s (halfOf s p))
  amps : t.live.halfDeciA.toList[p]? = some (BitVec.ofNat 16 (min 65535 (halfDeciA (halfOf s p))))
  counts : t.live.overCounts.toList[p]? = some (overInRow p (halfOf s p) s)
  reported : overCurrent (overLevel s) (halfOf s p) = true → s.live.overCounts.toList.getD p 0 = 19 → 0x106 ∈ t.safe.reports

/-- The level and the count of R255 do not follow from the voltage. -/
theorem VoltageJudged.overInRow_eq {p : Nat} {h : HalfSum} {s t : State} (hv : VoltageJudged p h s t) (c : Nat) (h' : HalfSum) :
    overInRow c h' t = overInRow c h' s := by
  have hcounts : t.live.overCounts = s.live.overCounts := (congrArg Live.overCounts hv.live :)
  rw [overInRow, hv.level, hcounts, overInRow]

/-- The judgement of a phase's current, over what that of its voltage has left. -/
theorem VoltageJudged.noted {p : Nat} {s t u : State} (hv : VoltageJudged p (halfOf s p) s t) (hc : CurrentJudged p (halfOf s p) t u)
    (ht : t.met.mainsLoss = (judgeVoltage p (halfOf s p) s).met.mainsLoss)
    (hu : overCurrent (overLevel t) (halfOf s p) = true → t.live.overCounts.toList.getD p 0 = 19 → 0x106 ∈ u.safe.reports)
    (h : p < 3) : PhaseNoted p s (clearHalf p u) := by
  have h4 : p < 4 := by omega
  have hcounts : t.live.overCounts = s.live.overCounts := (congrArg Live.overCounts hv.live :)
  refine ⟨(hv.only.trans hc.only).trans (clearHalf_onlyHalfCycle p u), halfOf_clearHalf_same h4 u,
    (congrArg Met.mainsLoss hc.met :).trans ht, ?low, ?high, ?amps, ?counts, fun hover hcount => ?reported⟩
  case low | high =>
    rw [clearHalf, hc.live, currentNoted, hv.live, voltageNoted]
    simp [h]
  case amps =>
    rw [clearHalf, hc.live, currentNoted]
    simp [h4]
  case counts =>
    rw [clearHalf, hc.live, currentNoted, hv.overInRow_eq]
    simp [h4]
  case reported => exact hu (by rw [hv.level, hover]) (by rw [hcounts, hcount])

theorem phaseJudged_noted {p : Nat} (h : p < 3) (s : State) : PhaseNoted p s (phaseJudged p s) := by
  refine (judgeVoltage_judged p (halfOf s p) s).noted (judgeCurrent_judged p (halfOf s p) _) rfl (fun hover hcount => ?_) h
  rw [judgeCurrent_of_twentieth hover hcount]
  exact List.mem_append_right _ (List.mem_singleton_self _)

theorem settle_onlyHalfCycle (s : State) : OnlyHalfCycle s (settle s) := Eq.refl _

theorem PhaseNoted.settle {p : Nat} {s t : State} (h : PhaseNoted p s t) : PhaseNoted p s (settle t) := by
  obtain ⟨honly, hhalf, hlost, hlow, hhigh, hamps, hcounts, hreported⟩ := h
  exact ⟨honly.trans (settle_onlyHalfCycle t), hhalf, hlost, hlow, hhigh, hamps, hcounts, hreported⟩

/-- The whole half-cycle leaves what its phase noted. -/
theorem halfCycle_noted {p : Nat} (h : p < 3) (s : State) : PhaseNoted p s (halfCycle p s) := by
  have hn := phaseJudged_noted h s
  have hs := halfCycle_stands h s
  exact ⟨hn.only.trans hs.only, hs.half.trans hn.half, hs.lost.trans hn.lost, by rw [hs.low, hn.low], by rw [hs.high, hn.high],
    hs.amps.trans hn.amps, hs.counts.trans hn.counts, fun hover hcount => hs.reports _ (hn.reported hover hcount)⟩

theorem phaseNum_lt (p : Phase3) : phaseNum p < 3 := by cases p <;> decide

theorem exec_halfCycleEnd {p : Phase3} {s : State} (hup : isUp s .met = true) (hdecl : (phases s).contains (phaseNum p) = true) :
    exec (.halfCycleEnd p) s = .next (settle (halfCycle (phaseNum p) s)) := by
  show execHalfCycleEnd p s = _
  rw [execHalfCycleEnd, hup, hdecl, Bool.and_self, guarded_true, done_eq]

/-! ### METER_LED (R301) -/

theorem exec_meterLedPulse {s : State} (hup : isUp s .met = true) (howed : s.met.ledOwed ≠ 0) (hoff : s.met.ledOn = false)
    (hbrown : s.pwr.brown.active = false) :
    exec .meterLedPulse s = .next (settle { s with met := { s.met with ledOn := true, ledOwed := s.met.ledOwed - 1 } }) := by
  show execMeterLedPulse s = _
  have howes : (s.met.ledOwed != 0) = true := by simpa using howed
  rw [execMeterLedPulse, hup, howes, hoff, hbrown, done_eq]
  rfl

/-- Settles O30: a half-cycle by what it notes of its phase, and the two ends of a pulse. -/
theorem halfCyclesAndPulses : Obligations.HalfCyclesAndPulses := by
  unfold Obligations.HalfCyclesAndPulses
  intro s
  refine ⟨fun p hup hdecl => ?half, exec_meterLedPulse, rfl⟩
  have hn := (halfCycle_noted (phaseNum_lt p) s).settle
  dsimp only
  refine ⟨_, exec_halfCycleEnd hup hdecl, hn.half, fun hlow hone => ?lost, fun hgood => ⟨?kept, ?low⟩, ?high, ?amps, hn.reported,
    fun hbelow => ?counts, hn.only.kept⟩
  case lost =>
    rw [hn.lost, judgeVoltage_of_second hlow hone]
    exact (declareLoss_declared _).lost
  case kept => rw [hn.lost, judgeVoltage_of_good hgood, voltageNoted]
  case low => rw [List.getD_eq_getElem?_getD, hn.low, lowInRow_of_good hgood, Option.getD_some]
  case high => rw [List.getD_eq_getElem?_getD, hn.high, Option.getD_some]
  case amps => rw [List.getD_eq_getElem?_getD, hn.amps, Option.getD_some]
  case counts => rw [List.getD_eq_getElem?_getD, hn.counts, overInRow_of_below hbelow, Option.getD_some]

end Sys2Proof.Machine
end

section
/-! The supply monitors (03): rails and their stages, the crystals, and mains that returns. -/

namespace Sys2Proof.Machine

/-! ### What an island's departure leaves of AON_SUPPLY (R56) -/

theorem failAt_onlyFabric (i : Island) (st : FabricStatus) (f : Flight) (s : State) : OnlyFabric s (failAt i st f s) := by
  unfold failAt
  split
  · exact dropPosted_onlyFabric _ _ s
  · exact complete_onlyFabric _ _ _ s

theorem answerAbsent_onlyFabricAndLog (i : Island) (f : Flight) (s : State) : OnlyFabricAndLog s (answerAbsent i f s) := by
  unfold answerAbsent
  split
  · exact (failAt_onlyFabric _ _ _ s).andLog
  · exact (failAt_onlyFabric _ _ _ s).andLog.trans (logEvent_onlyFabricAndLog _ _)

theorem fabricLeave_onlyFabricAndLog (i : Island) (s : State) : OnlyFabricAndLog s (fabricLeave i s) := by
  unfold fabricLeave
  dsimp only
  generalize hu : List.foldl _ _ _ = u
  have hanswered : OnlyFabricAndLog s u := by
    rw [← hu]
    exact List.foldlRecOn (motive := OnlyFabricAndLog s) _ _ (Eq.refl _) fun t ht f _ => ht.trans (answerAbsent_onlyFabricAndLog i f t)
  have hgone (x : Fabric) : OnlyFabricAndLog u { u with fab := x } := Eq.refl _
  exact (hanswered.trans (hgone _)).trans (settleFences_onlyFabric _).andLog

@[simp] theorem fabricLeave_sup (i : Island) (s : State) : (fabricLeave i s).sup = s.sup := by rw [fabricLeave_onlyFabricAndLog]

@[simp] theorem comparatorTrip_sup (b : Bool) (n : Nat) (s : State) : (comparatorTrip b n s).sup = s.sup := by
  rw [← killByComparator_sup s n]
  unfold comparatorTrip
  generalize killByComparator n s = t
  dsimp only
  repeat' split
  all_goals simp

@[simp] theorem reconnect_sup (n : Nat) (s : State) : (reconnect n s).sup = s.sup := by
  unfold reconnect
  split <;> simp

@[simp] theorem reconnectAll_sup (s t : State) : (reconnectAll s t).sup = t.sup := by
  refine List.foldlRecOn (motive := fun u : State => u.sup = t.sup) _ _ rfl fun u hu n _ => ?_
  split
  · rw [reconnect_sup, hu]
  · exact hu

@[simp] theorem holdsEnd_sup (s : State) : (holdsEnd s).sup = s.sup := by
  unfold holdsEnd logHold
  dsimp only
  split <;> split <;> simp

@[simp] theorem resetIsland_sup (i : Island) (s : State) : (resetIsland i s).sup = s.sup := by
  cases i
  case adc => exact reconnectAll_sup s _
  case plc => exact holdsEnd_sup s
  all_goals rfl

@[simp] theorem leaveQuietly_sup (i : Island) (st : PortState) (s : State) : (leaveQuietly i st s).sup = s.sup := by
  unfold leaveQuietly
  dsimp only
  split <;> split <;> simp

/-- State F level at once, and what the interlock still held back to energise dropped (R179, R196, R210). -/
def energyRefused (s : State) : State := { s with
  plt := { s.plt with level := .stateF, nextLevel := .stateF, duty := 0, next := 0, digital := false, lowMv := 0, diodeCount := 0
                      holdF := s.plt.holdF || s.plt.holdDue, holdDue := false }
  swg := { s.swg with heldGates := 0, heldCoil := s.swg.heldCoil.filter (!·), interlock := s.swg.heldCoil == some false } }

/-- The stop with reason 6, and the session's end over it (R41). -/
def stopsAndCloses (s : State) : State := closeSession (stopSession 6 s).ses.breakStop (stopSession 6 s)

theorem stopForSafe_eq (s : State) : stopForSafe s =
    if s.ses.phase == .break then
      if (stopsAndCloses (energyRefused s)).ses.breakStep = 5 then finishBreak (stopsAndCloses (energyRefused s))
      else stopsAndCloses (energyRefused s)
    else if s.ses.phase == .make || s.swg.coilCmd then closeSession 6 (startBreak 6 (energyRefused s))
    else closeSession 6 (stopSession 6 (energyRefused s)) := rfl

/-- The session's end on an entry into the safe state writes what a session's operations write (R41, R250). -/
theorem stopForSafe_onlySwitching (s : State) : OnlySwitching s (stopForSafe s) := by
  have hrefused : OnlySwitching s (energyRefused s) := Eq.refl _
  have hclose (r : BitVec 8) (t : State) : OnlySwitching t (closeSession r t) := (closeSession_onlySession r t).onlySwitching
  have hstop := hrefused.trans (stopSession_onlySwitching 6 _)
  rw [stopForSafe_eq]
  repeat' split
  · exact (hstop.trans (hclose _ _)).trans (finishBreak_onlySession _).onlySwitching
  · exact hstop.trans (hclose _ _)
  · exact (hrefused.trans (startBreak_onlySwitching 6 _)).trans (hclose _ _)
  · exact hstop.trans (hclose _ _)

@[simp] theorem absenceReaction_sup (i : Island) (s : State) : (absenceReaction i s).sup = s.sup := by
  unfold absenceReaction
  repeat' split
  · rfl
  · rw [stopForSafe_onlySwitching, setKill_sup]
  · rw [logEvent_sup]

theorem leaveService_sup (i : Island) (st : PortState) (s : State) : (leaveService i st s).sup = s.sup := by simp [leaveService]

/-! ### Clocks that are lost together (R78, R578) -/

/-- SAFE, in service, logs the reset of an island whose clock is lost. -/
def clockResetLogged (i : Island) (s : State) : State := if isUp s .safe && i != .aon then logEvent (.islandReset i) s else s

theorem clockLoss_eq (i : Island) (s : State) : clockLoss i s =
    if (port s i).state == .up then clockResetLogged i (leaveService i .clockLost s)
    else if (port s i).state == .resetting || (port s i).state == .reloading then
      clockResetLogged i (setPort s i { port s i with state := .clockLost })
    else s := rfl

@[simp] theorem clockResetLogged_sup (i : Island) (s : State) : (clockResetLogged i s).sup = s.sup := by
  unfold clockResetLogged
  split <;> simp

@[simp] theorem clockResetLogged_port (i : Island) (s : State) (j : Island) : port (clockResetLogged i s) j = port s j := by
  unfold clockResetLogged
  split <;> simp [logEvent_port]

theorem clockLoss_sup (i : Island) (s : State) : (clockLoss i s).sup = s.sup := by
  rw [clockLoss_eq]
  repeat' split
  · rw [clockResetLogged_sup, leaveService_sup]
  · rw [clockResetLogged_sup, setPort_sup]
  · rfl

theorem clockLoss_other {i j : Island} (h : j ≠ i) (s : State) : port (clockLoss i s) j = port s j := by
  rw [clockLoss_eq]
  repeat' split
  · rw [clockResetLogged_port, leaveService_other _ _ _ h]
  · rw [clockResetLogged_port, setPort_port_other _ h]
  · rfl

/-- An island whose port can lose its clock: in service, or on its way back. -/
def LosesClock (i : Island) (s : State) : Prop :=
  isUp s i = true ∨ (port s i).state = .resetting ∨ (port s i).state = .reloading

theorem LosesClock.of_port {i : Island} {s t : State} (h : LosesClock i s) (hp : port t i = port s i) : LosesClock i t := by
  unfold LosesClock isUp at *
  rwa [hp]

theorem clockLoss_keeps_lost {i : Island} (j : Island) {s : State} (h : (port s i).state = .clockLost) :
    (port (clockLoss j s) i).state = .clockLost := by
  by_cases hij : i = j
  · subst hij
    rw [clockLoss_eq, h]
    exact h
  · rw [clockLoss_other hij, h]

/-- Of the islands that lose their clocks, each that could lose it has. -/
theorem foldl_clockLoss_state {i : Island} {l : List Island} (hmem : i ∈ l) {s : State} (h : LosesClock i s) :
    (port (l.foldl (fun s j => clockLoss j s) s) i).state = .clockLost := by
  induction l generalizing s with
  | nil => exact absurd hmem List.not_mem_nil
  | cons j l ih =>
    by_cases hij : i = j
    · subst hij
      exact List.foldlRecOn (motive := fun t => (port t i).state = .clockLost) l _ (clockLoss_state h)
        fun t ht j _ => clockLoss_keeps_lost j ht
    · exact ih ((List.mem_cons.mp hmem).resolve_left hij) (h.of_port (clockLoss_other hij s))

/-- An island that is not among them keeps its port, and AON_SUPPLY stands. -/
theorem foldl_clockLoss_frame (l : List Island) (s : State) : (l.foldl (fun s j => clockLoss j s) s).sup = s.sup
    ∧ ∀ i ∉ l, port (l.foldl (fun s j => clockLoss j s) s) i = port s i := by
  refine ⟨List.foldlRecOn (motive := fun t => t.sup = s.sup) _ _ rfl fun t ht j _ => (clockLoss_sup j t).trans ht, fun i hi => ?_⟩
  refine List.foldlRecOn (motive := fun t => port t i = port s i) _ _ rfl fun t ht j hj => ?_
  have hne : i ≠ j := fun e => hi (e ▸ hj)
  rw [clockLoss_other hne, ht]

/-! ### The crystals (R101, R107, R578) -/

/-- The islands that the main crystal clocks. -/
def crystalClocked : List Island := allIslands.filter fun i => i != .aon && i != .safe

theorem mem_crystalClocked {i : Island} : i ∈ crystalClocked ↔ i ≠ .aon ∧ i ≠ .safe := by
  simp [crystalClocked, mem_allIslands]

/-- The main crystal has stopped, and the ports that it clocks have lost their clocks. -/
def crystalLost (s : State) : State :=
  crystalClocked.foldl (fun s i => clockLoss i s) (setSupply (fun p => { p with xtalOk := false }) s)

theorem crystalLost_xtalOk (s : State) : (crystalLost s).sup.xtalOk = false := by
  rw [crystalLost, (foldl_clockLoss_frame _ _).1]
  rfl

theorem crystalLost_unclocked {i : Island} (h : i ∉ crystalClocked) (s : State) : port (crystalLost s) i = port s i := by
  rw [crystalLost, (foldl_clockLoss_frame _ _).2 i h]
  rfl

theorem crystalLost_clocked {i : Island} (h : i ∈ crystalClocked) {s : State} (hl : LosesClock i s) :
    (port (crystalLost s) i).state = .clockLost := by
  rw [crystalLost]
  exact foldl_clockLoss_state h (hl.of_port rfl)

theorem exec_xtalStop {s : State} (hhost : hasCome s .host = true) (hok : s.sup.xtalOk = true) :
    exec .xtalStop s = .next (settle (diagFail 8 (holdKill (crystalLost s)))) := by
  show execXtalStop s = _
  rw [execXtalStop, hhost, hok, Bool.and_self, guarded_true, done_eq]
  rfl

@[simp] theorem diagFail_port (n : Nat) (s : State) (i : Island) : port (diagFail n s) i = port s i := by
  rw [port, diagFail_fab, port]

@[simp] theorem holdKill_port (s : State) (i : Island) : port (holdKill s) i = port s i := rfl

theorem exec_xtalRetry {stable : Bool} {s : State} (hsafe : isUp s .safe = true) (hhost : hasCome s .host = false) :
    exec (.xtalRetry stable) s = .next (settle (setSupply (fun p => { p with xtalOk := stable })
      { s with pwr := { s.pwr with xtalMissed := !stable } })) := by
  show execXtalRetry stable s = _
  rw [execXtalRetry, hsafe, hhost, done_eq]
  rfl

/-- VBAT's two monitor bits take their values (Table 3-7). -/
def vbatNoted (low ok : Bool) (s : State) : State := settle (setSupply (fun p => { p with vbatLow := low, vbatOk := ok }) s)

theorem exec_vbatLow (mv : BitVec 16) (s : State) :
    exec (.vbatLow mv) s = .next (vbatNoted (mv.toNat < 2200) (1900 ≤ mv.toNat) s) := rfl

theorem vbatNoted_sup (low ok : Bool) (s : State) : (vbatNoted low ok s).sup.vbatLow = low ∧ (vbatNoted low ok s).sup.vbatOk = ok
    ∧ vbatNoted low ok s = { s with
      sup := { s.sup with vbatLow := (vbatNoted low ok s).sup.vbatLow, vbatOk := (vbatNoted low ok s).sup.vbatOk }
      hst := (vbatNoted low ok s).hst, fab := (vbatNoted low ok s).fab, glt := (vbatNoted low ok s).glt } := ⟨rfl, rfl, rfl⟩

/-! ### Rails and their stages (R84) -/

theorem reportRail_frame (r : Rail) (s : State) :
    reportRail r s = { s with pwr := (reportRail r s).pwr, flash := (reportRail r s).flash } := by
  unfold reportRail
  split
  · rfl
  · rw [logEvent_frame]

/-- The rail is low: its monitor bit says so, and the owner of its stage has reported it. -/
def railLow (r : Rail) (s : State) : State := reportRail r (setRail r false s)

theorem exec_supplyRailLow (r : Rail) (s : State) : exec (.supplyRailLow r) s = .next (settle (refreshStageOf r (railLow r s))) := rfl

theorem railLow_frame (r : Rail) (s : State) : railLow r s = { s with
    sup := (setRail r false s).sup, hst := (setRail r false s).hst, pwr := (railLow r s).pwr, flash := (railLow r s).flash } := by
  rw [railLow, reportRail_frame]
  cases r <;> rfl

theorem copyCut_frame (s : State) : copyCut s = { s with plc := (copyCut s).plc } := by
  unfold copyCut
  dsimp only
  repeat' split
  all_goals rfl

theorem copyCut_tx (s : State) : (copyCut s).plc.tx = none := by
  unfold copyCut
  dsimp only
  repeat' split
  next h => exact h
  all_goals rfl

/-- With VLD low a copy on the line is cut before the driver follows; any other stands. -/
theorem refreshStageOf_vld_low {s : State} (h : s.sup.vldOk = false) :
    refreshStageOf .vld s = refreshDriver (if s.plc.txPaths.contains .line then copyCut s else s) := by
  rw [refreshStageOf, h]
  cases s.plc.txPaths.contains .line <;> rfl

theorem refreshDriver_plc_low {s : State} (h : s.sup.vldOk = false) : (refreshDriver s).plc = { s.plc with drvOn := false } := by
  simp [refreshDriver, h]

/-- VLD low disables the line driver, and cuts a copy on the line. -/
theorem lineDriverOff (s : State) : ∃ p : Plc, refreshStageOf .vld (railLow .vld s) = { railLow .vld s with plc := p }
    ∧ p.drvOn = false ∧ (s.plc.txPaths.contains .line = true → p.tx = none)
    ∧ (s.plc.txPaths.contains .line = false → p = { s.plc with drvOn := false }) := by
  have hlow : (railLow .vld s).sup.vldOk = false := by rw [railLow_frame]; rfl
  have hplc : (railLow .vld s).plc = s.plc := by rw [railLow_frame]
  rw [refreshStageOf_vld_low hlow, hplc]
  cases s.plc.txPaths.contains .line with
  | true =>
    have hcut : (copyCut (railLow .vld s)).sup.vldOk = false := by rw [copyCut_frame]; exact hlow
    have hdriver := refreshDriver_plc_low hcut
    refine ⟨(refreshDriver (copyCut (railLow .vld s))).plc, ?_, ?_, fun _ => ?_, nofun⟩
    · rw [if_pos rfl, copyCut_frame]
      rfl
    · rw [hdriver]
    · rw [hdriver]
      exact copyCut_tx _
  | false =>
    have hdriver := refreshDriver_plc_low hlow
    refine ⟨(refreshDriver (railLow .vld s)).plc, rfl, ?_, nofun, fun _ => ?_⟩
    · rw [hdriver]
    · rw [hdriver, hplc]

/-! ### Mains (R94, R96) -/

theorem exec_mainsRestore {s : State} (hup : isUp s .met = true) (hlost : s.met.mainsLoss = true) : exec .mainsRestore s
    = .next (settle (if mainsGood s then recompute { s with met := { s.met with mainsLoss := false } } else s)) := by
  show execMainsRestore s = _
  rw [execMainsRestore, hup, hlost, Bool.and_self, Bool.true_and, done_eq, guarded]

/-- Settles O9: each rail by its stage, the crystals by what they clock, and mains by the rule that follows it. -/
theorem supplyMonitors : Obligations.SupplyMonitors := by
  unfold Obligations.SupplyMonitors
  intro s
  refine ⟨?vld, ?vaud, ?voled, fun r => ?restored, fun mv => ?vbat, ⟨_, rfl, rfl⟩, fun stable hsafe hhost => ?retry,
    fun hhost hok => ?stop, fun hhold hpfail hheld _ => ?hold, fun hup hlost hgood => ?mains, fun hup hlost hbad => ?bad,
    fun hup hpresent => ?present⟩
  case vld =>
    obtain ⟨p, hstage, hoff, hcut, hkept⟩ := lineDriverOff s
    rw [exec_supplyRailLow, hstage, railLow_frame]
    exact ⟨_, rfl, rfl, hoff, hcut, hkept, rfl⟩
  case vaud =>
    have hstage : refreshStageOf .vaud (railLow .vaud s) = refreshStage (railLow .vaud s) := rfl
    rw [exec_supplyRailLow, hstage, railLow_frame]
    refine ⟨_, rfl, rfl, ?_, rfl⟩
    simp [refreshStage, setRail, setSupply]
  case voled =>
    have hstage : refreshStageOf .voled (railLow .voled s) = refreshDrive (railLow .voled s) := rfl
    rw [exec_supplyRailLow, hstage, railLow_frame]
    refine ⟨_, rfl, rfl, fun hpixel => ?_, rfl⟩
    simp [refreshDrive, setRail, setSupply, hpixel]
  case restored => cases r <;> exact ⟨_, rfl, rfl, rfl, rfl, rfl⟩
  case vbat =>
    obtain ⟨hlow, hok, hframe⟩ := vbatNoted_sup (mv.toNat < 2200) (1900 ≤ mv.toNat) s
    refine ⟨_, exec_vbatLow mv s, ?_, ?_, hframe⟩
    · rw [hlow, decide_eq_true_iff]
    · rw [hok, decide_eq_true_iff]
  case retry => exact ⟨_, exec_xtalRetry hsafe hhost, rfl, rfl, rfl⟩
  case stop =>
    have hport (i : Island) : port (settle (diagFail 8 (holdKill (crystalLost s)))) i = port (crystalLost s) i := by
      rw [settle_port, diagFail_port, holdKill_port]
    refine ⟨_, exec_xtalStop hhost hok, ?_, fun i haon hsafe h => ?_, ?_, ?_, ?_, ?_, ?_⟩
    · rw [settle_sup, diagFail_sup, holdKill_frame, crystalLost_xtalOk]
    · rw [hport, crystalLost_clocked (mem_crystalClocked.mpr ⟨haon, hsafe⟩) h]
    · rw [hport, crystalLost_unclocked (by decide)]
    · rw [hport, crystalLost_unclocked (by decide)]
    · rw [settle_live]
      exact diagFail_standing (n := 8) _ (by decide)
    · simp [settle, notePeak, holdKill_frame]
    · simp [holdKill_frame]
  case hold =>
    have hexec : exec .pfailHoldLog s = execPfailHoldLog s := rfl
    rw [hexec, execPfailHoldLog, hhold, hpfail, hheld, done_eq]
    rfl
  case mains =>
    rw [exec_mainsRestore hup hlost, if_pos hgood, recompute_onlyPause]
    exact ⟨_, rfl, rfl, rfl, rfl, rfl, rfl, rfl⟩
  case bad => rw [exec_mainsRestore hup hlost, if_neg (Bool.eq_false_iff.mp hbad)]
  case present =>
    have hexec : exec .mainsPresentAtStart s = execMainsPresentAtStart s := rfl
    rw [hexec, execMainsPresentAtStart, hup, hpresent, done_eq]
    rfl

end Sys2Proof.Machine
end

section
/-! Records that are written or held (13): what the writing of the ledger changes, and what it leaves alone (R320, R331, R334). -/

namespace Sys2Proof.Machine

/-- From s to t at most records have been written or held: the ledger with its head, the records that wait, SEC's key load and log flash. -/
def OnlyRecords (s t : State) : Prop := t = { s with
  sec := t.sec, flash := t.flash
  bil := { s.bil with
    ledger := t.bil.ledger, headIndex := t.bil.headIndex, headHash := t.bil.headHash, genesisDone := t.bil.genesisDone
    untrustedCount := t.bil.untrustedCount, oldestIndex := t.bil.oldestIndex, lgImports := t.bil.lgImports
    lgReactive := t.bil.lgReactive, held := t.bil.held, heldDue := t.bil.heldDue, discarded := t.bil.discarded
    closed := t.bil.closed, closedFresh := t.bil.closedFresh } }

theorem OnlyRecords.rfl {s : State} : OnlyRecords s s := Eq.refl s

theorem OnlyRecords.trans {s t u : State} (h : OnlyRecords s t) (h' : OnlyRecords t u) : OnlyRecords s u := by
  unfold OnlyRecords at *
  rw [h', h]

theorem logEvent_onlyRecords (k : EventKind) (s : State) : OnlyRecords s (logEvent k s) := by
  unfold OnlyRecords
  rw [logEvent_frame]

theorem appendSigned_onlyRecords (r : Record) (sig : Option Bytes) (s : State) : OnlyRecords s (appendSigned r sig s) := by
  cases sig <;> exact Eq.refl _

theorem appendRecord_onlyRecords (r : Record) (s : State) : OnlyRecords s (appendRecord r s) := appendSigned_onlyRecords r _ s

theorem noteHeld_onlyRecords (s : State) : OnlyRecords s (noteHeld s) := by
  unfold noteHeld
  split
  · exact logEvent_onlyRecords _ s
  · exact Eq.refl _

theorem writeRecord_onlyRecords (r : Record) (s : State) : OnlyRecords s (writeRecord r s) := by
  have hnone : OnlyRecords s { s with bil := { s.bil with discarded := none } } := Eq.refl _
  have hheld (x : Record) (t : State) : OnlyRecords t { t with bil := { t.bil with held := t.bil.held ++ [x] } } := Eq.refl _
  unfold writeRecord
  dsimp only
  split
  · exact hnone.trans (appendRecord_onlyRecords _ _)
  · exact hnone.trans ((hheld _ _).trans (noteHeld_onlyRecords _))

theorem writeHeld_onlyRecords (s : State) : OnlyRecords s (writeHeld s) := by
  have hdrop (t : State) : OnlyRecords t { t with bil := { t.bil with held := t.bil.held.drop 1 } } := Eq.refl _
  refine List.foldlRecOn (motive := OnlyRecords s) _ _ .rfl fun t ht r _ => ?_
  split
  · exact ht.trans ((hdrop t).trans (appendRecord_onlyRecords r _))
  · exact ht

theorem writeClosed_onlyRecords (s : State) : OnlyRecords s (writeClosed s) := by
  have hnone : OnlyRecords s { s with bil := { s.bil with closed := [], closedFresh := 0 } } := Eq.refl _
  exact List.foldlRecOn (motive := OnlyRecords s) _ _ hnone fun t ht r _ => ht.trans (writeRecord_onlyRecords r t)

end Sys2Proof.Machine
end

section
/-! The brown-out sequence (03): what its steps turn off and close, and how it ends. -/

namespace Sys2Proof.Machine

/-! ### Steps 1, 3 and 4 (R98) -/

theorem brakeMove_frame (s : State) : brakeMove s = { s with lck := (brakeMove s).lck } := by
  unfold brakeMove
  dsimp only
  split <;> rfl

/-- The commands of the gates and the coil, what plays and is drawn, and what is sent, given up (R98, R447). -/
def outputsOff (s : State) : State := { s with
  swg := { s.swg with gateCmd := 0, heldGates := 0, coilCmd := false, coilDuty := 0, openLoop := false, heldCoil := none, interlock := false }
  aud := { s.aud with playing := none, queue := [] }
  disp := { s.disp with queue := [], flight := [], fifo := [], pending := false, commitDone := false }
  plc := { s.plc with tx := none, txPaths := [], access := .none, current := none } }

/-- A BIST scan stops before its next island (R505). -/
def scanHalts (s : State) : State := if s.tst.scanning then scanStops s else s

/-- The line driver, the display and the class-D stage follow what holds them off. -/
def drivesFollow (s : State) : State := refreshStage (refreshDrive (refreshDriver s))

/-- Gate-kill with the sequence as its source, a lock move braked and running erases abandoned (R98, R221, R485). -/
def killAndBrake (s : State) : State := abandonErases (brakeMove (setKill { s with glt := { s.glt with srcBrown := true } }))

theorem brownDrives_eq (s : State) : brownDrives s = drivesFollow (scanHalts (outputsOff (killAndBrake s))) := rfl

/-- From s to t at most what these steps write differs. -/
def OnlyDrives (s t : State) : Prop := t = { s with
  glt := t.glt, lck := t.lck, swg := t.swg, aud := t.aud, disp := t.disp, plc := t.plc, tst := t.tst, flash := t.flash, bgd := t.bgd }

theorem OnlyDrives.trans {s t u : State} (h : OnlyDrives s t) (h' : OnlyDrives t u) : OnlyDrives s u := by
  unfold OnlyDrives at *
  rw [h', h]

theorem killAndBrake_onlyDrives (s : State) : OnlyDrives s (killAndBrake s) := by
  have hbrake (t : State) : OnlyDrives t (brakeMove t) := by
    unfold OnlyDrives
    rw [brakeMove_frame]
  have hkill : OnlyDrives s (setKill { s with glt := { s.glt with srcBrown := true } }) := Eq.refl _
  have hzone (t : State) (z : Zone) (x : FlashZone) : OnlyDrives t (setZone z x t) := Eq.refl _
  have herase (t : State) : OnlyDrives t (abandonErases t) :=
    List.foldlRecOn (motive := OnlyDrives t) _ _ (Eq.refl _) fun u hu z _ => hu.trans (hzone u z _)
  exact (hkill.trans (hbrake _)).trans (herase _)

theorem killAndBrake_glt (s : State) : (killAndBrake s).glt = { s.glt with kill := true, srcBrown := true } := by
  have hzone (t : State) (z : Zone) (x : FlashZone) : (setZone z x t).glt = t.glt := rfl
  have herase (t : State) : (abandonErases t).glt = t.glt :=
    List.foldlRecOn (motive := fun u : State => u.glt = t.glt) _ _ rfl fun u hu z _ => (hzone u z _).trans hu
  rw [killAndBrake, herase, brakeMove_frame]
  rfl

theorem scanHalts_frame (s : State) : scanHalts s = { s with tst := (scanHalts s).tst } := by
  unfold scanHalts
  split <;> rfl

/-- What stands when every output has been given up: gate-kill, and no command to a gate or the coil. -/
theorem scanHalts_outputsOff (s : State) : OnlyDrives s (scanHalts (outputsOff s)) ∧ (scanHalts (outputsOff s)).glt = s.glt
    ∧ (scanHalts (outputsOff s)).swg.gateCmd = 0 ∧ (scanHalts (outputsOff s)).swg.coilCmd = false := by
  unfold OnlyDrives
  rw [scanHalts_frame]
  exact ⟨rfl, rfl, rfl, rfl⟩

theorem brownDrives_onlyDrives (s : State) : OnlyDrives s (brownDrives s) := by
  have hfollow (t : State) : OnlyDrives t (drivesFollow t) := Eq.refl _
  rw [brownDrives_eq]
  exact ((killAndBrake_onlyDrives s).trans (scanHalts_outputsOff _).1).trans (hfollow _)

/-- With the sequence in force the three stages are off. -/
theorem drivesFollow_brown {s : State} (h : s.pwr.brown.active = true) : (drivesFollow s).plc.drvOn = false
    ∧ (drivesFollow s).aud.stageOn = false ∧ (drivesFollow s).disp.driveOn = false := by
  simp [drivesFollow, refreshStage, refreshDrive, refreshDriver, h]

/-- What the sequence has turned off in t, with the supplies and the progress of s. -/
structure DrivesOff (s t : State) : Prop where
  pwr : t.pwr = s.pwr
  sup : t.sup = s.sup
  kill : t.glt.kill = true
  source : t.glt.srcBrown = true
  gates : t.swg.gateCmd = 0
  coil : t.swg.coilCmd = false
  driver : t.plc.drvOn = false
  stage : t.aud.stageOn = false
  display : t.disp.driveOn = false

theorem DrivesOff.settle {s t : State} (h : DrivesOff s t) : DrivesOff s (settle t) :=
  { h with kill := by simp [Machine.settle, notePeak, h.kill] }

theorem brownDrives_off {s : State} (h : s.pwr.brown.active = true) : DrivesOff s (brownDrives s) := by
  have honly := brownDrives_onlyDrives s
  have hpwr : (brownDrives s).pwr = s.pwr := by rw [honly]
  have hsup : (brownDrives s).sup = s.sup := by rw [honly]
  obtain ⟨hoff, hglt, hgates, hcoil⟩ := scanHalts_outputsOff (killAndBrake s)
  rw [killAndBrake_glt] at hglt
  have hactive : (scanHalts (outputsOff (killAndBrake s))).pwr.brown.active = true := by
    rw [hoff, killAndBrake_onlyDrives]
    exact h
  obtain ⟨hdriver, hstage, hdisplay⟩ := drivesFollow_brown hactive
  exact ⟨hpwr, hsup, congrArg Glint.kill hglt, congrArg Glint.srcBrown hglt, hgates, hcoil, hdriver, hstage, hdisplay⟩

/-! ### Step 2, step 5 and the pads (R98, R100, R331) -/

/-- Step 5 writes records, and may mark the pending close as written. -/
theorem brownRecord_onlyRecords (s : State) : ∃ t, OnlyRecords s t ∧ (brownRecord s = t
    ∨ brownRecord s = { t with bil := { t.bil with pendState := .written } }) := by
  have hwritten : OnlyRecords s (writeClosed (writeHeld s)) := (writeHeld_onlyRecords s).trans (writeClosed_onlyRecords _)
  unfold brownRecord
  dsimp only
  split
  · exact ⟨_, hwritten.trans (appendRecord_onlyRecords _ _), .inr rfl⟩
  · exact ⟨_, hwritten, .inl rfl⟩

theorem brownRecord_frame (s : State) :
    brownRecord s = { s with sec := (brownRecord s).sec, bil := (brownRecord s).bil, flash := (brownRecord s).flash } := by
  obtain ⟨t, ht, h | h⟩ := brownRecord_onlyRecords s
  all_goals
    rw [h, ht]

/-- Step 5 opens no record. -/
theorem brownRecord_pendState {s : State} (h : s.bil.pendState ≠ .open) : (brownRecord s).bil.pendState ≠ .open := by
  obtain ⟨t, ht, hr | hr⟩ := brownRecord_onlyRecords s
  · rw [hr, ht]
    exact h
  · rw [hr]
    exact nofun

theorem pendingClose_of_open {k : RecordKind} {s : State} (h : s.bil.pendState = .open) : pendingClose k s
    = { s with bil := { s.bil with
      pendState := .pending, pendCrcOk := true, lossDue := none
      openRec := { finishedRecord k s.bil.clock s with imports := importsWithPartial s } } } := if_neg (by simp [h])

/-- The sequence is in force, and PFAIL's bit follows its pad unless the early warning alone began it. -/
def brownRecognised (early : Bool) (s : State) : State :=
  let t := { s with pwr := { s.pwr with
    brown := { active := true, earlyWarning := early, duringBoot := !s.pwr.billing || s.pwr.loaderState } } }
  if early then t else setSupply (fun p => { p with pfail := true }) t

theorem brownRecognised_frame (early : Bool) (s : State) : brownRecognised early s = { s with
    pwr := { s.pwr with brown := { active := true, earlyWarning := early, duringBoot := !s.pwr.billing || s.pwr.loaderState } }
    sup := (brownRecognised early s).sup, hst := (brownRecognised early s).hst } := by
  cases early <;> rfl

theorem brownRecognised_brown (early : Bool) (s : State) : (brownRecognised early s).pwr.brown
    = { active := true, earlyWarning := early, duringBoot := !s.pwr.billing || s.pwr.loaderState } := by rw [brownRecognised_frame]

/-- A session stands where it stood, in Break, until the reset cuts it (R103). -/
def sessionStands (s : State) : State :=
  { s with ses := if sessionOn s then { s.ses with phase := .break, breakStep := 0, makeStep := 0 } else s.ses }

/-- The steps outside boot: the pending close, what is turned off, the records while the supply lasts, and the pads. -/
def brownSteps (lasts : Bool) (s : State) : State :=
  let t := sessionStands (brownDrives (pendingClose .brownOut s))
  brownPads (if lasts then brownRecord t else t)

theorem brownOutSequence_eq (early lasts : Bool) (s : State) : brownOutSequence early lasts s =
    if !s.pwr.billing || s.pwr.loaderState then brownDrives (brownRecognised early s)
    else brownSteps lasts (brownRecognised early s) := rfl

theorem DrivesOff.record {s t : State} (h : DrivesOff s t) : DrivesOff s (brownRecord t) := by
  rw [brownRecord_frame]
  exact { h with }

theorem DrivesOff.pads {s t : State} (h : DrivesOff s t) : DrivesOff s (brownPads t) := { h with }

/-- What is off stays off over the records and the pads. -/
theorem brownSteps_off {s : State} (h : s.pwr.brown.active = true) (lasts : Bool) : DrivesOff s (brownSteps lasts s) := by
  have hactive : (pendingClose .brownOut s).pwr.brown.active = true := by rw [pendingClose_frame]; exact h
  have hoff := brownDrives_off hactive
  have hpwr : (pendingClose .brownOut s).pwr = s.pwr := by rw [pendingClose_frame]
  have hsup : (pendingClose .brownOut s).sup = s.sup := by rw [pendingClose_frame]
  unfold brownSteps
  generalize brownDrives (pendingClose .brownOut s) = t at hoff
  have hstands : DrivesOff s (sessionStands t) := { hoff with pwr := hoff.pwr.trans hpwr, sup := hoff.sup.trans hsup }
  cases lasts with
  | false => exact hstands.pads
  | true => exact hstands.record.pads

theorem brownSteps_cut (s : State) :
    brownSteps false s = brownPads (sessionStands (brownDrives (pendingClose .brownOut s))) :=
  congrArg brownPads (if_neg Bool.false_ne_true)

theorem brownSteps_whole (s : State) :
    brownSteps true s = brownPads (brownRecord (sessionStands (brownDrives (pendingClose .brownOut s)))) :=
  congrArg brownPads (if_pos rfl)

theorem brownPads_bil (s : State) : (brownPads s).bil = s.bil := rfl

theorem sessionStands_bil (s : State) : (sessionStands s).bil = s.bil := rfl

theorem brownDrives_bil (s : State) : (brownDrives s).bil = s.bil := by rw [brownDrives_onlyDrives]

/-- The pending close as step 2 leaves it, when the supply does not last until step 5 (R100). -/
theorem brownSteps_bil (s : State) : (brownSteps false s).bil = (pendingClose .brownOut s).bil := by
  rw [brownSteps_cut, brownPads_bil, sessionStands_bil, brownDrives_bil]

theorem brownSteps_pendState {s : State} (h : s.bil.pendState = .open) (lasts : Bool) :
    (brownSteps lasts s).bil.pendState ≠ .open := by
  have hclosed : (sessionStands (brownDrives (pendingClose .brownOut s))).bil.pendState ≠ .open := by
    rw [sessionStands_bil, brownDrives_bil, pendingClose_of_open h]
    exact nofun
  cases lasts with
  | false => rwa [brownSteps_cut, brownPads_bil]
  | true =>
    rw [brownSteps_whole, brownPads_bil]
    exact brownRecord_pendState hclosed

theorem brownSteps_pulses (lasts : Bool) (s : State) : (brownSteps lasts s).safe.pulses = false := rfl

/-- The partial period's energies do not depend on the supplies or on the progress. -/
theorem importsWithPartial_congr {s t : State} (hmet : t.met = s.met) (hsafe : t.safe = s.safe) (hfab : t.fab = s.fab) :
    importsWithPartial t = importsWithPartial s := by
  unfold importsWithPartial phases threePhase sealBit isUp port
  rw [hmet, hsafe, hfab]

theorem finishedRecord_brownRecognised (k : RecordKind) (e : Time) (early : Bool) (s : State) :
    finishedRecord k e (brownRecognised early s) = finishedRecord k e s := by
  rw [brownRecognised_frame]
  rfl

/-- The close that stays pending is that of the state in which the sequence was recognised. -/
theorem pendingClose_brownRecognised {s : State} (h : s.bil.pendState = .open) (early : Bool) :
    (pendingClose .brownOut (brownRecognised early s)).bil = { s.bil with
      pendState := .pending, pendCrcOk := true, lossDue := none
      openRec := { finishedRecord .brownOut s.bil.clock s with imports := importsWithPartial s } } := by
  have hbil : (brownRecognised early s).bil = s.bil := by rw [brownRecognised_frame]
  have himports : importsWithPartial (brownRecognised early s) = importsWithPartial s :=
    importsWithPartial_congr (by rw [brownRecognised_frame]) (by rw [brownRecognised_frame]) (by rw [brownRecognised_frame])
  have hopen : (brownRecognised early s).bil.pendState = .open := by rw [hbil, h]
  rw [pendingClose_of_open hopen, finishedRecord_brownRecognised, himports, hbil]

/-- In boot or not, the sequence turns off what it holds off. -/
theorem brownOutSequence_off (early lasts : Bool) (s : State) :
    DrivesOff (brownRecognised early s) (brownOutSequence early lasts s) := by
  have hactive : (brownRecognised early s).pwr.brown.active = true := by rw [brownRecognised_frame]
  rw [brownOutSequence_eq]
  split
  · exact brownDrives_off hactive
  · exact brownSteps_off hactive lasts

theorem brownOutSequence_ofBilling {s : State} (hbilling : s.pwr.billing = true) (hloader : s.pwr.loaderState = false)
    (early lasts : Bool) : brownOutSequence early lasts s = brownSteps lasts (brownRecognised early s) := by
  rw [brownOutSequence_eq, hbilling, hloader]
  rfl

/-- In boot no record is closed (R104). -/
theorem brownOutSequence_bil_ofBoot {s : State} (hbilling : s.pwr.billing = false) (early lasts : Bool) :
    (brownOutSequence early lasts s).bil = s.bil := by
  rw [brownOutSequence_eq, hbilling, Bool.not_false, Bool.true_or, if_pos rfl, brownDrives_onlyDrives, brownRecognised_frame]

/-! ### The pads (Table 3-3) -/

theorem padsHeld_of_brown {s : State} (h : s.pwr.brown.active = true) (hboot : s.pwr.brown.duringBoot = false) :
    padsHeld s = true := by
  simp [padsHeld, h, hboot]

/-- Every pad that the sequence holds stands as Table 3-3 says. -/
theorem pads_of_held {s : State} (h : padsHeld s = true) : gatePads s = 0 ∧ gkillnPad s = .low ∧ coilDriven s = false
    ∧ pilotPadMv s true = -12000 ∧ hirqPad s = .hiZ ∧ lockPads s = (false, false, false, false) ∧ meterLedPad s = .low := by
  refine ⟨?_, ?_, ?_, ?_, ?_, ?_, ?_⟩
  · simp [gatePads, h]
  · simp [gkillnPad, h, driven]
  · simp [coilDriven, h]
  · simp [pilotPadMv, h]
  · simp [hirqPad, hirqLow, h]
  · simp [lockPads, h, bridgeLevels]
  · simp [meterLedPad, h, driven]

/-! ### The end of the sequence (R103, R104, R126, R577) -/

theorem exec_brownOut {early lasts : Bool} {s : State} (hheld : s.pwr.resetHeld = false) (hidle : s.pwr.brown.active = false) :
    exec (.brownOut ⟨early, lasts⟩) s = .next (settle (brownOutSequence early lasts s)) := by
  show execBrownOut ⟨early, lasts⟩ s = _
  rw [execBrownOut, if_neg (by simp [hheld]), if_neg (by simp [hidle]), done_eq]

/-- PFAIL's bit follows its pad, which is high again. -/
def pfailGone (s : State) : State := setSupply (fun p => { p with pfail := false }) s

theorem exec_pfailRelease {s : State} (hactive : s.pwr.brown.active = true) (hpfail : s.pwr.brown.earlyWarning = false) :
    exec .pfailRelease s = .next (settle (brownReleased (pfailGone s))) := by
  show execPfailRelease s = _
  rw [execPfailRelease, hactive, hpfail, done_eq]
  rfl

theorem exec_vdd3Recovered {s : State} (hactive : s.pwr.brown.active = true) (hearly : s.pwr.brown.earlyWarning = true) :
    exec .vdd3Recovered s = .next (settle (brownReleased s)) := by
  show execVdd3Recovered s = _
  rw [execVdd3Recovered, hactive, hearly, done_eq]
  rfl

/-- Outside boot the release is a whole-device reset with PFAIL_REC, and the resets held back record their causes with it (R103). -/
theorem brownReleased_resets {s : State} (hboot : s.pwr.brown.duringBoot = false) (hcommit : s.set.commit = none) :
    (brownReleased s).pwr.resetHeld = true ∧ (brownReleased s).rst.pfailRec = true ∧ (brownReleased s).sup = s.sup := by
  have hset : (brownRecord s).set = s.set := by rw [brownRecord_frame]
  have hsup : (brownRecord s).sup = s.sup := by rw [brownRecord_frame]
  obtain ⟨hheld, hcause, -, hkept⟩ := wholeReset_power .pfailRec (brownRecord s)
  unfold brownReleased
  dsimp only
  rw [if_neg (by simp [hboot]), if_neg (by simp [hset, hcommit])]
  exact ⟨hheld, causeBit_foldl_of _ hcause, hkept.trans hsup⟩

/-- Behind a COMMIT that reset waits (R126, R577). -/
theorem brownReleased_waits {s : State} (hboot : s.pwr.brown.duringBoot = false) (hcommit : s.set.commit ≠ none) :
    brownReleased s = awaitReset .pfailRec (brownRecord s) := by
  have hset : (brownRecord s).set = s.set := by rw [brownRecord_frame]
  have hsome : (brownRecord s).set.commit.isSome = true := by rwa [hset, Option.isSome_iff_ne_none]
  unfold brownReleased
  dsimp only
  rw [if_neg (by simp [hboot]), if_pos hsome]
  rfl

/-- During boot the sequence ends without a reset (R104). -/
theorem brownReleased_boot {s : State} (hboot : s.pwr.brown.duringBoot = true) (hscan : s.tst.scanning = false) :
    brownReleased s = drivesFollow { s with pwr := { s.pwr with brown := {}, homingStarted := s.pwr.homingDone } } := by
  have hend (t : State) (h : t.tst.scanning = false) : endStoppedScan t = t := by simp [endStoppedScan, h]
  rw [brownReleased, if_pos hboot, bootGoesOn]
  exact hend _ hscan

end Sys2Proof.Machine

namespace Sys2Proof

open Machine

/-- Settles O11: the sequence by what it turns off, closes and shows, then its release outside boot, behind a COMMIT, and in boot. -/
theorem brownOutSequence : Obligations.BrownOutSequence := by
  unfold Obligations.BrownOutSequence
  refine ⟨fun s early lasts hheld hidle => ?recognised, fun s hactive hboot _ hcommit => ⟨fun hpfail => ?pfail, fun hearly => ?vdd3⟩,
    fun s hactive hboot hheld hcommit => ⟨fun hpfail => ?pfailWaits, fun hearly => ?vdd3Waits⟩,
    fun s hactive hboot hscan => ⟨fun hpfail => ?pfailBoot, fun hearly => ?vdd3Boot⟩⟩
  case recognised =>
    have hoff := (brownOutSequence_off early lasts s).settle
    have hsup := hoff.sup
    have hbrown := (congrArg Power.brown hoff.pwr).trans (brownRecognised_brown early s)
    refine ⟨_, exec_brownOut hheld hidle, congrArg BrownOut.active hbrown, congrArg BrownOut.earlyWarning hbrown, hoff.kill, hoff.source,
      fun he => ?warned, fun he => ?supply, hoff.gates, hoff.coil, hoff.driver, hoff.stage, hoff.display,
      fun hbilling hloader => ?billing, fun hboot => ?boot⟩
    case warned =>
      rw [hsup, he]
      rfl
    case supply =>
      rw [hsup, he]
      rfl
    case billing =>
      have hpads : padsHeld (settle (Machine.brownOutSequence early lasts s)) = true :=
        padsHeld_of_brown (congrArg BrownOut.active hbrown) (by rw [hbrown, hbilling, hloader]; rfl)
      rw [brownOutSequence_ofBilling hbilling hloader] at hpads ⊢
      have hbil : (brownRecognised early s).bil = s.bil := by rw [brownRecognised_frame]
      obtain ⟨hgate, hkill, hcoil, hpilot, hirq, hlock, hled⟩ := pads_of_held hpads
      refine ⟨hgate, hkill, hcoil, hpilot, hirq, hlock, hled, brownSteps_pulses lasts _, fun hopen => ?_, fun hopen hcut => ?_⟩
      · exact brownSteps_pendState (by rw [hbil, hopen]) lasts
      · rw [settle_bil, hcut, brownSteps_bil, pendingClose_brownRecognised hopen]
        exact ⟨rfl, rfl, rfl⟩
    case boot => rw [settle_bil, brownOutSequence_bil_ofBoot hboot]
  case pfail =>
    obtain ⟨hreset, hcause, hsup⟩ := brownReleased_resets (s := pfailGone s) hboot hcommit
    exact ⟨_, exec_pfailRelease hactive hpfail, hreset, hcause, congrArg Supply.pfail hsup⟩
  case vdd3 =>
    obtain ⟨hreset, hcause, -⟩ := brownReleased_resets hboot hcommit
    exact ⟨_, exec_vdd3Recovered hactive hearly, hreset, hcause⟩
  case pfailWaits =>
    rw [exec_pfailRelease hactive hpfail, brownReleased_waits (s := pfailGone s) hboot hcommit, brownRecord_frame]
    exact ⟨_, rfl, hheld, rfl, rfl, rfl⟩
  case vdd3Waits =>
    rw [exec_vdd3Recovered hactive hearly, brownReleased_waits hboot hcommit, brownRecord_frame]
    exact ⟨_, rfl, hheld, rfl, rfl, rfl⟩
  case pfailBoot =>
    rw [exec_pfailRelease hactive hpfail, brownReleased_boot (s := pfailGone s) hboot hscan]
    exact ⟨_, rfl, rfl, rfl, rfl⟩
  case vdd3Boot =>
    rw [exec_vdd3Recovered hactive hearly, brownReleased_boot hboot hscan]
    exact ⟨_, rfl, rfl, rfl, rfl⟩

end Sys2Proof
end

section
/-! PDUs that Laurel-B takes (05): what the taking of one that waited can write (R140, R163, R537). -/

namespace Sys2Proof.Machine

/-- From s to t PDUs have been taken, refused or answered: the object dictionary, what Yew holds, and the mailbox. -/
def OnlyTaken (s t : State) : Prop :=
  t = { s with od := t.od, hst := t.hst, sec := { s.sec with ctx := t.sec.ctx, yew := t.sec.yew, usesLeft := t.sec.usesLeft } }

theorem OnlyTaken.rfl {s : State} : OnlyTaken s s := Eq.refl s

theorem OnlyTaken.trans {s t u : State} (h : OnlyTaken s t) (h' : OnlyTaken t u) : OnlyTaken s u := by
  unfold OnlyTaken at *
  rw [h', h]

theorem Sends.onlyTaken {s t : State} (h : Sends s t) : OnlyTaken s t := by
  obtain ⟨-, h⟩ := h
  unfold OnlyTaken
  rw [h]

theorem respond_onlyTaken (rq : Requester) (op st : Nat) (p : Bytes) (s : State) : OnlyTaken s (respond rq op st p s) := by
  have hstatus (o : Od) : OnlyTaken s { s with od := o } := Eq.refl _
  exact (hstatus _).trans (sendPdu_sends _ _ _ _ _ _ _ _ _).onlyTaken

theorem enqueue_onlyTaken (rq : Requester) (h : PduHeader) (b : Bytes) (s : State) : OnlyTaken s (enqueue rq h b s) := by
  unfold enqueue
  generalize s.od.queue.length + _ = n
  repeat' split
  · exact respond_onlyTaken _ _ _ _ s
  · exact respond_onlyTaken _ _ _ _ s
  all_goals exact Eq.refl _

theorem setWindow_onlyTaken (m k : Bool) (w : Window32) (s : State) : OnlyTaken s (setWindow m k w s) := by
  unfold setWindow
  repeat' split
  all_goals exact Eq.refl _

theorem windowJudges_onlyTaken (rq : Requester) (h : PduHeader) (b : Bytes) (s : State) :
    OnlyTaken s (windowJudges rq h b s) := by
  have hcount (t : State) (o : Od) : OnlyTaken t { t with od := o } := Eq.refl _
  unfold windowJudges
  dsimp only
  generalize (_ && _ && _) = below
  repeat' split
  · exact respond_onlyTaken _ _ _ _ s
  · exact Eq.refl _
  · exact (setWindow_onlyTaken _ _ _ s).trans ((hcount _ _).trans (enqueue_onlyTaken _ _ _ _))

theorem keyedReceive_onlyTaken (d : Delivered) (h : PduHeader) (s : State) : OnlyTaken s (keyedReceive d h s) := by
  unfold keyedReceive macJudged
  repeat' split
  case isFalse.isFalse.isTrue => exact (loadYew_sends _ _ _ s).onlyTaken.trans (windowJudges_onlyTaken _ _ _ _)
  all_goals exact Eq.refl _

theorem pduTaken_onlyTaken (d : Delivered) (s : State) : OnlyTaken s (pduTaken d s) := by
  unfold pduTaken plainReceive
  dsimp only
  repeat' split
  case isTrue.isTrue.isFalse | isFalse.isFalse.isFalse => exact keyedReceive_onlyTaken _ _ s
  case isTrue.isFalse.isFalse => exact enqueue_onlyTaken _ _ _ s
  all_goals exact Eq.refl _

theorem pduReceive_onlyTaken (d : Delivered) (s : State) : OnlyTaken s (pduReceive d s) := by
  unfold pduReceive
  repeat' split
  · exact pduTaken_onlyTaken d s
  all_goals exact Eq.refl _

theorem drainWaiting_onlyTaken (s : State) : OnlyTaken s (drainWaiting s) := by
  have hnone : OnlyTaken s { s with od := { s.od with waiting := [] } } := Eq.refl _
  unfold drainWaiting
  split
  · exact List.foldlRecOn (motive := OnlyTaken s) _ _ hnone fun t ht d _ => ht.trans (pduReceive_onlyTaken d t)
  · exact .rfl

theorem drainWaiting_of_none {s : State} (h : s.od.waiting = []) : drainWaiting s = s := by
  have hsame : ({ s with od := { s.od with waiting := [] } } : State) = s := by rw [← h]
  rw [drainWaiting, h, hsame, List.foldl_nil, ite_self]

theorem handRequest_onlyTaken (s : State) : OnlyTaken s (handRequest s) := by
  have hnone : OnlyTaken s { s with hst := { s.hst with request := none } } := Eq.refl _
  unfold handRequest
  generalize (_ && _) = there
  repeat' split
  · exact .rfl
  · exact hnone.trans (pduReceive_onlyTaken _ _)
  · exact .rfl

end Sys2Proof.Machine
end

section
/-! The rows of the boot sequence (03): an island's coming up, the image check, homing, and the release of the start hold. -/

namespace Sys2Proof.Machine

/-! ### An island comes up (R89, R90) -/

theorem setStage_same (n : BitVec 4) (s : State) : SameFabricAndTest s (setStage n s) := by
  unfold setStage
  split <;> exact .rfl

theorem loaderNotify_same (s : State) : SameFabricAndTest s (loaderNotify s) := (sendPdu_sends _ _ _ _ _ _ _ _ s).same

/-- What an island does in its boot row leaves the fabric as it is. -/
theorem atBoot_same (i : Island) (s : State) : SameFabricAndTest s (atBoot i s) := by
  have hafter := afterReturn_same i s
  cases i
  case sec => exact (secLoad_same s).trans (setStage_same _ _)
  case seq => exact (handRequest_same s).trans (setStage_same _ _)
  case adc => exact adcConfigure_same s
  case safe | bgd => exact (setStage_same _ _).ofUpdate
  case plc =>
    have hreport := hafter.trans (reportRail_same .vld _)
    unfold atBoot
    dsimp only
    split
    · exact hreport.trans (loaderNotify_same _).ofUpdate
    · exact hreport
  case disp =>
    have hdrive : SameFabricAndTest s (refreshDrive (afterReturn .disp s)) := hafter
    exact hdrive.trans (reportRail_same _ _)
  case aud =>
    have hstage : SameFabricAndTest s (refreshStage (afterReturn .aud s)) := hafter
    exact hstage.trans (reportRail_same _ _)
  case aon | host | met | tmr => exact .rfl

theorem exec_islandBootUp {i : Island} {s : State} (hheld : s.pwr.resetHeld = false) (hport : (port s i).state = .notYetUp)
    (hdue : bootDue s i = true) : exec (.islandBootUp i) s = .next (settle (atBoot i (comeUp i s))) := by
  show execIslandBootUp i s = _
  rw [execIslandBootUp, hheld, hport, hdue, done_eq]
  rfl

theorem atBoot_port (i j : Island) (s : State) : port (atBoot i s) j = port s j :=
  congrArg (fun x : Fabric => pget x.ports j) (atBoot_same i s).1

/-! ### The image check (R529) -/

theorem readUpdateArea_frame (s : State) : readUpdateArea s = { s with
    areas := { s.areas with update := true }, flash := (readUpdateArea s).flash
    fw := { s.fw with
      request := (readUpdateArea s).fw.request, areaMode := (readUpdateArea s).fw.areaMode
      areaTotal := (readUpdateArea s).fw.areaTotal, lastVersion := (readUpdateArea s).fw.lastVersion } } := by
  unfold readUpdateArea
  repeat' split
  next h => rw [← h]
  next => rfl
  next => rw [logEvent_frame]

/-- An area whose check failed asks for no update. -/
theorem readUpdateArea_request {s : State} (h : s.fw.request ≠ 1) : (readUpdateArea s).fw.request ≠ 1 := by
  unfold readUpdateArea
  split
  · exact h
  · exact nofun

theorem imageValid_readUpdateArea (s : State) : imageValid (readUpdateArea s) = imageValid s := by
  rw [readUpdateArea_frame]
  rfl

theorem imageCheck_of_valid {s : State} (hreq : s.fw.request ≠ 1) (hvalid : imageValid s = true) :
    imageCheck s = imageChecked true (readUpdateArea s) := by
  have hnone : ((readUpdateArea s).fw.request != 1) = true := by simpa using readUpdateArea_request hreq
  rw [imageCheck, imageValid_readUpdateArea, hvalid, hnone]
  rfl

theorem exec_imageCheck {s : State} (hsec : isUp s .sec = true) (hseq : hasCome s .seq = false) (hok : s.pwr.imageOk = false)
    (hloader : s.pwr.loaderState = false) : exec .imageCheck s = .next (settle (handRequest (imageCheck s))) := by
  show execImageCheck s = _
  rw [execImageCheck, hsec, hseq, hok, hloader, done_eq]
  rfl

/-! ### Homing (R92) -/

/-- Homing has begun. -/
def homingBegun (s : State) : State := { s with pwr := { s.pwr with homingStarted := true } }

/-- Homing is skipped, and a lock that is declared stays locked. -/
def homingLeft (s : State) : State := { s with
  pwr := { s.pwr with homingDone := true }, boot := { s.boot with homingSkipped := true }
  lck := if lockFitted s then { s.lck with state := 2 } else s.lck }

/-- Homing towards UNLOCKED is asked for. -/
def homingAsked (s : State) : State := { homingBegun s with lck := { s.lck with homing := true } }

/-- The row at which homing is skipped or begins. -/
def lockHomed (s : State) : State :=
  if homingSkipped s then homingLeft (homingBegun s) else beginMove false (homingAsked s)

theorem exec_lockHoming {s : State} (hset : s.pwr.settingsRestored = true) (hhold : s.safe.startHold = true)
    (hnew : s.pwr.homingStarted = false) (hloader : s.pwr.loaderState = false) (htmr : isUp s .tmr = true)
    (hseal : s.safe.sealAccepted = true) (hbrown : s.pwr.brown.active = false) :
    exec .lockHoming s = .next (settle (lockHomed s)) := by
  show execLockHoming s = _
  rw [execLockHoming, hset, hhold, hnew, hloader, htmr, hseal, hbrown, done_eq]
  rfl

/-- A move towards a limit that is closed already has ended (R218). -/
theorem beginMove_unlocked {s : State} (h : s.lck.limUnlocked = true) : beginMove false s = { s with
    lck := { s.lck with
      queued := none, homingDue := false, state := 1, homing := false, pulses := 0, elapsedMs := 0 }
    pwr := { s.pwr with homingDone := s.pwr.homingDone || s.pwr.homingStarted } } := by
  unfold beginMove
  dsimp only
  rw [if_pos (by simpa using h)]
  rfl

/-- The motor is driven towards UNLOCKED. -/
def unlockingDriven (s : State) : State := { s with lck := { s.lck with
  queued := none, homing := s.lck.homing || s.lck.homingDue, homingDue := false, moving := some false, state := 4, drive := .unlocking
  pulses := 0, moveStart := s.bil.running } }

theorem beginMove_drives {s : State} (h : s.lck.limUnlocked = false) : beginMove false s =
    if s.lck.hallKnown && !s.lck.hallOk then lockFault 2 (unlockingDriven s) else unlockingDriven s := by
  unfold beginMove
  dsimp only
  rw [if_neg (by simpa using h)]
  simp only [Bool.not_false, Bool.and_true]
  rfl

/-- The lock fault stands, the motor is braked, and homing counts as complete (R223, R225). -/
def lockFaultNoted (n : Nat) (s : State) : State :=
  let s := stopMotor (logEvent (.lockFault (setBit 0 n)) s)
  let s := { s with
    lck := { s.lck with faults := setBit s.lck.faults n, state := 5, queued := none, homingDue := false, afterBrake := 5 }
    ses := { s.ses with unlockWaits := false }
    pwr := { s.pwr with homingDone := s.pwr.homingDone || s.pwr.homingStarted } }
  if sessionOn s || s.ses.lockExcused then { s with ses := { s.ses with lockBarred := true } } else s

theorem lockFault_eq (n : Nat) (s : State) :
    lockFault n s = if (lockFaultNoted n s).safe.active then lockFaultNoted n s else stopSession 5 (lockFaultNoted n s) := rfl

theorem lockFaultNoted_pwr (n : Nat) (s : State) :
    (lockFaultNoted n s).pwr = { s.pwr with homingDone := s.pwr.homingDone || s.pwr.homingStarted } := by
  unfold lockFaultNoted
  generalize hu : stopMotor (logEvent _ s) = u
  have hpwr : u.pwr = s.pwr := by rw [← hu, stopMotor, logEvent_frame]
  rw [← hpwr]
  dsimp only
  split <;> rfl

theorem lockFault_pwr (n : Nat) (s : State) :
    (lockFault n s).pwr = { s.pwr with homingDone := s.pwr.homingDone || s.pwr.homingStarted } := by
  rw [lockFault_eq, ← lockFaultNoted_pwr n s]
  split
  · rfl
  · rw [stopSession_onlySwitching]

/-- However homing goes on, it has been begun at this start. -/
theorem homing_started (s : State) : (beginMove false (homingAsked s)).pwr.homingStarted = true := by
  cases hlim : s.lck.limUnlocked with
  | true => rw [beginMove_unlocked (by exact hlim)]; rfl
  | false =>
    rw [beginMove_drives (by exact hlim)]
    split
    · rw [lockFault_pwr]
      rfl
    · rfl

/-! ### The release of the start hold (R91) -/

/-- Billing runs after a release, whether it resumes or ran already (R99). -/
theorem resumeBilling_billing (s : State) : (resumeBilling s).pwr.billing = true := by
  unfold resumeBilling
  dsimp only
  split
  · assumption
  · split
    · rw [markStop_frame]
      split <;> rfl
    · split <;> rfl

/-- What a release leaves of the start hold. -/
structure HoldReleased (s t : State) : Prop where
  startHold : t.safe.startHold = false
  active : t.safe.active = false
  billing : t.pwr.billing = true
  stage : t.boot.stage = if s.boot.stage = 8 then 8 else 7

theorem commonRelease_released (s : State) : HoldReleased s (commonRelease s) := by
  have hboot : (setActive false (clearKill s)).boot = s.boot := by simp
  have hstage : (if (setActive false (clearKill s)).boot.stage = 8 then 8 else 7 : BitVec 4) = if s.boot.stage = 8 then 8 else 7 := by
    rw [hboot]
  unfold commonRelease
  dsimp only
  split
  all_goals
    refine ⟨?_, ?_, resumeBilling_billing _, ?_⟩
    · rw [resumeBilling_frame]
      rfl
    · rw [resumeBilling_frame]
      rfl
    · rw [resumeBilling_frame]
      exact hstage

/-- The NOTIFY and the version that a start's release adds leave that as it is (R163, R521). -/
theorem startReleased_released {s t : State} (h : HoldReleased s t) : HoldReleased s (startReleased t) := by
  have hsend := (epochNotify_sends (versionKept t)).2
  unfold startReleased
  rw [hsend, versionKept, logEvent_frame]
  exact { h with }

theorem exec_startHoldRelease {s : State} (h : mayRelease s = true) : exec .startHoldRelease s
    = .next (settle (if s.pwr.billing then commonRelease s else startReleased (commonRelease s))) := by
  show execStartHoldRelease s = _
  rw [execStartHoldRelease, h, guarded_true, done_eq]

/-- Some of the conditions of R91. -/
theorem mayRelease_conditions {s : State} (h : mayRelease s = true) : s.pwr.settingsRestored = true ∧ s.safe.sealValid = true
    ∧ s.pwr.homingDone = true ∧ s.sup.pfail = false := by
  simp only [mayRelease, startReady, Bool.and_eq_true, Bool.not_eq_true'] at h
  tauto

end Sys2Proof.Machine
end

section
/-! The row at which settings are restored (03, 04): the areas of retained RAM (Table 4-7), the choice of R122, and what follows it. -/

namespace Sys2Proof.Machine

/-! ### The areas of Table 4-7, one by one (R121) -/

theorem noteArea_frame (n : Nat) (s : State) : noteArea n s = { s with flash := (noteArea n s).flash } := by
  unfold noteArea
  split
  · rfl
  · rw [logEvent_frame]

/-- The grant area is checked (R352, R355, R365). -/
def grantChecked (ok : Bool) (s : State) : State := if ok then s else noteArea 7 (loseGrants s)

/-- The protocol area is checked (R142, R159, R420). -/
def protocolChecked (ok : Bool) (s : State) : State := if ok then s else noteArea 9 (loseProtocol s)

/-- The device RT area is checked. -/
def deviceRtChecked (ok : Bool) (s : State) : State := if ok then s else noteArea 10 (loseDeviceRt s)

/-- The evidence hold is checked (R270). -/
def evidenceChecked (ok : Bool) (s : State) : State :=
  if ok then s else noteArea 11 { s with safe := { s.safe with evidence := [], lost := 0 } }

/-- The held-ledger slots are checked (R334). -/
def slotsChecked (a : RetAreas) (s : State) : State := if a.held = Vector.replicate 4 true then s else checkSlots s

/-- The areas in the order of their checks, and each then counts as whole. -/
theorem checkAreas_eq (s : State) : checkAreas s = { slotsChecked s.areas (evidenceChecked s.areas.evidence
    (deviceRtChecked s.areas.deviceRt (protocolChecked s.areas.protocol (grantChecked s.areas.grant (readUpdateArea s))))) with
    areas := {} } := rfl

theorem grantChecked_frame (ok : Bool) (s : State) : grantChecked ok s = { s with
    od := { s.od with tokenCounter := (grantChecked ok s).od.tokenCounter }
    ses := { s.ses with
      grant := (grantChecked ok s).ses.grant, inUse := (grantChecked ok s).ses.inUse
      table := (grantChecked ok s).ses.table, tableLost := (grantChecked ok s).ses.tableLost }
    flash := (grantChecked ok s).flash } := by
  cases ok with
  | true => rfl
  | false => rw [grantChecked, if_neg Bool.false_ne_true, noteArea_frame]; rfl

theorem protocolChecked_frame (ok : Bool) (s : State) : protocolChecked ok s = { s with
    od := { s.od with
      txSeq := (protocolChecked ok s).od.txSeq, floor := (protocolChecked ok s).od.floor
      winNode0 := (protocolChecked ok s).od.winNode0, winMbx := (protocolChecked ok s).od.winMbx
      serviceEpoch := (protocolChecked ok s).od.serviceEpoch }
    bil := (protocolChecked ok s).bil, net := (protocolChecked ok s).net, flash := (protocolChecked ok s).flash } := by
  cases ok with
  | true => rfl
  | false => rw [protocolChecked, if_neg Bool.false_ne_true, noteArea_frame]; rfl

theorem deviceRtChecked_frame (ok : Bool) (s : State) : deviceRtChecked ok s = { s with
    bil := (deviceRtChecked ok s).bil
    ses := { s.ses with
      stop := (deviceRtChecked ok s).ses.stop, energyWh := (deviceRtChecked ok s).ses.energyWh
      start := (deviceRtChecked ok s).ses.start }
    swg := (deviceRtChecked ok s).swg, lck := (deviceRtChecked ok s).lck, rcd := (deviceRtChecked ok s).rcd
    safe := (deviceRtChecked ok s).safe, adc := (deviceRtChecked ok s).adc, aud := (deviceRtChecked ok s).aud
    sec := (deviceRtChecked ok s).sec, bgd := (deviceRtChecked ok s).bgd, tst := (deviceRtChecked ok s).tst
    flash := (deviceRtChecked ok s).flash } := by
  cases ok with
  | true => rfl
  | false => rw [deviceRtChecked, if_neg Bool.false_ne_true, noteArea_frame]; rfl

theorem evidenceChecked_frame (ok : Bool) (s : State) : evidenceChecked ok s = { s with
    safe := { s.safe with evidence := (evidenceChecked ok s).safe.evidence, lost := (evidenceChecked ok s).safe.lost }
    flash := (evidenceChecked ok s).flash } := by
  cases ok with
  | true => rfl
  | false => rw [evidenceChecked, if_neg Bool.false_ne_true, noteArea_frame]

/-- From s to t at most log flash differs. -/
def OnlyLog (s t : State) : Prop := t = { s with flash := t.flash }

theorem OnlyLog.trans {s t u : State} (h : OnlyLog s t) (h' : OnlyLog t u) : OnlyLog s u := by
  unfold OnlyLog at *
  rw [h', h]

theorem logEvent_onlyLog (k : EventKind) (s : State) : OnlyLog s (logEvent k s) := logEvent_frame k s

theorem onlyLog_ite (p : Prop) [Decidable p] (k : EventKind) (s : State) : OnlyLog s (if p then logEvent k s else s) := by
  split
  · exact logEvent_onlyLog k s
  · exact Eq.refl _

theorem slotsChecked_frame (a : RetAreas) (s : State) :
    slotsChecked a s = { s with bil := (slotsChecked a s).bil, flash := (slotsChecked a s).flash } := by
  have hnoted (l : List Nat) (t : State) : OnlyLog t (l.foldl (fun t _ => noteArea 12 t) t) :=
    List.foldlRecOn (motive := OnlyLog t) l _ (Eq.refl t) fun u hu _ _ => hu.trans (noteArea_frame 12 u)
  unfold slotsChecked checkSlots
  dsimp only
  split
  · rfl
  · rw [hnoted]

/-! What a check leaves to those before it. -/

section
variable (s : State)

@[simp] theorem slotsChecked_ses (a : RetAreas) : (slotsChecked a s).ses = s.ses := by rw [slotsChecked_frame]
@[simp] theorem slotsChecked_od (a : RetAreas) : (slotsChecked a s).od = s.od := by rw [slotsChecked_frame]
@[simp] theorem slotsChecked_net (a : RetAreas) : (slotsChecked a s).net = s.net := by rw [slotsChecked_frame]
@[simp] theorem slotsChecked_swg (a : RetAreas) : (slotsChecked a s).swg = s.swg := by rw [slotsChecked_frame]
@[simp] theorem slotsChecked_rcd (a : RetAreas) : (slotsChecked a s).rcd = s.rcd := by rw [slotsChecked_frame]
@[simp] theorem slotsChecked_lck (a : RetAreas) : (slotsChecked a s).lck = s.lck := by rw [slotsChecked_frame]
@[simp] theorem slotsChecked_safe (a : RetAreas) : (slotsChecked a s).safe = s.safe := by rw [slotsChecked_frame]

@[simp] theorem evidenceChecked_ses (ok : Bool) : (evidenceChecked ok s).ses = s.ses := by rw [evidenceChecked_frame]
@[simp] theorem evidenceChecked_od (ok : Bool) : (evidenceChecked ok s).od = s.od := by rw [evidenceChecked_frame]
@[simp] theorem evidenceChecked_net (ok : Bool) : (evidenceChecked ok s).net = s.net := by rw [evidenceChecked_frame]
@[simp] theorem evidenceChecked_swg (ok : Bool) : (evidenceChecked ok s).swg = s.swg := by rw [evidenceChecked_frame]
@[simp] theorem evidenceChecked_rcd (ok : Bool) : (evidenceChecked ok s).rcd = s.rcd := by rw [evidenceChecked_frame]
@[simp] theorem evidenceChecked_lck (ok : Bool) : (evidenceChecked ok s).lck = s.lck := by rw [evidenceChecked_frame]
@[simp] theorem evidenceChecked_entries (ok : Bool) : (evidenceChecked ok s).safe.entries = s.safe.entries := by
  rw [evidenceChecked_frame]

@[simp] theorem deviceRtChecked_od (ok : Bool) : (deviceRtChecked ok s).od = s.od := by rw [deviceRtChecked_frame]
@[simp] theorem deviceRtChecked_net (ok : Bool) : (deviceRtChecked ok s).net = s.net := by rw [deviceRtChecked_frame]
@[simp] theorem deviceRtChecked_grant (ok : Bool) : (deviceRtChecked ok s).ses.grant = s.ses.grant := by rw [deviceRtChecked_frame]
@[simp] theorem deviceRtChecked_table (ok : Bool) : (deviceRtChecked ok s).ses.table = s.ses.table := by rw [deviceRtChecked_frame]
@[simp] theorem deviceRtChecked_tableLost (ok : Bool) : (deviceRtChecked ok s).ses.tableLost = s.ses.tableLost := by
  rw [deviceRtChecked_frame]

@[simp] theorem protocolChecked_ses (ok : Bool) : (protocolChecked ok s).ses = s.ses := by rw [protocolChecked_frame]
@[simp] theorem protocolChecked_tokenCounter (ok : Bool) : (protocolChecked ok s).od.tokenCounter = s.od.tokenCounter := by
  rw [protocolChecked_frame]

@[simp] theorem grantChecked_markTx (ok : Bool) : (grantChecked ok s).od.markTx = s.od.markTx := by rw [grantChecked_frame]
@[simp] theorem grantChecked_markNode0 (ok : Bool) : (grantChecked ok s).od.markNode0 = s.od.markNode0 := by rw [grantChecked_frame]

@[simp] theorem readUpdateArea_od : (readUpdateArea s).od = s.od := by rw [readUpdateArea_frame]
@[simp] theorem readUpdateArea_bil : (readUpdateArea s).bil = s.bil := by rw [readUpdateArea_frame]

end

/-- A grant area that was lost leaves no grant, an empty table, and the token counter at its mark plus 256. -/
theorem grantChecked_lost (s : State) : (grantChecked false s).ses.grant = none ∧ (grantChecked false s).ses.table = []
    ∧ (grantChecked false s).od.tokenCounter = s.od.markToken + 256 ∧ (grantChecked false s).ses.tableLost = !s.bil.trusted := by
  rw [grantChecked, if_neg Bool.false_ne_true, noteArea_frame]
  exact ⟨rfl, rfl, rfl, rfl⟩

/-- A protocol area that was lost leaves the sequence numbers at their marks plus 4096. -/
theorem protocolChecked_lost (s : State) : (protocolChecked false s).od.txSeq = s.od.markTx + 4096
    ∧ (protocolChecked false s).od.floor = some (s.od.markNode0 + 4096) ∧ (protocolChecked false s).od.serviceEpoch = 0
    ∧ (protocolChecked false s).net.bcastLost = true ∧ (protocolChecked false s).net.bcastSeq = 0 := by
  rw [protocolChecked, if_neg Bool.false_ne_true, noteArea_frame]
  exact ⟨rfl, rfl, rfl, rfl, rfl⟩

/-- A device RT area that was lost leaves each of its entries at its Default. -/
theorem deviceRtChecked_lost (s : State) : (deviceRtChecked false s).swg.contactorOps = 0 ∧ (deviceRtChecked false s).rcd.trips = 0
    ∧ (deviceRtChecked false s).safe.entries = 0 ∧ (deviceRtChecked false s).lck.faults = 0 := by
  rw [deviceRtChecked, if_neg Bool.false_ne_true, noteArea_frame]
  exact ⟨rfl, rfl, rfl, rfl⟩

/-- An evidence hold that was lost leaves no record, and none counted as lost. -/
theorem evidenceChecked_lost (s : State) : (evidenceChecked false s).safe.evidence = [] ∧ (evidenceChecked false s).safe.lost = 0 := by
  rw [evidenceChecked, if_neg Bool.false_ne_true, noteArea_frame]
  exact ⟨rfl, rfl⟩

theorem checkAreas_grant {s : State} (h : s.areas.grant = false) : (checkAreas s).ses.grant = none ∧ (checkAreas s).ses.table = []
    ∧ (checkAreas s).od.tokenCounter = s.od.markToken + 256 ∧ (checkAreas s).ses.tableLost = !s.bil.trusted := by
  simpa [checkAreas_eq, h] using grantChecked_lost (readUpdateArea s)

theorem checkAreas_protocol {s : State} (h : s.areas.protocol = false) : (checkAreas s).od.txSeq = s.od.markTx + 4096
    ∧ (checkAreas s).od.floor = some (s.od.markNode0 + 4096) ∧ (checkAreas s).od.serviceEpoch = 0
    ∧ (checkAreas s).net.bcastLost = true ∧ (checkAreas s).net.bcastSeq = 0 := by
  simpa [checkAreas_eq, h] using protocolChecked_lost (grantChecked s.areas.grant (readUpdateArea s))

theorem checkAreas_deviceRt {s : State} (h : s.areas.deviceRt = false) : (checkAreas s).swg.contactorOps = 0
    ∧ (checkAreas s).rcd.trips = 0 ∧ (checkAreas s).safe.entries = 0 ∧ (checkAreas s).lck.faults = 0 := by
  simpa [checkAreas_eq, h] using deviceRtChecked_lost (protocolChecked s.areas.protocol _)

theorem checkAreas_evidence {s : State} (h : s.areas.evidence = false) : (checkAreas s).safe.evidence = []
    ∧ (checkAreas s).safe.lost = 0 := by
  simpa [checkAreas_eq, h] using evidenceChecked_lost (deviceRtChecked s.areas.deviceRt _)

/-! ### What the checks leave of the start -/

/-- From s to t at most what the areas of Table 4-7 hold differs: the progress of the start, the settings and AON_BOOT stand, and so do the
PDUs that wait. -/
def OnlyAreas (s t : State) : Prop := t = { s with
  areas := t.areas, flash := t.flash, fw := t.fw, od := { t.od with waiting := s.od.waiting }, bil := t.bil, ses := t.ses, net := t.net
  swg := t.swg, lck := t.lck, rcd := t.rcd, safe := t.safe, adc := t.adc, aud := t.aud, sec := t.sec, bgd := t.bgd, tst := t.tst }

theorem OnlyAreas.trans {s t u : State} (h : OnlyAreas s t) (h' : OnlyAreas t u) : OnlyAreas s u := by
  unfold OnlyAreas at *
  rw [h', h]

theorem checkAreas_onlyAreas (s : State) : OnlyAreas s (checkAreas s) := by
  have hupdate : OnlyAreas s (readUpdateArea s) := by unfold OnlyAreas; rw [readUpdateArea_frame]
  have hgrant (ok : Bool) (t : State) : OnlyAreas t (grantChecked ok t) := by unfold OnlyAreas; rw [grantChecked_frame]
  have hprotocol (ok : Bool) (t : State) : OnlyAreas t (protocolChecked ok t) := by unfold OnlyAreas; rw [protocolChecked_frame]
  have hdevice (ok : Bool) (t : State) : OnlyAreas t (deviceRtChecked ok t) := by unfold OnlyAreas; rw [deviceRtChecked_frame]
  have hevidence (ok : Bool) (t : State) : OnlyAreas t (evidenceChecked ok t) := by unfold OnlyAreas; rw [evidenceChecked_frame]
  have hslots (a : RetAreas) (t : State) : OnlyAreas t (slotsChecked a t) := by unfold OnlyAreas; rw [slotsChecked_frame]
  have hwhole (t : State) : OnlyAreas t { t with areas := {} } := Eq.refl _
  rw [checkAreas_eq]
  exact (((((hupdate.trans (hgrant _ _)).trans (hprotocol _ _)).trans (hdevice _ _)).trans (hevidence _ _)).trans
    (hslots _ _)).trans (hwhole _)

/-- The service epoch after a start (R163). -/
def epochRisen (s : State) : State := { s with od := { s.od with serviceEpoch := nextServiceEpoch s.od.serviceEpoch } }

theorem restoreProtocol_onlyAreas (s : State) : OnlyAreas s (restoreProtocol s) := by
  have hepoch (t : State) : OnlyAreas t (epochRisen t) := Eq.refl _
  have hrecover (t : State) : OnlyAreas t (recoverNumbers t) := by
    unfold recoverNumbers
    split <;> exact Eq.refl _
  exact ((checkAreas_onlyAreas s).trans (hrecover _)).trans (hepoch _)

/-- Unless AON started from nothing, the areas and OdServiceEpoch's rise are all (Table 5-11). -/
theorem restoreProtocol_of_kept {s : State} (h : s.pwr.fromNothing = false) : restoreProtocol s = epochRisen (checkAreas s) := by
  have hkept : (checkAreas s).pwr.fromNothing = false := by rw [checkAreas_onlyAreas]; exact h
  have hnone : recoverNumbers (checkAreas s) = checkAreas s := by simp [recoverNumbers, hkept]
  rw [restoreProtocol, hnone]
  rfl

/-! ### The choice of R122 -/

/-- The state over which the areas are checked: the settings taken, the choice logged, and the seal's bound kept (R122, R123, R129). -/
def choiceTaken (c : BitVec 3 × Nat × List Entry) (s : State) : State := boundIfSealed (logChoice s (takeChoice c true s))

theorem logChoice_onlyLog (s0 s : State) : OnlyLog s (logChoice s0 s) :=
  ((onlyLog_ite _ _ s).trans (onlyLog_ite _ _ _)).trans (onlyLog_ite _ _ _)

/-- From s to t at most the settings, both copies, the source and log flash differ. -/
def OnlySettings (s t : State) : Prop :=
  t = { s with set := t.set, boot := t.boot, copyA := t.copyA, copyB := t.copyB, flash := t.flash }

theorem OnlySettings.trans {s t u : State} (h : OnlySettings s t) (h' : OnlySettings t u) : OnlySettings s u := by
  unfold OnlySettings at *
  rw [h', h]

/-- Bounding lowers entries of the running settings; the generation and AON_BOOT stay (R123). -/
theorem boundIfSealed_stands (s : State) : OnlySettings s (boundIfSealed s) ∧ (boundIfSealed s).boot = s.boot
    ∧ (boundIfSealed s).set.generation = s.set.generation := by
  have hgeneration : (sealBounding s).set.generation = s.set.generation := by
    unfold sealBounding
    dsimp only
    split
    · rfl
    · rw [foldl_logEvent_frame]
      rfl
  unfold OnlySettings boundIfSealed
  split
  · rw [hgeneration, sealBounding_frame]
    exact ⟨rfl, rfl, rfl⟩
  · exact ⟨rfl, rfl, rfl⟩

/-- The choice stands in AON_BOOT and as ConfigGeneration. -/
theorem choiceTaken_chosen (c : BitVec 3 × Nat × List Entry) (s : State) : OnlySettings s (choiceTaken c s)
    ∧ (choiceTaken c s).boot.source = c.1 ∧ (choiceTaken c s).set.generation = BitVec.ofNat 8 c.2.1 := by
  have htaken : OnlySettings s (takeChoice c true s) := Eq.refl _
  have hlog := logChoice_onlyLog s (takeChoice c true s)
  have hlogged : OnlySettings (takeChoice c true s) (logChoice s (takeChoice c true s)) := by
    unfold OnlySettings
    rw [hlog]
  obtain ⟨hbound, hboot, hgeneration⟩ := boundIfSealed_stands (logChoice s (takeChoice c true s))
  refine ⟨(htaken.trans hlogged).trans hbound, ?_, ?_⟩
  · rw [choiceTaken, hboot, hlog]
    rfl
  · rw [choiceTaken, hgeneration, hlog]
    rfl

/-! ### What follows the settings (R93, R100, R336, R338, R498) -/

/-- From s to t at most what a start's records, clock, session and self-test take up differs: the object dictionary, the areas, SAFE, the
lock and the counts of the switches stand, as do the settings and the progress of the start but for AON's start from nothing. -/
def OnlyBilling (s t : State) : Prop := t = { s with
  sec := t.sec, flash := t.flash, bil := t.bil, met := t.met, tst := t.tst, plt := t.plt, aud := t.aud
  swg := { t.swg with contactorOps := s.swg.contactorOps }, ses := { t.ses with tableLost := s.ses.tableLost }
  boot := { s.boot with pendingClose := t.boot.pendingClose }, pwr := { s.pwr with fromNothing := t.pwr.fromNothing } }

/-- And where no grant waits, none does afterwards, and the table stands. -/
structure BillingTaken (s t : State) : Prop where
  only : OnlyBilling s t
  noGrant : s.ses.grant = none → t.ses.grant = none ∧ t.ses.table = s.ses.table

theorem BillingTaken.ofSes {s t : State} (h : OnlyBilling s t) (hses : t.ses = s.ses) : BillingTaken s t :=
  ⟨h, fun hnone => by rw [hses]; exact ⟨hnone, rfl⟩⟩

theorem OnlyBilling.trans {s t u : State} (h : OnlyBilling s t) (h' : OnlyBilling t u) : OnlyBilling s u := by
  unfold OnlyBilling at *
  rw [h', h]

theorem BillingTaken.trans {s t u : State} (h : BillingTaken s t) (h' : BillingTaken t u) : BillingTaken s u := by
  refine ⟨h.only.trans h'.only, fun hnone => ?_⟩
  obtain ⟨ht, htable⟩ := h.noGrant hnone
  obtain ⟨hu, hutable⟩ := h'.noGrant ht
  exact ⟨hu, hutable.trans htable⟩

theorem OnlyRecords.billing {s t : State} (h : OnlyRecords s t) : BillingTaken s t := by
  unfold OnlyRecords at h
  refine .ofSes ?_ ?_
  · unfold OnlyBilling
    rw [h]
  · rw [h]

theorem OnlyLog.billing {s t : State} (h : OnlyLog s t) : BillingTaken s t := by
  unfold OnlyLog at h
  refine .ofSes ?_ ?_
  · unfold OnlyBilling
    rw [h]
  · rw [h]

theorem billingTaken_bil (s : State) (b : Billing) : BillingTaken s { s with bil := b } := .ofSes rfl rfl

/-- A pending area whose check failed is logged (R121), except after an AON start from nothing or before genesis. -/
def pendingLossLogged (s : State) : State :=
  if !s.bil.pendCrcOk && s.bil.genesisDone && !s.pwr.fromNothing then logEvent (.persistence 8) s else s

/-- The pending area after a start: completed, made anew, or left (R100, R324). -/
def areaCompleted (s : State) : State :=
  if s.pwr.fromNothing then s
  else if noSpace s && (s.bil.pendState == .pending || s.bil.pendState == .open || !s.bil.pendCrcOk) then areaRunsOn s
  else if s.bil.pendState == .pending && s.bil.pendCrcOk then
    { writeRecord s.bil.openRec s with
      bil := { (writeRecord s.bil.openRec s).bil with pendState := .written }
      boot := { (writeRecord s.bil.openRec s).boot with pendingClose := true } }
  else if s.bil.pendState == .open || (!s.bil.pendCrcOk && s.bil.genesisDone) then
    { writeRecord (incompleteRecord s) s with
      bil := { (writeRecord (incompleteRecord s) s).bil with pendState := .written, pendCrcOk := true } }
  else s

theorem completeArea_eq (s : State) : completeArea s = areaCompleted (pendingLossLogged (writeClosed (writeHeld s))) := by
  unfold completeArea areaCompleted pendingLossLogged
  rfl

theorem areaCompleted_billing (s : State) : BillingTaken s (areaCompleted s) := by
  have hclosed (r : Record) (b : Bool) (x : Billing) : BillingTaken s
      { writeRecord r s with bil := x, boot := { (writeRecord r s).boot with pendingClose := b } } :=
    (writeRecord_onlyRecords r s).billing.trans (.ofSes rfl rfl)
  have hmade (r : Record) (x : Billing) : BillingTaken s { writeRecord r s with bil := x } :=
    (writeRecord_onlyRecords r s).billing.trans (billingTaken_bil _ _)
  have hsame : BillingTaken s s := .ofSes rfl rfl
  unfold areaCompleted
  repeat' split
  · exact hsame
  · exact billingTaken_bil s _
  · exact hclosed _ _ _
  · exact hmade _ _
  · exact hsame

theorem completeArea_billing (s : State) : BillingTaken s (completeArea s) := by
  have hlogged (t : State) : BillingTaken t (pendingLossLogged t) := (onlyLog_ite _ _ t).billing
  rw [completeArea_eq]
  exact ((((writeHeld_onlyRecords s).trans (writeClosed_onlyRecords _)).billing).trans (hlogged _)).trans (areaCompleted_billing _)

theorem seedClock_billing (s : State) : BillingTaken s (seedClock s) := by
  unfold seedClock
  dsimp only
  generalize hu : refreshCode _ = u
  have hclock : BillingTaken s u := by
    rw [← hu]
    split
    · exact (billingTaken_bil s _).trans (billingTaken_bil _ _)
    · exact billingTaken_bil s _
  split
  · exact hclock.trans (writeRecord_onlyRecords _ _).billing
  · exact hclock

/-- Stop reason 7, and a waiting grant judged by the table, the cap and the clock (R42, R93). -/
theorem recordCut_billing (s : State) : BillingTaken s (recordCut s) := by
  have hstop (b : Bool) : BillingTaken s (if b then { s with ses := { s.ses with stop := 7 } } else s) := by
    cases b
    · exact .ofSes rfl rfl
    · exact ⟨rfl, fun hnone => ⟨hnone, rfl⟩⟩
  unfold recordCut
  dsimp only
  have hcut := hstop s.pwr.sessionCut
  generalize (if s.pwr.sessionCut then _ else s : State) = t at hcut
  split
  · exact hcut
  · rename_i g hgrant
    have hjudged (o : Option Grant) (l : List GrantLine) : BillingTaken t { t with ses := { t.ses with grant := o, table := l } } :=
      ⟨rfl, fun hnone => absurd (hnone.symm.trans hgrant) nofun⟩
    split
    · exact hcut.trans (hjudged _ _)
    · exact (hcut.trans (hjudged _ _)).trans (logEvent_onlyLog _ _).billing

theorem copyBist_billing (s : State) : BillingTaken s (copyBist s) := by
  have htest (x : Tst) : BillingTaken s { s with tst := x } := .ofSes rfl rfl
  unfold copyBist
  split
  · exact (htest _).trans (logEvent_onlyLog _ _).billing
  · exact .ofSes rfl rfl

theorem recompute_billing (s : State) : BillingTaken s (recompute s) := by
  have hpause := recompute_onlyPause s
  unfold OnlyPause at hpause
  refine ⟨?_, fun hnone => ?_⟩
  · unfold OnlyBilling
    rw [hpause]
    rfl
  · rw [hpause]
    exact ⟨hnone, rfl⟩

/-- The calibration is taken, and AON's start from nothing is over. -/
def calibrationTaken (s : State) : State := { s with
  met := { s.met with cal := calFromSettings s, calNext := calFromSettings s }, pwr := { s.pwr with fromNothing := false } }

theorem restoreBilling_eq (s : State) : restoreBilling s
    = recompute (calibrationTaken (copyBist (recordCut (seedClock (loadAccumulators (completeArea s)))))) := rfl

theorem restoreBilling_billing (s : State) : BillingTaken s (restoreBilling s) := by
  have haccumulators (t : State) : BillingTaken t (loadAccumulators t) := .ofSes rfl rfl
  have hcalibration (t : State) : BillingTaken t (calibrationTaken t) := .ofSes rfl rfl
  rw [restoreBilling_eq]
  exact ((((((completeArea_billing s).trans (haccumulators _)).trans (seedClock_billing _)).trans (recordCut_billing _)).trans
    (copyBist_billing _)).trans (hcalibration _)).trans (recompute_billing _)

/-! ### The row (R122) -/

/-- The settings are in force, and STAGE says so unless the start failed. -/
def settingsIn (s : State) : State := { s with
  pwr := { s.pwr with settingsRestored := true }, boot := { s.boot with stage := if s.boot.stage = 0xF then 0xF else 5 } }

theorem restoreNormal_of_choice {c : BitVec 3 × Nat × List Entry} {s : State} (h : chooseSource true s = some c) :
    restoreNormal s = restoreBilling (settingsIn (restoreProtocol (choiceTaken c s))) := by
  rw [restoreNormal, h]
  rfl

theorem exec_settingsRestore {s : State} (hloader : s.pwr.loaderState = false) (hseq : isUp s .seq = true) (hsec : isUp s .sec = true)
    (hdue : restoreRowDone s = false) : exec .settingsRestore s = .next (settle (drainWaiting (restoreNormal s))) := by
  show execSettingsRestore s = _
  rw [execSettingsRestore, if_neg (by simp [hloader]), hseq, hsec, hdue, done_eq]
  rfl

/-- The chosen source is in force once the row is over, whatever PDUs had waited for it. -/
theorem settingsRestored_chosen {c : BitVec 3 × Nat × List Entry} {s : State} (h : chooseSource true s = some c) :
    (restoreNormal s).pwr.settingsRestored = true ∧ (restoreNormal s).boot.source = c.1
      ∧ (restoreNormal s).set.generation = BitVec.ofNat 8 c.2.1 := by
  obtain ⟨-, hsource, hgeneration⟩ := choiceTaken_chosen c s
  have hareas := restoreProtocol_onlyAreas (choiceTaken c s)
  have hbilling := (restoreBilling_billing (settingsIn (restoreProtocol (choiceTaken c s)))).only
  rw [restoreNormal_of_choice h, hbilling]
  refine ⟨rfl, ?_, ?_⟩
  · show (restoreProtocol (choiceTaken c s)).boot.source = _
    rw [hareas]
    exact hsource
  · show (restoreProtocol (choiceTaken c s)).set.generation = _
    rw [hareas]
    exact hgeneration

end Sys2Proof.Machine
end

section
/-! The rows of the boot sequence together (O10). -/

namespace Sys2Proof.Machine
variable {s : State}

theorem islandBootUp_up {i : Island} (hheld : s.pwr.resetHeld = false) (hport : (port s i).state = .notYetUp)
    (hepoch : (port s i).epoch = 0) (hdue : bootDue s i = true) :
    ∃ t, exec (.islandBootUp i) s = .next t ∧ isUp t i = true ∧ (port t i).epoch = 1 := by
  obtain ⟨hstate, hrose⟩ := comeUp_port i s
  have hup : port (settle (atBoot i (comeUp i s))) i = port (comeUp i s) i := atBoot_port i i _
  refine ⟨_, exec_islandBootUp hheld hport hdue, ?_, ?_⟩
  · rw [isUp_iff, hup, hstate]
  · rw [hup, hrose, hepoch]
    rfl

theorem imageCheck_passes (hsec : isUp s .sec = true) (hseq : hasCome s .seq = false) (hok : s.pwr.imageOk = false)
    (hloader : s.pwr.loaderState = false) (hreq : s.fw.request ≠ 1) (hvalid : imageValid s = true) :
    ∃ t, exec .imageCheck s = .next t ∧ t.pwr.imageOk = true ∧ t.pwr.loaderState = false := by
  have hpwr : (settle (handRequest (imageCheck s))).pwr = { s.pwr with imageOk := true } := by
    rw [settle_pwr, handRequest_onlyTaken, imageCheck_of_valid hreq hvalid, readUpdateArea_frame]
    rfl
  exact ⟨_, exec_imageCheck hsec hseq hok hloader, by rw [hpwr], by rw [hpwr]; exact hloader⟩

theorem settingsRestore_chosen {c : BitVec 3 × Nat × List Entry} (hloader : s.pwr.loaderState = false) (hseq : isUp s .seq = true)
    (hsec : isUp s .sec = true) (hdue : restoreRowDone s = false) (hchoice : chooseSource true s = some c) :
    ∃ t, exec .settingsRestore s = .next t ∧ t.pwr.settingsRestored = true ∧ t.boot.source = c.1
      ∧ t.set.generation = BitVec.ofNat 8 c.2.1 := by
  refine ⟨_, exec_settingsRestore hloader hseq hsec hdue, ?_⟩
  rw [settle_pwr, settle_boot, settle_set, drainWaiting_onlyTaken]
  exact settingsRestored_chosen hchoice

/-- From u, the state the checks of the areas leave, to t, that after the row, the areas stand but for the service epoch. -/
structure AreasStand (u t : State) : Prop where
  areas : t.areas = u.areas
  od : t.od = (epochRisen u).od
  net : t.net = u.net
  tableLost : t.ses.tableLost = u.ses.tableLost
  noGrant : u.ses.grant = none → t.ses.grant = none ∧ t.ses.table = u.ses.table
  contactorOps : t.swg.contactorOps = u.swg.contactorOps
  rcd : t.rcd = u.rcd
  safe : t.safe = u.safe
  lck : t.lck = u.lck

theorem BillingTaken.areasStand {u t : State} (h : BillingTaken (settingsIn (epochRisen u)) t) : AreasStand u t := by
  obtain ⟨honly, hnoGrant⟩ := h
  unfold OnlyBilling at honly
  constructor
  case noGrant => exact hnoGrant
  all_goals
    rw [honly]
    rfl

/-- At a start that AON did not make from nothing, what the checks leave of the areas stands (Table 4-7, R163). -/
theorem restoreNormal_areasStand {c : BitVec 3 × Nat × List Entry} (hchoice : chooseSource true s = some c)
    (hkept : s.pwr.fromNothing = false) : AreasStand (checkAreas (choiceTaken c s)) (restoreNormal s) := by
  obtain ⟨htaken, -, -⟩ := choiceTaken_chosen c s
  have hpwr : (choiceTaken c s).pwr.fromNothing = false := by rw [htaken]; exact hkept
  rw [restoreNormal_of_choice hchoice, restoreProtocol_of_kept hpwr]
  exact (restoreBilling_billing _).areasStand

theorem settingsRestore_of_noneWaiting {c : BitVec 3 × Nat × List Entry} (hloader : s.pwr.loaderState = false) (hseq : isUp s .seq = true)
    (hsec : isUp s .sec = true) (hdue : restoreRowDone s = false) (hchoice : chooseSource true s = some c) (hnone : s.od.waiting = [])
    (hkept : s.pwr.fromNothing = false) : exec .settingsRestore s = .next (settle (restoreNormal s)) := by
  have hstand := restoreNormal_areasStand hchoice hkept
  obtain ⟨htaken, -, -⟩ := choiceTaken_chosen c s
  have hwaiting : (restoreNormal s).od.waiting = [] := by
    rw [hstand.od, checkAreas_onlyAreas]
    show (choiceTaken c s).od.waiting = []
    rw [htaken]
    exact hnone
  rw [exec_settingsRestore hloader hseq hsec hdue, drainWaiting_of_none hwaiting]

/-! ### Homing (R92) -/

/-- What homing does whichever way it goes, but for a hall sensor that failed: the progress of the start and the lock. -/
def OnlyLock (s t : State) : Prop := t = { s with pwr := t.pwr, boot := t.boot, lck := t.lck }

theorem OnlyLock.settle {t : State} (h : OnlyLock s t) : settle t = { s with
    pwr := (settle t).pwr, boot := (settle t).boot, lck := (settle t).lck, fab := (settle t).fab, glt := (settle t).glt } := by
  unfold OnlyLock at h
  have hset (f : Fabric) (g : Glint) : ({ t with fab := f, glt := g } : State)
      = { s with pwr := t.pwr, boot := t.boot, lck := t.lck, fab := f, glt := g } := by rw [h]
  exact hset _ _

theorem lockHomed_skipped (hskip : homingSkipped s = true) : (lockHomed s).boot.homingSkipped = true
    ∧ (lockHomed s).pwr.homingDone = true ∧ OnlyLock s (lockHomed s) := by
  rw [lockHomed, if_pos hskip]
  exact ⟨rfl, rfl, rfl⟩

theorem lockHomed_atLimit (hgo : homingSkipped s = false) (h : s.lck.limUnlocked = true) : (lockHomed s).lck.state = 1
    ∧ (lockHomed s).pwr.homingDone = true ∧ OnlyLock s (lockHomed s) := by
  have hlim : (homingAsked s).lck.limUnlocked = true := h
  rw [lockHomed, if_neg (by simp [hgo]), beginMove_unlocked hlim]
  exact ⟨rfl, Bool.or_true _, rfl⟩

theorem lockHomed_away (hgo : homingSkipped s = false) (h : s.lck.limUnlocked = false)
    (hhall : s.lck.hallKnown = false ∨ s.lck.hallOk = true) : (lockHomed s).lck.drive = .unlocking
    ∧ (lockHomed s).lck.moving = some false ∧ (lockHomed s).lck.homing = true ∧ OnlyLock s (lockHomed s) := by
  have hlim : (homingAsked s).lck.limUnlocked = false := h
  have hgood : ((homingAsked s).lck.hallKnown && !(homingAsked s).lck.hallOk) = false := by
    show (s.lck.hallKnown && !s.lck.hallOk) = false
    rcases hhall with hunknown | hok
    · rw [hunknown, Bool.false_and]
    · rw [hok, Bool.not_true, Bool.and_false]
  rw [lockHomed, if_neg (by simp [hgo]), beginMove_drives hlim, if_neg (by simp [hgood])]
  exact ⟨rfl, rfl, rfl, rfl⟩

theorem lockHomed_started : (lockHomed s).pwr.homingStarted = true := by
  unfold lockHomed
  split
  · rfl
  · exact homing_started s

theorem lockHomed_onlyLock (h : homingSkipped s = true ∨ s.lck.limUnlocked = true ∨ s.lck.hallKnown = false ∨ s.lck.hallOk = true) :
    OnlyLock s (lockHomed s) := by
  cases hskip : homingSkipped s with
  | true =>
    obtain ⟨-, -, honly⟩ := lockHomed_skipped hskip
    exact honly
  | false =>
    cases hlim : s.lck.limUnlocked with
    | true =>
      obtain ⟨-, -, honly⟩ := lockHomed_atLimit hskip hlim
      exact honly
    | false =>
      obtain ⟨-, -, -, honly⟩ := lockHomed_away hskip hlim (by simpa [hskip, hlim] using h)
      exact honly

end Sys2Proof.Machine
end

namespace Sys2Proof
open Machine

/-- Settles O10: the rows of the boot sequence, each by what its command does where it is due. -/
theorem bootRows : Obligations.BootRows := by
  unfold Obligations.BootRows
  intro s
  refine ⟨fun _ => islandBootUp_up, imageCheck_passes, fun c => settingsRestore_chosen,
    fun c hloader hseq hsec hdue hchoice hnone hkept => ?areas,
    fun hset hhold hnew hloader htmr hseal hbrown => ?homing, mayRelease_conditions, fun hmay => ?release⟩
  case areas =>
    obtain ⟨htaken, -, -⟩ := choiceTaken_chosen c s
    have hstand := restoreNormal_areasStand hchoice hkept
    have hareas : (choiceTaken c s).areas = s.areas := by rw [htaken]
    have hod : (choiceTaken c s).od = s.od := by rw [htaken]
    have hbil : (choiceTaken c s).bil = s.bil := by rw [htaken]
    refine ⟨_, settingsRestore_of_noneWaiting hloader hseq hsec hdue hchoice hnone hkept, hstand.areas, fun hlost => ?_, fun hlost => ?_,
      fun hlost => ?_, fun hlost => ?_⟩
    · obtain ⟨htx, hfloor, hepoch, hbcast, hseqNo⟩ := checkAreas_protocol (s := choiceTaken c s) (by rw [hareas, hlost])
      rw [settle_od, settle_net, hstand.od, hstand.net]
      exact ⟨by rw [← hod]; exact htx, by rw [← hod]; exact hfloor, congrArg nextServiceEpoch hepoch, hbcast, hseqNo⟩
    · obtain ⟨hgrant, htable, htoken, htableLost⟩ := checkAreas_grant (s := choiceTaken c s) (by rw [hareas, hlost])
      obtain ⟨hnoGrant, hsame⟩ := hstand.noGrant hgrant
      rw [settle_od, settle_ses, hstand.od, hstand.tableLost, hsame]
      exact ⟨hnoGrant, htable, by rw [← hod]; exact htoken, by rw [← hbil]; exact htableLost⟩
    · rw [settle_swg, settle_rcd, settle_safe, settle_lck, hstand.contactorOps, hstand.rcd, hstand.safe, hstand.lck]
      exact checkAreas_deviceRt (by rw [hareas, hlost])
    · rw [settle_safe, hstand.safe]
      exact checkAreas_evidence (by rw [hareas, hlost])
  case homing =>
    refine ⟨_, exec_lockHoming hset hhold hnew hloader htmr hseal hbrown, lockHomed_started, fun hskip => ?_, fun hgo hlim => ?_,
      fun hgo hlim hhall => ?_, fun hgood => (lockHomed_onlyLock hgood).settle⟩
    · obtain ⟨hleft, hdone, -⟩ := lockHomed_skipped hskip
      exact ⟨hleft, hdone⟩
    · obtain ⟨hstate, hdone, -⟩ := lockHomed_atLimit hgo hlim
      exact ⟨hstate, hdone⟩
    · obtain ⟨hdrive, hmoving, hhoming, -⟩ := lockHomed_away hgo hlim hhall
      exact ⟨hdrive, hmoving, hhoming⟩
  case release =>
    refine ⟨_, exec_startHoldRelease hmay, ?_⟩
    have hcommon := commonRelease_released s
    have hreleased : HoldReleased s (if s.pwr.billing then commonRelease s else startReleased (commonRelease s)) := by
      split
      · exact hcommon
      · exact startReleased_released hcommon
    exact ⟨hreleased.startHold, hreleased.active, hreleased.billing, hreleased.stage⟩

end Sys2Proof

section
/-! What no command but COMMIT writes (04): the queue of waiting commands and OTP. The relation, and the operations of
billing, sessions, PDUs, images and the safety function that keep it. -/

namespace Sys2Proof.Machine

/-- From s to t the queue of waiting commands and OTP stand. -/
@[simp, reducible] def Keeps (s t : State) : Prop := t.pending = s.pending ∧ t.otp = s.otp

theorem Keeps.rfl {s : State} : Keeps s s := ⟨Eq.refl _, Eq.refl _⟩

theorem Keeps.trans {s t u : State} (h : Keeps s t) (h' : Keeps t u) : Keeps s u := by
  obtain ⟨hpending, hotp⟩ := h
  obtain ⟨hpending', hotp'⟩ := h'
  exact ⟨hpending'.trans hpending, hotp'.trans hotp⟩

/-- What either branch of a condition keeps, the condition keeps. -/
theorem Keeps.ite {c : Prop} [Decidable c] {s t u : State} (ht : Keeps s t) (hu : Keeps s u) : Keeps s (if c then t else u) := by
  split
  · exact ht
  · exact hu

/-- What every step of a fold keeps, the fold keeps. -/
theorem foldl_keeps {α : Type} {f : State → α → State} (h : ∀ s a, Keeps s (f s a)) (l : List α) (s : State) :
    Keeps s (l.foldl f s) :=
  List.foldlRecOn (motive := Keeps s) l f .rfl fun t ht a _ => ht.trans (h t a)

/-! ### What is known already to write other blocks alone -/

theorem OnlySession.keeps {s t : State} (h : OnlySession s t) : Keeps s t := ⟨by rw [h], by rw [h]⟩
theorem OnlySwitching.keeps {s t : State} (h : OnlySwitching s t) : Keeps s t := ⟨by rw [h], by rw [h]⟩

theorem Sends.keeps {s t : State} (h : Sends s t) : Keeps s t := by
  obtain ⟨-, h⟩ := h
  exact ⟨by rw [h], by rw [h]⟩

theorem OnlyFabricAndLog.keeps {s t : State} (h : OnlyFabricAndLog s t) : Keeps s t := ⟨by rw [h], by rw [h]⟩
theorem OnlyFabric.keeps {s t : State} (h : OnlyFabric s t) : Keeps s t := h.andLog.keeps
theorem OnlyWindows.keeps {s t : State} (h : OnlyWindows s t) : Keeps s t := ⟨by rw [h], by rw [h]⟩
theorem OnlyRecords.keeps {s t : State} (h : OnlyRecords s t) : Keeps s t := ⟨by rw [h], by rw [h]⟩
theorem OnlyTaken.keeps {s t : State} (h : OnlyTaken s t) : Keeps s t := ⟨by rw [h], by rw [h]⟩
theorem OnlyLog.keeps {s t : State} (h : OnlyLog s t) : Keeps s t := ⟨by rw [h], by rw [h]⟩
theorem OnlyAreas.keeps {s t : State} (h : OnlyAreas s t) : Keeps s t := ⟨by rw [h], by rw [h]⟩

theorem BillingTaken.keeps {s t : State} (h : BillingTaken s t) : Keeps s t := by
  obtain ⟨h, -⟩ := h
  exact ⟨by rw [h], by rw [h]⟩

theorem OnlyHalfCycle.keeps {s t : State} (h : OnlyHalfCycle s t) : Keeps s t := ⟨by rw [h], by rw [h]⟩
theorem OnlyDrives.keeps {s t : State} (h : OnlyDrives s t) : Keeps s t := ⟨by rw [h], by rw [h]⟩

/-! ### Shared operations (02, 04, 10) -/

@[simp] theorem captureBegins_keeps (s : State) : Keeps s (captureBegins s) := ⟨rfl, rfl⟩

@[simp] theorem guarded_keeps {f : State → State} {s : State} (h : Keeps s (f s)) (c : Bool) : Keeps s (guarded c f s) := by
  cases c
  · exact ⟨rfl, rfl⟩
  · exact h

@[simp] theorem notePeak_keeps (s : State) : Keeps s (notePeak s) := by
  rw [notePeak_frame]
  exact ⟨rfl, rfl⟩

@[simp] theorem holdKill_keeps (s : State) : Keeps s (holdKill s) := by
  rw [holdKill_frame]
  exact ⟨rfl, rfl⟩

@[simp] theorem nextFree_keeps (s : State) : Keeps s (nextFree s).2 := ⟨rfl, rfl⟩

@[simp] theorem sealBounding_keeps (s : State) : Keeps s (sealBounding s) := by
  rw [sealBounding_frame]
  exact ⟨rfl, rfl⟩

@[simp] theorem reportRail_keeps (r : Rail) (s : State) : Keeps s (reportRail r s) := by
  rw [reportRail_frame]
  exact ⟨rfl, rfl⟩

/-! ### Billing (13) -/

@[simp] theorem closeOne_keeps (k : RecordKind) (endT next : Time) (adjust : Int) (s : State) :
    Keeps s (closeOne k endT next adjust s) := by
  rw [closeOne_frame]
  exact ⟨rfl, rfl⟩

@[simp] theorem closeDue_keeps (t : Time) (s : State) : Keeps s (closeDue t s) := by unfold closeDue; split <;> simp

@[simp] theorem closeRecord_keeps (k : RecordKind) (endT next : Time) (adjust : Int) (s : State) :
    Keeps s (closeRecord k endT next adjust s) := by
  unfold closeRecord; split <;> simp

@[simp] theorem closeDueAtStart_keeps (t : Time) (s : State) : Keeps s (closeDueAtStart t s) := by
  rw [closeDueAtStart_frame]
  exact ⟨rfl, rfl⟩

@[simp] theorem closeAtPeriodStart_keeps (k : RecordKind) (t : Time) (s : State) : Keeps s (closeAtPeriodStart k t s) := by
  rw [closeAtPeriodStart_frame]
  exact ⟨rfl, rfl⟩

@[simp] theorem completeClosed_keeps (s : State) : Keeps s (completeClosed s) := ⟨rfl, rfl⟩
@[simp] theorem refreshCode_keeps (s : State) : Keeps s (refreshCode s) := ⟨rfl, rfl⟩
@[simp] theorem startSlew_keeps (d : Int) (s : State) : Keeps s (startSlew d s) := ⟨rfl, rfl⟩
@[simp] theorem stepClock_keeps (k : RecordKind) (new : Time) (s : State) : Keeps s (stepClock k new s) := by simp [stepClock]
@[simp] theorem setTrust_keeps (b : Bool) (s : State) : Keeps s (setTrust b s) := ⟨rfl, rfl⟩
@[simp] theorem trustOpens_keeps (before s : State) : Keeps s (trustOpens before s) := by unfold trustOpens; split <;> simp

@[simp] theorem applyTimeSet_keeps (new : Time) (s : State) : Keeps s (applyTimeSet new s) := by
  unfold applyTimeSet; dsimp only; repeat' split
  all_goals simp

@[simp] theorem applyBeaconTime_keeps (new : Time) (s : State) : Keeps s (applyBeaconTime new s) := by
  unfold applyBeaconTime; dsimp only; repeat' split
  all_goals simp

@[simp] theorem applyCode_keeps (s : State) : Keeps s (applyCode s) := ⟨rfl, rfl⟩

@[simp] theorem noteCodes_keeps (s : State) : Keeps s (noteCodes s) := by
  unfold noteCodes; dsimp only; repeat' split
  all_goals simp

@[simp] theorem appendSigned_keeps (r : Record) (sig : Option Bytes) (s : State) : Keeps s (appendSigned r sig s) :=
  (appendSigned_onlyRecords r sig s).keeps

@[simp] theorem appendRecord_keeps (r : Record) (s : State) : Keeps s (appendRecord r s) := appendSigned_keeps r _ s

@[simp] theorem logHeldDue_keeps (s : State) : Keeps s (logHeldDue s) := by
  unfold logHeldDue
  split
  · exact foldl_keeps (fun s _ => by simp) _ { s with bil := { s.bil with heldDue := 0 } }
  · simp

@[simp] theorem writeRecord_keeps (r : Record) (s : State) : Keeps s (writeRecord r s) := (writeRecord_onlyRecords r s).keeps

/-! ### Sessions (01, 07, 08) -/

@[simp] theorem queuePrompt_keeps (n : Nat) (byTest : Bool) (s : State) : Keeps s (queuePrompt n byTest s) := by
  rw [queuePrompt_frame]
  exact ⟨rfl, rfl⟩

@[simp] theorem eventPrompt_keeps (n : Nat) (s : State) : Keeps s (eventPrompt n s) := (eventPrompt_onlySession n s).keeps
@[simp] theorem refreshAllowed_keeps (s : State) : Keeps s (refreshAllowed s) := ⟨rfl, rfl⟩

@[simp] theorem commandMove_keeps (toLocked : Bool) (s : State) : Keeps s (commandMove toLocked s) :=
  (commandMove_onlySession toLocked s).keeps

@[simp] theorem enterPaused_keeps (s : State) : Keeps s (enterPaused s) := (enterPaused_onlySession s).keeps
@[simp] theorem enterOffered_keeps (s : State) : Keeps s (enterOffered s) := ⟨rfl, rfl⟩

@[simp] theorem offerOrPause_keeps (s : State) : Keeps s (offerOrPause s) := by
  unfold offerOrPause; dsimp only; repeat' split
  all_goals simp

@[simp] theorem finishBreak_keeps (s : State) : Keeps s (finishBreak s) := (finishBreak_onlySession s).keeps
@[simp] theorem breakStepFive_keeps (s : State) : Keeps s (breakStepFive s) := (breakStepFive_onlySession s).keeps
@[simp] theorem releaseCoil_keeps (s : State) : Keeps s (releaseCoil s) := (releaseCoil_onlySwitching s).keeps
@[simp] theorem startBreak_keeps (r : BitVec 8) (s : State) : Keeps s (startBreak r s) := (startBreak_onlySwitching r s).keeps
@[simp] theorem stopSession_keeps (r : BitVec 8) (s : State) : Keeps s (stopSession r s) := (stopSession_onlySwitching r s).keeps
@[simp] theorem recompute_keeps (s : State) : Keeps s (recompute s) := (recompute_onlySwitching s).keeps

@[simp] theorem tryStart_keeps (s : State) : Keeps s (tryStart s) := by
  unfold tryStart; dsimp only; repeat' split
  all_goals simp

@[simp] theorem stopMotor_keeps (s : State) : Keeps s (stopMotor s) := ⟨rfl, rfl⟩

@[simp] theorem lockFault_keeps (n : Nat) (s : State) : Keeps s (lockFault n s) := by
  unfold lockFault; dsimp only; repeat' split
  all_goals simp

@[simp] theorem brakeMove_keeps (s : State) : Keeps s (brakeMove s) := by
  rw [brakeMove_frame]
  exact ⟨rfl, rfl⟩

/-! ### PDUs that leave (05, 14) -/

@[simp] theorem loadYew_keeps (c : YewCtx) (key : Bytes) (uses : Nat) (s : State) : Keeps s (loadYew c key uses s) :=
  (loadYew_sends c key uses s).keeps

@[simp] theorem useSeq_keeps (k : KeySel) (s : State) : Keeps s (useSeq k s) := (useSeq_sends k s).keeps

@[simp] theorem sendPdu_keeps (p : Path) (prio : BitVec 2) (isNotify : Bool) (op : Nat) (k : KeySel) (status : Nat)
    (xid : BitVec 16) (payload : Bytes) (s : State) : Keeps s (sendPdu p prio isNotify op k status xid payload s) := by
  unfold sendPdu; repeat' split
  all_goals simp

@[simp] theorem notifyNode0_keeps (prio : BitVec 2) (payload : Bytes) (s : State) : Keeps s (notifyNode0 prio payload s) := by
  simp [notifyNode0]

/-! ### Images and the loader (21) -/

@[simp] theorem flashTry_keeps (s : State) : Keeps s (flashTry s).2 := ⟨rfl, rfl⟩

@[simp] theorem finalTaken_keeps (pass : Bool) (b : Bytes) (s : State) : Keeps s (finalTaken pass b s) := by
  unfold finalTaken; split <;> simp

@[simp] theorem finalCheck_keeps (s : State) : Keeps s (finalCheck s) := by unfold finalCheck; split <;> simp

@[simp] theorem resumeCheck_keeps (s : State) : Keeps s (resumeCheck s) := by
  unfold resumeCheck; dsimp only; repeat' split
  all_goals simp

@[simp] theorem enterLoader_keeps (s : State) : Keeps s (enterLoader s) := by
  unfold enterLoader; dsimp only; repeat' split
  all_goals simp

@[simp] theorem imageChecked_keeps (good : Bool) (s : State) : Keeps s (imageChecked good s) := by
  unfold imageChecked; split <;> simp

@[simp] theorem readUpdateArea_keeps (s : State) : Keeps s (readUpdateArea s) := by
  rw [readUpdateArea_frame]
  exact ⟨rfl, rfl⟩

@[simp] theorem imageCheck_keeps (s0 : State) : Keeps s0 (imageCheck s0) := by simp [imageCheck]

/-! ### The safe state (10) -/

@[simp] theorem writeEvidence_keeps (type : Nat) (cause : BitVec 16) (s : State) : Keeps s (writeEvidence type cause s) := by
  rw [writeEvidence_frame]
  exact ⟨rfl, rfl⟩

@[simp] theorem stopForSafe_keeps (s : State) : Keeps s (stopForSafe s) := (stopForSafe_onlySwitching s).keeps
@[simp] theorem safeStop_keeps (s : State) : Keeps s (safeStop s) := by simp [safeStop]

@[simp] theorem safeEntry_keeps (l : List (BitVec 16)) (s : State) : Keeps s (safeEntry l s) := by
  have hev (f : BitVec 16 → Nat) (l : List (BitVec 16)) (u : State) : Keeps u (l.foldl (fun s x => writeEvidence (f x) x s) u) :=
    foldl_keeps (fun s x => writeEvidence_keeps (f x) x s) l u
  unfold safeEntry
  dsimp only
  refine .ite .rfl ?_
  split
  · exact (Keeps.trans (by simp) (hev _ _ _)).trans (safeStop_keeps _)
  · exact Keeps.trans (by simp) (hev _ _ _)

@[simp] theorem comparatorTrip_keeps (fresh : Bool) (n : Nat) (s : State) : Keeps s (comparatorTrip fresh n s) := by
  unfold comparatorTrip; dsimp only; repeat' split
  all_goals simp

@[simp] theorem reconnect_keeps (n : Nat) (s : State) : Keeps s (reconnect n s) := by unfold reconnect; split <;> simp

@[simp] theorem resumeBilling_keeps (s : State) : Keeps s (resumeBilling s) := by
  rw [resumeBilling_frame]
  exact ⟨rfl, rfl⟩

@[simp] theorem commonRelease_keeps (s : State) : Keeps s (commonRelease s) := by
  unfold commonRelease; dsimp only; repeat' split
  all_goals simp

@[simp] theorem epochNotify_keeps (s : State) : Keeps s (epochNotify s) := (epochNotify_sends s).keeps
@[simp] theorem versionKept_keeps (s : State) : Keeps s (versionKept s) := by simp [versionKept]
@[simp] theorem startReleased_keeps (s : State) : Keeps s (startReleased s) := by simp [startReleased]

@[simp] theorem releaseQuietly_keeps (automatic : Bool) (s : State) : Keeps s (releaseQuietly automatic s) := by
  unfold releaseQuietly; dsimp only; repeat' split
  all_goals simp

@[simp] theorem releaseSafe_keeps (automatic : Bool) (s : State) : Keeps s (releaseSafe automatic s) := by
  unfold releaseSafe; split <;> simp

end Sys2Proof.Machine
end

section
/-! Resets, the display, log flash and what a start restores (02, 03, 13, 17, 19): the queue and OTP stand. -/

namespace Sys2Proof.Machine

/-! ### Resets, and islands that leave and return (02, 03) -/

@[simp] theorem pendingClose_keeps (k : RecordKind) (s : State) : Keeps s (pendingClose k s) := by
  rw [pendingClose_frame]
  exact ⟨rfl, rfl⟩

@[simp] theorem resetClose_keeps (s : State) : Keeps s (resetClose s) := by
  rw [resetClose_frame]
  exact ⟨rfl, rfl⟩

@[simp] theorem afterReset_keeps (bist : Bool) (s : State) : Keeps s (afterReset bist s) := ⟨rfl, rfl⟩

@[simp] theorem discardTest_keeps (s : State) : Keeps s (discardTest s) := by
  rw [discardTest_frame]
  exact ⟨rfl, rfl⟩

@[simp] theorem wholeReset_keeps (c : ResetCause) (s : State) : Keeps s (wholeReset c s) := by unfold wholeReset; split <;> simp
@[simp] theorem bistReset_keeps (s : State) : Keeps s (bistReset s) := ⟨rfl, rfl⟩
@[simp] theorem awaitReset_keeps (c : ResetCause) (s : State) : Keeps s (awaitReset c s) := ⟨rfl, rfl⟩

@[simp] theorem heldBackReset_keeps (c : ResetCause) (s : State) : Keeps s (heldBackReset c s) := by
  unfold heldBackReset; split <;> simp

@[simp] theorem dropPosted_keeps (dst src : Island) (s : State) : Keeps s (dropPosted dst src s) :=
  (dropPosted_onlyFabric dst src s).keeps

@[simp] theorem complete_keeps (f : Flight) (st : FabricStatus) (data : Word) (s : State) : Keeps s (complete f st data s) :=
  (complete_onlyFabric f st data s).keeps

@[simp] theorem failAt_keeps (i : Island) (st : FabricStatus) (f : Flight) (s : State) : Keeps s (failAt i st f s) :=
  (failAt_onlyFabric i st f s).keeps

@[simp] theorem settleFences_keeps (s : State) : Keeps s (settleFences s) := by
  rw [settleFences_frame]
  exact ⟨rfl, rfl⟩

@[simp] theorem fabricLeave_keeps (i : Island) (s : State) : Keeps s (fabricLeave i s) := by
  rw [fabricLeave_onlyFabricAndLog]
  exact ⟨rfl, rfl⟩

@[simp] theorem reconnectAll_keeps (s t : State) : Keeps t (reconnectAll s t) :=
  foldl_keeps (fun t n => .ite (reconnect_keeps n t) .rfl) _ t

@[simp] theorem logHold_keeps (thermal : Bool) (since : Time × Nat) (s : State) : Keeps s (logHold thermal since s) := by
  simp [logHold]

@[simp] theorem holdsEnd_keeps (s : State) : Keeps s (holdsEnd s) := by
  unfold holdsEnd; dsimp only; repeat' split
  all_goals simp

@[simp] theorem resetIsland_keeps (i : Island) (s : State) : Keeps s (resetIsland i s) := by unfold resetIsland; split <;> simp

@[simp] theorem absenceReaction_keeps (i : Island) (s : State) : Keeps s (absenceReaction i s) := by
  unfold absenceReaction; repeat' split
  all_goals simp

@[simp] theorem leaveQuietly_keeps (i : Island) (st : PortState) (s : State) : Keeps s (leaveQuietly i st s) := by
  unfold leaveQuietly; dsimp only; repeat' split
  all_goals simp

@[simp] theorem leaveService_keeps (i : Island) (st : PortState) (s : State) : Keeps s (leaveService i st s) := by
  simp [leaveService]

@[simp] theorem clockLoss_keeps (i : Island) (s : State) : Keeps s (clockLoss i s) := by
  unfold clockLoss; dsimp only; repeat' split
  all_goals simp

@[simp] theorem afterReturn_keeps (i : Island) (s : State) : Keeps s (afterReturn i s) := by unfold afterReturn; split <;> simp
@[simp] theorem comeUp_keeps (i : Island) (s : State) : Keeps s (comeUp i s) := ⟨rfl, rfl⟩

/-! ### Rectangles and commits (17) -/

@[simp] theorem setFrameBuf_keeps (b : Bool) (l : List (Nat × BitVec 4)) (s : State) : Keeps s (setFrameBuf b l s) := by
  unfold setFrameBuf; split <;> simp

@[simp] theorem drawRect_keeps (r : Rect) (s : State) : Keeps s (drawRect r s) := by simp [drawRect]

@[simp] theorem ownerOnly_keeps {f : State → State} {s : State} (h : Keeps s (f s)) (b : Bool) : Keeps s (ownerOnly b f s) := by
  unfold ownerOnly
  split
  · exact ⟨rfl, rfl⟩
  · split
    · exact h
    · exact ⟨rfl, rfl⟩

@[simp] theorem submit_keeps (op : RectOp) (s : State) : Keeps s (submit op s) := by unfold submit; split <;> simp
@[simp] theorem feedAll_keeps (s : State) : Keeps s (feedAll s) := ⟨rfl, rfl⟩
@[simp] theorem pushData_keeps (w : Word) (s : State) : Keeps s (pushData w s) := by unfold pushData; split <;> simp

@[simp] theorem completeCommit_keeps (afterWindow : Bool) (s : State) : Keeps s (completeCommit afterWindow s) := by
  unfold completeCommit; dsimp only; repeat' split
  all_goals simp

@[simp] theorem commitBuf_keeps (buf afterWindow : Bool) (s : State) : Keeps s (commitBuf buf afterWindow s) := by
  unfold commitBuf; dsimp only; repeat' split
  all_goals simp

@[simp] theorem finishRect_keeps (r : Rect) (afterWindow : Bool) (s : State) : Keeps s (finishRect r afterWindow s) := by
  simp [finishRect]

/-! ### Log flash (19) -/

@[simp] theorem setZone_keeps (z : Zone) (x : FlashZone) (s : State) : Keeps s (setZone z x s) := ⟨rfl, rfl⟩
@[simp] theorem dropOldest_keeps (z : Zone) (s : State) : Keeps s (dropOldest z s) := by unfold dropOldest; split <;> simp
@[simp] theorem noteRetired_keeps (z : Zone) (s : State) : Keeps s (noteRetired z s) := by simp [noteRetired]

theorem replacement_keeps {s : State} {r : Nat × State} (h : replacement s = some r) : Keeps s r.2 := by
  unfold replacement at h
  dsimp only at h
  have hgive (z : Zone) (l : Nat) (x : Nat × State) (hx : (if zoneBlocks (zoneOf s.flash z) ≤ l then none
      else (takeLeast (zoneOf s.flash z).free).map fun x => (x.1, setZone z { zoneOf s.flash z with free := x.2 } s)) = some x) :
      Keeps s x.2 := by
    split at hx
    · simp at hx
    · obtain ⟨y, -, rfl⟩ := Option.map_eq_some_iff.mp hx
      simp
  split at h
  · cases h
    exact ⟨rfl, rfl⟩
  · split at h
    · cases h
      exact hgive _ _ _ ‹_›
    · exact hgive _ _ _ h

@[simp] theorem retireNewest_keeps (z : Zone) (s : State) : Keeps s (retireNewest z s) := by
  unfold retireNewest
  split
  · simp
  next r h => simpa using replacement_keeps h

@[simp] theorem retireFree_keeps (z : Zone) (s : State) : Keeps s (retireFree z s) := by
  unfold retireFree
  split
  · simp
  next r h => simpa using replacement_keeps h

@[simp] theorem takePlace_keeps (z : Zone) (s : State) : Keeps s (takePlace z s) := by
  unfold takePlace; dsimp only; repeat' split
  all_goals simp

theorem takeForErase_keeps {z : Zone} {s : State} {r : Nat × State} (h : takeForErase z s = some r) : Keeps s r.2 := by
  unfold takeForErase at h
  dsimp only at h
  split at h
  · cases h
    simp
  · split at h
    · cases h
      simp
    · cases h

@[simp] theorem dropUnmapped_keeps (z : Zone) (gone : List Nat) (s : State) : Keeps s (dropUnmapped z gone s) := by
  unfold dropUnmapped; split <;> simp

@[simp] theorem judgeHeaders_keeps (z : Zone) (s : State) : Keeps s (judgeHeaders z s) := by simp [judgeHeaders]

theorem zoneStart_keeps (s : State) (z : Zone) : Keeps s (zoneStart s z) := by
  unfold zoneStart
  dsimp only
  split
  · split
    · simp
    next r h => simpa using takeForErase_keeps h
  · simp

@[simp] theorem flashStart_keeps (s : State) : Keeps s (flashStart s) := foldl_keeps zoneStart_keeps _ s

/-! ### What a start restores (03, 04, 13, 14) -/

@[simp] theorem loadCfgStat_keeps (s : State) : Keeps s (loadCfgStat s) := ⟨rfl, rfl⟩

theorem checkedSlots_keeps (o : Otp) (l : List Nat) (s : State) :
    Keeps s (l.foldl (fun s n => if slotPasses o n then s else logEvent (.keyFault n) s) s) :=
  foldl_keeps (fun s n => .ite .rfl (by simp)) l s

@[simp] theorem secLoad_keeps (s : State) : Keeps s (secLoad s) := by
  unfold secLoad
  dsimp only
  refine Keeps.trans ?_ (flashStart_keeps _)
  refine Keeps.trans ?_ (checkedSlots_keeps s.otp _ _)
  exact .ite (by simp) (by simp)

@[simp] theorem takeChoice_keeps (c : BitVec 3 × Nat × List Entry) (rewrite : Bool) (s : State) :
    Keeps s (takeChoice c rewrite s) := by
  unfold takeChoice; split <;> simp

@[simp] theorem boundIfSealed_keeps (s : State) : Keeps s (boundIfSealed s) := by unfold boundIfSealed; split <;> simp
@[simp] theorem logChoice_keeps (s0 s : State) : Keeps s (logChoice s0 s) := (logChoice_onlyLog s0 s).keeps
@[simp] theorem restoreFails_keeps (s : State) : Keeps s (restoreFails s) := by simp [restoreFails]
@[simp] theorem restoreProtocol_keeps (s : State) : Keeps s (restoreProtocol s) := (restoreProtocol_onlyAreas s).keeps
@[simp] theorem restoreBilling_keeps (s : State) : Keeps s (restoreBilling s) := (restoreBilling_billing s).keeps
@[simp] theorem restoreNormal_keeps (s : State) : Keeps s (restoreNormal s) := by unfold restoreNormal; split <;> simp
@[simp] theorem restoreLoader_keeps (s : State) : Keeps s (restoreLoader s) := by unfold restoreLoader; split <;> simp

/-! ### The clock (13) -/

@[simp] theorem slewTick_keeps (s : State) : Keeps s (slewTick s) := by
  unfold slewTick; dsimp only; repeat' split
  all_goals simp

@[simp] theorem autoRecover_keeps (s : State) : Keeps s (autoRecover s) := ⟨rfl, rfl⟩

end Sys2Proof.Machine
end

section
/-! The pilot, self-tests, windows, the safety family, switching and the converters (07, 08, 10, 11, 20): the queue and
OTP stand. -/

namespace Sys2Proof.Machine

/-! ### The pilot and proximity (07) -/

@[simp] theorem periodStart_keeps (s : State) : Keeps s (periodStart s) := by
  unfold periodStart; dsimp only; repeat' split
  all_goals simp

@[simp] theorem raisePilotFault_keeps (n : Nat) (s : State) : Keeps s (raisePilotFault n s) := by
  unfold raisePilotFault; dsimp only; repeat' split
  all_goals simp

@[simp] theorem onClassified_keeps (old new : PilotState) (s : State) : Keeps s (onClassified old new s) := by
  unfold onClassified
  dsimp only
  generalize hu : (if new == .a then _ else s : State) = u
  have h : Keeps s u := hu ▸ .ite (.ite .rfl .rfl) .rfl
  generalize hv : (if (new == .b || new == .c || new == .d) && u.ses.phase == .idle then _ else u : State) = v
  have h : Keeps s v := hv ▸ .ite h h
  generalize hw : (if new == .b && v.ses.grant.isNone && old != .b then _ else v : State) = w
  have h : Keeps s w := hw ▸ .ite (h.trans (eventPrompt_keeps 1 v)) h
  have hstop := h.trans (stopSession_keeps 1 w)
  refine .ite (h.trans (raisePilotFault_keeps 1 w)) (.ite (h.trans (raisePilotFault_keeps 2 w)) (.ite h ?_))
  split
  · exact .ite h hstop
  · exact .ite h hstop
  · exact .ite h hstop
  · exact .ite hstop h

@[simp] theorem classify_keeps (x : PilotState) (s : State) : Keeps s (classify x s) := by
  unfold classify; dsimp only; repeat' split
  all_goals simp

@[simp] theorem diodeCheck_keeps (mv : Int) (s : State) : Keeps s (diodeCheck mv s) := by
  unfold diodeCheck; repeat' split
  all_goals simp

@[simp] theorem classifyF_keeps (mv : Int) (s : State) : Keeps s (classifyF mv s) := by
  unfold classifyF; dsimp only; repeat' split
  all_goals simp

@[simp] theorem measure_keeps (positive : Bool) (mv : BitVec 16) (s : State) : Keeps s (measure positive mv s) := by
  unfold measure; repeat' split
  all_goals simp

@[simp] theorem faultHoldEnds_keeps (s : State) : Keeps s (faultHoldEnds s) := by unfold faultHoldEnds; split <;> simp

@[simp] theorem onBand_keeps (old new : Band) (s : State) : Keeps s (onBand old new s) := by
  unfold onBand; dsimp only; repeat' split
  all_goals simp

@[simp] theorem proximity_keeps (code : BitVec 16) (s : State) : Keeps s (proximity code s) := by
  unfold proximity; dsimp only; repeat' split
  all_goals simp

/-! ### Self-test requests (20) -/

@[simp] theorem setOutcome_keeps (code : Byte) (o : BitVec 4) (items : Nat) (s : State) :
    Keeps s (setOutcome code o items s) := by
  unfold setOutcome; split <;> simp

@[simp] theorem testEnds_keeps (k : Nat) (o : BitVec 4) (items : Nat) (s : State) : Keeps s (testEnds k o items s) := by
  unfold testEnds; repeat' split
  all_goals simp

@[simp] theorem beginTest_keeps (code : Byte) (s : State) : Keeps s (beginTest code s) := ⟨rfl, rfl⟩
@[simp] theorem bistRequested_keeps (code : Byte) (s : State) : Keeps s (bistRequested code s) := ⟨rfl, rfl⟩

@[simp] theorem bistFirstReset_keeps (code : Byte) (s : State) : Keeps s (bistFirstReset code s) := by
  unfold bistFirstReset; dsimp only; repeat' split
  all_goals simp

@[simp] theorem bistFinish_keeps (s : State) : Keeps s (bistFinish s) := by simp [bistFinish]

@[simp] theorem bistNext_keeps (s : State) : Keeps s (bistNext s) := by
  unfold bistNext; dsimp only; repeat' split
  all_goals simp

@[simp] theorem scanStops_keeps (s : State) : Keeps s (scanStops s) := ⟨rfl, rfl⟩
@[simp] theorem endStoppedScan_keeps (s : State) : Keeps s (endStoppedScan s) := by unfold endStoppedScan; split <;> simp

/-! ### Window comparators (11) -/

@[simp] theorem setWin_keeps (i : Nat) (w : WinComp) (s : State) : Keeps s (setWin i w s) := ⟨rfl, rfl⟩

@[simp] theorem feedWindow_keeps (signed : Bool) (v : Int) (i : Nat) (s : State) : Keeps s (feedWindow signed v i s) :=
  (feedWindow_onlyWindows signed v i s).keeps

@[simp] theorem feedSource_keeps (g : Bool) (n : Nat) (v : Int) (s : State) : Keeps s (feedSource g n v s) :=
  foldl_keeps (fun s i => .ite (feedWindow_keeps g v i s) .rfl) _ s

@[simp] theorem setLevels_keeps (l : List Nat) (s : State) : Keeps s (setLevels l s) := foldl_keeps (fun s n => by simp) l s
@[simp] theorem ownWindows_keeps (s : State) : Keeps s (ownWindows s) := ⟨rfl, rfl⟩
@[simp] theorem adcConfigure_keeps (s : State) : Keeps s (adcConfigure s) := by simp [adcConfigure]

/-! ### The safety family (10) -/

@[simp] theorem clockWindow_keeps (xtalCycles : Nat) (s : State) : Keeps s (clockWindow xtalCycles s) := by
  unfold clockWindow; dsimp only; repeat' split
  all_goals simp

@[simp] theorem auxWindow_keeps (s : State) : Keeps s (auxWindow s) := by
  unfold auxWindow; dsimp only; repeat' split
  all_goals simp

@[simp] theorem judgeWindow_keeps (xtalCycles : Nat) (s : State) : Keeps s (judgeWindow xtalCycles s) := by simp [judgeWindow]

@[simp] theorem heartbeatLost_keeps (i : Island) (s : State) : Keeps s (heartbeatLost i s) := by
  unfold heartbeatLost; dsimp only; repeat' split
  all_goals simp

@[simp] theorem heartbeat_keeps (i : Island) (advanced : Bool) (s : State) : Keeps s (heartbeat i advanced s) := by
  unfold heartbeat; dsimp only; repeat' split
  all_goals simp

@[simp] theorem noLock_keeps (s : State) : Keeps s (noLock s) := by
  rw [noLock_frame]
  exact ⟨rfl, rfl⟩

@[simp] theorem sealFollow_keeps (s : State) : Keeps s (sealFollow s) := by
  unfold sealFollow; dsimp only; repeat' split
  all_goals simp

@[simp] theorem sealWordAccepted_keeps (pos : Byte) (s : State) : Keeps s (sealWordAccepted pos s) := by
  unfold sealWordAccepted; dsimp only; repeat' split
  all_goals simp

@[simp] theorem sealReport_keeps (c : BitVec 16) (s : State) : Keeps s (sealReport c s) := by
  unfold sealReport; repeat' split
  all_goals simp

@[simp] theorem sealChange_keeps (pos : Byte) (s : State) : Keeps s (sealChange pos s) := by simp [sealChange]

@[simp] theorem validRead_keeps (pos : Byte) (s : State) : Keeps s (validRead pos s) := by
  unfold validRead; dsimp only; repeat' split
  all_goals simp

@[simp] theorem invalidRead_keeps (bad : Byte) (s : State) : Keeps s (invalidRead bad s) := by
  unfold invalidRead; dsimp only; repeat' split
  all_goals simp

@[simp] theorem sealLost_keeps (s : State) : Keeps s (sealLost s) := by unfold sealLost; split <;> simp

@[simp] theorem sealReading_keeps (p1 p2 p3 : Byte) (s : State) : Keeps s (sealReading p1 p2 p3 s) := by
  unfold sealReading; dsimp only; repeat' split
  all_goals simp

@[simp] theorem refChecked_keeps (n : Nat) (conv : Converter) (good : Bool) (s : State) : Keeps s (refChecked n conv good s) := by
  unfold refChecked; dsimp only; repeat' split
  all_goals simp

/-! ### Switching (08) -/

@[simp] theorem turnOn_keeps (g : BitVec 4) (s : State) : Keeps s (turnOn g s) := by unfold turnOn; split <;> simp

@[simp] theorem makeStepTwo_keeps (held : Bool) (s : State) : Keeps s (makeStepTwo held s) := by
  unfold makeStepTwo; split <;> simp

@[simp] theorem beginMake_keeps (s : State) : Keeps s (beginMake s) := by
  unfold beginMake; dsimp only; repeat' split
  all_goals simp

@[simp] theorem firstGate_keeps (s : State) : Keeps s (firstGate s) := by
  rw [firstGate_frame]
  exact ⟨rfl, rfl⟩

@[simp] theorem makeStepFour_keeps (s : State) : Keeps s (makeStepFour s) := by
  unfold makeStepFour; dsimp only; repeat' split
  all_goals simp

@[simp] theorem releaseHeldGates_keeps (s : State) : Keeps s (releaseHeldGates s) := by unfold releaseHeldGates; split <;> simp

@[simp] theorem auxConfirmed_keeps (closed : Bool) (s : State) : Keeps s (auxConfirmed closed s) := by
  unfold auxConfirmed; dsimp only; repeat' split
  all_goals simp

@[simp] theorem phaseGate_keeps (p : Phase3) (s : State) : Keeps s (phaseGate p s) := by
  unfold phaseGate; repeat' split
  all_goals simp

@[simp] theorem makeComplete_keeps (s : State) : Keeps s (makeComplete s) := by unfold makeComplete; split <;> simp

@[simp] theorem readback_keeps (gfb : BitVec 4) (s : State) : Keeps s (readback gfb s) := by
  unfold readback; dsimp only; repeat' split
  all_goals simp

@[simp] theorem senseLost_keeps (s : State) : Keeps s (senseLost s) := by simp [senseLost]

@[simp] theorem economiser_keeps (ma : BitVec 16) (s : State) : Keeps s (economiser ma s) := by
  unfold economiser; dsimp only; repeat' split
  all_goals simp

/-! ### Converters (11) -/

@[simp] theorem resultDropped_keeps (d : Island) (n : Nat) (s : State) : Keeps s (resultDropped d n s) := by
  unfold resultDropped
  split
  · exact ⟨rfl, rfl⟩
  · exact foldl_keeps (fun s _ => dropPosted_keeps d .adc s) _ s

@[simp] theorem pilotLoopback_keeps (good : Bool) (s : State) : Keeps s (pilotLoopback good s) := by
  unfold pilotLoopback; dsimp only; repeat' split
  all_goals simp

@[simp] theorem pilotWindow_keeps (positive good : Bool) (s : State) : Keeps s (pilotWindow positive good s) := by
  unfold pilotWindow; split <;> simp

@[simp] theorem noteClip_keeps (x : TickSamples) (s : State) : Keeps s (noteClip x s) := by
  unfold noteClip; dsimp only; repeat' split
  all_goals simp

@[simp] theorem vrefReading_keeps (code : BitVec 16) (s : State) : Keeps s (vrefReading code s) := by
  unfold vrefReading; dsimp only; repeat' split
  all_goals simp

@[simp] theorem coilWindow_keeps (code : BitVec 16) (s : State) : Keeps s (coilWindow code s) := by
  unfold coilWindow; dsimp only; repeat' split
  all_goals simp

@[simp] theorem setUserList_keeps (k : Bool) (u : UserList) (s : State) : Keeps s (setUserList k u s) := by
  rw [setUserList_frame]
  exact ⟨rfl, rfl⟩

@[simp] theorem triggerList_keeps (k : Bool) (s : State) : Keeps s (triggerList k s) := by simp [triggerList]

@[simp] theorem takeResult_keeps (k : Bool) (e : Nat) (v : BitVec 16) (c : Bool) (s : State) :
    Keeps s (takeResult k e v c s) := by
  simp [takeResult]

@[simp] theorem winCfgWrite_keeps (w v : Nat) (s : State) : Keeps s (winCfgWrite w v s) := ⟨rfl, rfl⟩

@[simp] theorem winBandWrite_keeps (w v : Nat) (s : State) : Keeps s (winBandWrite w v s) := by
  unfold winBandWrite; dsimp only; repeat' split
  all_goals simp

@[simp] theorem windowWrite_keeps (w : Nat) (band : Bool) (v : Word) (s : State) : Keeps s (windowWrite w band v s) := by
  unfold windowWrite; repeat' split
  all_goals simp

@[simp] theorem startCapture_keeps (s : State) : Keeps s (startCapture s) := by
  unfold startCapture; dsimp only; repeat' split
  all_goals simp

@[simp] theorem capCtrlWrite_keeps (v : Nat) (s : State) : Keeps s (capCtrlWrite v s) := by unfold capCtrlWrite; split <;> simp

@[simp] theorem trimsTaken_keeps (conv : Converter) (x : Option Trims) (s : State) : Keeps s (trimsTaken conv x s) := by
  unfold trimsTaken; split <;> simp

@[simp] theorem listsStart_keeps (s : State) : Keeps s (listsStart s) := by
  unfold listsStart; dsimp only; repeat' split
  all_goals simp

end Sys2Proof.Machine
end

section
/-! The object dictionary (05, 06, 21): the queue and OTP stand, whatever is written, but for COMMIT. -/

namespace Sys2Proof.Machine

/-! ### WRITE (05, 06) -/

@[simp] theorem refused_keeps (st : Nat) (s : State) : Keeps s (refused st s).state := ⟨rfl, rfl⟩

@[simp] theorem calWritten_keeps (a : BitVec 16) (before after : Bytes) (s : State) : Keeps s (calWritten a before after s) := by
  unfold calWritten; split <;> simp

@[simp] theorem settingFollow_keeps (a : BitVec 16) (b c : Bytes) (s : State) : Keeps s (settingFollow a b c s) :=
  .ite ⟨rfl, rfl⟩ <| .ite (refreshCode_keeps s) <| .ite (recompute_keeps s) <| .ite (.ite .rfl ⟨rfl, rfl⟩) <|
    .ite (calWritten_keeps a b c s) <| .ite ⟨rfl, rfl⟩ <| .ite ⟨rfl, rfl⟩ <| .ite ⟨rfl, rfl⟩ <| .ite ⟨rfl, rfl⟩ <| .ite ⟨rfl, rfl⟩ .rfl

@[simp] theorem suspendErases_keeps (on : Bool) (s : State) : Keeps s (suspendErases on s) := ⟨rfl, rfl⟩
@[simp] theorem setSuspend_keeps (v : Nat) (s : State) : Keeps s (setSuspend v s) := ⟨rfl, rfl⟩

@[simp] theorem applyRecord_keeps (e : Entry) (s : State) : Keeps s (applyRecord e s) := by
  unfold applyRecord; repeat' split
  all_goals simp

@[simp] theorem applyRecords_keeps (l : List Entry) (s : State) : Keeps s (applyRecords l s) := by
  have h := foldl_keeps (fun s e => applyRecord_keeps e s) l s
  unfold applyRecords
  dsimp only
  split
  · simpa using h
  · exact h

@[simp] theorem respond_keeps (rq : Requester) (op st : Nat) (payload : Bytes) (s : State) : Keeps s (respond rq op st payload s) :=
  (respond_onlyTaken rq op st payload s).keeps

@[simp] theorem endAuth_keeps (s : State) : Keeps s (endAuth s) := ⟨rfl, rfl⟩
@[simp] theorem runLater_keeps (l : Later) (s : State) : Keeps s (runLater l s) := by unfold runLater; split <;> simp

@[simp] theorem answer_keeps (rq : Requester) (op : Nat) (ok : Bytes) (i : Nat) (a : BitVec 16) (r : Reply) :
    Keeps r.state (answer rq op ok i a r) := by
  simp [answer]

/-! ### Action entries and signed writes (05, 06, 13, 14) -/

theorem signedWrite_keeps {s : State} {r : Reply} (h : Keeps s r.state) (c : Nat) (ok : Bool) :
    Keeps s (signedWrite c ok r s).state := by
  unfold signedWrite
  split
  · simp
  · split
    · exact h
    · simp

@[simp] theorem timeSet_keeps (b : Bytes) (s : State) : Keeps s (timeSet b s).state := signedWrite_keeps (by simp) _ _
@[simp] theorem holdGrant_keeps (b : Bytes) (s : State) : Keeps s (holdGrant b s) := by simp [holdGrant]

@[simp] theorem grantWrite_keeps (b : Bytes) (s : State) : Keeps s (grantWrite b s).state := by
  have h : Keeps s (signedWrite 1 (grantOk s b) ⟨stOk, holdGrant b s, .nothing⟩ s).state := signedWrite_keeps (by simp) _ _
  unfold grantWrite
  dsimp only
  generalize signedWrite 1 (grantOk s b) ⟨stOk, holdGrant b s, .nothing⟩ s = r at h ⊢
  simp only [apply_ite Reply.state]
  exact .ite (h.trans (eventPrompt_keeps 2 _)) (.ite (h.trans (eventPrompt_keeps 3 _)) h)

@[simp] theorem grantDiscard_keeps (s : State) : Keeps s (grantDiscard s).state := by simp [grantDiscard]

@[simp] theorem tokenWrite_keeps (b : Bytes) (s : State) : Keeps s (tokenWrite b s).state :=
  signedWrite_keeps (s := s) ⟨rfl, rfl⟩ 2 (tokenOk s b)

@[simp] theorem followAll_keeps (b s : State) : Keeps s (followAll b s) :=
  foldl_keeps (fun s _ => .ite .rfl (settingFollow_keeps _ _ _ s)) _ s

@[simp] theorem configRevert_keeps (s : State) : Keeps s (configRevert s).state := by unfold configRevert; split <;> simp

@[simp] theorem lockFaultClear_keeps (s : State) : Keeps s (lockFaultClear s).state := by
  unfold lockFaultClear; dsimp only; repeat' split
  all_goals simp

@[simp] theorem safeStateRelease_keeps (s : State) : Keeps s (safeStateRelease s).state := by
  unfold safeStateRelease; split <;> simp

@[simp] theorem audioFaultClear_keeps (s : State) : Keeps s (audioFaultClear s).state := ⟨rfl, rfl⟩

@[simp] theorem mirrorNonce_keeps (nonce : Bytes) (s : State) : Keeps s (mirrorNonce nonce s).state := by
  unfold mirrorNonce; split <;> simp

@[simp] theorem selfTestRequest_keeps (code : Byte) (queue : Bool) (s : State) :
    Keeps s (selfTestRequest code queue s).state := by
  unfold selfTestRequest; repeat' split
  all_goals simp

theorem replyKeeps_ite {c : Prop} [Decidable c] {s : State} {q r : Reply} (hq : Keeps s q.state) (hr : Keeps s r.state) :
    Keeps s (if c then q else r).state := by
  split
  · exact hq
  · exact hr

@[simp] theorem actionEffect_keeps (a : BitVec 16) (v : Bytes) (s : State) : Keeps s (actionEffect a v s).state :=
  replyKeeps_ite (configRevert_keeps s) <| replyKeeps_ite (timeSet_keeps v s) <| replyKeeps_ite (stopSession_keeps 4 s) <|
    replyKeeps_ite (lockFaultClear_keeps s) <| replyKeeps_ite (safeStateRelease_keeps s) <| replyKeeps_ite (audioFaultClear_keeps s) <|
    replyKeeps_ite (queuePrompt_keeps _ true s) <| replyKeeps_ite (grantWrite_keeps v s) <| replyKeeps_ite (grantDiscard_keeps s) <|
    replyKeeps_ite (tokenWrite_keeps v s) <| replyKeeps_ite (mirrorNonce_keeps v s) <| replyKeeps_ite ⟨rfl, rfl⟩ <|
    replyKeeps_ite (selfTestRequest_keeps _ _ s) <| replyKeeps_ite .rfl .rfl

@[simp] theorem writeEntry_keeps (rq : Requester) (long : Bool) (a : BitVec 16) (v : Bytes) (s : State) :
    Keeps s (writeEntry rq long a v s).state := by
  unfold writeEntry; dsimp only; repeat' split
  all_goals simp

@[simp] theorem actionRowWrite_keeps (rq : Requester) (a : BitVec 16) (v : Bytes) (s : State) : Keeps s (actionRowWrite rq a v s) :=
  .ite ((writeEntry_keeps rq _ a v s).trans (answer_keeps ..)) .rfl

@[simp] theorem selfTestRow_keeps (rq : Requester) (code : Nat) (queue : Bool) (s : State) :
    Keeps s (selfTestRow rq code queue s) := by
  simp [selfTestRow]

/-! ### Streams (21) -/

@[simp] theorem newStream_keeps (mailbox : Bool) (p : FwPdu) (s : State) : Keeps s (newStream mailbox p s) := ⟨rfl, rfl⟩
@[simp] theorem resumedStream_keeps (mailbox : Bool) (p : FwPdu) (s : State) : Keeps s (resumedStream mailbox p s) := ⟨rfl, rfl⟩
@[simp] theorem streamFails_keeps (e : Byte) (s : State) : Keeps s (streamFails e s) := ⟨rfl, rfl⟩

@[simp] theorem manifestTaken_keeps (e : Byte) (x : Stream) (b : Bytes) (s : State) : Keeps s (manifestTaken e x b s).2 := by
  unfold manifestTaken; dsimp only; repeat' split
  all_goals simp

@[simp] theorem manifestComplete_keeps (x : Stream) (b : Bytes) (s : State) : Keeps s (manifestComplete x b s).2 := by
  simp [manifestComplete]

@[simp] theorem writeImage_keeps (i : Nat) (b : Bytes) (s : State) : Keeps s (writeImage i b s) := ⟨rfl, rfl⟩

@[simp] theorem blockTaken_keeps (bad : Bool) (k : Nat) (x : Stream) (b : Bytes) (s : State) :
    Keeps s (blockTaken bad k x b s).2 := by
  unfold blockTaken; dsimp only; repeat' split
  all_goals simp

@[simp] theorem blockComplete_keeps (k : Nat) (x : Stream) (b : Bytes) (s : State) : Keeps s (blockComplete k x b s).2 := by
  simp [blockComplete]

@[simp] theorem addToStream_keeps (x : Stream) (p : FwPdu) (s : State) : Keeps s (addToStream x p s).2 := by
  unfold addToStream; dsimp only; repeat' split
  all_goals simp

@[simp] theorem streamPdu_keeps (mailbox : Bool) (p : FwPdu) (s : State) : Keeps s (streamPdu mailbox p s).2 := by
  unfold streamPdu; dsimp only; repeat' split
  all_goals simp

@[simp] theorem fwImageBlock_keeps (rq : Requester) (p : FwPdu) (s : State) : Keeps s (fwImageBlock rq p s) := by
  unfold fwImageBlock
  dsimp only
  split
  · exact answer_keeps _ _ _ _ _ _
  · exact (streamPdu_keeps _ p s).trans (answer_keeps _ _ _ _ _ _)

/-! ### The head of the OD queue (04, 05) -/

@[simp] theorem serveHead_keeps {f : Requester → Bytes → State → State} (h : ∀ rq b s, Keeps s (f rq b s)) (op : Nat) (s : State) :
    Keeps s (serveHead op f s) := by
  unfold serveHead; repeat' split
  · exact ⟨rfl, rfl⟩
  · exact ⟨rfl, rfl⟩
  · dsimp only
    split
    · exact ⟨rfl, rfl⟩
    · exact h _ _ _

/-! ### The protocol (05) -/

@[simp] theorem macFails_keeps (s : State) : Keeps s (macFails s) := ⟨rfl, rfl⟩
@[simp] theorem pduReceive_keeps (d : Delivered) (s : State) : Keeps s (pduReceive d s) := (pduReceive_onlyTaken d s).keeps

@[simp] theorem drainWaiting_keeps (s : State) : Keeps s (drainWaiting s) := by
  unfold drainWaiting
  split
  · exact foldl_keeps (fun s d => pduReceive_keeps d s) _ { s with od := { s.od with waiting := [] } }
  · exact ⟨rfl, rfl⟩

@[simp] theorem handRequest_keeps (s : State) : Keeps s (handRequest s) := (handRequest_onlyTaken s).keeps

@[simp] theorem readRequest_keeps (rq : Requester) (b : Bytes) (s : State) : Keeps s (readRequest rq b s) := by
  unfold readRequest; dsimp only; repeat' split
  all_goals simp

@[simp] theorem writeRequest_keeps (rq : Requester) (b : Bytes) (s : State) : Keeps s (writeRequest rq b s) := by
  unfold writeRequest; repeat' split
  all_goals simp

@[simp] theorem dropSnapshot_keeps (mailbox : Bool) (s : State) : Keeps s (dropSnapshot mailbox s) := ⟨rfl, rfl⟩

@[simp] theorem serveSnapshot_keeps (rq : Requester) (q : ReadBlockReq) (v : Bytes) (s : State) :
    Keeps s (serveSnapshot rq q v s) := by
  unfold serveSnapshot; dsimp only; repeat' split
  all_goals simp

@[simp] theorem readBlockRequest_keeps (rq : Requester) (b : Bytes) (s : State) : Keeps s (readBlockRequest rq b s) := by
  unfold readBlockRequest; dsimp only; repeat' split
  all_goals simp

@[simp] theorem putTransfer_keeps (a : BitVec 16) (t : Option Transfer) (s : State) : Keeps s (putTransfer a t s) := ⟨rfl, rfl⟩

@[simp] theorem transferBlock_keeps (rq : Requester) (q : WriteBlockReq) (t : Transfer) (s : State) :
    Keeps s (transferBlock rq q t s) := by
  unfold transferBlock; dsimp only; repeat' split
  all_goals simp

@[simp] theorem writeBlockRequest_keeps (rq : Requester) (b : Bytes) (s : State) : Keeps s (writeBlockRequest rq b s) := by
  unfold writeBlockRequest; dsimp only; repeat' split
  all_goals simp

@[simp] theorem subscribeRequest_keeps (rq : Requester) (b : Bytes) (s : State) : Keeps s (subscribeRequest rq b s) := by
  unfold subscribeRequest; dsimp only; repeat' split
  all_goals simp

@[simp] theorem notifyAll_keeps (m p : Bool) (n : Nat) (l : List Subscription) (s : State) : Keeps s (notifyAll m p n l s) :=
  foldl_keeps (fun s _ => .ite (sendPdu_keeps _ _ _ _ _ _ _ _ s) (notifyNode0_keeps _ _ s)) _ s

@[simp] theorem notifySubs_keeps (mbx : Bool) (addrs : List (BitVec 16)) (s : State) : Keeps s (notifySubs mbx addrs s) := by
  unfold notifySubs; split <;> simp

end Sys2Proof.Machine
end

section
/-! The link, power, the ports, the engines, the display, the earth fault, timers and registers (02, 03, 09, 15 to 19,
22): the queue and OTP stand. -/

namespace Sys2Proof.Machine

/-! ### The link layer (15, 16) -/

@[simp] theorem updateFrame_keeps (f : OutFrame) (s : State) : Keeps s (updateFrame f s) := ⟨rfl, rfl⟩
@[simp] theorem removeFrame_keeps (f : OutFrame) (s : State) : Keeps s (removeFrame f s) := ⟨rfl, rfl⟩
@[simp] theorem pushFrame_keeps (f : OutFrame) (s : State) : Keeps s (pushFrame f s) := ⟨rfl, rfl⟩
@[simp] theorem setDest_keeps (d : DestMode) (s : State) : Keeps s (setDest d s) := ⟨rfl, rfl⟩
@[simp] theorem stepRobust_keeps (n : Byte) (s : State) : Keeps s (stepRobust n s) := ⟨rfl, rfl⟩

@[simp] theorem stepClean_keeps (n : Byte) (s : State) : Keeps s (stepClean n s) := by
  unfold stepClean; dsimp only; repeat' split
  all_goals simp

@[simp] theorem startAccess_keeps (f : OutFrame) (s : State) : Keeps s (startAccess f s) := ⟨rfl, rfl⟩
@[simp] theorem stopAccess_keeps (s : State) : Keeps s (stopAccess s) := ⟨rfl, rfl⟩

@[simp] theorem beginAccess_keeps (s : State) : Keeps s (beginAccess s) := by
  unfold beginAccess; repeat' split
  all_goals simp

@[simp] theorem deferAccess_keeps (s : State) : Keeps s (deferAccess s) := ⟨rfl, rfl⟩
@[simp] theorem holdForSpan_keeps (s : State) : Keeps s (holdForSpan s) := ⟨rfl, rfl⟩

@[simp] theorem putOn_keeps (ps : List Path) (f : OutFrame) (m : LinkMode) (fch : Bytes) (s : State) :
    Keeps s (putOn ps f m fch s) :=
  ⟨rfl, rfl⟩

@[simp] theorem countAttempt_keeps (f : OutFrame) (s : State) : Keeps s (countAttempt f s) := by
  unfold countAttempt; repeat' split
  all_goals simp

@[simp] theorem startFrame_keeps (f : OutFrame) (s : State) : Keeps s (startFrame f s) := by
  unfold startFrame; dsimp only; repeat' split
  all_goals simp

@[simp] theorem placeFrame_keeps (f : OutFrame) (s : State) : Keeps s (placeFrame f s) := ⟨rfl, rfl⟩

@[simp] theorem nextAttempt_keeps (f : OutFrame) (s : State) : Keeps s (nextAttempt f s) := by
  unfold nextAttempt; repeat' split
  all_goals simp

@[simp] theorem frameDelivered_keeps (f : OutFrame) (s : State) : Keeps s (frameDelivered f s) := by
  unfold frameDelivered; split <;> simp

@[simp] theorem clearTx_keeps (s : State) : Keeps s (clearTx s) := ⟨rfl, rfl⟩

@[simp] theorem copyEnds_keeps (f : OutFrame) (s : State) : Keeps s (copyEnds f s) := by
  unfold copyEnds; repeat' split
  all_goals simp

@[simp] theorem copyCut_keeps (s : State) : Keeps s (copyCut s) := by
  rw [copyCut_frame]
  exact ⟨rfl, rfl⟩

@[simp] theorem refuseFrame_keeps (isNotify : Bool) (s : State) : Keeps s (refuseFrame isNotify s) := ⟨rfl, rfl⟩

@[simp] theorem handOver_keeps (h : Handover) (s : State) : Keeps s (handOver h s) := by
  unfold handOver; repeat' split
  all_goals simp

@[simp] theorem takeOut_keeps (payload : Bytes) (s : State) : Keeps s (takeOut payload s) := ⟨rfl, rfl⟩
@[simp] theorem sendAckNow_keeps (a : AckDue) (s : State) : Keeps s (sendAckNow a s) := by unfold sendAckNow; split <;> simp

@[simp] theorem noteConflict_keeps (s : State) : Keeps s (noteConflict s) := by
  unfold noteConflict; dsimp only; repeat' split
  all_goals simp

@[simp] theorem noteHeard_keeps (n : Byte) (p : Path) (s : State) : Keeps s (noteHeard n p s) := ⟨rfl, rfl⟩
@[simp] theorem queueRepeat_keeps (h : Fch) (payload : Bytes) (s : State) : Keeps s (queueRepeat h payload s) := ⟨rfl, rfl⟩

@[simp] theorem dropRepeats_keeps (h : Fch) (s : State) : Keeps s (dropRepeats h s) := by
  unfold dropRepeats; dsimp only; repeat' split
  all_goals simp

@[simp] theorem receiveAck_keeps (p : Path) (h : Fch) (s : State) : Keeps s (receiveAck p h s) := by
  unfold receiveAck; dsimp only; repeat' split
  all_goals simp

@[simp] theorem hearOwnCopy_keeps (h : Fch) (s : State) : Keeps s (hearOwnCopy h s) := by
  unfold hearOwnCopy; dsimp only; repeat' split
  all_goals simp

@[simp] theorem notePair_keeps (h : Fch) (s : State) : Keeps s (notePair h s) := ⟨rfl, rfl⟩

/-! ### Supplies, reset and start-up (03) -/

@[simp] theorem fromNothing_keeps (s : State) : Keeps s (fromNothing s) := ⟨rfl, rfl⟩

@[simp] theorem setRail_keeps (r : Rail) (ok : Bool) (s : State) : Keeps s (setRail r ok s) := by
  unfold setRail; repeat' split
  all_goals simp

@[simp] theorem refreshStageOf_keeps (r : Rail) (s : State) : Keeps s (refreshStageOf r s) := by
  unfold refreshStageOf; repeat' split
  all_goals simp

@[simp] theorem setStage_keeps (n : BitVec 4) (s : State) : Keeps s (setStage n s) := by unfold setStage; split <;> simp
@[simp] theorem loaderNotify_keeps (s : State) : Keeps s (loaderNotify s) := by simp [loaderNotify]
@[simp] theorem rtcXtalSeen_keeps (s : State) : Keeps s (rtcXtalSeen s) := ⟨rfl, rfl⟩

@[simp] theorem atBoot_keeps (i : Island) (s : State) : Keeps s (atBoot i s) := by
  unfold atBoot; dsimp only; repeat' split
  all_goals simp

@[simp] theorem brownDrives_keeps (s : State) : Keeps s (brownDrives s) := (brownDrives_onlyDrives s).keeps

@[simp] theorem brownRecord_keeps (s : State) : Keeps s (brownRecord s) := by
  rw [brownRecord_frame]
  exact ⟨rfl, rfl⟩

@[simp] theorem brownPads_keeps (s : State) : Keeps s (brownPads s) := ⟨rfl, rfl⟩

@[simp] theorem brownOutSequence_keeps (early lasts : Bool) (s : State) : Keeps s (brownOutSequence early lasts s) := by
  unfold brownOutSequence; dsimp only; repeat' split
  all_goals simp

@[simp] theorem bootGoesOn_keeps (s : State) : Keeps s (bootGoesOn s) := by simp [bootGoesOn]

@[simp] theorem brownReleased_keeps (s : State) : Keeps s (brownReleased s) := by
  unfold brownReleased; dsimp only; repeat' split
  all_goals simp

/-! ### The mailbox and island commands (02, 22) -/

@[simp] theorem mailboxError_keeps (s : State) : Keeps s (mailboxError s) := ⟨rfl, rfl⟩

@[simp] theorem mailboxGo_keeps (len : Byte) (s : State) : Keeps s (mailboxGo len s) := by
  unfold mailboxGo; dsimp only; repeat' split
  all_goals simp

@[simp] theorem ackResponse_keeps (s : State) : Keeps s (ackResponse s) := by unfold ackResponse; split <;> simp
@[simp] theorem ackNotify_keeps (s : State) : Keeps s (ackNotify s) := by unfold ackNotify; split <;> simp

@[simp] theorem mbxCtrlWrite_keeps (v : Nat) (s : State) : Keeps s (mbxCtrlWrite v s) := by
  unfold mbxCtrlWrite; repeat' split
  all_goals simp

@[simp] theorem commandRefused_keeps (s : State) : Keeps s (commandRefused s) := ⟨rfl, rfl⟩
@[simp] theorem commandAccepted_keeps (i : Island) (s : State) : Keeps s (commandAccepted i s) := ⟨rfl, rfl⟩
@[simp] theorem reloadDue_keeps (i : Island) (s : State) : Keeps s (reloadDue i s) := ⟨rfl, rfl⟩

@[simp] theorem commandReset_keeps (reload : Bool) (i : Island) (s : State) : Keeps s (commandReset reload i s) := by
  unfold commandReset; dsimp only; repeat' split
  all_goals simp

@[simp] theorem commandDown_keeps (i : Island) (s : State) : Keeps s (commandDown i s) := by
  unfold commandDown; dsimp only; repeat' split
  all_goals simp

@[simp] theorem commandUp_keeps (i : Island) (s : State) : Keeps s (commandUp i s) := by
  unfold commandUp; dsimp only; repeat' split
  all_goals simp

@[simp] theorem islandCommand_keeps (v : Word) (s : State) : Keeps s (islandCommand v s) := by
  unfold islandCommand; dsimp only; repeat' split
  all_goals simp

@[simp] theorem islandReloads_keeps (i : Island) (s : State) : Keeps s (islandReloads i s) := by
  unfold islandReloads; split <;> simp

@[simp] theorem islandReturn_keeps (i : Island) (s : State) : Keeps s (islandReturn i s) := by
  unfold islandReturn; dsimp only; repeat' split
  all_goals simp

/-! ### Received copies (15, 16) -/

@[simp] theorem broadcastTaken_keeps (beacon : Bool) (p : Path) (b : Bytes) (seq : Word) (s : State) :
    Keeps s (broadcastTaken beacon p b seq s).1 := by
  unfold broadcastTaken; dsimp only; repeat' split
  all_goals simp

@[simp] theorem setCurtail_keeps (v : Nat) (s : State) : Keeps s (setCurtail v s) := by unfold setCurtail; split <;> simp

@[simp] theorem beaconTiming_keeps (p : Path) (h : Fch) (t0 : Time) (fch b : Bytes) (s : State) :
    Keeps s (beaconTiming p h t0 fch b s) := by
  unfold beaconTiming; split <;> simp

@[simp] theorem beaconTime_keeps (t0 : Time) (b : Bytes) (s : State) : Keeps s (beaconTime t0 b s) := by
  unfold beaconTime; split <;> simp

@[simp] theorem beaconReceived_keeps (c : Copy) (h : Fch) (start : Time) (s : State) : Keeps s (beaconReceived c h start s) := by
  unfold beaconReceived; dsimp only; repeat' split
  all_goals simp

@[simp] theorem curtailReceived_keeps (c : Copy) (s : State) : Keeps s (curtailReceived c s) := by
  unfold curtailReceived; dsimp only; repeat' split
  all_goals simp

@[simp] theorem deliverCopy_keeps (c : Copy) (h : Fch) (start : Time) (s : State) : Keeps s (deliverCopy c h start s) := by
  unfold deliverCopy; repeat' split
  all_goals simp

@[simp] theorem receiveFrame_keeps (c : Copy) (h : Fch) (start : Time) (s : State) : Keeps s (receiveFrame c h start s) := by
  unfold receiveFrame; dsimp only; repeat' split
  all_goals simp

@[simp] theorem receiveCopy_keeps (c : Copy) (start : Time) (s : State) : Keeps s (receiveCopy c start s) := by
  unfold receiveCopy; dsimp only; repeat' split
  all_goals simp

@[simp] theorem closeWindow_keeps (s : State) : Keeps s (closeWindow s) := by
  unfold closeWindow; dsimp only; repeat' split
  all_goals simp

@[simp] theorem mediumTurnsBusy_keeps (us : Nat) (s : State) : Keeps s (mediumTurnsBusy us s) := ⟨rfl, rfl⟩

/-! ### The background engines (19) -/

@[simp] theorem sweepNext_keeps (s : State) : Keeps s (sweepNext s) := ⟨rfl, rfl⟩

@[simp] theorem scrubWord_keeps (r : ScrubResult) (s : State) : Keeps s (scrubWord r s) := by
  unfold scrubWord; dsimp only; repeat' split
  all_goals simp

@[simp] theorem nextCodeBlock_keeps (s : State) : Keeps s (nextCodeBlock s) := ⟨rfl, rfl⟩

@[simp] theorem codeBlockCheck_keeps (matched : Bool) (s : State) : Keeps s (codeBlockCheck matched s) := by
  unfold codeBlockCheck; repeat' split
  all_goals simp

@[simp] theorem endWearSuspension_keeps (s : State) : Keeps s (endWearSuspension s) := by unfold endWearSuspension; split <;> simp

@[simp] theorem beginErase_keeps (z : Zone) (e : Bool) (s : State) : Keeps s (beginErase z e s) := by
  unfold beginErase
  split
  · exact ⟨rfl, rfl⟩
  next r h =>
    have hr := takeForErase_keeps h
    split
    · exact hr
    · exact hr.trans (retireFree_keeps z r.2)

@[simp] theorem wearCopy_keeps (zone : Zone) (good : Bool) (i : Nat) (s : State) : Keeps s (wearCopy zone good i s) := by
  unfold wearCopy; dsimp only; repeat' split
  all_goals simp

/-! ### The display (17) -/

@[simp] theorem commitAtBlanking_keeps (s : State) : Keeps s (commitAtBlanking s) := by
  unfold commitAtBlanking; dsimp only; repeat' split
  all_goals simp

/-! ### The earth fault (09) -/

@[simp] theorem excitationLost_keeps (s : State) : Keeps s (excitationLost s) := by simp [excitationLost]

@[simp] theorem halfPeriod_keeps (saturated : Bool) (peak : Byte) (s : State) : Keeps s (halfPeriod saturated peak s) := by
  unfold halfPeriod; dsimp only; repeat' split
  all_goals simp

@[simp] theorem gradedTrip_keeps (n : Nat) (s : State) : Keeps s (gradedTrip n s) := by
  unfold gradedTrip; dsimp only; repeat' split
  all_goals simp

@[simp] theorem feedLevel_keeps (v n : Nat) (s : State) : Keeps s (feedLevel v n s) := by
  unfold feedLevel; dsimp only; repeat' split
  all_goals simp

@[simp] theorem noteBaseline_keeps (ac dc : BitVec 16) (s : State) : Keeps s (noteBaseline ac dc s) := ⟨rfl, rfl⟩
@[simp] theorem takeLevels_keeps (s : State) : Keeps s (takeLevels s) := by unfold takeLevels; split <;> simp

@[simp] theorem residual_keeps (ac dc : BitVec 16) (s : State) : Keeps s (residual ac dc s) := by
  simp [residual]

@[simp] theorem windingBegins_keeps (s : State) : Keeps s (windingBegins s) := ⟨rfl, rfl⟩
@[simp] theorem windingEnd_keeps (s : State) : Keeps s (windingEnd s) := by simp [windingEnd]
@[simp] theorem windingFailed_keeps (n : Nat) (s : State) : Keeps s (windingFailed n s) := by simp [windingFailed]
@[simp] theorem windingPassed_keeps (s : State) : Keeps s (windingPassed s) := by simp [windingPassed]

@[simp] theorem windingStepEnd_keeps (fc0 : Bool) (s : State) : Keeps s (windingStepEnd fc0 s) := by
  unfold windingStepEnd; dsimp only; repeat' split
  all_goals simp

/-! ### Timers (18) -/

@[simp] theorem setChan_keeps (n : Nat) (c : Channel) (s : State) : Keeps s (setChan n c s) := ⟨rfl, rfl⟩

@[simp] theorem matchToCapture_keeps (n : Nat) (s : State) : Keeps s (matchToCapture n s) := by
  unfold matchToCapture; repeat' split
  all_goals simp

@[simp] theorem matchRule_keeps (late : Bool) (n : Nat) (s : State) : Keeps s (matchRule late n s) := by
  unfold matchRule; dsimp only; repeat' split
  all_goals simp

@[simp] theorem wrapChannel_keeps (n : Nat) (s : State) : Keeps s (wrapChannel n s) := by simp [wrapChannel]

@[simp] theorem tickChannel_keeps (f n : Nat) (s : State) : Keeps s (tickChannel f n s) := by
  induction f generalizing n s with
  | zero => exact ⟨rfl, rfl⟩
  | succ f ih =>
    rw [tickChannel]
    dsimp only
    repeat' split
    all_goals simp [(ih _ _).1, (ih _ _).2]

@[simp] theorem hostChannel_keeps {f : State → State} {s : State} (h : Keeps s (f s)) (n : Nat) :
    Keeps s (hostChannel n f s) := by
  unfold hostChannel; repeat' split
  · exact ⟨rfl, rfl⟩
  · exact h
  · exact ⟨rfl, rfl⟩

@[simp] theorem topWrite_keeps (n : Nat) (v : Word) (s : State) : Keeps s (topWrite n v s) := ⟨rfl, rfl⟩

@[simp] theorem cmpWrite_keeps (n : Nat) (v : Word) (s : State) : Keeps s (cmpWrite n v s) := by
  unfold cmpWrite; dsimp only; repeat' split
  all_goals simp

@[simp] theorem clrChannel_keeps (n : Nat) (s : State) : Keeps s (clrChannel n s) := by simp [clrChannel]
@[simp] theorem runChannel_keeps (b : Bool) (n : Nat) (s : State) : Keeps s (runChannel b n s) := ⟨rfl, rfl⟩

@[simp] theorem ctrlWrite_keeps (n : Nat) (v : Word) (s : State) : Keeps s (ctrlWrite n v s) := by
  unfold ctrlWrite; split <;> simp

@[simp] theorem cfgWrite_keeps (n : Nat) (v : Word) (s : State) : Keeps s (cfgWrite n v s) := ⟨rfl, rfl⟩

@[simp] theorem captureEdge_keeps (n : Nat) (s : State) : Keeps s (captureEdge n s) := by
  unfold captureEdge; dsimp only; repeat' split
  all_goals simp

@[simp] theorem captClear_keeps (n : Nat) (s : State) : Keeps s (captClear n s) := ⟨rfl, rfl⟩
@[simp] theorem chStatWrite_keeps (n : Nat) (v : Word) (s : State) : Keeps s (chStatWrite n v s) := ⟨rfl, rfl⟩

/-! ### Registers (22) -/

@[simp] theorem regRead_keeps (src : Island) (a : Nat) (s : State) : Keeps s (regRead src a s).2 := by
  unfold regRead; dsimp only; repeat' split
  all_goals simp

@[simp] theorem rstCauseWrite_keeps (v : Nat) (s : State) : Keeps s (rstCauseWrite v s) := ⟨rfl, rfl⟩

@[simp] theorem ulistCtrlWrite_keeps (k : Bool) (v : Nat) (s : State) : Keeps s (ulistCtrlWrite k v s) := by
  unfold ulistCtrlWrite; dsimp only; repeat' split
  all_goals simp

@[simp] theorem ulistEntWrite_keeps (k : Bool) (e v : Nat) (s : State) : Keeps s (ulistEntWrite k e v s) := by
  simp [ulistEntWrite]

@[simp] theorem adcWrite_keeps (o : Nat) (v : Word) (s : State) : Keeps s (adcWrite o v s) := by
  unfold adcWrite; repeat' split
  all_goals simp

@[simp] theorem plcWrite_keeps (o : Nat) (v : Word) (s : State) : Keeps s (plcWrite o v s) := by unfold plcWrite; split <;> simp

@[simp] theorem timingWrite_keeps (v : Nat) (s : State) : Keeps s (timingWrite v s) := by
  unfold timingWrite; dsimp only; repeat' split
  all_goals simp

@[simp] theorem rectSizeWrite_keeps (v : Nat) (s : State) : Keeps s (rectSizeWrite v s) := ⟨rfl, rfl⟩
@[simp] theorem rectDstWrite_keeps (v : Nat) (s : State) : Keeps s (rectDstWrite v s) := ⟨rfl, rfl⟩
@[simp] theorem dispErrWrite_keeps (v : Nat) (s : State) : Keeps s (dispErrWrite v s) := ⟨rfl, rfl⟩
@[simp] theorem commitWritten_keeps (buf : Bool) (s : State) : Keeps s (commitWritten buf s) := by simp [commitWritten]

@[simp] theorem dispWrite_keeps (src : Island) (o : Nat) (v : Word) (s : State) : Keeps s (dispWrite src o v s) := by
  unfold dispWrite; split <;> simp

@[simp] theorem hstIrqWrite_keeps (v : Nat) (s : State) : Keeps s (hstIrqWrite v s) := ⟨rfl, rfl⟩

@[simp] theorem hstWrite_keeps (o : Nat) (v : Word) (s : State) : Keeps s (hstWrite o v s) := by
  unfold hstWrite; repeat' split
  all_goals simp

theorem lossClearOne_keeps (m : BitVec 12) (s : State) (i : Island) : Keeps s (lossClearOne m s i) := .ite ⟨rfl, rfl⟩ .rfl

@[simp] theorem lossClear_keeps (m : BitVec 12) (s : State) : Keeps s (lossClear m s) :=
  foldl_keeps (lossClearOne_keeps m) _ s

@[simp] theorem thkWrite_keeps (o : Nat) (v : Word) (s : State) : Keeps s (thkWrite o v s) := by
  unfold thkWrite; dsimp only; repeat' split
  all_goals simp

@[simp] theorem channelFor_keeps {f : State → State} {s : State} (h : Keeps s (f s)) (i : Island) (n : Nat) :
    Keeps s (channelFor i n f s) := by
  unfold channelFor; repeat' split
  · exact hostChannel_keeps h n
  · exact h
  · exact ⟨rfl, rfl⟩
  · exact ⟨rfl, rfl⟩

@[simp] theorem tmrWrite_keeps (src : Island) (o : Nat) (v : Word) (s : State) : Keeps s (tmrWrite src o v s) := by
  unfold tmrWrite; repeat' split
  all_goals simp

@[simp] theorem regApply_keeps (src : Island) (a : Nat) (v : Word) (s : State) : Keeps s (regApply src a v s) := by
  unfold regApply; dsimp only; repeat' split
  all_goals simp

@[simp] theorem regWrite_keeps (src : Island) (a : Nat) (v : Word) (s : State) : Keeps s (regWrite src a v s) := by
  unfold regWrite; repeat' split
  all_goals simp

end Sys2Proof.Machine
end

section
/-! The fabric, the host port, keys, the lock, metrology and the scan of a BIST run (02, 08, 12, 14, 20, 22): the queue
and OTP stand. -/

namespace Sys2Proof.Machine

/-! ### The fabric (02) -/

@[simp] theorem accept_keeps (f : Flight) (s : State) : Keeps s (accept f s) := ⟨rfl, rfl⟩
@[simp] theorem hold_keeps (f : Flight) (s : State) : Keeps s (hold f s) := ⟨rfl, rfl⟩
@[simp] theorem hostIssue_keeps (f : Flight) (s : State) : Keeps s (hostIssue f s) := (hostIssue_onlyFabric f s).keeps
@[simp] theorem reopenOne_keeps (i : Island) (s : State) : Keeps s (reopenOne i s) := by simp [reopenOne]

@[simp] theorem reopenAll_keeps (s : State) : Keeps s (reopenAll s) :=
  foldl_keeps (fun s i => .ite (reopenOne_keeps i s) .rfl) _ s

@[simp] theorem writeReg_keeps (src : Island) (a : Nat) (v : Word) (s : State) : Keeps s (writeReg src a v s) := by
  unfold writeReg; dsimp only; repeat' split
  all_goals simp

@[simp] theorem noteTurn_keeps (f : Flight) (s : State) : Keeps s (noteTurn f s) := by
  rw [noteTurn_frame]
  exact ⟨rfl, rfl⟩

@[simp] theorem unaccept_keeps (f : Flight) (s : State) : Keeps s (unaccept f s) := (unaccept_onlyFabric f s).keeps
@[simp] theorem noPort_keeps (f : Flight) (s : State) : Keeps s (noPort f s) := by unfold noPort; split <;> simp

@[simp] theorem hostSaw_keeps (dst : BitVec 4) (st : FabricStatus) (s : State) : Keeps s (hostSaw dst st s) := by
  rw [hostSaw_frame]
  exact ⟨rfl, rfl⟩

@[simp] theorem writeFailed_keeps (code addr : Nat) (s : State) : Keeps s (writeFailed code addr s) := by
  rw [writeFailed_frame]
  exact ⟨rfl, rfl⟩

@[simp] theorem deliver_keeps (c : Completion) (s : State) : Keeps s (deliver c s) := by
  obtain ⟨hframe, -⟩ := deliver_frame c s
  rw [hframe]
  exact ⟨rfl, rfl⟩

@[simp] theorem deliverAll_keeps (i : Island) (s : State) : Keeps s (deliverAll i s) :=
  foldl_keeps (fun s c => deliver_keeps c s) _ s

@[simp] theorem applyAt_keeps (i : Island) (f : Flight) (s : State) : Keeps s (applyAt i f s) := by
  unfold applyAt; dsimp only; repeat' split
  all_goals simp

@[simp] theorem portTakes_keeps (f : Flight) (s : State) : Keeps s (portTakes f s) := by
  unfold portTakes; repeat' split
  all_goals simp

@[simp] theorem serve_keeps (f : Flight) (s : State) : Keeps s (serve f s) := by simp [serve]

@[simp] theorem present_keeps (op : FabricOp) (r : Request) (s : State) : Keeps s (present op r s) := by
  unfold present; dsimp only; repeat' split
  all_goals simp

@[simp] theorem acceptFence_keeps (r : Request) (s : State) : Keeps s (acceptFence r s) := by unfold acceptFence; split <;> simp

@[simp] theorem issueFence_keeps (r : Request) (s : State) : Keeps s (issueFence r s) := by
  unfold issueFence; repeat' split
  all_goals simp

@[simp] theorem acceptHeld_keeps (src : Island) (s : State) : Keeps s (acceptHeld src s) := by
  unfold acceptHeld; repeat' split
  all_goals simp

@[simp] theorem serveUntil_keeps (f : Flight) (n : Nat) (s : State) : Keeps s (serveUntil f n s) := by
  induction n generalizing s with
  | zero => exact ⟨rfl, rfl⟩
  | succ n ih =>
    rw [serveUntil]
    repeat' split
    · exact (serve_keeps _ s).trans (ih _)
    · exact ⟨rfl, rfl⟩
    · exact ⟨rfl, rfl⟩

theorem settleRound_keeps (x : List Completion × State) : Keeps x.2 (settleRound x).2 :=
  ((foldl_keeps (fun s f => serveUntil_keeps f _ s) _ x.2).trans (deliverAll_keeps .host _)).trans
    (foldl_keeps (fun s _ => acceptHeld_keeps .host s) _ _)

@[simp] theorem settleHost_keeps (n : Nat) (x : List Completion × State) : Keeps x.2 (settleHost n x).2 := by
  induction n generalizing x with
  | zero => exact ⟨rfl, rfl⟩
  | succ n ih =>
    rw [settleHost]
    split
    · exact ⟨rfl, rfl⟩
    · exact (settleRound_keeps x).trans (ih _)

/-! ### The host port (22) -/

@[simp] theorem frameWrite_keeps (h : FrameHeader) (i : Nat) (w : Word) (s : State) : Keeps s (frameWrite h i w s) := by
  unfold frameWrite; repeat' split
  all_goals simp

@[simp] theorem frameWrites_keeps (h : FrameHeader) (l : List Word) (s : State) : Keeps s (frameWrites h l s) :=
  foldl_keeps (fun s _ => frameWrite_keeps h _ _ s) _ s

@[simp] theorem frameDone_keeps (mode3 : Bool) (s : State) : Keeps s (frameDone mode3 s) := ⟨rfl, rfl⟩

@[simp] theorem issueRead_keeps (h : FrameHeader) (i : Nat) (s : State) : Keeps s (issueRead h i s).2 := by
  unfold issueRead; split <;> simp

@[simp] theorem issueReads_keeps (h : FrameHeader) (l : List Nat) (s : State) : Keeps s (issueReads h l s).2 := by
  induction l generalizing s with
  | nil => exact ⟨rfl, rfl⟩
  | cons i l ih => exact (issueRead_keeps h i s).trans (ih _)

@[simp] theorem readFrame_keeps (h : FrameHeader) (s : State) : Keeps s (readFrame h s).2 := by
  unfold readFrame
  dsimp only
  split <;> simp

@[simp] theorem cutFrame_keeps (read : Bool) (header : Bytes) (words : List Word) (s : State) :
    Keeps s (cutFrame read header words s) := by
  unfold cutFrame; repeat' split
  all_goals simp

@[simp] theorem queueForHost_keeps (isNotify : Bool) (b : Bytes) (s : State) : Keeps s (queueForHost isNotify b s) := by
  unfold queueForHost; dsimp only; repeat' split
  all_goals simp

/-! ### Keys (14) -/

@[simp] theorem runJob_keeps (j : CryptoJob) (s : State) : Keeps s (runJob j s) := by
  unfold runJob; dsimp only; repeat' split
  all_goals simp

@[simp] theorem mirrorSigned_keeps (body : Bytes) (sig : Option Bytes) (s : State) : Keeps s (mirrorSigned body sig s) :=
  ⟨rfl, rfl⟩

@[simp] theorem buildMirror_keeps (nonce : Bytes) (s : State) : Keeps s (buildMirror nonce s) := by simp [buildMirror]

/-! ### Access slots (15) -/

@[simp] theorem drawSlot_keeps (f : OutFrame) (s : State) : Keeps s (drawSlot f s) := by
  unfold drawSlot; dsimp only; repeat' split
  all_goals simp

@[simp] theorem nextWindow_keeps (k : Nat) (f : OutFrame) (s : State) : Keeps s (nextWindow k f s) := by
  unfold nextWindow; split <;> simp

@[simp] theorem windowEnds_keeps (k : Nat) (tone : Bool) (f : OutFrame) (s : State) : Keeps s (windowEnds k tone f s) := by
  unfold windowEnds; repeat' split
  all_goals simp

/-! ### The lock (08) -/

@[simp] theorem beginMove_keeps (toLocked : Bool) (s : State) : Keeps s (beginMove toLocked s) := by
  unfold beginMove; dsimp only; repeat' split
  all_goals simp

@[simp] theorem lockedOpens_keeps (s : State) : Keeps s (lockedOpens s) := by unfold lockedOpens; split <;> simp

@[simp] theorem limitFollows_keeps (isL wasLocked closed : Bool) (s : State) : Keeps s (limitFollows isL wasLocked closed s) := by
  unfold limitFollows; dsimp only; repeat' split
  all_goals simp

@[simp] theorem limitConfirmed_keeps (which : Limit) (closed : Bool) (s : State) : Keeps s (limitConfirmed which closed s) := by
  unfold limitConfirmed; dsimp only; repeat' split
  all_goals simp

@[simp] theorem hallLost_keeps (s : State) : Keeps s (hallLost s) := by
  unfold hallLost; dsimp only; repeat' split
  all_goals simp

/-! ### Metrology (12) -/

@[simp] theorem tableTail_keeps (d : Nat) (s : State) : Keeps s (tableTail d s) := ⟨rfl, rfl⟩

@[simp] theorem recordTail_keeps (s : State) : Keeps s (recordTail s) := by
  unfold recordTail; dsimp only; repeat' split
  all_goals simp

@[simp] theorem sessionEnergy_keeps (e d : Nat) (s : State) : Keeps s (sessionEnergy e d s) := by
  unfold sessionEnergy; dsimp only; repeat' split
  all_goals simp

@[simp] theorem noteReverse_keeps (l : List PhaseResult) (s : State) : Keeps s (noteReverse l s) := by
  unfold noteReverse; split <;> simp

@[simp] theorem judgeGrant_keeps (s : State) : Keeps s (judgeGrant s) := by
  unfold judgeGrant; dsimp only; repeat' split
  all_goals simp

@[simp] theorem nextPeriod_keeps (s : State) : Keeps s (nextPeriod s) := by simp [nextPeriod]
@[simp] theorem periodEnd_keeps (t : BitVec 18) (s : State) : Keeps s (periodEnd t s) := by simp [periodEnd]

@[simp] theorem judgeVoltage_keeps (p : Nat) (h : HalfSum) (s : State) : Keeps s (judgeVoltage p h s) := by
  rw [(judgeVoltage_judged p h s).only]
  exact ⟨rfl, rfl⟩

@[simp] theorem judgeCurrent_keeps (p : Nat) (h : HalfSum) (s : State) : Keeps s (judgeCurrent p h s) := by
  rw [(judgeCurrent_judged p h s).only]
  exact ⟨rfl, rfl⟩

@[simp] theorem clearHalf_keeps (c : Nat) (s : State) : Keeps s (clearHalf c s) := (clearHalf_onlyHalfCycle c s).keeps
@[simp] theorem halfCycle_keeps (p : Nat) (s : State) : Keeps s (halfCycle p s) := by unfold halfCycle; split <;> simp

/-! ### The field port (16) -/

@[simp] theorem countFraming_keeps (s : State) : Keeps s (countFraming s) := ⟨rfl, rfl⟩

/-! ### Running the self-tests (20) -/

@[simp] theorem referenceTest_keeps (items : BitVec 12) (s : State) : Keeps s (referenceTest items s) := by
  unfold referenceTest; dsimp only; repeat' split
  all_goals simp

@[simp] theorem testRan_keeps (k : Nat) (items : BitVec 12) (noLoad : Bool) (s : State) : Keeps s (testRan k items noLoad s) := by
  unfold testRan; dsimp only; repeat' split
  all_goals simp

@[simp] theorem scanBegins_keeps (s : State) : Keeps s (scanBegins s) := ⟨rfl, rfl⟩

@[simp] theorem bistOne_keeps (i : Island) (marchPass : Bool) (signature : Word) (s : State) :
    Keeps s (bistOne i marchPass signature s) := by
  simp [bistOne]

end Sys2Proof.Machine
end

section
/-! The commands, and what a step makes of OTP (O60). -/

namespace Sys2Proof.Machine

/-! ### The commands -/

/-- The command completes, with the queue and OTP as it found them. -/
def EndsKept (s : State) (o : Host.Outcome State Fault Refusal) : Prop := ∃ u, o = done u ∧ Keeps s u

theorem endsKept_done {s u : State} (h : Keeps s u) : EndsKept s (done u) := ⟨u, rfl, h⟩

theorem endsKept_guarded {c : Bool} {f : State → State} {s : State} (h : Keeps s (f s)) : EndsKept s (done (guarded c f s)) :=
  endsKept_done (guarded_keeps h c)

theorem execResetn_keeps (n : Nat) (s : State) : EndsKept s (execResetn n s) := by
  have hfree : Keeps s { s with free := s.free + 1 } := ⟨rfl, rfl⟩
  unfold execResetn
  split
  · exact endsKept_done .rfl
  · split
    · exact endsKept_done (.ite (hfree.trans (heldBackReset_keeps .pin _)) hfree)
    · exact endsKept_done (heldBackReset_keeps .pin s)

theorem execHeldResetRelease_keeps (s : State) : EndsKept s (execHeldResetRelease s) := by
  have hclose := resetClose_keeps { s with pwr := { s.pwr with heldResets := [] } }
  unfold execHeldResetRelease
  split
  · exact endsKept_done .rfl
  next c r _ =>
    dsimp only
    generalize resetClose { s with pwr := { s.pwr with heldResets := [] } } = u at hclose ⊢
    split
    · exact endsKept_done (hclose.trans (bistReset_keeps u))
    · exact endsKept_done (hclose.trans (wholeReset_keeps c u))

theorem execHeldRecordWrite_keeps (s : State) : EndsKept s (execHeldRecordWrite s) := by
  unfold execHeldRecordWrite
  split
  · exact endsKept_done .rfl
  next r l _ => exact endsKept_guarded (appendRecord_keeps r { s with bil := { s.bil with held := l } })

theorem execAccessSlot_keeps (tone : Bool) (s : State) : EndsKept s (execAccessSlot tone s) := by
  unfold execAccessSlot
  split
  · exact endsKept_done (by simp)
  · exact endsKept_done (.ite (by simp) (.ite (by simp) ⟨rfl, rfl⟩))
  · exact endsKept_done .rfl

theorem execBandCWaitEnd_keeps (free : Bool) (s : State) : EndsKept s (execBandCWaitEnd free s) := by
  unfold execBandCWaitEnd
  split
  · exact endsKept_done (.ite (by simp) (by simp))
  · exact endsKept_done .rfl

theorem execQueueAgeDrop_keeps (prio : BitVec 2) (i : Nat) (s : State) : EndsKept s (execQueueAgeDrop prio i s) := by
  unfold execQueueAgeDrop
  split
  · exact endsKept_done .rfl
  next f _ =>
    dsimp only
    generalize hu : removeFrame f _ = u
    have h : Keeps s u := by
      rw [← hu]
      split <;> simp
    exact endsKept_done (Keeps.trans (.ite h (h.trans (stepRobust_keeps f.dst u))) (beginAccess_keeps _))

theorem execResendStart_keeps (idle : Bool) (s : State) : EndsKept s (execResendStart idle s) := by
  unfold execResendStart
  split
  · exact endsKept_done .rfl
  · exact endsKept_guarded (.ite (.ite (by simp) .rfl) (.ite (by simp) (by simp)))

theorem execBeaconRepeat_keeps (s : State) : EndsKept s (execBeaconRepeat s) := by
  unfold execBeaconRepeat
  split
  · exact endsKept_done .rfl
  · exact endsKept_guarded (.ite (by simp) (by simp))

theorem execTelemetryHandover_keeps (s : State) : EndsKept s (execTelemetryHandover s) := by
  unfold execTelemetryHandover
  split
  · exact endsKept_done .rfl
  · refine endsKept_guarded ?_
    dsimp only
    split <;> simp

theorem execBistIsland_keeps (pass : Bool) (sig : Word) (s : State) : EndsKept s (execBistIsland pass sig s) := by
  unfold execBistIsland
  split
  · exact endsKept_done .rfl
  next i _ _ =>
    have h : Keeps s (if s.tst.scanning then s else scanBegins s) := .ite .rfl (scanBegins_keeps s)
    exact endsKept_guarded (h.trans (bistOne_keeps i pass sig _))

theorem execHeldSelfTestStart_keeps (s : State) : EndsKept s (execHeldSelfTestStart s) := by
  unfold execHeldSelfTestStart
  split
  · exact endsKept_done .rfl
  · exact endsKept_guarded (.ite (by simp) (by simp))

theorem execRegisterWrite_keeps (a : BitVec 16) (v : Word) (s : State) : EndsKept s (execRegisterWrite a v s) := by
  unfold execRegisterWrite
  dsimp only
  split
  · exact endsKept_guarded (by simp)
  · exact endsKept_guarded (.ite (by simp) (.ite (by simp) (by simp)))

theorem execEvidenceFlush_keeps (s : State) : EndsKept s (execEvidenceFlush s) :=
  endsKept_guarded (foldl_keeps (fun s b => by simp) s.safe.evidence { s with safe := { s.safe with evidence := [] } })

theorem execXtalStop_keeps (s : State) : EndsKept s (execXtalStop s) := by
  have h := foldl_keeps (fun s i => clockLoss_keeps i s) (allIslands.filter fun i => i != .aon && i != .safe)
    (setSupply (fun p => { p with xtalOk := false }) s)
  exact endsKept_guarded (Keeps.trans (Keeps.trans (by simp) h) (by simp))

theorem execUserListComplete_keeps (k : Bool) (l : List (BitVec 16 × Bool)) (s : State) :
    EndsKept s (execUserListComplete k l s) := by
  have h := foldl_keeps (f := fun s (x : (BitVec 16 × Bool) × Nat) => takeResult k x.2 x.1.1 x.1.2 s)
    (fun s x => takeResult_keeps k x.2 x.1.1 x.1.2 s) (l.take ((userList s k).last.toNat + 1)).zipIdx s
  refine endsKept_guarded ?_
  dsimp only
  generalize List.foldl _ s _ = u at h ⊢
  exact h.trans (setUserList_keeps k _ u)

theorem execCalibrationDone_keeps (conv : Converter) (w : BitVec 16) (x : Option Trims) (s : State) :
    EndsKept s (execCalibrationDone conv w x s) := by
  refine endsKept_guarded ?_
  dsimp only
  repeat' split
  all_goals simp

theorem execListP_keeps (b : Bool) (w : BitVec 16) (n : Nat) (s : State) : EndsKept s (execListP b w n s) := by
  have h (good : Bool) : Keeps s (if isUp s .safe && isUp s .tmr then pilotWindow b good s else s) :=
    .ite (pilotWindow_keeps b good s) .rfl
  exact endsKept_guarded (((h _).trans (resultDropped_keeps .tmr 1 _)).trans (resultDropped_keeps .safe 1 _))

theorem execInterlockRelease_keeps (s : State) : EndsKept s (execInterlockRelease s) := by
  refine endsKept_guarded (Keeps.trans ?_ (releaseHeldGates_keeps _))
  split
  · exact .ite ⟨rfl, rfl⟩ .rfl
  · exact .ite (by simp) .rfl
  · exact .rfl

theorem execListS_keeps (i : BitVec 5) (c : Converter) (w : BitVec 16) (s : State) : EndsKept s (execListS i c w s) :=
  endsKept_guarded (.ite (by simp) <| .ite (by simp) <| .ite (by simp) <| .ite (.ite (by simp) (by simp)) (by simp))

theorem execLogFlashWrite_keeps (z : Zone) (b : Bool) (s : State) : EndsKept s (execLogFlashWrite z b s) :=
  endsKept_guarded (Keeps.trans (t := if b then takePlace z s else retireNewest z (takePlace z s))
    (.ite (by simp) (by simp)) (endWearSuspension_keeps _))

theorem execMediumIdle_keeps (s : State) : EndsKept s (execMediumIdle s) :=
  endsKept_guarded (Keeps.trans (.ite (by simp) (by simp)) (beginAccess_keeps _))

theorem execThermalShutdown_keeps (s : State) : EndsKept s (execThermalShutdown s) :=
  endsKept_guarded (.trans (.ite (by simp) (by simp)) ⟨refreshDriver_pending _, refreshDriver_otp _⟩)

theorem execDisplayCommit_keeps (byHost b w : Bool) (s : State) : EndsKept s (execDisplayCommit byHost b w s) := by
  have h : Keeps s (if byHost || s.disp.pending then s else { s with disp := { s.disp with redrawDue := false } }) :=
    .ite .rfl ⟨rfl, rfl⟩
  exact endsKept_done (ownerOnly_keeps (h.trans (commitBuf_keeps b w _)) _)

/-- Every command but COMMIT completes with the queue and OTP as it found them. -/
theorem exec_endsKept {c : Instr} (hc : c ≠ .commit) (s : State) : EndsKept s (exec c s) := by
  cases c
  case commit => exact absurd rfl hc
  case resetn n => exact execResetn_keeps n s
  case heldResetRelease => exact execHeldResetRelease_keeps s
  case heldRecordWrite => exact execHeldRecordWrite_keeps s
  case accessSlot tone => exact execAccessSlot_keeps tone s
  case bandCWaitEnd free => exact execBandCWaitEnd_keeps free s
  case queueAgeDrop prio i => exact execQueueAgeDrop_keeps prio i s
  case resendStart idle => exact execResendStart_keeps idle s
  case beaconRepeat => exact execBeaconRepeat_keeps s
  case telemetryHandover => exact execTelemetryHandover_keeps s
  case bistIsland pass sig => exact execBistIsland_keeps pass sig s
  case heldSelfTestStart => exact execHeldSelfTestStart_keeps s
  case registerWrite a v => exact execRegisterWrite_keeps a v s
  case evidenceFlush => exact execEvidenceFlush_keeps s
  case xtalStop => exact execXtalStop_keeps s
  case userListComplete k l => exact execUserListComplete_keeps k l s
  case calibrationDone conv w x => exact execCalibrationDone_keeps conv w x s
  case listP b w n => exact execListP_keeps b w n s
  case interlockRelease => exact execInterlockRelease_keeps s
  case listS i conv w => exact execListS_keeps i conv w s
  case logFlashWrite z b => exact execLogFlashWrite_keeps z b s
  case mediumIdle => exact execMediumIdle_keeps s
  case thermalShutdown => exact execThermalShutdown_keeps s
  case displayCommit byHost b w => exact execDisplayCommit_keeps byHost b w s
  -- A condition before the command's effect.
  case brownOut | settingsRestore =>
    dsimp only [exec, execBrownOut, execSettingsRestore]
    repeat' split
    all_goals exact endsKept_done (by simp)
  -- The head of a list that waits, or what may be there or not.
  case ledgerRecordWrite | sendAck | repeatFrame | ackRelay | promptStart | rectangleInFlight | completion | sessionExpiry
      | mirrorStatementReady | cryptoJob | ackWindowEnd | relayedWindowEnd | fieldPortCopy | rectangleFinish | writeRectTimeout
      | wearCopy | bistIslandNotReturned | mailboxResponse | transmitEnd | streamStall | eraseDone =>
    dsimp only [exec, execLedgerRecordWrite, execSendAck, execRepeatFrame, execAckRelay, execPromptStart, execRectangleInFlight,
      execCompletion, execSessionExpiry, execMirrorStatementReady, execCryptoJob, execAckWindowEnd, execRelayedWindowEnd,
      execFieldPortCopy, execRectangleFinish, execWriteRectTimeout, execWearCopy, execBistIslandNotReturned, execMailboxResponse,
      execTransmitEnd, execStreamStall, execEraseDone]
    split <;> exact endsKept_done (by simp)
  -- An effect that has a condition of its own.
  case audShort | make | zeroCrossing | stuckOn | listM | fwImageBlock | startHoldRelease | scrubLate | fastComparatorTrip
      | frameCut | hallSensorAbsent | lockHoming | pumpFault | readBackAbort | readFrame | wakeWindowClose =>
    exact endsKept_guarded (.ite (by simp) (by simp))
  case comparatorTest | hallPulse => exact endsKept_guarded (.ite (by simp) (.ite (by simp) (by simp)))
  case loopbackTestRun => exact endsKept_guarded (.ite (by simp) (.ite (by simp) (.ite (by simp) (by simp))))
  -- An effect alone.
  all_goals exact endsKept_done (by simp)

/-! ### COMMIT, and what a step makes of OTP (R112, R117) -/

/-- Every bit that is set in a copy of a thermometer code of OTP is set after it (R112). -/
def BitsStand {n w : Nat} (a b : Vector (BitVec w) n) : Prop :=
  ∀ k i, (a.toList.getD k 0).getLsbD i = true → (b.toList.getD k 0).getLsbD i = true

/-- From o to p OTP has grown: the blocks are free, BEGUN and DONE keep their bits, and nothing else differs (R112, R117). -/
structure OtpGrows (o p : Otp) : Prop where
  only : p = { o with blocks := p.blocks, begun := p.begun, done := p.done }
  begun : BitsStand o.begun p.begun
  done : BitsStand o.done p.done

theorem BitsStand.rfl {n w : Nat} {a : Vector (BitVec w) n} : BitsStand a a := fun _ _ h => h

theorem getLsbD_setBit_of {w : Nat} {b : BitVec w} {i : Nat} (n : Nat) (h : b.getLsbD i = true) :
    (setBit b n).getLsbD i = true := by
  rw [setBit, BitVec.getLsbD_or, h, Bool.true_or]

/-- A bit burned in every copy leaves those that are set. -/
theorem bitsStand_setBit {n w : Nat} (a : Vector (BitVec w) n) (m : Nat) : BitsStand a (a.map fun b => setBit b m) := by
  intro k i h
  rw [List.getD_eq_getElem?_getD, Vector.toList_map, List.getElem?_map]
  rw [List.getD_eq_getElem?_getD] at h
  cases ha : a.toList[k]? with
  | none => simp [ha] at h
  | some b =>
    rw [ha] at h
    exact getLsbD_setBit_of m h

theorem otpGrows_of_eq {o p : Otp} (h : p = o) : OtpGrows o p := h ▸ ⟨rfl, .rfl, .rfl⟩

/-- COMMIT's acceptance burns a bit of BEGUN (R117). -/
theorem commitBegins_grows (rq : Requester) (s : State) : OtpGrows s.otp (commitBegins rq s).otp :=
  ⟨rfl, bitsStand_setBit s.otp.begun _, .rfl⟩

/-- The end of a COMMIT burns a block, and a bit of DONE with a good read-back (R117, Table 4-6). -/
theorem commitEnds_grows (j : CommitJob) (s : State) : OtpGrows s.otp (commitEnds j s).otp := by
  unfold commitEnds
  split
  · exact otpGrows_of_eq (respond_keeps ..).2
  · split
    · rw [(respond_keeps ..).2]
      exact ⟨rfl, .rfl, bitsStand_setBit s.otp.done _⟩
    · rw [(respond_keeps ..).2, logEvent_otp]
      exact ⟨rfl, .rfl, .rfl⟩

/-- The request at the head is taken from the queue first, which leaves OTP (R144). -/
theorem serveHead_grows {f : Requester → Bytes → State → State} (h : ∀ rq b s, OtpGrows s.otp (f rq b s).otp) (op : Nat) (s : State) :
    OtpGrows s.otp (serveHead op f s).otp := by
  unfold serveHead
  split
  · exact otpGrows_of_eq rfl
  next q r _ =>
    split
    · exact otpGrows_of_eq rfl
    · dsimp only
      split
      · exact otpGrows_of_eq rfl
      · exact h q.requester q.payload { s with od := { s.od with queue := r } }

theorem execCommit_grows (s : State) : ∃ u, execCommit s = done u ∧ OtpGrows s.otp u.otp := by
  unfold execCommit
  split
  next j _ => exact ⟨_, rfl, commitEnds_grows j s⟩
  · refine ⟨_, rfl, serveHead_grows (fun rq _ s => ?_) 4 s⟩
    dsimp only
    split
    · exact commitBegins_grows rq s
    · exact otpGrows_of_eq (respond_keeps ..).2

theorem otp_of_done {u t : State} (h : done u = .next t) : t.otp = u.otp := by
  obtain rfl : settle u = t := by simpa [done_eq] using h
  rfl

/-- A command other than COMMIT leaves OTP as it was. -/
theorem exec_otp_of_notCommit {c : Instr} {s t : State} (hc : c ≠ .commit) (h : exec c s = .next t) :
    t.otp = s.otp := by
  obtain ⟨u, hu, hkeeps⟩ := exec_endsKept hc s
  exact (otp_of_done (hu ▸ h)).trans hkeeps.2

theorem exec_otpGrows {c : Instr} {s t : State} (h : exec c s = .next t) : OtpGrows s.otp t.otp := by
  by_cases hc : c = .commit
  · obtain ⟨u, hu, hgrows⟩ := execCommit_grows s
    subst hc
    rwa [otp_of_done (hu.symm.trans h)]
  · exact otpGrows_of_eq (exec_otp_of_notCommit hc h)

/-- Settles O60: COMMIT burns a block and bits of BEGUN and DONE, no other command writes OTP, and an idle step does
nothing. -/
theorem otpOnlyGrows : Obligations.OtpOnlyGrows := by
  unfold Obligations.OtpOnlyGrows
  intro s t hstep
  change step s = .next t at hstep
  unfold step at hstep
  split at hstep
  · obtain rfl : s = t := by simpa using hstep
    exact ⟨rfl, fun _ _ => id, fun _ _ => id, fun _ => rfl⟩
  next c r hpending =>
    obtain ⟨honly, hbegun, hdone⟩ := exec_otpGrows (s := { s with pending := r }) hstep
    refine ⟨honly, hbegun, hdone, fun hfront => ?_⟩
    have hc : c ≠ .commit := by
      rintro rfl
      simp [hpending] at hfront
    exact exec_otp_of_notCommit (s := { s with pending := r }) hc hstep

end Sys2Proof.Machine
end

section
/-! COMMIT: acceptance, end and read-back (04), and the responses of the object dictionary (05). -/

namespace Sys2Proof.Machine

/-! ### A response (R137, R142) -/

theorem respond_sends (rq : Requester) (op st : Nat) (p : Bytes) (s : State) : Sends { s with od := { s.od with
    lastStatus := BitVec.ofNat 8 st, busyRefusals := if st = stBusy then satInc s.od.busyRefusals else s.od.busyRefusals } }
    (respond rq op st p s) := sendPdu_sends _ _ _ _ _ _ _ _ _

/-- A response writes the dictionary's counters and queues, and what Yew holds. -/
theorem respond_frame (rq : Requester) (op st : Nat) (p : Bytes) (s : State) :
    respond rq op st p s = { s with od := (respond rq op st p s).od, sec := (respond rq op st p s).sec } := by
  obtain ⟨-, h⟩ := respond_sends rq op st p s
  exact h.trans (by rw [h])

theorem respond_lastStatus (rq : Requester) (op st : Nat) (p : Bytes) (s : State) :
    (respond rq op st p s).od.lastStatus = BitVec.ofNat 8 st := (respond_sends rq op st p s).1

theorem sendPdu_queue (p : Path) (prio : BitVec 2) (note : Bool) (op : Nat) (k : KeySel) (st : Nat) (xid : BitVec 16) (b : Bytes)
    (s : State) : (sendPdu p prio note op k st xid b s).od.queue = s.od.queue := by
  have huse (k : KeySel) (u : State) : (useSeq k u).od.queue = u.od.queue := by cases k <;> rfl
  have hload (c : YewCtx) (key : Bytes) (n : Nat) (u : State) : (loadYew c key n u).od = u.od := by
    unfold loadYew
    split <;> rfl
  unfold sendPdu
  dsimp only
  generalize pduBody _ _ _ _ _ _ _ _ = body
  split
  · split
    · exact huse _ s
    · rfl
  · rfl
  · split
    · rfl
    · exact (huse _ _).trans (congrArg Od.queue (hload ..))

/-- A response leaves the requests that wait. -/
theorem respond_queue (rq : Requester) (op st : Nat) (p : Bytes) (s : State) : (respond rq op st p s).od.queue = s.od.queue :=
  sendPdu_queue _ _ _ _ _ _ _ _ _

/-! ### COMMIT at the head of the OD queue (R116, R117, R144) -/

/-- A request that may be executed is taken from the queue and executed (R144). -/
theorem serveHead_of_atHead {op : Nat} {q : QueuedPdu} {r : List QueuedPdu} {s : State} (h : AtHead op q r s)
    (f : Requester → Bytes → State → State) :
    serveHead op f s = f q.requester q.payload { s with od := { s.od with queue := r } } := by
  obtain ⟨hqueue, hop, hserved, hstale⟩ := h
  have hhead : headOf op s = some (q, r) := by rw [headOf, hqueue]; exact if_pos hop
  have hfresh : stale { s with od := { s.od with queue := r } } q = false := hstale
  simp only [serveHead, hhead, hserved, hfresh]
  rfl

/-- While the object dictionary is served no COMMIT is under way (R144). -/
theorem commit_none_of_served {s : State} (h : odServed s = true) : s.set.commit = none := by
  simp only [odServed, Bool.and_eq_true, Option.isNone_iff_eq_none] at h
  obtain ⟨⟨-, hnone⟩, -⟩ := h
  exact hnone

/-- COMMIT at the head of the queue: its acceptance, or its refusal. -/
theorem exec_commit_of_atHead {q : QueuedPdu} {r : List QueuedPdu} {s : State} (h : AtHead 4 q r s) : exec .commit s = .next (settle
    (if commitStatus q.requester s = stOk then commitBegins q.requester { s with od := { s.od with queue := r } }
      else respond q.requester 4 (commitStatus q.requester s) (refusal 0xFF 0) { s with od := { s.od with queue := r } })) := by
  obtain ⟨-, -, hserved, -⟩ := id h
  have hnone := commit_none_of_served hserved
  change execCommit s = _
  simp only [execCommit, hnone]
  rw [done_eq, serveHead_of_atHead h]
  rfl

theorem commitEnds_absent (j : CommitJob) {s : State} (hsec : isUp s .sec = false) : commitEnds j s = respond j.requester 4 stAbsent
    (refusal 0xFF 0) { s with set := { s.set with commit := none }, cfg := { s.cfg with busy := false } } := by
  rw [commitEnds, hsec]
  rfl

theorem commitEnds_good (j : CommitJob) {s : State} (hsec : isUp s .sec = true) (hgood : s.set.otpFaults = 0) :
    commitEnds j s = respond j.requester 4 stOk [j.gen] (commitDone j (burnBlock j true s)) := by
  rw [commitEnds, hsec, if_neg (by decide), if_pos hgood]

theorem commitEnds_bad (j : CommitJob) {s : State} (hsec : isUp s .sec = true) (hbad : s.set.otpFaults ≠ 0) :
    commitEnds j s = respond j.requester 4 stHardware (refusal 0xFF 0) (logEvent (.persistence 6) (burnBlock j false s)) := by
  rw [commitEnds, hsec, if_neg (by decide), if_neg hbad]

/-- The COMMIT under way ends with its response (R117). -/
theorem exec_commit_ends {j : CommitJob} {st : Nat} {p : Bytes} {s u : State} (hjob : s.set.commit = some j)
    (hends : commitEnds j s = respond j.requester 4 st p u) : ∃ (o : Od) (c : Sec), o.lastStatus = BitVec.ofNat 8 st
      ∧ exec .commit s = .next (settle { u with od := o, sec := c }) := by
  refine ⟨_, (respond j.requester 4 st p u).sec, respond_lastStatus j.requester 4 st p u, ?_⟩
  change execCommit s = _
  simp only [execCommit, hjob]
  rw [← respond_frame, ← hends]
  rfl

/-- With a good read-back the settings are those of the generation burned (R117). -/
theorem commitDone_set (j : CommitJob) {s : State} (hgood : s.set.otpFaults = 0) : (commitDone j (burnBlock j true s)).set
    = { s.set with commit := none, generation := j.gen, dirty := computeDirty (commitDone j (burnBlock j true s)) } := by
  have hfaults : s.set.otpFaults - 1 = s.set.otpFaults := by omega
  change { s.set with
    commit := none, otpFaults := s.set.otpFaults - 1, generation := j.gen
    dirty := computeDirty (commitDone j (burnBlock j true s)) } = _
  rw [hfaults]

/-- Settles O40: COMMIT at the head of the queue by its status, and its end by SEC and by the read-back. -/
theorem commitBurnsAGeneration : Obligations.CommitBurnsAGeneration := by
  unfold Obligations.CommitBurnsAGeneration
  intro s
  refine ⟨fun q r hhead hok => ?accepted, fun q r hhead hrefused => ?refused, fun j hjob hsec hgood => ?good,
    fun j hjob hsec hbad => ?bad, fun j hjob hsec => ?absent⟩
  case accepted =>
    rw [exec_commit_of_atHead hhead, if_pos hok]
    rfl
  case refused =>
    rw [exec_commit_of_atHead hhead, if_neg hrefused]
    refine ⟨_, rfl, respond_queue .., respond_lastStatus .., ?_⟩
    rw [respond_frame]
    rfl
  case good =>
    obtain ⟨o, c, hstatus, hexec⟩ := exec_commit_ends hjob (commitEnds_good j hsec hgood)
    exact ⟨_, hexec, hstatus, commitDone_set j hgood, rfl, rfl, rfl, rfl, rfl, rfl, rfl⟩
  case bad =>
    obtain ⟨o, c, hstatus, hexec⟩ := exec_commit_ends hjob (commitEnds_bad j hsec hbad)
    rw [logEvent_frame] at hexec
    exact ⟨_, hexec, hstatus, rfl, rfl⟩
  case absent =>
    obtain ⟨o, c, hstatus, hexec⟩ := exec_commit_ends hjob (commitEnds_absent j hsec)
    exact ⟨_, hexec, hstatus, rfl⟩

end Sys2Proof.Machine
end

section
/-! Device actions and the Coppice settings (04, 06, 19, 21). -/

namespace Sys2Proof.Machine

variable {rq : Requester} {a : BitVec 16} {v : Bytes} {s u : State}

/-! ### Rows that write one entry (R132, R145) -/

/-- A write whose entry is not long is answered over the state that its reply brings, and what comes later follows. -/
theorem actionRowWrite_of_reply {l : Later} (hserved : odServed s = true) (hlong : (odRow? a).map OdRow.long = some false)
    (hwrite : writeEntry rq false a v s = ⟨stOk, u, l⟩) : actionRowWrite rq a v s = runLater l (respond rq 1 stOk [] u) := by
  obtain ⟨r, hrow, hshort⟩ := Option.map_eq_some_iff.mp hlong
  simp only [actionRowWrite, hrow, hserved, hshort, if_true, Bool.false_eq_true, if_false]
  rw [hwrite]
  rfl

/-- An action that asks for a reset is answered OK, and the reset waits (R124, R170, R521). -/
theorem reset_answered {c : ResetCause} (h : Accepted rq false a v s) (hact : isAction a = true)
    (hlong : (odRow? a).map OdRow.long = some false) (heff : actionEffect a v s = ⟨stOk, u, .reset c⟩) :
    ∃ (o : Od) (x : Sec), o.lastStatus = 0 ∧ done (actionRowWrite rq a v s) = .next (settle { u with
      od := o, sec := x, pwr := { u.pwr with heldResets := u.pwr.heldResets ++ [c] } }) := by
  refine ⟨_, (respond rq 1 stOk [] u).sec, respond_lastStatus rq 1 stOk [] u, ?_⟩
  rw [done_eq, actionRowWrite_of_reply h.1 hlong ((writeEntry_of_accepted h hact).trans heff), runLater, respond_frame]
  rfl

/-- A write of an entry that is no action is applied, and answered OK (R120, R145). -/
theorem record_answered (h : Accepted rq false a v s) (hact : isAction a = false) (hlong : (odRow? a).map OdRow.long = some false)
    (happly : applyRecords [⟨a, v⟩] s = u) : ∃ (o : Od) (x : Sec), o.lastStatus = 0
      ∧ done (actionRowWrite rq a v s) = .next (settle { u with od := o, sec := x }) := by
  obtain ⟨hserved, hcheck, -⟩ := h
  have hwrite : writeEntry rq false a v s = ⟨stOk, u, .nothing⟩ := by
    rw [writeEntry, hcheck, hact, ← happly]
    rfl
  refine ⟨_, (respond rq 1 stOk [] u).sec, respond_lastStatus rq 1 stOk [] u, ?_⟩
  rw [done_eq, actionRowWrite_of_reply hserved hlong hwrite, runLater, ← respond_frame]

/-! ### ConfigRevert (R122, R124) -/

/-- From s to t the settings and AON_BOOT stand. -/
structure SettingsStand (s t : State) : Prop where
  set : t.set = s.set
  boot : t.boot = s.boot

theorem SettingsStand.rfl {s : State} : SettingsStand s s := ⟨Eq.refl _, Eq.refl _⟩

theorem SettingsStand.trans {s t u : State} (h : SettingsStand s t) (h' : SettingsStand t u) : SettingsStand s u :=
  ⟨h'.set.trans h.set, h'.boot.trans h.boot⟩

theorem SettingsStand.ite {c : Prop} [Decidable c] {s t u : State} (ht : SettingsStand s t) (hu : SettingsStand s u) :
    SettingsStand s (if c then t else u) := by
  split
  · exact ht
  · exact hu

theorem recompute_settingsStand (s : State) : SettingsStand s (recompute s) := by
  rw [recompute_onlySwitching s]
  exact ⟨rfl, rfl⟩

theorem calWritten_settingsStand (a : BitVec 16) (x y : Bytes) (s : State) : SettingsStand s (calWritten a x y s) := by
  unfold calWritten
  dsimp only
  rw [logEvent_frame]
  exact .ite ⟨rfl, rfl⟩ ⟨rfl, rfl⟩

/-- What follows a setting writes other blocks (R120). -/
theorem settingFollow_settingsStand (a : BitVec 16) (x y : Bytes) (s : State) : SettingsStand s (settingFollow a x y s) :=
  .ite ⟨rfl, rfl⟩ <| .ite ⟨rfl, rfl⟩ <| .ite (recompute_settingsStand s) <| .ite (.ite .rfl ⟨rfl, rfl⟩) <|
    .ite (calWritten_settingsStand a x y s) <| .ite ⟨rfl, rfl⟩ <| .ite ⟨rfl, rfl⟩ <| .ite ⟨rfl, rfl⟩ <|
    .ite ⟨rfl, rfl⟩ <| .ite ⟨rfl, rfl⟩ .rfl

theorem followAll_settingsStand (before s : State) : SettingsStand s (followAll before s) :=
  List.foldlRecOn (motive := SettingsStand s) _ _ .rfl fun t ht _ _ => ht.trans (.ite .rfl (settingFollow_settingsStand _ _ _ t))

/-- ConfigRevert takes the generation of its choice, and OTP stands (R124). -/
theorem configRevert_chosen {c : BitVec 3 × Nat × List Entry} (h : chooseSource false s = some c) : ∃ t,
    configRevert s = ⟨stOk, t, .nothing⟩ ∧ t.set.generation = BitVec.ofNat 8 c.2.1 ∧ t.boot.source = c.1 ∧ t.otp = s.otp := by
  obtain ⟨-, hboot, hgeneration⟩ := boundIfSealed_stands (takeChoice c true s)
  have hfollow := followAll_settingsStand s (boundIfSealed (takeChoice c true s))
  have hrevert : configRevert s = ⟨stOk, followAll s (boundIfSealed (takeChoice c true s)), .nothing⟩ := by
    rw [configRevert, h]
  obtain ⟨-, hotp⟩ := configRevert_keeps s
  refine ⟨_, hrevert, ?_, ?_, by rwa [hrevert] at hotp⟩
  · rw [hfollow.set, hgeneration]
    rfl
  · rw [hfollow.boot, hboot]
    rfl

/-! ### The Coppice settings (R482, R484) -/

/-- The erasures under way stand suspended or go on, whatever stood before (R482). -/
theorem suspended_setSuspend (n : Nat) (s : State) (z : Zone) :
    (zoneOf (setSuspend n s).flash z).suspended = (n.testBit 2 && (zoneOf s.flash z).erasing.isSome) := by
  cases z <;> rfl

theorem setSuspend_frame (n : Nat) (s : State) :
    setSuspend n s = { s with bgd := { s.bgd with suspended := BitVec.ofNat 4 n }, flash := (setSuspend n s).flash } := rfl

/-- What a write of CoppiceEnable makes of the settings and the engines, before the copies are written (R120, R484). -/
def enginesEnabled (v : Byte) (s : State) : State := { s with
  set := { s.set with running := putEntry s.set.running ⟨od 0x22 0, [v]⟩, dirty := true }
  bgd := { s.bgd with enabled := v.setWidth 4 } }

theorem settingFollow_coppiceEnable (x y : Bytes) (s : State) :
    settingFollow (od 0x22 0) x y s = { s with bgd := { s.bgd with enabled := BitVec.ofNat 4 (ofLe y) } } := rfl

/-- CoppiceEnable is of the OTP class: both copies follow its write (R120). -/
theorem applyRecords_coppiceEnable (v : Byte) (s : State) :
    applyRecords [⟨od 0x22 0, [v]⟩] s = writeCopies (enginesEnabled v s) := by
  have hsetting : (odRow? (od 0x22 0)).map isSetting = some true := rfl
  have hotp : (otpRows.any fun r => r.addr == od 0x22 0) = true := rfl
  obtain ⟨r, hrow, hset⟩ := Option.map_eq_some_iff.mp hsetting
  have happly : applyRecord ⟨od 0x22 0, [v]⟩ s = enginesEnabled v s := by
    simp only [applyRecord, hrow, hset, if_true, settingFollow_coppiceEnable]
    rfl
  simp only [applyRecords, List.foldl, happly, List.any, hotp]
  rfl

/-- Settles O34: each row by its reply. -/
theorem deviceActions : Obligations.DeviceActions := by
  unfold Obligations.DeviceActions
  intro s rq v
  refine ⟨fun h => ?restart, fun h => ?activate, fun c h hchoice => ?revert, fun h => ?suspend, fun h => ?enable⟩
  case restart =>
    obtain ⟨o, x, hok, hexec⟩ := reset_answered h rfl rfl (u := s) rfl
    exact ⟨_, hexec, hok, rfl, rfl⟩
  case activate =>
    obtain ⟨o, x, hok, hexec⟩ := reset_answered h rfl rfl (u := { s with fw := { s.fw with phase := 6 } }) rfl
    exact ⟨_, hexec, hok, rfl, rfl, rfl⟩
  case revert =>
    obtain ⟨t, hrevert, hgeneration, hsource, hotp⟩ := configRevert_chosen hchoice
    obtain ⟨o, c, y, n, hok, hexec⟩ := action_answered h rfl rfl hrevert (.inl rfl)
    exact ⟨_, hexec, hok, hgeneration, hsource, hotp⟩
  case suspend =>
    obtain ⟨o, x, hok, hexec⟩ := record_answered h rfl rfl (u := setSuspend v.toNat s) rfl
    refine ⟨_, hexec, hok, rfl, suspended_setSuspend v.toNat s, rfl, ?_⟩
    rw [setSuspend_frame]
    rfl
  case enable =>
    obtain ⟨o, x, hok, hexec⟩ := record_answered h rfl rfl (applyRecords_coppiceEnable v s)
    exact ⟨_, hexec, hok, rfl, rfl, rfl⟩

end Sys2Proof.Machine
end

section
/-! The requests of the OD queue, notifications, and the ends of sessions, transfers, snapshots and subscriptions (05). -/

namespace Sys2Proof.Machine

/-! ### What a PDU that leaves writes in the dictionary (R137, R142) -/

/-- From s to t PDUs may have left: what Sends allows, and of the dictionary the PDUs that wait for their carrier and the
sequence numbers alone. -/
structure OnlySends (s t : State) : Prop where
  sends : Sends s t
  od : t.od = { s.od with
    out := t.od.out, txSeq := t.od.txSeq, markTx := t.od.markTx, txSession := t.od.txSession, txPlain := t.od.txPlain }

theorem OnlySends.rfl {s : State} : OnlySends s s := ⟨.rfl, Eq.refl _⟩

theorem OnlySends.trans {s t u : State} (h : OnlySends s t) (h' : OnlySends t u) : OnlySends s u :=
  ⟨h.sends.trans h'.sends, by rw [h'.od, h.od]⟩

theorem loadYew_onlySends (c : YewCtx) (key : Bytes) (n : Nat) (s : State) : OnlySends s (loadYew c key n s) := by
  refine ⟨loadYew_sends c key n s, ?_⟩
  unfold loadYew
  split <;> rfl

theorem useSeq_onlySends (k : KeySel) (s : State) : OnlySends s (useSeq k s) := by
  refine ⟨useSeq_sends k s, ?_⟩
  cases k <;> rfl

theorem sendPdu_onlySends (p : Path) (prio : BitVec 2) (note : Bool) (op : Nat) (k : KeySel) (st : Nat) (xid : BitVec 16) (b : Bytes)
    (s : State) : OnlySends s (sendPdu p prio note op k st xid b s) := by
  have hout (u : State) (l : List Outgoing) : OnlySends u { u with od := { u.od with out := l } } := ⟨⟨rfl, rfl⟩, rfl⟩
  unfold sendPdu
  dsimp only
  generalize pduBody _ _ _ _ _ _ _ _ = body
  split
  · split
    · exact (useSeq_onlySends _ s).trans (hout _ _)
    · exact .rfl
  · exact .rfl
  · split
    · exact .rfl
    · exact ((loadYew_onlySends _ _ _ s).trans (useSeq_onlySends _ _)).trans (hout _ _)

/-- Without a key a PDU leaves on the mailbox as it stands (R138). -/
theorem sendPdu_mailbox_plain (prio : BitVec 2) (note : Bool) (op st : Nat) (xid : BitVec 16) (b : Bytes) (s : State) :
    (sendPdu .mailbox prio note op .none st xid b s).od.out
      = s.od.out ++ [⟨.mailbox, prio, note, pduBody op (!note) .none st xid s.od.txPlain 0 b⟩] := rfl

/-- A response leaves the dictionary's tables: queue, session, subscriptions, transfers and snapshots. -/
theorem respond_od (rq : Requester) (op st : Nat) (p : Bytes) (s : State) : (respond rq op st p s).od = { s.od with
    lastStatus := BitVec.ofNat 8 st, busyRefusals := if st = stBusy then satInc s.od.busyRefusals else s.od.busyRefusals
    out := (respond rq op st p s).od.out, txSeq := (respond rq op st p s).od.txSeq, markTx := (respond rq op st p s).od.markTx
    txSession := (respond rq op st p s).od.txSession, txPlain := (respond rq op st p s).od.txPlain } :=
  (sendPdu_onlySends _ _ _ _ _ _ _ _ _).od

/-- A plain mailbox request is answered plain on the mailbox (R137, R138). -/
theorem respond_out_of_plainMailbox {rq : Requester} (hpath : rq.path = .mailbox) (hkey : rq.keysel = .none) (op st : Nat) (p : Bytes)
    (s : State) : (respond rq op st p s).od.out
      = s.od.out ++ [⟨.mailbox, rq.prio, false, pduBody op true .none st rq.xid s.od.txPlain 0 p⟩] := by
  unfold respond
  rw [hpath, hkey]
  exact sendPdu_mailbox_plain ..

variable {q : QueuedPdu} {r : List QueuedPdu} {rq : Requester} {a : BitVec 16} {v p : Bytes} {m : Bool} {s u : State}

/-- The request at the head of the queue, whose meaning answers it over u, ends with that response (R144). -/
theorem serveHead_of_response {op op' st : Nat} {f : Requester → Bytes → State → State} (h : AtHead op q r s)
    (hf : f q.requester q.payload { s with od := { s.od with queue := r } } = respond q.requester op' st p u) :
    done (serveHead op f s) = .next (settle (respond q.requester op' st p u)) := by
  rw [done_eq, serveHead_of_atHead h, hf]

/-! ### Ends of sessions, transfers, snapshots and subscriptions (R139, R150 to R152, R354) -/

theorem exec_sessionExpiry_of_session {x : AuthSession} (h : s.od.session = some x) :
    exec .sessionExpiry s = .next (settle (guarded (sessionExpired s x) endAuth s)) := by
  change execSessionExpiry s = _
  simp only [execSessionExpiry, h, done_eq]

theorem exec_sessionExpiry_of_none (h : s.od.session = none) : exec .sessionExpiry s = .next (settle s) := by
  change execSessionExpiry s = _
  simp only [execSessionExpiry, h, done_eq]

theorem exec_sessionInactivityEnd (s : State) :
    exec .sessionInactivityEnd s = .next (settle (guarded s.od.session.isSome endAuth s)) := rfl

/-- The key of a session that ends leaves Yew (R139). -/
theorem endAuth_yew (h : s.sec.ctx = .session) : (endAuth s).sec.ctx = .none ∧ (endAuth s).sec.yew = [] := by
  simp [endAuth, h]

/-- Settles O36: a session that ends by inactivity or by its time, and the filters of the three tables. -/
theorem odTimeouts : Obligations.OdTimeouts := by
  unfold Obligations.OdTimeouts
  intro s
  refine ⟨fun hsome => ?inactive, fun hnone => ?noSession, fun a hsession => ⟨fun hover => ?expired, fun hrunning => ?running⟩,
    fun a => rfl, fun m => rfl, fun m a => rfl⟩
  case inactive =>
    rw [exec_sessionInactivityEnd, hsome]
    exact ⟨_, rfl, rfl, endAuth_yew, rfl⟩
  case noSession =>
    refine ⟨?_, exec_sessionExpiry_of_none hnone⟩
    rw [exec_sessionInactivityEnd, hnone]
    rfl
  case expired =>
    rw [exec_sessionExpiry_of_session hsession, hover]
    exact ⟨_, rfl, rfl, rfl⟩
  case running => rw [exec_sessionExpiry_of_session hsession, hrunning, guarded_false]

/-! ### READ (R148) -/

/-- The result records of a READ, in request order. -/
def readResults (l : List (BitVec 16)) (s : State) : Bytes := l.flatMap fun a => resultRecord a (odRead false s a).1 (odRead false s a).2

theorem readRequest_of_fits {l : List (BitVec 16)} (hparse : parseAddrs p = some l) (hfits : (readResults l s).length ≤ 220) :
    readRequest rq p s = respond rq 0 stOk (readResults l s) s := by
  rw [readRequest, hparse]
  exact if_pos hfits

/-! ### WRITE of several records (R145, R146) -/

/-- The running settings once a record has been applied (R120): one that is no setting leaves them. -/
def settingPut (l : List Entry) (e : Entry) : List Entry := if (odRow? e.addr).any isSetting then putEntry l e else l

/-- Of the settings, from s to t the running ones are l, and the generation stands. -/
structure RunningIs (l : List Entry) (s t : State) : Prop where
  running : t.set.running = l
  generation : t.set.generation = s.set.generation

theorem applyRecord_runningIs (e : Entry) (s : State) : RunningIs (settingPut s.set.running e) s (applyRecord e s) := by
  unfold applyRecord settingPut
  cases odRow? e.addr with
  | none => exact ⟨rfl, rfl⟩
  | some row =>
    cases hsetting : isSetting row with
    | true =>
      simp only [Option.any_some, hsetting, if_true]
      constructor <;> rw [(settingFollow_settingsStand ..).set]
    | false =>
      simp only [Option.any_some, hsetting, Bool.false_eq_true, if_false]
      repeat' split
      all_goals exact ⟨rfl, rfl⟩

theorem foldl_applyRecord_runningIs (l : List Entry) (s : State) :
    RunningIs (l.foldl settingPut s.set.running) s (l.foldl (fun s e => applyRecord e s) s) := by
  induction l generalizing s with
  | nil => exact ⟨rfl, rfl⟩
  | cons e l ih =>
    have hhead := applyRecord_runningIs e s
    have htail := ih (applyRecord e s)
    rw [hhead.running] at htail
    exact ⟨htail.running, htail.generation.trans hhead.generation⟩

/-- A WRITE's records are applied in request order (R120, R145). -/
theorem applyRecords_runningIs (l : List Entry) (s : State) : RunningIs (l.foldl settingPut s.set.running) s (applyRecords l s) := by
  have hfold := foldl_applyRecord_runningIs l s
  unfold applyRecords
  dsimp only
  split <;> exact ⟨hfold.running, hfold.generation⟩

/-- What follows a setting writes other blocks (R120). -/
theorem settingFollow_od (a : BitVec 16) (x y : Bytes) (s : State) : (settingFollow a x y s).od = s.od := by
  have hrecompute : (recompute s).od = s.od := by rw [recompute_onlySwitching s]
  have hcal : (calWritten a x y s).od = s.od := by
    unfold calWritten
    dsimp only
    rw [logEvent_frame]
    split <;> rfl
  simp only [settingFollow, refreshCode, apply_ite State.od, hrecompute, hcal, ite_self]

theorem applyRecord_queue (e : Entry) (s : State) : (applyRecord e s).od.queue = s.od.queue := by
  unfold applyRecord
  cases odRow? e.addr with
  | none => rfl
  | some row =>
    dsimp only
    split
    · rw [settingFollow_od]
    · repeat' split
      all_goals rfl

/-- A WRITE's records leave the requests that wait. -/
theorem applyRecords_queue (l : List Entry) (s : State) : (applyRecords l s).od.queue = s.od.queue := by
  have hfold : (l.foldl (fun s e => applyRecord e s) s).od.queue = s.od.queue :=
    List.foldlRecOn (motive := fun t : State => t.od.queue = s.od.queue) _ _ rfl fun t ht e _ => (applyRecord_queue e t).trans ht
  unfold applyRecords
  dsimp only
  split <;> exact hfold

variable {e e' : Entry} {l : List Entry}

/-- A WRITE of two records or more without an action entry is applied, or its first failing record refuses it (R145, R146). -/
theorem writeRequest_of_many (hparse : parseRecords p = some (e :: e' :: l))
    (hplain : (e :: e' :: l).any (fun x => isMarkedAction x.addr) = false) :
    (firstFailure rq false (e :: e' :: l) s = none → writeRequest rq p s = respond rq 1 stOk [] (applyRecords (e :: e' :: l) s))
      ∧ ∀ f, firstFailure rq false (e :: e' :: l) s = some f → writeRequest rq p s = respond rq 1 f.1 (refusal f.2.1 f.2.2) s := by
  have hnone : (e :: e' :: l).findIdx? (fun x => isMarkedAction x.addr) = none := by
    simpa [List.findIdx?_eq_none_iff] using hplain
  constructor
  · intro hpass
    simp only [writeRequest, hparse, Option.getD_some, hnone, hpass]
  · intro f hfail
    simp only [writeRequest, hparse, Option.getD_some, hnone, hfail]

/-! ### READ-BLOCK at offset 0 (R151) -/

/-- The requester's snapshot is that of an entry's value (R151). -/
def snapshotTaken (m : Bool) (a : BitVec 16) (v : Bytes) (s : State) : State :=
  { s with od := { s.od with snapshots := (dropSnapshot m s).od.snapshots ++ [⟨m, a, v⟩] } }

theorem snapshotOf_dropSnapshot (s : State) : snapshotOf (dropSnapshot m s) m a = none := by
  have hother (x : BlockSnapshot) (h : x.mailbox ≠ m) : ¬ (x.mailbox = m ∧ x.addr = a) := fun ⟨hm, _⟩ => h hm
  simpa [snapshotOf, dropSnapshot, List.find?_eq_none] using fun x _ => hother x

theorem snapshotOf_snapshotTaken (s : State) : snapshotOf (snapshotTaken m a v s) m a = some v := by
  have hnone := snapshotOf_dropSnapshot (m := m) (a := a) s
  rw [snapshotOf, Option.map_eq_none_iff] at hnone
  rw [snapshotOf, snapshotTaken, List.find?_append, hnone]
  simp

theorem snapshotOf_respond (rq : Requester) (op st : Nat) (p : Bytes) (s : State) (m : Bool) (a : BitVec 16) :
    snapshotOf (respond rq op st p s) m a = snapshotOf s m a := by
  rw [snapshotOf, respond_od]
  rfl

/-- The state after the first piece of a snapshot: it ends with its last byte (R151). -/
def firstPieceServed (m : Bool) (b : ReadBlockReq) (v : Bytes) (s : State) : State :=
  if v.length ≤ b.maximum then dropSnapshot m (snapshotTaken m b.addr v s) else snapshotTaken m b.addr v s

theorem serveSnapshot_of_start {b : ReadBlockReq} (hstart : b.offset = 0) (hdata : v ≠ []) :
    ∃ p, serveSnapshot rq b v s = respond rq 2 stOk p (if v.length ≤ b.maximum then dropSnapshot (rq.path == .mailbox) s else s) := by
  have hpos : 0 < v.length := List.length_pos_iff.mpr hdata
  have hlast : b.offset + (slice b.offset b.maximum v).length = v.length ↔ v.length ≤ b.maximum := by
    rw [hstart, slice, List.drop_zero, List.length_take]
    omega
  rw [serveSnapshot, if_neg (by omega)]
  simp only [hlast]
  exact ⟨_, rfl⟩

theorem readBlockRequest_of_start {b : ReadBlockReq} (hparse : parseReadBlock p = some b) (hstart : b.offset = 0)
    (hok : (blockValue s b.addr).1 = stOk) (hdata : (blockValue s b.addr).2 ≠ []) :
    ∃ x, readBlockRequest rq p s = respond rq 2 stOk x (firstPieceServed (rq.path == .mailbox) b (blockValue s b.addr).2 s) := by
  obtain ⟨x, hx⟩ := serveSnapshot_of_start (rq := rq)
    (s := snapshotTaken (rq.path == .mailbox) b.addr (blockValue s b.addr).2 s) hstart hdata
  refine ⟨x, ?_⟩
  rw [firstPieceServed, ← hx]
  simp only [readBlockRequest, hparse, hstart, hok, bne_self_eq_false, Bool.false_eq_true, if_true, if_false]
  rfl

/-- A piece changes the requester's snapshots alone. -/
theorem firstPieceServed_frame (m : Bool) (b : ReadBlockReq) (v : Bytes) (s : State) :
    firstPieceServed m b v s = { s with od := { s.od with snapshots := (firstPieceServed m b v s).od.snapshots } } := by
  unfold firstPieceServed
  split <;> rfl

/-- Settles O38: each operation at the head of the queue by its response. -/
theorem readsAndWrites : Obligations.ReadsAndWrites := by
  unfold Obligations.ReadsAndWrites
  intro s q r s'
  refine ⟨fun l hhead hparse hfits => ?read, fun e e' l hhead hparse hplain hpass => ?written,
    fun e e' l f hhead hparse hplain hfail => ?refused, fun b hhead hparse hstart hok hdata => ?block⟩
  case read =>
    have hexec := serveHead_of_response hhead (readRequest_of_fits hparse hfits)
    refine ⟨_, hexec, respond_queue .., respond_lastStatus .., fun hpath hkey => respond_out_of_plainMailbox hpath hkey .., ?_⟩
    rw [respond_frame]
    rfl
  case written =>
    obtain ⟨happlied, -⟩ := writeRequest_of_many (rq := q.requester) (s := s') hparse hplain
    have hexec := serveHead_of_response hhead (happlied hpass)
    have hset := applyRecords_runningIs (e :: e' :: l) s'
    obtain ⟨-, hotp⟩ := applyRecords_keeps (e :: e' :: l) s'
    refine ⟨_, hexec, (respond_queue ..).trans (applyRecords_queue _ s'), respond_lastStatus .., ?_⟩
    rw [respond_frame]
    exact ⟨hset.running, hotp, hset.generation⟩
  case refused =>
    obtain ⟨-, hrefused⟩ := writeRequest_of_many (rq := q.requester) (s := s') hparse hplain
    have hexec := serveHead_of_response hhead (hrefused f hfail)
    refine ⟨_, hexec, respond_queue .., respond_lastStatus .., ?_⟩
    rw [respond_frame]
    rfl
  case block =>
    obtain ⟨x, hx⟩ := readBlockRequest_of_start (rq := q.requester) hparse hstart hok hdata
    refine ⟨_, serveHead_of_response hhead hx, ?_, respond_lastStatus .., fun hwhole => ?_, fun hmore => ?_, ?_⟩
    · rw [settle_od, respond_queue, firstPieceServed_frame]
    · change snapshotOf (respond ..) _ _ = _
      rw [snapshotOf_respond, firstPieceServed, if_pos hwhole]
      exact snapshotOf_dropSnapshot _
    · change snapshotOf (respond ..) _ _ = _
      rw [snapshotOf_respond, firstPieceServed, if_neg (by omega)]
      exact snapshotOf_snapshotTaken _
    · rw [respond_frame, firstPieceServed_frame]
      rfl

/-! ### WRITE-BLOCK (R149, R150) -/

section

variable {b : WriteBlockReq} {x : Transfer}

/-- The first block begins a transfer where none is under way. -/
theorem transferFor_of_first (hfirst : b.first = true) (hstart : b.offset = 0) (hnone : s.od.transfers = []) :
    transferFor s m b = .ok ⟨m, b.addr, BitVec.ofNat 32 b.total, []⟩ := by
  simp [transferFor, hfirst, hstart, hnone]

/-- A later block continues the requester's transfer to its address. -/
theorem transferFor_of_later (hlater : b.first = false) (hone : s.od.transfers = [x]) (haddr : x.addr = b.addr) (hmine : x.mailbox = m) :
    transferFor s m b = .ok x := by
  simp [transferFor, hlater, hone, haddr, hmine]

theorem writeBlockRequest_of_transfer (hparse : parseWriteBlock p = some b) (hother : b.addr ≠ od 0x20 1)
    (hentry : (odEntry s b.addr).1 = stOk) (hfor : transferFor s (rq.path == .mailbox) b = .ok x) :
    writeBlockRequest rq p s = transferBlock rq b x s := by
  simp only [writeBlockRequest, hparse, beq_eq_false_iff_ne.mpr hother, hentry, hfor, bne_self_eq_false, Bool.false_eq_true, if_false]

/-- A block that fits and is not the last is kept (R149). -/
theorem transferBlock_of_notLast (hoffset : b.offset = x.data.length) (htotal : b.total = x.total.toNat)
    (hshort : b.offset + b.data.length < b.total) (hnotLast : b.last = false) :
    ∃ p, transferBlock rq b x s = respond rq 3 stOk p (putTransfer b.addr (some { x with data := x.data ++ b.data }) s) := by
  have hfits : ¬ b.total < b.offset + b.data.length ∧ ¬ b.offset + b.data.length = b.total := by omega
  rw [transferBlock, if_neg (by simpa [← hoffset, ← htotal, hnotLast] using hfits), hnotLast]
  exact ⟨_, rfl⟩

/-- The last block of a value with another CRC-32C ends its transfer (R149). -/
theorem transferBlock_of_wrongCrc (hoffset : b.offset = x.data.length) (htotal : b.total = x.total.toNat)
    (hwhole : b.offset + b.data.length = b.total) (hlast : b.last = true) (hcrc : crc32c (x.data ++ b.data) ≠ b.crc) :
    ∃ p, transferBlock rq b x s = respond rq 3 stCheck p (putTransfer b.addr none s) := by
  rw [transferBlock, if_neg (by simp [← hoffset, ← htotal, hlast, hwhole]), hlast, if_neg (by decide)]
  simp only [bne_iff_ne.mpr hcrc, if_true]
  exact ⟨_, rfl⟩

end

/-! ### SUBSCRIBE (R152) -/

/-- A subscription that passes its checks joins an empty list. -/
theorem subscribeRequest_of_joins {b : SubscribeReq} (hparse : parseSubscribe p = some b) (hok : subscribeStatus s b = stOk)
    (hperiod : b.period ≠ 0) (hnone : s.od.subs = []) : subscribeRequest rq p s = respond rq 5 stOk [1]
      { s with od := { s.od with subs := [⟨rq.path == .mailbox, rq.keysel = .none, b.addr, b.onChange, b.periodic, b.period, b.lease,
          notifyRecord s b.addr⟩] } } := by
  simp only [subscribeRequest, hparse, hok, hnone, hperiod, bne_self_eq_false, Bool.false_eq_true, if_false, List.filter_nil]
  rfl

/-! ### NOTIFY (R153) -/

/-- A subscription once those that fall due have been notified: one that did keeps the record that it carried. -/
def subscriptionNotified (s : State) (m : Bool) (l : List (BitVec 16)) (x : Subscription) : Subscription :=
  if notifyDue s m l x then { x with last := notifyRecord s x.addr } else x

theorem notifyAll_onlySends (m plain : Bool) (n : Nat) (l : List Subscription) (s : State) : OnlySends s (notifyAll m plain n l s) := by
  refine List.foldlRecOn (motive := OnlySends s) _ _ .rfl fun t ht b _ => ht.trans ?_
  dsimp only
  split
  · exact sendPdu_onlySends ..
  · exact sendPdu_onlySends ..

theorem notifyAll_nil (m plain : Bool) (n : Nat) (s : State) : notifyAll m plain n [] s = s := rfl

theorem packRecords_singleton {b : Bytes} (h : b ≠ []) : packRecords [b] [] = [b] := by
  simp [packRecords, h]

theorem notifyRecord_ne_nil (s : State) (a : BitVec 16) : notifyRecord s a ≠ [] := by
  simp [notifyRecord, resultRecord, leBytes]

/-- One plain subscription of the mailbox is notified by a PDU of its own (R153). -/
theorem notifyAll_singleton_out (x : Subscription) (s : State) : (notifyAll true true 1 [x] s).od.out = s.od.out ++ [⟨.mailbox, 1, true,
    pduBody 6 false .none 0 0 s.od.txPlain 0 (leBytes 2 s.od.serviceEpoch.toNat ++ notifyRecord s x.addr)⟩] := by
  rw [notifyAll, List.map_singleton, packRecords_singleton (notifyRecord_ne_nil s x.addr)]
  rfl

/-- The PDUs of the subscriptions that fall due leave (R153). -/
def notifySent (m : Bool) (due : List Subscription) (s : State) : State :=
  if m then notifyAll true true 1 (due.filter (·.plain)) (notifyAll true false 1 (due.filter (!·.plain)) s)
  else [0, 1, 2].foldl (fun s p => notifyAll false false p (due.filter fun x => notifyPriority x.addr == p) s) s

theorem notifySent_onlySends (m : Bool) (due : List Subscription) (s : State) : OnlySends s (notifySent m due s) := by
  cases m with
  | true => exact (notifyAll_onlySends ..).trans (notifyAll_onlySends ..)
  | false => exact List.foldlRecOn (motive := OnlySends s) _ _ .rfl fun t ht p _ => ht.trans (notifyAll_onlySends ..)

theorem notifySent_nil (m : Bool) (s : State) : notifySent m [] s = s := by
  cases m <;> rfl

theorem notifySent_singleton_out {x : Subscription} (hplain : x.plain = true) (s : State) :
    (notifySent true [x] s).od.out = (notifyAll true true 1 [x] s).od.out := by
  simp [notifySent, hplain, notifyAll_nil]

/-- The subscriptions notified in s keep in t the records that they carried (R153). -/
def carriedKept (s : State) (m : Bool) (l : List (BitVec 16)) (t : State) : State :=
  { t with od := { t.od with subs := t.od.subs.map (subscriptionNotified s m l) } }

/-- NOTIFY while the dictionary listens: what is due leaves, and what it carried is kept. -/
theorem exec_notify (m : Bool) (l : List (BitVec 16)) (h : odListens s = true) : exec (.notify m l) s
    = .next (settle (carriedKept s m l (notifySent m (s.od.subs.filter (notifyDue s m l)) s))) := by
  change execNotify m l s = _
  rw [execNotify, h, guarded_true, done_eq]
  rfl

/-- Settles O39: block writes and SUBSCRIBE by their responses, NOTIFY by what leaves. -/
theorem transfersAndSubscriptions : Obligations.TransfersAndSubscriptions := by
  unfold Obligations.TransfersAndSubscriptions
  intro s q r s'
  refine ⟨fun b hhead hparse hother hentry hfirst hnotLast hstart hshort hsize hnone => ?kept,
    fun b x hhead hparse hother hentry hlater hone haddr hmine hoffset htotal hlast hwhole hcrc => ?ended,
    fun b hhead hparse _ hok hperiod hnone => ?joined, fun m l hlistens => ?notified⟩
  case kept =>
    have hfor := transferFor_of_first (s := s') (m := q.requester.path == .mailbox) hfirst hstart hnone
    have htotal : b.total = (BitVec.ofNat 32 b.total).toNat := by rw [BitVec.toNat_ofNat, Nat.mod_eq_of_lt hsize]
    have hnotWhole : b.offset + b.data.length < b.total := by omega
    obtain ⟨p, hp⟩ := transferBlock_of_notLast (rq := q.requester) (s := s') (x := ⟨_, _, _, []⟩) hstart htotal hnotWhole hnotLast
    have hexec := serveHead_of_response hhead ((writeBlockRequest_of_transfer hparse hother hentry hfor).trans hp)
    refine ⟨_, hexec, respond_queue .., respond_lastStatus .., ?_, ?_⟩
    · rw [settle_od, respond_od]
      change List.filter _ s.od.transfers ++ _ = _
      rw [hnone]
      rfl
    · rw [respond_frame]
      rfl
  case ended =>
    have hfor := transferFor_of_later (s := s') hlater hone haddr hmine
    obtain ⟨p, hp⟩ := transferBlock_of_wrongCrc (rq := q.requester) (s := s') hoffset htotal hwhole hlast hcrc
    have hexec := serveHead_of_response hhead ((writeBlockRequest_of_transfer hparse hother hentry hfor).trans hp)
    refine ⟨_, hexec, ?_, respond_lastStatus .., ?_⟩
    · rw [settle_od, respond_od]
      change List.filter _ s.od.transfers = _
      simp [hone, haddr]
    · rw [respond_frame]
      rfl
  case joined =>
    have hexec := serveHead_of_response hhead (subscribeRequest_of_joins hparse hok hperiod hnone)
    refine ⟨_, hexec, respond_queue .., respond_lastStatus .., ?_, ?_⟩
    · rw [settle_od, respond_od]
    · rw [respond_frame]
      rfl
  case notified =>
    have hsends := notifySent_onlySends m (s.od.subs.filter (notifyDue s m l)) s
    refine ⟨_, exec_notify m l hlistens, ?_, fun hnone => ?_, fun x hone hm hplain hdue => ?_, ?_⟩
    · rw [settle_od, carriedKept, hsends.od]
      rfl
    · have hempty : s.od.subs.filter (notifyDue s m l) = [] := by simpa [List.filter_eq_nil_iff] using hnone
      rw [hempty, notifySent_nil]
      rfl
    · subst hm
      have hdues : s.od.subs.filter (notifyDue s true l) = [x] := by simp [hone, hdue]
      rw [hdues]
      exact (notifySent_singleton_out hplain s).trans (notifyAll_singleton_out x s)
    · obtain ⟨-, hframe⟩ := hsends.sends
      rw [carriedKept, hframe]
      rfl

end Sys2Proof.Machine
end

section
/-! What the operations of a session leave of the pilot (07): its readings, its classification, its band and its latched faults (R34, R183,
R191, R193). -/

namespace Sys2Proof.Machine

/-- From s to t the pilot differs at most in how it is driven: what was measured, classified and latched stays. The periods that have passed
the diode check are at most counted anew (R184). -/
def OnlyDriven (s t : State) : Prop :=
  t.plt = { s.plt with
    level := t.plt.level, nextLevel := t.plt.nextLevel, duty := t.plt.duty, next := t.plt.next, digital := t.plt.digital
    diodeCount := t.plt.diodeCount, holdDue := t.plt.holdDue, holdF := t.plt.holdF }
  ∧ (s.ses.diodePassed = 0 → t.ses.diodePassed = 0)

theorem OnlyDriven.rfl {s : State} : OnlyDriven s s := ⟨Eq.refl _, id⟩

theorem OnlyDriven.trans {s t u : State} (h : OnlyDriven s t) (h' : OnlyDriven t u) : OnlyDriven s u := by
  refine ⟨?_, h'.2 ∘ h.2⟩
  rw [h'.1, h.1]

/-- An operation that leaves the pilot and the count of passed periods alone. -/
theorem OnlyDriven.of_eq {s t : State} (hplt : t.plt = s.plt) (hses : t.ses.diodePassed = s.ses.diodePassed) : OnlyDriven s t := by
  refine ⟨?_, hses.trans⟩
  rw [hplt]

/-! ### Ends, pauses and offers (R33, R34) -/

theorem eventPrompt_onlyDriven (n : Nat) (s : State) : OnlyDriven s (eventPrompt n s) := by
  rw [eventPrompt_frame]
  exact .of_eq rfl rfl

theorem commandMove_onlyDriven (b : Bool) (s : State) : OnlyDriven s (commandMove b s) := by
  rw [commandMove_frame]
  exact .of_eq rfl rfl

theorem markStop_onlyDriven (r : BitVec 8) (s : State) : OnlyDriven s (markStop r s) := by
  rw [markStop_frame]
  exact .of_eq rfl rfl

theorem releaseGrant_onlyDriven (s : State) : OnlyDriven s (releaseGrant s) := by
  unfold releaseGrant
  repeat' split
  all_goals exact .of_eq rfl rfl

theorem closeSession_onlyDriven (r : BitVec 8) (s : State) : OnlyDriven s (closeSession r s) := by
  unfold closeSession
  split
  · exact .rfl
  · exact ((markStop_onlyDriven r s).trans (releaseGrant_onlyDriven _)).trans (.of_eq rfl rfl)

theorem lockAtEnd_onlyDriven (r : BitVec 8) (s : State) : OnlyDriven s (lockAtEnd r s) := by
  unfold lockAtEnd
  repeat' split
  case isFalse.isFalse.isTrue => exact commandMove_onlyDriven _ _
  all_goals exact .of_eq rfl rfl

theorem endPrompt_onlyDriven (r : BitVec 8) (s : State) : OnlyDriven s (endPrompt r s) := by
  unfold endPrompt
  repeat' split
  · exact eventPrompt_onlyDriven 8 s
  · exact eventPrompt_onlyDriven 6 s
  · exact .rfl

theorem enterEnded_onlyDriven (r : BitVec 8) (s : State) : OnlyDriven s (enterEnded r s) := by
  have hphase : OnlyDriven s (phaseEnded s) := ⟨rfl, id⟩
  exact (hphase.trans (lockAtEnd_onlyDriven r _)).trans (endPrompt_onlyDriven r _)

theorem endSession_onlyDriven (r : BitVec 8) (s : State) : OnlyDriven s (endSession r s) :=
  (closeSession_onlyDriven r s).trans (enterEnded_onlyDriven r _)

theorem enterPaused_onlyDriven (s : State) : OnlyDriven s (enterPaused s) := by
  have hphase : OnlyDriven s { s with ses := { s.ses with phase := .paused, breakStep := 0 } } := .of_eq rfl rfl
  exact hphase.trans (eventPrompt_onlyDriven 5 _)

theorem enterOffered_onlyDriven (s : State) : OnlyDriven s (enterOffered s) := ⟨rfl, fun _ => rfl⟩

theorem offerOrPause_onlyDriven (s : State) : OnlyDriven s (offerOrPause s) := by
  have hlocked : OnlyDriven s { s with ses := { s.ses with phase := .locked } } := .of_eq rfl rfl
  unfold offerOrPause
  dsimp only
  split
  · exact hlocked.trans (enterOffered_onlyDriven _)
  · exact hlocked.trans (enterPaused_onlyDriven _)

/-! ### Break (R207) -/

theorem breakOutcome_onlyDriven (s : State) : OnlyDriven s (breakOutcome s) := by
  unfold breakOutcome
  repeat' split
  · exact (enterPaused_onlyDriven s).trans (enterOffered_onlyDriven _)
  · exact enterPaused_onlyDriven s
  · exact endSession_onlyDriven _ s

theorem dueHold_onlyDriven (s : State) : OnlyDriven s (dueHold s) := by
  unfold dueHold
  split <;> exact ⟨rfl, id⟩

theorem finishBreak_onlyDriven (s : State) : OnlyDriven s (finishBreak s) := by
  have hstep : OnlyDriven s { s with ses := { s.ses with breakStep := 0 } } := .of_eq rfl rfl
  rw [finishBreak_eq]
  exact (hstep.trans (breakOutcome_onlyDriven _)).trans (dueHold_onlyDriven _)

theorem breakStepFive_onlyDriven (s : State) : OnlyDriven s (breakStepFive s) := by
  have hstep : OnlyDriven s { s with ses := { s.ses with breakStep := 5 }, plt := { s.plt with next := 0 } } := ⟨rfl, id⟩
  unfold breakStepFive
  dsimp only
  split
  · exact hstep.trans ⟨rfl, id⟩
  · exact hstep.trans (finishBreak_onlyDriven _)

theorem releaseCoil_onlyDriven (s : State) : OnlyDriven s (releaseCoil s) := by
  have hcoil : OnlyDriven s (coilReleased s) := .of_eq rfl rfl
  unfold releaseCoil
  dsimp only
  repeat' split
  case isTrue.isTrue.isTrue => exact hcoil
  case isTrue.isTrue.isFalse => exact hcoil.trans (breakStepFive_onlyDriven (coilReleased s))
  case isTrue.isFalse | isFalse.isTrue => exact .of_eq rfl rfl
  case isFalse.isFalse => exact breakStepFive_onlyDriven s

theorem breakBegins_onlyDriven (r : BitVec 8) (s : State) : OnlyDriven s (breakBegins r s) := by
  unfold breakBegins
  dsimp only
  split
  · exact .of_eq rfl rfl
  · exact OnlyDriven.trans (.of_eq rfl rfl) (markStop_onlyDriven r _)

theorem startBreak_onlyDriven (r : BitVec 8) (s : State) : OnlyDriven s (startBreak r s) := by
  rw [startBreak_eq]
  split
  · exact (breakBegins_onlyDriven r s).trans (.of_eq rfl rfl)
  · exact (breakBegins_onlyDriven r s).trans (releaseCoil_onlyDriven _)

/-! ### Stops, the minimum-of rule and a session's start (R36, R185, Table 1-2) -/

theorem stopSession_onlyDriven (r : BitVec 8) (s : State) : OnlyDriven s (stopSession r s) := by
  unfold stopSession
  repeat' split
  case h_1.isTrue => exact OnlyDriven.trans (.of_eq rfl rfl) (markStop_onlyDriven r _)
  case h_2 | h_3 | h_4 => exact startBreak_onlyDriven r s
  case h_5 => exact endSession_onlyDriven r s
  all_goals exact .of_eq rfl rfl

theorem recompute_onlyDriven (s : State) : OnlyDriven s (recompute s) := by
  have hallowed : OnlyDriven s (refreshAllowed s) := .of_eq rfl rfl
  unfold recompute pauseSession
  dsimp only
  repeat' split
  case isFalse.isTrue.isTrue.isTrue => exact hallowed.trans (startBreak_onlyDriven 0 _)
  case isFalse.isFalse.isTrue => exact hallowed.trans (enterOffered_onlyDriven _)
  all_goals exact hallowed.trans ⟨rfl, id⟩

theorem tryStart_onlyDriven (s : State) : OnlyDriven s (tryStart s) := by
  unfold tryStart
  dsimp only
  repeat' split
  case h_2.isFalse.isTrue | h_2.isFalse.isFalse.isTrue => exact OnlyDriven.trans (.of_eq rfl rfl) (offerOrPause_onlyDriven _)
  case h_2.isFalse.isFalse.isFalse => exact OnlyDriven.trans (.of_eq rfl rfl) (commandMove_onlyDriven true _)
  all_goals exact .rfl

end Sys2Proof.Machine
end

section
/-! The pilot (07): period starts, the bands of Table 7-2, what a plateau's reading does to the classification, the diode check, and the
end of a fault's hold. -/

namespace Sys2Proof.Machine

/-! ### Commands of the pilot -/

theorem exec_pilotPeriodStart {s : State} (h : isUp s .tmr = true) : exec .pilotPeriodStart s = .next (settle (periodStart s)) := by
  show execPilotPeriodStart s = _
  rw [execPilotPeriodStart, h, guarded_true, done_eq]

theorem exec_measurementWindow {high : Bool} {mv : BitVec 16} {s : State} (htmr : isUp s .tmr = true) (hadc : adcRuns s = true) :
    exec (.measurementWindow high mv) s = .next (settle (measure high mv s)) := by
  show execMeasurementWindow high mv s = _
  rw [execMeasurementWindow, htmr, hadc, Bool.and_true, guarded_true, done_eq]

theorem exec_pilotFaultHoldEnd {s : State} (h : s.plt.holdF = true) :
    exec .pilotFaultHoldEnd s = .next (settle (faultHoldEnds s)) := by
  show execPilotFaultHoldEnd s = _
  rw [execPilotFaultHoldEnd, h, guarded_true, done_eq]

/-! ### The start of a period (R178) -/

/-- The level and the duty that were selected are in force; without PWM no negative plateau stands. -/
def periodBegun (s : State) : State :=
  let pwm := s.plt.nextLevel == .pwm
  let d := if pwm then (if s.plt.next = 0 then s.plt.duty else s.plt.next) else 0
  { s with plt := { s.plt with
      faultFresh := false, level := s.plt.nextLevel, duty := d, next := 0, digital := pwm && d == 100
      lowMv := if pwm then s.plt.lowMv else 0, diodeCount := if pwm then s.plt.diodeCount else 0 } }

theorem periodStart_of_stateF {s : State} (h : s.plt.level = .stateF) :
    periodStart s = { s with plt := { s.plt with faultFresh := false } } := by
  simp [periodStart, h]

theorem periodStart_of_driven {s : State} (h : s.plt.level ≠ .stateF) : periodStart s
    = if s.ses.phase == .break && s.ses.breakStep = 5 && s.plt.nextLevel != .pwm then finishBreak (periodBegun s) else periodBegun s := by
  have hlevel : (s.plt.level == .stateF) ≠ true := by simpa using h
  exact if_neg hlevel

theorem periodStart_of_noBreak {s : State} (h : s.plt.level ≠ .stateF) (hphase : s.ses.phase ≠ .break) :
    periodStart s = periodBegun s := by
  simp [periodStart_of_driven h, hphase]

/-- The stop of the PWM is step 5 of Break (R207). -/
theorem periodStart_of_breakFive {s : State} (h : s.plt.level ≠ .stateF) (hphase : s.ses.phase = .break) (hstep : s.ses.breakStep = 5)
    (hstop : s.plt.nextLevel ≠ .pwm) : periodStart s = finishBreak (periodBegun s) := by
  simp [periodStart_of_driven h, hphase, hstep, hstop]

/-! What follows Break (R33, R34). -/

theorem closeSession_of_closed {r : BitVec 8} {s : State} (h : s.ses.inUse = false) : closeSession r s = s := by
  simp [closeSession, sessionOn, h]

theorem finishBreak_of_stop {s : State} (h : s.ses.breakStop ≠ 0) :
    (finishBreak s).ses = (endSession s.ses.breakStop { s with ses := { s.ses with breakStep := 0 } }).ses := by
  rw [finishBreak_eq, dueHold_ses, breakOutcome, if_neg h]

/-- Break ends a session that is still open with its one stop reason, and leaves one that was closed already as it was (R34, R41). -/
theorem finishBreak_ended {s : State} (h : s.ses.breakStop ≠ 0) : (finishBreak s).ses.phase = .ended ∧ (finishBreak s).ses.inUse = false
    ∧ (s.ses.inUse = true → (finishBreak s).ses.stop = s.ses.breakStop ∧ (finishBreak s).ses.grant = none)
    ∧ (s.ses.inUse = false → (finishBreak s).ses.stop = s.ses.stop ∧ (finishBreak s).ses.grant = s.ses.grant) := by
  rw [finishBreak_of_stop h]
  generalize hu : ({ s with ses := { s.ses with breakStep := 0 } } : State) = u
  have huses : u.ses = { s.ses with breakStep := 0 } := by rw [← hu]
  cases huse : s.ses.inUse with
  | true =>
    obtain ⟨hphase, hstop, hclosed, hgrant⟩ := endSession_ses (r := s.ses.breakStop) (s := u) (by rw [huses]; exact huse)
    exact ⟨hphase, hclosed, fun _ => ⟨hstop, hgrant⟩, nofun⟩
  | false =>
    have hclosed : closeSession s.ses.breakStop u = u := closeSession_of_closed (by rw [huses]; exact huse)
    rw [endSession, hclosed, enterEnded_ses, huses]
    exact ⟨rfl, huse, nofun, fun _ => ⟨rfl, rfl⟩⟩

/-- Below 6 A a Break that carries no stop reason leaves the session paused (R33). -/
theorem finishBreak_paused {s : State} (h : s.ses.breakStop = 0) (hallowed : s.ses.allowed.toNat < 60) :
    (finishBreak s).ses = { s.ses with phase := .paused, breakStep := 0 } := by
  rw [finishBreak_eq, dueHold_ses, breakOutcome, if_pos h, if_neg]
  · simp [enterPaused]
  · simp [enterPaused, hallowed]

/-! ### The bands of Table 7-2 (R182) -/

theorem readingOf_none (mv : Int) : readingOf .none mv = pilotBand mv := by
  simp [readingOf, inPresentBand]

theorem pilotBand_iff (mv : Int) : (pilotBand mv = .a ↔ 10500 ≤ mv) ∧ (pilotBand mv = .b ↔ 7500 ≤ mv ∧ mv < 10500)
    ∧ (pilotBand mv = .c ↔ 4500 ≤ mv ∧ mv < 7500) ∧ (pilotBand mv = .d ↔ 1500 ≤ mv ∧ mv < 4500)
    ∧ (pilotBand mv = .e ↔ -1500 ≤ mv ∧ mv < 1500) ∧ (pilotBand mv = .outOfBand ↔ mv < -1500) := by
  unfold pilotBand
  repeat' split
  all_goals
    simp only [reduceCtorEq, true_iff, false_iff]
    omega

/-- A reading counts as the present state inside its widened band, and where Table 7-2 has it without hysteresis. -/
theorem readingOf_self_iff (st : PilotState) (mv : Int) : readingOf st mv = st ↔ inPresentBand st mv = true ∨ pilotBand mv = st := by
  unfold readingOf
  split <;> simp [*]

/-- The bands of A to E as the present state's, each 300 mV wider on both sides. -/
theorem readingOf_present_iff (mv : Int) : (readingOf .a mv = .a ↔ 10200 < mv) ∧ (readingOf .b mv = .b ↔ 7200 < mv ∧ mv < 10800)
    ∧ (readingOf .c mv = .c ↔ 4200 < mv ∧ mv < 7800) ∧ (readingOf .d mv = .d ↔ 1200 < mv ∧ mv < 4800)
    ∧ (readingOf .e mv = .e ↔ -1800 < mv ∧ mv < 1800) := by
  obtain ⟨ha, hb, hc, hd, he, -⟩ := pilotBand_iff mv
  simp only [readingOf_self_iff, ha, hb, hc, hd, he, inPresentBand, Bool.and_eq_true, decide_eq_true_eq]
  omega

/-! ### What was measured and classified (R182, R183, R191) -/

/-- From s to t the readings stay, with what they were taken for; the pilot's drive and its faults may differ. -/
structure ReadingsKept (s t : State) : Prop where
  highMv : t.plt.highMv = s.plt.highMv
  state : t.plt.state = s.plt.state
  count : t.plt.count = s.plt.count
  candidate : t.plt.candidate = s.plt.candidate
  band : t.plt.band = s.plt.band
  bandCand : t.plt.bandCand = s.plt.bandCand
  ohms : t.plt.ohms = s.plt.ohms

theorem ReadingsKept.rfl {s : State} : ReadingsKept s s := ⟨Eq.refl _, Eq.refl _, Eq.refl _, Eq.refl _, Eq.refl _, Eq.refl _, Eq.refl _⟩

theorem ReadingsKept.trans {s t u : State} (h : ReadingsKept s t) (h' : ReadingsKept t u) : ReadingsKept s u where
  highMv := h'.highMv.trans h.highMv
  state := h'.state.trans h.state
  count := h'.count.trans h.count
  candidate := h'.candidate.trans h.candidate
  band := h'.band.trans h.band
  bandCand := h'.bandCand.trans h.bandCand
  ohms := h'.ohms.trans h.ohms

theorem ReadingsKept.ite {c : Prop} [Decidable c] {s t u : State} (ht : ReadingsKept s t) (hu : ReadingsKept s u) :
    ReadingsKept s (if c then t else u) := by
  split
  · exact ht
  · exact hu

theorem ReadingsKept.settle {s t : State} (h : ReadingsKept s t) : ReadingsKept s (settle t) :=
  ⟨h.highMv, h.state, h.count, h.candidate, h.band, h.bandCand, h.ohms⟩

theorem OnlyDriven.readingsKept {s t : State} (h : OnlyDriven s t) : ReadingsKept s t := by
  obtain ⟨hplt, -⟩ := h
  constructor <;> rw [hplt]

/-- A pilot fault as it is latched and logged (R193). -/
def pilotFaultNoted (n : Nat) (s : State) : State :=
  logEvent (.pilotFault (setBit 0 n)) { s with plt := { s.plt with
    faultFresh := true, diodeFault := s.plt.diodeFault || n == 0, eFault := s.plt.eFault || n == 1, bandFault := s.plt.bandFault || n == 2 } }

theorem pilotFaultNoted_plt (n : Nat) (s : State) : (pilotFaultNoted n s).plt = { s.plt with
    faultFresh := true, diodeFault := s.plt.diodeFault || n == 0, eFault := s.plt.eFault || n == 1
    bandFault := s.plt.bandFault || n == 2 } := logEvent_plt ..

theorem pilotFaultNoted_readingsKept (n : Nat) (s : State) : ReadingsKept s (pilotFaultNoted n s) := by
  constructor <;> rw [pilotFaultNoted_plt]

/-- A fault that was latched already changes nothing; a new one is noted, and what follows it only drives the pilot (R193). -/
theorem raisePilotFault_cases (n : Nat) (s : State) :
    ((n = 0 && s.plt.diodeFault) || (n = 1 && s.plt.eFault) || (n = 2 && s.plt.bandFault)) = true ∧ raisePilotFault n s = s
    ∨ OnlyDriven (pilotFaultNoted n s) (raisePilotFault n s) := by
  unfold raisePilotFault
  dsimp only
  repeat' split
  · exact .inl ⟨‹_›, rfl⟩
  · exact .inr (OnlyDriven.trans ⟨rfl, id⟩ (stopSession_onlyDriven 5 _))
  · exact .inr ((stopSession_onlyDriven 5 _).trans ⟨rfl, id⟩)

theorem raisePilotFault_readingsKept (n : Nat) (s : State) : ReadingsKept s (raisePilotFault n s) := by
  obtain ⟨-, hsame⟩ | hdriven := raisePilotFault_cases n s
  · rw [hsame]
    exact .rfl
  · exact (pilotFaultNoted_readingsKept n s).trans hdriven.readingsKept

/-- What follows a new classification leaves the classification and the reading as they are (R187, R193, R196). -/
theorem onClassified_readingsKept (old new : PilotState) (s : State) : ReadingsKept s (onClassified old new s) := by
  unfold onClassified
  dsimp only
  generalize hu : (if new == .a then _ else s : State) = u
  have h : ReadingsKept s u := hu ▸ .ite (.ite ⟨rfl, rfl, rfl, rfl, rfl, rfl, rfl⟩ ⟨rfl, rfl, rfl, rfl, rfl, rfl, rfl⟩) .rfl
  generalize hv : (if (new == .b || new == .c || new == .d) && u.ses.phase == .idle then _ else u : State) = v
  have h : ReadingsKept s v := hv ▸ .ite (h.trans ⟨rfl, rfl, rfl, rfl, rfl, rfl, rfl⟩) h
  generalize hw : (if new == .b && v.ses.grant.isNone && old != .b then _ else v : State) = w
  have h : ReadingsKept s w := hw ▸ .ite (h.trans (eventPrompt_onlyDriven 1 v).readingsKept) h
  have hstop := h.trans (stopSession_onlyDriven 1 w).readingsKept
  refine .ite (h.trans (raisePilotFault_readingsKept 1 w)) (.ite (h.trans (raisePilotFault_readingsKept 2 w)) (.ite h ?_))
  split
  · exact .ite h hstop
  · exact .ite h hstop
  · exact .ite h hstop
  · exact .ite hstop h

/-! ### Three readings in a row (R183) -/

variable {x : PilotState} {s : State} {mv : BitVec 16}

theorem classify_of_present (h : x = s.plt.state) :
    classify x s = { s with plt := { s.plt with count := 0, candidate := x } } := by
  simp [classify, h]

/-- Another state's reading that does not follow one of the same state is the first of its row. -/
theorem classify_of_first (h : x ≠ s.plt.state) (hcand : x ≠ s.plt.candidate) :
    classify x s = { s with plt := { s.plt with count := 1, candidate := x } } := by
  simp [classify, h, hcand]

theorem classify_of_next (h : x ≠ s.plt.state) (hcand : x = s.plt.candidate) (hcount : s.plt.count.toNat < 2) :
    classify x s = { s with plt := { s.plt with count := s.plt.count + 1, candidate := x } } := by
  have hfew : ¬ 3 ≤ s.plt.count.toNat + 1 := by omega
  have hnext : BitVec.ofNat 2 (s.plt.count.toNat + 1) = s.plt.count + 1 := by simp [BitVec.ofNat_add]
  simp only [classify, beq_iff_eq, if_neg h, if_pos hcand, if_neg hfew, hnext]

/-- The third reading in a row changes the classification, and what follows keeps it. -/
theorem classify_of_third (h : x ≠ s.plt.state) (hcand : x = s.plt.candidate) (hcount : 2 ≤ s.plt.count.toNat) :
    ReadingsKept { s with plt := { s.plt with state := x, count := 3, candidate := x } } (classify x s) := by
  have hthree : 3 ≤ s.plt.count.toNat + 1 := by omega
  simp only [classify, beq_iff_eq, if_neg h, if_pos hcand, if_pos hthree]
  exact onClassified_readingsKept ..

theorem classify_highMv (x : PilotState) (s : State) : (classify x s).plt.highMv = s.plt.highMv := by
  by_cases h : x = s.plt.state
  · rw [classify_of_present h]
  · by_cases hcand : x = s.plt.candidate
    · obtain hcount | hcount := Nat.lt_or_ge s.plt.count.toNat 2
      · rw [classify_of_next h hcand hcount]
      · exact (classify_of_third h hcand hcount).highMv
    · rw [classify_of_first h hcand]

/-! ### One plateau (R180, R184) -/

/-- PLT_MEAS shows a positive plateau's reading (Table 7-9). -/
def highRead (mv : BitVec 16) (s : State) : State := { s with plt := { s.plt with highMv := mv } }

/-- A positive reading is classified, and a session may start. -/
theorem measure_of_positive (hclass : s.plt.classifying = true) (hlevel : s.plt.level ≠ .stateF) :
    measure true mv s = tryStart (classify (readingOf s.plt.state mv.toInt) (highRead mv s)) := by
  simp [measure, hclass, hlevel, highRead]

theorem measure_of_stateF {high : Bool} (hclass : s.plt.classifying = true) (hlevel : s.plt.level = .stateF) :
    measure high mv s = classifyF mv.toInt s := by
  simp [measure, hclass, hlevel]

theorem measure_of_negative (hclass : s.plt.classifying = true) (hlevel : s.plt.level = .pwm) :
    measure false mv s = diodeCheck mv.toInt { s with plt := { s.plt with lowMv := mv } } := by
  simp [measure, hclass, hlevel]

theorem measure_of_steady (hclass : s.plt.classifying = true) (hlevel : s.plt.level = .steady) : measure false mv s = s := by
  simp [measure, hclass, hlevel]

/-! At state F level (R183, R196). -/

theorem classifyF_of_above {v : Int} (h : -10500 < v) :
    classifyF v s = { s with plt := { s.plt with count := 0, candidate := s.plt.state } } := by
  simp [classifyF, h]

theorem classifyF_of_first {v : Int} (h : v ≤ -10500) (hstate : s.plt.state ≠ .f) (hcand : s.plt.candidate ≠ .f) :
    classifyF v s = { s with plt := { s.plt with count := 1, candidate := .f } } := by
  simp [classifyF, Int.not_lt.2 h, hstate, hcand]

theorem classifyF_of_third {v : Int} (h : v ≤ -10500) (hstate : s.plt.state ≠ .f) (hcand : s.plt.candidate = .f)
    (hcount : 2 ≤ s.plt.count.toNat) : classifyF v s = { s with plt := { s.plt with state := .f, count := 3, candidate := .f } } := by
  simp [classifyF, Int.not_lt.2 h, hstate, hcand, hcount]

theorem classifyF_frame (v : Int) (s : State) : classifyF v s = { s with plt := (classifyF v s).plt } := by
  unfold classifyF
  dsimp only
  repeat' split
  all_goals rfl

/-! The diode check (R184). -/

theorem diodeCheck_of_passed {v : Int} (h : v ≤ -10500) : diodeCheck v s
    = { s with plt := { s.plt with diodeCount := 0 }, ses := { s.ses with diodePassed := s.ses.diodePassed + 1 } } := if_pos h

theorem diodeCheck_of_bad {v : Int} (h : -10500 < v) (hcount : s.plt.diodeCount.toNat < 2) : diodeCheck v s
    = { s with plt := { s.plt with diodeCount := s.plt.diodeCount + 1 }, ses := { s.ses with diodePassed := 0 } } := by
  rw [diodeCheck, if_neg (Int.not_le.2 h), if_neg (Nat.not_le.2 hcount)]

theorem diodeCheck_of_third {v : Int} (h : -10500 < v) (hcount : 2 ≤ s.plt.diodeCount.toNat) : diodeCheck v s
    = raisePilotFault 0 { s with plt := { s.plt with diodeCount := 3 }, ses := { s.ses with diodePassed := 0 } } := by
  rw [diodeCheck, if_neg (Int.not_le.2 h), if_pos hcount]

/-- A diode fault that is raised stands, and no period has passed since. -/
theorem raisePilotFault_diode (h : s.ses.diodePassed = 0) :
    (raisePilotFault 0 s).plt.diodeFault = true ∧ (raisePilotFault 0 s).ses.diodePassed = 0 := by
  obtain ⟨hlatched, hsame⟩ | ⟨hplt, hpassed⟩ := raisePilotFault_cases 0 s
  · rw [hsame]
    exact ⟨by simpa using hlatched, h⟩
  · have hnoted : (pilotFaultNoted 0 s).ses = s.ses := logEvent_ses ..
    refine ⟨?_, hpassed (by rw [hnoted]; exact h)⟩
    rw [hplt, pilotFaultNoted_plt]
    simp

theorem mayMake_diodePassed (h : mayMake s = true) : 3 ≤ s.ses.diodePassed := by
  simp only [mayMake, Bool.and_eq_true, decide_eq_true_eq] at h
  tauto

end Sys2Proof.Machine

namespace Sys2Proof

open Machine

/-- Settles O13: a plateau that passes, one that does not, the third in a row, a level without PWM, and Make's condition. -/
theorem diodeCheck : Obligations.DiodeCheck := by
  unfold Obligations.DiodeCheck
  intro s mv htmr hadc hclass
  have hexec := exec_measurementWindow (high := false) (mv := mv) htmr hadc
  refine ⟨fun hpwm hlow => ?passed, fun hpwm hhigh hcount => ?bad, fun hpwm hhigh hcount => ?third, fun hsteady => ?steady,
    mayMake_diodePassed⟩
  case passed =>
    rw [measure_of_negative hclass hpwm, diodeCheck_of_passed hlow] at hexec
    exact ⟨_, hexec, rfl, rfl, rfl⟩
  case bad =>
    rw [measure_of_negative hclass hpwm, diodeCheck_of_bad hhigh (by exact hcount)] at hexec
    exact ⟨_, hexec, rfl, rfl, rfl⟩
  case third =>
    rw [measure_of_negative hclass hpwm, diodeCheck_of_third hhigh (by exact hcount)] at hexec
    exact ⟨_, hexec, raisePilotFault_diode rfl⟩
  case steady => rw [hexec, measure_of_steady hclass hsteady]

/-- Settles O12: a period's start by the level that was in force, a positive plateau by its place in its row, state F level, and the hold's
end; then Table 7-2 with its hysteresis. -/
theorem pilotPeriodsAndBands : Obligations.PilotPeriodsAndBands := by
  unfold Obligations.PilotPeriodsAndBands
  refine ⟨fun s htmr => ⟨fun hlevel hphase => ?begins, fun hlevel => ?stateF, fun hlevel hphase hstep hnext => ?breakEnds,
    fun mv hadc hclass hlevel => ?positive, fun high mv hadc hclass hlevel => ?atStateF, fun hhold hsafe hbrown => ?holdEnds,
    fun hhold hother => ?otherHold⟩, fun mv => ?bands⟩
  case begins =>
    refine ⟨_, exec_pilotPeriodStart htmr, ?_⟩
    rw [periodStart_of_noBreak hlevel hphase]
    exact ⟨rfl, rfl, fun hpwm => by simp [periodBegun, hpwm], fun hpwm => by simp [periodBegun, hpwm], rfl⟩
  case stateF => rw [exec_pilotPeriodStart htmr, periodStart_of_stateF hlevel]
  case breakEnds =>
    have hexec := exec_pilotPeriodStart htmr
    rw [periodStart_of_breakFive hlevel hphase hstep hnext] at hexec
    refine ⟨fun hstop => ⟨_, hexec, finishBreak_ended (s := periodBegun s) hstop⟩, fun hpause hallowed => ⟨_, hexec, ?_⟩⟩
    have hses := finishBreak_paused (s := periodBegun s) hpause hallowed
    rw [settle_ses, hses]
    exact ⟨rfl, rfl, rfl⟩
  case positive =>
    have hexec := exec_measurementWindow (high := true) (mv := mv) htmr hadc
    rw [measure_of_positive hclass hlevel] at hexec
    intro x
    have hkept : ReadingsKept (classify x (highRead mv s)) (settle (tryStart (classify x (highRead mv s)))) :=
      (tryStart_onlyDriven _).readingsKept.settle
    refine ⟨_, hexec, hkept.highMv.trans (classify_highMv x _), fun hx => ?present, fun hx hcand hcount => ?third,
      fun hx hcand hcount => ?next, fun hx hcand => ?first⟩
    case present =>
      have hnow := classify_of_present (s := highRead mv s) hx
      exact ⟨hkept.state.trans (by rw [hnow]; rfl), hkept.count.trans (by rw [hnow])⟩
    case third => exact hkept.state.trans (classify_of_third (s := highRead mv s) hx hcand hcount).state
    case next =>
      have hnow := classify_of_next (s := highRead mv s) hx hcand hcount
      exact ⟨hkept.state.trans (by rw [hnow]; rfl), hkept.count.trans (by rw [hnow]; rfl)⟩
    case first =>
      have hnow := classify_of_first (s := highRead mv s) hx hcand
      exact ⟨hkept.state.trans (by rw [hnow]; rfl), hkept.count.trans (by rw [hnow]), hkept.candidate.trans (by rw [hnow])⟩
  case atStateF =>
    have hexec := exec_measurementWindow (high := high) (mv := mv) htmr hadc
    rw [measure_of_stateF hclass hlevel] at hexec
    refine ⟨_, hexec, ?_, fun habove => ?_, fun hlow hstate hcand hcount => ?_, fun hlow hstate hcand => ?_⟩
    · rw [settle_frame, classifyF_frame]
    · rw [classifyF_of_above habove]
      exact ⟨rfl, rfl⟩
    · rw [classifyF_of_third hlow hstate hcand hcount]
      rfl
    · rw [classifyF_of_first hlow hstate hcand]
      exact ⟨rfl, rfl⟩
  case holdEnds =>
    refine ⟨_, exec_pilotFaultHoldEnd hhold, ?_⟩
    rw [faultHoldEnds, hsafe, hbrown]
    exact ⟨rfl, rfl, rfl, rfl, rfl⟩
  case otherHold => rw [exec_pilotFaultHoldEnd hhold, faultHoldEnds, if_pos (by simpa using hother)]
  case bands =>
    rw [readingOf_none]
    obtain ⟨ha, hb, hc, hd, he, hout⟩ := pilotBand_iff mv
    exact ⟨ha, hb, hc, hd, he, hout, readingOf_present_iff mv⟩

end Sys2Proof
end

section
/-! Proximity (07): Table 7-4, the third reading in a row of a band, and the logs that are made once. -/

namespace Sys2Proof.Machine

/-! ### Readings of the contact (R191, R192) -/

theorem exec_proximityRead {code : BitVec 16} {s : State} (htmr : isUp s .tmr = true) (hadc : adcRuns s = true)
    (hvref : s.plt.vrefWithheld = false) : exec (.proximityRead code) s = .next (settle (proximity code s)) := by
  show execProximityRead code s = _
  rw [execProximityRead, htmr, hadc, hvref, Bool.not_false, Bool.and_true, Bool.and_true, guarded_true, done_eq]

theorem exec_proximityRead_withheld {code : BitVec 16} {s : State} (h : s.plt.vrefWithheld = true ∨ adcRuns s = false) :
    exec (.proximityRead code) s = .next (settle s) := by
  show execProximityRead code s = _
  obtain h | h := h <;> simp [execProximityRead, h, done_eq]

/-- The band a code counts as: the present one inside its widened bounds, else that of Table 7-4. -/
def bandOf (code : BitVec 16) (s : State) : Band :=
  if stillInBand s.plt.band (ppOhms code.toNat) then s.plt.band else ohmsBand (ppOhms code.toNat)

/-- The readings in a row that a code makes for its band. -/
def bandRow (code : BitVec 16) (s : State) : Nat := if bandOf code s == s.plt.bandCand then s.plt.bandCount + 1 else 1

/-- A code's ohms and its place in its row. -/
def bandNoted (code : BitVec 16) (s : State) : State :=
  { s with plt := { s.plt with
      bandCand := bandOf code s, bandCount := min 3 (bandRow code s), ohms := BitVec.ofNat 16 (ppOhms code.toNat) } }

/-- The code's band as the present one, before anything follows from it. -/
def bandSet (code : BitVec 16) (s : State) : State :=
  { bandNoted code s with plt := { (bandNoted code s).plt with band := bandOf code s } }

/-- The third reading in a row takes its band. -/
def bandTaken (code : BitVec 16) (s : State) : State :=
  if 3 ≤ bandRow code s && bandOf code s != s.plt.band then onBand s.plt.band (bandOf code s) (bandSet code s) else bandNoted code s

/-- An open contact has no resistance to show. -/
def openShown (s : State) : State := if s.plt.band == .open then { s with plt := { s.plt with ohms := 0xFFFF } } else s

theorem proximity_eq (code : BitVec 16) (s : State) : proximity code s = openShown (bandTaken code s) := rfl

/-- What a band that is taken brings about leaves the band and the reading as they are (R185, R192, R195). -/
theorem onBand_readingsKept (old new : Band) (s : State) : ReadingsKept s (onBand old new s) := by
  unfold onBand
  dsimp only
  generalize hu : refreshAllowed (if (bandCode new).2 || new == .open then _ else s : State) = u
  have h : ReadingsKept s u := by
    rw [← hu]
    split <;> exact ⟨rfl, rfl, rfl, rfl, rfl, rfl, rfl⟩
  refine .ite ?_ (.ite h ?_)
  · refine h.trans (ReadingsKept.trans ?_ (stopSession_onlyDriven 5 _).readingsKept)
    constructor <;> simp
  · exact h.trans ((recompute_onlyDriven u).trans (tryStart_onlyDriven _)).readingsKept

section
variable {code : BitVec 16} {s : State}

theorem bandRow_eq (code : BitVec 16) (s : State) :
    bandRow code s = if bandOf code s = s.plt.bandCand then s.plt.bandCount + 1 else 1 := by
  simp [bandRow]

theorem bandRow_third (h : bandOf code s = s.plt.bandCand) (hcount : 2 ≤ s.plt.bandCount) : 3 ≤ bandRow code s := by
  rw [bandRow_eq, if_pos h]
  omega

theorem bandRow_fewer (h : bandOf code s ≠ s.plt.bandCand ∨ s.plt.bandCount < 2) : bandRow code s < 3 := by
  rw [bandRow_eq]
  split
  · have hcount := h.resolve_left (not_not_intro ‹_›)
    omega
  · omega

theorem bandTaken_of_third (h : 3 ≤ bandRow code s) : ReadingsKept (bandSet code s) (bandTaken code s) := by
  unfold bandTaken
  split
  · exact onBand_readingsKept ..
  · have hsame : bandOf code s = s.plt.band := by simp_all
    exact ⟨rfl, rfl, rfl, rfl, hsame.symm, rfl, rfl⟩

theorem bandTaken_of_fewer (h : bandRow code s < 3) : bandTaken code s = bandNoted code s := by
  simp [bandTaken, Nat.not_le.2 h]

/-- The ohms and the candidate follow each reading, whether or not its band is taken. -/
theorem bandTaken_reading (code : BitVec 16) (s : State) : (bandTaken code s).plt.ohms = BitVec.ofNat 16 (ppOhms code.toNat)
    ∧ (bandTaken code s).plt.bandCand = bandOf code s := by
  obtain h | h := Nat.lt_or_ge (bandRow code s) 3
  · rw [bandTaken_of_fewer h]
    exact ⟨rfl, rfl⟩
  · have hkept := bandTaken_of_third h
    exact ⟨hkept.ohms, hkept.bandCand⟩

theorem openShown_ohms (s : State) : (openShown s).plt.ohms = if (openShown s).plt.band = .open then 0xFFFF else s.plt.ohms := by
  unfold openShown
  split <;> simp_all

/-- Nothing but the ohms shows that the contact is open. -/
theorem openShown_frame (s : State) : openShown s = { s with plt := { s.plt with ohms := (openShown s).plt.ohms } } := by
  unfold openShown
  split <;> rfl

end

/-! ### The logs (R188, R198) -/

theorem exec_overdrawLog (p : Phase3) (s : State) : exec (.overdrawLog p) s = .next (settle (guarded
    (sessionOn s && !s.ses.overdrawLogged.getLsbD (phaseNum p) && (phases s).contains (phaseNum p) && overdrawn (phaseNum p) s)
    (fun s => logEvent (.overdraw p)
      { s with ses := { s.ses with overdrawLogged := setBit s.ses.overdrawLogged (phaseNum p) } }) s)) := rfl

theorem exec_proximityOutOfBandLog (s : State) : exec .proximityOutOfBandLog s = .next (settle (guarded
    (s.plt.band == .outside && !sessionOn s && !s.plt.outsideLogged)
    (fun s => logEvent .proximityOutside { s with plt := { s.plt with outsideLogged := true } }) s)) := rfl

/-- Table 7-4. -/
theorem ohmsBand_iff (r : Nat) : (ohmsBand r = .a63 ↔ 75 ≤ r ∧ r < 160) ∧ (ohmsBand r = .a32 ↔ 160 ≤ r ∧ r < 440)
    ∧ (ohmsBand r = .a20 ↔ 440 ≤ r ∧ r < 1100) ∧ (ohmsBand r = .a13 ↔ 1100 ≤ r ∧ r < 2460)
    ∧ (ohmsBand r = .outside ↔ r < 75 ∨ (2460 ≤ r ∧ r ≤ 4500)) ∧ (ohmsBand r = .open ↔ 4500 < r) := by
  unfold ohmsBand
  repeat' split
  all_goals
    simp only [reduceCtorEq, true_iff, false_iff]
    omega

/-- Settles O14: a reading by its place in its row, one that is withheld, each log by its condition, and Table 7-4. -/
theorem proximityAndLogs : Obligations.ProximityAndLogs := by
  unfold Obligations.ProximityAndLogs
  intro s
  refine ⟨fun code htmr hadc hvref => ?reading, fun code => exec_proximityRead_withheld, fun p hon hnew hdecl hover => ?overdraw,
    fun p hnot => ?noOverdraw, fun hband hon hnew => ?outside, fun hlogged => ?noOutside, ohmsBand_iff⟩
  case reading =>
    intro r b
    have hexec := exec_proximityRead (code := code) htmr hadc hvref
    rw [proximity_eq] at hexec
    obtain ⟨hohms, hcand⟩ := bandTaken_reading code s
    have hframe := openShown_frame (bandTaken code s)
    refine ⟨_, hexec, ?_, fun hsame hcount => ?_, fun hfew => ?_, ?_⟩
    · rw [settle_plt, hframe]
      exact hcand
    · rw [settle_plt, hframe]
      exact (bandTaken_of_third (bandRow_third hsame hcount)).band
    · have hrow := bandRow_fewer hfew
      rw [hframe, bandTaken_of_fewer hrow]
      exact ⟨rfl, (Nat.min_eq_right (Nat.le_of_lt hrow)).trans (bandRow_eq code s), rfl⟩
    · rw [settle_plt, openShown_ohms, hohms]
  case overdraw => rw [exec_overdrawLog, hon, hnew, hdecl, hover]; rfl
  case noOverdraw =>
    rw [exec_overdrawLog]
    obtain hnot | hnot := hnot <;> simp [hnot]
  case outside => rw [exec_proximityOutOfBandLog, hband, hon, hnew]; rfl
  case noOutside => rw [exec_proximityOutOfBandLog, hlogged, Bool.not_true, Bool.and_false, guarded_false]

end Sys2Proof.Machine
end

section
/-! The fixed lists (11): where each row's result goes, what is judged of it there, and what becomes of a result for an island that is out
of service. -/

namespace Sys2Proof.Machine

/-! ### Results for an island that is out of service (R275) -/

section
variable {d i : Island} {n : Nat} {s : State}

theorem satInc_toNat {w : Nat} (a : BitVec w) : (satInc a).toNat = min (2 ^ w - 1) (a.toNat + 1) := by
  have hlt := a.isLt
  unfold satInc satAdd
  split
  · rw [BitVec.toNat_ofNat, Nat.mod_eq_of_lt ‹_›]
    omega
  · rw [BitVec.toNat_allOnes]
    omega

theorem dropPosted_port_other {src : Island} (h : i ≠ d) : port (dropPosted d src s) i = port s i :=
  setPort_port_other s h _

/-- A port that drops a write stays in the state it is in. -/
theorem dropPosted_isUp (src : Island) : isUp (dropPosted d src s) i = isUp s i := by
  obtain rfl | hother := eq_or_ne i d
  · exact congrArg (fun p => p.state == PortState.up) (setPort_port_same s i _)
  · exact congrArg (fun p => p.state == PortState.up) (dropPosted_port_other hother)

theorem resultDropped_of_up (h : isUp s d = true) : resultDropped d n s = s := by
  simp [resultDropped, h]

theorem resultDropped_one (h : isUp s d = false) : resultDropped d 1 s = dropPosted d .adc s := by
  simp [resultDropped, h]

theorem resultDropped_onlyFabric (d : Island) (n : Nat) (s : State) : OnlyFabric s (resultDropped d n s) := by
  unfold resultDropped
  split
  · exact Eq.refl _
  · exact List.foldlRecOn (motive := OnlyFabric s) _ _ (Eq.refl s) fun t ht _ _ => ht.trans (dropPosted_onlyFabric d .adc t)

theorem resultDropped_port_other (h : i ≠ d) : port (resultDropped d n s) i = port s i := by
  unfold resultDropped
  split
  · rfl
  · exact List.foldlRecOn (motive := fun t => port t i = port s i) _ _ rfl fun t ht _ _ => (dropPosted_port_other h).trans ht

theorem resultDropped_isUp : isUp (resultDropped d n s) i = isUp s i := by
  unfold resultDropped
  split
  · rfl
  · exact List.foldlRecOn (motive := fun t => isUp t i = isUp s i) _ _ rfl fun t ht _ _ => (dropPosted_isUp .adc).trans ht

/-- Each of n results that are dropped counts, up to FFFFh (R58). -/
theorem resultDropped_lossCount (h : isUp s d = false) (n : Nat) :
    (port (resultDropped d n s) d).lossCount.toNat = min 0xFFFF ((port s d).lossCount.toNat + n) := by
  have hlt := (port s d).lossCount.isLt
  rw [resultDropped, if_neg (by simp [h])]
  induction n with
  | zero =>
    show (port s d).lossCount.toNat = _
    omega
  | succ n ih =>
    rw [List.range_succ, List.foldl_append, List.foldl_cons, List.foldl_nil, lossCount_dropPosted, satInc_toNat, ih]
    omega

end

/-! ### List P: the loop-back of the pilot (R180, R181, Table 10-3) -/

section
variable {high good : Bool} {mv : BitVec 16} {e : Nat} {s : State}

/-- SAFE judges a window while TMR, which commands the level, is in service too. -/
def windowJudged (high : Bool) (mv : BitVec 16) (e : Nat) (s : State) : State :=
  if isUp s .safe && isUp s .tmr then pilotWindow high (windowGood high mv e s) s else s

theorem exec_listP (h : adcRuns s = true) : exec (.listP high mv e) s
    = .next (settle (resultDropped .safe 1 (resultDropped .tmr 1 (windowJudged high mv e s)))) := by
  show execListP high mv e s = _
  rw [execListP, h, guarded_true, done_eq]
  rfl

theorem windowGood_iff : windowGood high mv e s = true ↔ (mv.toInt - commandedMv s high).natAbs ≤ 1000 ∧ e ≤ 2000 := by
  simp [windowGood]

theorem pilotLoopback_fab : (pilotLoopback good s).fab = s.fab := by
  unfold pilotLoopback
  dsimp only
  repeat' split
  · rfl
  · exact diagFail_fab ..
  · rfl

theorem pilotWindow_fab : (pilotWindow high good s).fab = s.fab := by
  unfold pilotWindow
  split
  · rfl
  · exact pilotLoopback_fab

/-- While both are in service nothing is dropped, and the window is judged. -/
theorem exec_listP_judged (h : adcRuns s = true) (htmr : isUp s .tmr = true) (hsafe : isUp s .safe = true) :
    exec (.listP high mv e) s = .next (settle (pilotWindow high (windowGood high mv e s) s)) := by
  have hup (i : Island) : isUp (pilotWindow high (windowGood high mv e s) s) i = isUp s i := by
    rw [isUp, port, pilotWindow_fab]
    rfl
  rw [exec_listP h, windowJudged, hsafe, htmr, Bool.and_true, if_pos rfl, resultDropped_of_up ((hup .tmr).trans htmr),
    resultDropped_of_up ((hup .safe).trans hsafe)]

/-- Without either the window is not judged. -/
theorem windowJudged_of_absent (h : isUp s .tmr = false ∨ isUp s .safe = false) : windowJudged high mv e s = s := by
  obtain h | h := h <;> simp [windowJudged, h]

theorem pilotWindow_of_first (h : s.plt.level = .pwm) :
    pilotWindow true good s = { s with safe := { s.safe with pilotWindowBad := !good } } := by
  simp [pilotWindow, h]

/-- A period's last window is judged with the one before it (R181). -/
theorem pilotWindow_of_last (h : s.plt.level ≠ .pwm ∨ high = false) : pilotWindow high good s
    = pilotLoopback (good && !s.safe.pilotWindowBad) { s with safe := { s.safe with pilotWindowBad := false } } := by
  obtain h | h := h <;> simp [pilotWindow, h]

theorem pilotLoopback_good (s : State) : pilotLoopback true s = diagPass 0 { s with safe := { s.safe with pilotBad := 0 } } := rfl

theorem getLsbD_setBit_zero (b : BitVec 11) : (setBit b 0).getLsbD 0 = true := by
  simp [setBit]

theorem pilotLoopback_third (h : 2 ≤ s.safe.pilotBad) :
    pilotLoopback false s = diagFail 0 { s with safe := { s.safe with pilotBad := 3 } } := by
  have hthree : min 3 (s.safe.pilotBad + 1) = 3 := by omega
  simp [pilotLoopback, hthree]

end

/-! ### List M (R273, R307) -/

section
variable {x : TickSamples} {s : State}

/-- One tick in MET: the sums of the half-cycles, the samples, and whether the pair A0/A1 was borrowed. -/
def tickTaken (x : TickSamples) (s : State) : State :=
  { s with met := { addHalves x s.met with
      samples := (x, pairBorrowed s) :: s.met.samples, skewNow := s.met.skewNow || pairBorrowed s } }

theorem exec_listM_up (h : adcRuns s = true) (hmet : isUp s .met = true) :
    exec (.listM x) s = .next (settle (noteClip x (tickTaken x s))) := by
  show execListM x s = _
  simp only [execListM, h, guarded_true, hmet, if_true, done_eq]
  rfl

theorem exec_listM_absent (h : adcRuns s = true) (hmet : isUp s .met = false) :
    exec (.listM x) s = .next (settle (resultDropped .met 4 s)) := by
  show execListM x s = _
  simp [execListM, h, hmet, done_eq]

/-- A clipped sample as MET and the session note it (R307). -/
def clipNoted (s : State) : State := { s with met := { s.met with clip := true }, ses := { s.ses with clipLogged := true } }

theorem noteClip_cases (x : TickSamples) (s : State) :
    noteClip x s = s ∨ noteClip x s = clipNoted s ∨ noteClip x s = logEvent .clip (clipNoted s) := by
  unfold noteClip
  dsimp only
  generalize (if threePhase s then _ else _ : List (BitVec 16)) = l
  repeat' split
  · exact .inr (.inl rfl)
  · exact .inr (.inr rfl)
  · exact .inl rfl

theorem noteClip_frame (x : TickSamples) (s : State) : noteClip x s = { s with
    met := { s.met with clip := (noteClip x s).met.clip }, ses := { s.ses with clipLogged := (noteClip x s).ses.clipLogged }
    flash := (noteClip x s).flash } := by
  obtain h | h | h := noteClip_cases x s <;> rw [h]
  · rfl
  · rw [logEvent_frame]
    rfl

end

/-! ### Lists E and S (R213, R228, Tables 11-1 to 11-3) -/

section
variable {c : Converter} {code : BitVec 16} {s : State}

theorem exec_listE (h : adcRuns s = true) : exec (.listE code) s
    = .next (settle { s with rcd := { s.rcd with stream := (code :: s.rcd.stream).take 356 } }) := by
  show execListE code s = _
  rw [execListE, h, guarded_true, done_eq]

theorem exec_listS_temperature (h : adcRuns s = true) : exec (.listS 13 c code) s
    = .next (settle (feedWindow true code.toInt 8 { s with adc := { s.adc with dieTemp := code } })) := by
  show execListS 13 c code s = _
  rw [execListS, h, guarded_true, done_eq, if_pos rfl]

theorem exec_listS_reference (h : adcRuns s = true) : exec (.listS 12 c code) s = .next (settle (resultDropped .safe 1 s)) := by
  show execListS 12 c code s = _
  rw [execListS, h, guarded_true, done_eq, if_neg (by decide), if_pos rfl]

theorem exec_listS_coil (h : adcRuns s = true) : exec (.listS 10 c code) s
    = .next (settle (coilWindow code (resultDropped .tmr 1 s))) := by
  show execListS 10 c code s = _
  rw [execListS, h, guarded_true, done_eq, if_neg (by decide), if_neg (by decide), if_pos rfl]

/-- Window 9 takes the code; where it fires while the coil is held in its loop, the sense is lost (R213, Table 11-3). -/
theorem coilWindow_eq (code : BitVec 16) (s : State) : coilWindow code s =
    if (evalWindow false code.toNat (winAt s 9)).2 && isUp s .tmr && s.swg.coilCmd && !s.swg.openLoop then
      senseLost (setWin 9 (evalWindow false code.toNat (winAt s 9)).1 s)
    else setWin 9 (evalWindow false code.toNat (winAt s 9)).1 s := rfl

theorem senseLost_frame (s : State) : senseLost s
    = { s with swg := { s.swg with coilDuty := 255, openLoop := true }, flash := (senseLost s).flash } := logEvent_frame ..

theorem winAt_coilWindow (code : BitVec 16) (s : State) :
    winAt (coilWindow code s) 9 = (evalWindow false code.toNat (winAt s 9)).1 := by
  have hset := winAt_setWin_same (show 9 < 16 by decide) (evalWindow false code.toNat (winAt s 9)).1 s
  rw [coilWindow_eq]
  split
  · rw [senseLost_frame]
    exact hset
  · exact hset

theorem coilWindow_of_lost (h : (evalWindow false code.toNat (winAt s 9)).2 = true) (htmr : isUp s .tmr = true)
    (hcoil : s.swg.coilCmd = true) (hloop : s.swg.openLoop = false) :
    coilWindow code s = senseLost (setWin 9 (evalWindow false code.toNat (winAt s 9)).1 s) := by
  rw [coilWindow_eq, h, htmr, hcoil, hloop]
  rfl

theorem coilWindow_of_absent (h : isUp s .tmr = false) :
    coilWindow code s = setWin 9 (evalWindow false code.toNat (winAt s 9)).1 s := by
  simp [coilWindow_eq, h]

end

/-- Settles O25: list P by the window and its outcome, a result for an absent island of each list, and the rows of lists M, E and S. -/
theorem listResults : Obligations.ListResults := by
  unfold Obligations.ListResults
  intro s hadc
  refine ⟨fun d e htmr hsafe => ⟨fun hpwm => ?firstWindow, fun high hlast hbefore hlevel hedge => ?goodPeriod,
      fun high hlast hbad hcount => ?badPeriod⟩,
    fun high d e => ⟨fun htmr => ?noTmr, fun hsafe => ?noSafe⟩, fun x => ⟨fun hmet => ?samples, fun hmet => ?noMet⟩,
    fun code => exec_listE hadc, fun c code => ?temperature, fun c code hfires => ?coil, fun c code hsafe => ?reference⟩
  case firstWindow =>
    have hexec := exec_listP_judged (high := true) (mv := d) (e := e) hadc htmr hsafe
    rw [pilotWindow_of_first hpwm] at hexec
    refine ⟨_, hexec, ?_, rfl⟩
    simp [windowGood, commandedMv, hpwm]
  case goodPeriod =>
    have hexec := exec_listP_judged (high := high) (mv := d) (e := e) hadc htmr hsafe
    rw [windowGood_iff.2 ⟨hlevel, hedge⟩, pilotWindow_of_last hlast, hbefore, Bool.not_false, Bool.and_true, pilotLoopback_good] at hexec
    exact ⟨_, hexec, rfl, getLsbD_setBit_zero s.safe.passed, rfl⟩
  case badPeriod =>
    have hexec := exec_listP_judged (high := high) (mv := d) (e := e) hadc htmr hsafe
    have hfails : (windowGood high d e s && !s.safe.pilotWindowBad) = false := by
      obtain hbad | hbad := hbad
      · rw [hbad, Bool.not_true, Bool.and_false]
      · have hwindow : ¬ windowGood high d e s = true := by
          rw [windowGood_iff]
          omega
        rw [eq_false_of_ne_true hwindow, Bool.false_and]
    rw [pilotWindow_of_last hlast, hfails, pilotLoopback_third (by exact hcount)] at hexec
    exact ⟨_, hexec, diagFail_standing _ (by decide)⟩
  case noTmr =>
    have hexec := exec_listP (high := high) (mv := d) (e := e) hadc
    rw [windowJudged_of_absent (.inl htmr)] at hexec
    refine ⟨_, hexec, ?_, ((resultDropped_onlyFabric .tmr 1 s).trans (resultDropped_onlyFabric .safe 1 _)).trans (settle_onlyFabric _)⟩
    rw [settle_port, resultDropped_port_other (by decide), resultDropped_one htmr, lossCount_dropPosted]
  case noSafe =>
    have hexec := exec_listP (high := high) (mv := d) (e := e) hadc
    rw [windowJudged_of_absent (.inr hsafe)] at hexec
    refine ⟨_, hexec, ?_, ((resultDropped_onlyFabric .tmr 1 s).trans (resultDropped_onlyFabric .safe 1 _)).trans (settle_onlyFabric _)⟩
    rw [settle_port, resultDropped_one (resultDropped_isUp.trans hsafe), lossCount_dropPosted, resultDropped_port_other (by decide)]
  case samples =>
    refine ⟨_, exec_listM_up hadc hmet, ?_, ?_, ?_⟩
    · rw [settle_met, noteClip_frame]
      rfl
    · rw [settle_met, noteClip_frame]
      rfl
    · rw [settle_frame, noteClip_frame]
      rfl
  case noMet =>
    refine ⟨_, exec_listM_absent hadc hmet, (resultDropped_onlyFabric .met 4 s).trans (settle_onlyFabric _), ?_⟩
    rw [settle_port, resultDropped_lossCount hmet]
  case temperature =>
    have hwin := feedWindow_onlyWindows true code.toInt 8 { s with adc := { s.adc with dieTemp := code } }
    refine ⟨_, exec_listS_temperature hadc, ?_, ?_⟩
    · rw [settle_adc, hwin]
    · rw [settle_frame, hwin]
  case coil =>
    refine ⟨_, exec_listS_coil hadc, ?_, fun htmr hcoil hloop => ?_, fun htmr => ?_⟩
    · rw [winAt_settle, winAt_coilWindow, winAt, (resultDropped_onlyFabric .tmr 1 s)]
      rfl
    · rw [resultDropped_of_up htmr, coilWindow_of_lost hfires htmr hcoil hloop, senseLost_frame]
      exact ⟨rfl, rfl⟩
    · rw [coilWindow_of_absent (resultDropped_isUp.trans htmr), settle_swg, settle_port, resultDropped_one htmr]
      exact ⟨rfl, lossCount_dropPosted .tmr .adc s⟩
  case reference =>
    refine ⟨_, exec_listS_reference hadc, ?_, (resultDropped_onlyFabric .safe 1 s).trans (settle_onlyFabric _)⟩
    rw [settle_port, resultDropped_one hsafe, lossCount_dropPosted]

end Sys2Proof.Machine
end

section
/-! Break (08): the read-back that differs from the command, the release of the coil, what the interlock holds back, and the samples of
the economiser. -/

namespace Sys2Proof.Machine

section
variable {s : State}

/-! ### Read-backs (R202) -/

theorem makeComplete_of_notMake (h : s.ses.phase ≠ .make) : makeComplete s = s := by
  simp [makeComplete, h]

/-- Outside Make and Break a read-back ends no step. -/
theorem stepOneEnds_of_neither (fb : BitVec 4) (hmake : s.ses.phase ≠ .make) (hbreak : s.ses.phase ≠ .break) :
    stepOneEnds fb s = s := by
  simp [stepOneEnds, hmake, hbreak]

theorem readbackJudged_of_differs {g : BitVec 4} (h : (g &&& declaredGates s) ≠ drivenGates s) :
    readbackJudged g s = diagFail 3 { s with swg := { s.swg with gateFb := g &&& declaredGates s, fbMismatch := true } } :=
  if_neg h

/-- A read-back that differs from what is driven is a failure of diagnostic 3 and no more (R202). -/
theorem readback_of_differs {g : BitVec 4} (hmake : s.ses.phase ≠ .make) (hbreak : s.ses.phase ≠ .break)
    (h : (g &&& declaredGates s) ≠ drivenGates s) :
    readback g s = diagFail 3 { s with swg := { s.swg with gateFb := g &&& declaredGates s, fbMismatch := true } } := by
  have hses := readbackJudged_ses g s
  rw [readback_eq, makeComplete_of_notMake (by rwa [hses]), stepOneEnds_of_neither _ (by rwa [hses]) (by rwa [hses]),
    readbackJudged_of_differs h]

/-! ### The coil's release (R207, R208, R209) -/

/-- With the gates off the coil opens, and Break waits for the contact. -/
theorem releaseCoil_of_off (hcoil : s.swg.coilCmd = true) (hoff : s.swg.gateFb = 0) (haux : s.swg.aux = true) :
    releaseCoil s = coilReleased s := by
  rw [releaseCoil, if_pos hcoil, if_pos hoff]
  exact if_pos haux

/-- With a gate on the interlock holds the release back. -/
theorem releaseCoil_of_on (hcoil : s.swg.coilCmd = true) (hon : s.swg.gateFb ≠ 0) : releaseCoil s
    = { s with swg := { s.swg with heldCoil := some false, interlock := true }, ses := { s.ses with breakStep := 3 } } := by
  rw [releaseCoil, if_pos hcoil, if_neg hon]

/-- A PWM that runs is stopped at its period's end, and Break waits for that in step 5 (R178). -/
theorem breakStepFive_of_pwm (h : s.plt.level = .pwm) : breakStepFive s
    = { s with ses := { s.ses with breakStep := 5 }, plt := { s.plt with next := 0, nextLevel := .steady } } := by
  rw [breakStepFive]
  exact if_pos (by simp [h])

theorem exec_zeroCurrentWindowEnd (hmet : isUp s .met = true) (hphase : s.ses.phase = .break) (hstep : s.ses.breakStep = 2) :
    exec .zeroCurrentWindowEnd s = .next (settle (releaseCoil s)) := by
  show execZeroCurrentWindowEnd s = _
  rw [execZeroCurrentWindowEnd, hmet, hphase, hstep]
  rfl

/-- A gate is stuck on: SAFE takes the coil's command away, whatever the interlock holds back (R208). -/
def stuckNoted (s : State) : State := { s with
  swg := { s.swg with
    stuckOn := true, coilCmd := false, coilDuty := 0, openLoop := false, recent := [], heldCoil := none, interlock := false }
  ses := { s.ses with breakStep := 4 } }

theorem exec_stuckOn (hphase : s.ses.phase = .break) (hlow : 1 ≤ s.ses.breakStep) (hhigh : s.ses.breakStep ≤ 3)
    (haux : s.swg.aux = true) : exec .stuckOn s = .next (settle (diagFail 3 (stuckNoted s))) := by
  have hclosed : (diagFail 3 (stuckNoted s)).swg.aux = true := by rw [diagFail_swg]; exact haux
  show execStuckOn s = _
  rw [execStuckOn, hphase, decide_eq_true hlow, decide_eq_true hhigh, done_eq]
  exact congrArg (fun u => Host.Outcome.next (settle u)) (if_pos hclosed)

/-- The contactor has not opened in time: diagnostic 4 fails, and Break goes on (R209). -/
theorem exec_auxOpenTimeout (hphase : s.ses.phase = .break) (hstep : s.ses.breakStep = 4) (haux : s.swg.aux = true) :
    exec .auxOpenTimeout s = .next (settle (breakStepFive (diagFail 4 { s with swg := { s.swg with auxFault := true } }))) := by
  show execAuxOpenTimeout s = _
  rw [execAuxOpenTimeout, hphase, hstep, haux]
  rfl

/-! ### The interlock (R210) -/

/-- The coil is energised as the interlock lets its command go. -/
def coilEnergised (s : State) : State := { s with swg := { s.swg with
  coilCmd := true, coilDuty := 255, openLoop := false, recent := [], heldCoil := none, interlock := s.swg.heldGates != 0 } }

/-- What becomes of the coil's command that the interlock holds back. -/
def heldCoilProceeds (s : State) : State :=
  match s.swg.heldCoil with
  | some true => if s.swg.gateFb = 0 then coilEnergised s else s
  | some false => if s.swg.gateFb = 0 then releaseCoil { s with swg := { s.swg with heldCoil := none } } else s
  | none => s

theorem exec_interlockRelease (h : s.swg.interlock = true) :
    exec .interlockRelease s = .next (settle (releaseHeldGates (heldCoilProceeds s))) := by
  show execInterlockRelease s = _
  rw [execInterlockRelease, h]
  rfl

theorem heldCoilProceeds_of_on (hheld : s.swg.heldCoil = some true) (hoff : s.swg.gateFb = 0) :
    heldCoilProceeds s = coilEnergised s := by
  simp [heldCoilProceeds, hheld, hoff]

theorem heldCoilProceeds_of_off (hheld : s.swg.heldCoil = some false) (hoff : s.swg.gateFb = 0) (hcoil : s.swg.coilCmd = true)
    (haux : s.swg.aux = true) : heldCoilProceeds s = coilReleased s := by
  rw [heldCoilProceeds, hheld]
  exact (if_pos hoff).trans (releaseCoil_of_off (s := { s with swg := { s.swg with heldCoil := none } }) hcoil hoff haux)

theorem heldCoilProceeds_of_none (hheld : s.swg.heldCoil = none) : heldCoilProceeds s = s := by
  simp [heldCoilProceeds, hheld]

theorem releaseHeldGates_of_none (h : s.swg.heldGates = 0) : releaseHeldGates s = s := by
  simp [releaseHeldGates, h]

/-- Over a closed contact the gates that were held back turn on. -/
theorem releaseHeldGates_of_closed (haux : s.swg.aux = true) (hheld : s.swg.heldGates ≠ 0) : releaseHeldGates s
    = { s with swg := { s.swg with gateCmd := s.swg.gateCmd ||| (s.swg.heldGates &&& declaredGates s), heldGates := 0
                                   interlock := s.swg.heldCoil.isSome } } := by
  rw [releaseHeldGates, if_neg (by simpa [haux] using hheld)]
  exact turnOn_of_aux (by exact haux)

/-- Gates that turn on, or stay held back, leave the coil's command and Break as they are. -/
theorem releaseHeldGates_frame (haux : s.swg.aux = true) : releaseHeldGates s
    = { s with swg := { s.swg with gateCmd := (releaseHeldGates s).swg.gateCmd, heldGates := (releaseHeldGates s).swg.heldGates
                                   interlock := (releaseHeldGates s).swg.interlock } } := by
  by_cases hheld : s.swg.heldGates = 0
  · rw [releaseHeldGates_of_none hheld]
  · rw [releaseHeldGates_of_closed haux hheld]

theorem exec_interlockHoldTimeout (h : s.swg.interlock = true) :
    exec .interlockHoldTimeout s = .next (settle (diagFail 3 s)) := by
  show execInterlockHoldTimeout s = _
  rw [execInterlockHoldTimeout, h]
  rfl

/-! ### The economiser (R212, R213) -/

/-- A sample is taken into SENSE_MA, and while the coil is commanded on among the last ten. -/
def senseTaken (ma : BitVec 16) (s : State) : State := { s with swg := { s.swg with
  senseMa := ma, recent := if s.swg.coilCmd then ((ma, s.swg.coilDuty) :: s.swg.recent).take 10 else [] } }

theorem exec_economiserSample {ma : BitVec 16} (htmr : isUp s .tmr = true) (hadc : adcRuns s = true) :
    exec (.economiserSample ma) s = .next (settle (economiser ma s)) := by
  show execEconomiserSample ma s = _
  rw [execEconomiserSample, htmr, hadc]
  rfl

theorem economiser_eq (ma : BitVec 16) (s : State) : economiser ma s =
    if !s.swg.coilCmd || s.swg.openLoop then senseTaken ma s
    else if senseFails (senseTaken ma s).swg.recent ma then senseLost (senseTaken ma s)
    else if s.ses.phase == .make && s.ses.makeStep ≤ 3 then
      { senseTaken ma s with swg := { (senseTaken ma s).swg with coilDuty := 255 } }
    else { senseTaken ma s with
      swg := { (senseTaken ma s).swg with coilDuty := Config.economiserDuty s.free }, free := s.free + 1 } := rfl

theorem senseTaken_recent {ma : BitVec 16} (hcoil : s.swg.coilCmd = true) :
    (senseTaken ma s).swg.recent = ((ma, s.swg.coilDuty) :: s.swg.recent).take 10 := if_pos hcoil

theorem economiser_of_off {ma : BitVec 16} (hcoil : s.swg.coilCmd = false) : economiser ma s = senseTaken ma s := by
  rw [economiser_eq, hcoil]
  rfl

/-- A reading above 3000 mA loses the sense, whatever came before (R213). -/
theorem senseFails_of_above {ma : BitVec 16} (l : List (BitVec 16 × BitVec 8)) (h : 3000 < ma.toNat) : senseFails l ma = true := by
  simp [senseFails, h]

theorem economiser_of_lost {ma : BitVec 16} (hcoil : s.swg.coilCmd = true) (hloop : s.swg.openLoop = false)
    (hfails : senseFails (((ma, s.swg.coilDuty) :: s.swg.recent).take 10) ma = true) :
    economiser ma s = senseLost (senseTaken ma s) := by
  rw [economiser_eq, senseTaken_recent hcoil, hcoil, hloop, hfails]
  rfl

/-- In closed loop outside Make the loop's next duty is a free value (R212). -/
theorem economiser_of_held {ma : BitVec 16} (hcoil : s.swg.coilCmd = true) (hloop : s.swg.openLoop = false)
    (hholds : senseFails (((ma, s.swg.coilDuty) :: s.swg.recent).take 10) ma = false) (hmake : s.ses.phase ≠ .make) :
    economiser ma s = { senseTaken ma s with
      swg := { (senseTaken ma s).swg with coilDuty := Config.economiserDuty s.free }, free := s.free + 1 } := by
  rw [economiser_eq, senseTaken_recent hcoil, hcoil, hloop, hholds, beq_eq_false_iff_ne.mpr hmake]
  rfl

end

/-- Settles O16: Break, the interlock and the economiser, each command by the state that it leads to. -/
theorem breakSteps : Obligations.BreakSteps := by
  unfold Obligations.BreakSteps
  intro s
  refine ⟨fun g htmr hmake hbreak hdiffers => ?mismatch, fun hmet hphase hstep hoff hcoil haux => ?opens,
    fun hmet hphase hstep hon hcoil => ?held, fun hphase hlow hhigh haux => ?stuckOn, fun hphase hstep haux hpwm => ?stuckClosed,
    fun hlock hheld hoff hgates => ?coilProceeds, fun hlock hheld hoff hcoil haux => ?releaseProceeds,
    fun hlock hheld haux hgates => ?gatesProceed, exec_interlockHoldTimeout,
    fun ma htmr hadc hcoil hloop => ⟨fun habove => ?senseLost, fun hholds hmake => ?closedLoop⟩,
    fun ma htmr hadc hcoil => ?coilOff⟩
  case mismatch =>
    refine ⟨_, exec_readbackCheck htmr, ?_⟩
    rw [readback_of_differs hmake hbreak hdiffers]
    exact ⟨by rw [settle_swg, diagFail_swg], diagFail_standing (n := 3) _ (by decide)⟩
  case opens =>
    refine ⟨_, exec_zeroCurrentWindowEnd hmet hphase hstep, ?_⟩
    rw [releaseCoil_of_off hcoil hoff haux]
    exact ⟨rfl, rfl, rfl⟩
  case held =>
    refine ⟨_, exec_zeroCurrentWindowEnd hmet hphase hstep, ?_⟩
    rw [releaseCoil_of_on hcoil hon]
    exact ⟨hcoil, rfl, rfl, rfl⟩
  case stuckOn =>
    refine ⟨_, exec_stuckOn hphase hlow hhigh haux, ?_⟩
    rw [settle_swg, settle_ses, settle_live, diagFail_swg, diagFail_ses]
    exact ⟨rfl, rfl, rfl, rfl, diagFail_standing (n := 3) _ (by decide)⟩
  case stuckClosed =>
    refine ⟨_, exec_auxOpenTimeout hphase hstep haux, ?_⟩
    rw [breakStepFive_of_pwm (by rwa [diagFail_plt])]
    refine ⟨?_, rfl, diagFail_standing (n := 4) _ (by decide)⟩
    rw [settle_swg]
    simp
  case coilProceeds =>
    refine ⟨_, exec_interlockRelease hlock, ?_⟩
    rw [heldCoilProceeds_of_on hheld hoff, releaseHeldGates_of_none (s := coilEnergised s) hgates]
    exact ⟨rfl, rfl, by simp [coilEnergised, hgates]⟩
  case releaseProceeds =>
    refine ⟨_, exec_interlockRelease hlock, ?_⟩
    rw [heldCoilProceeds_of_off hheld hoff hcoil haux, releaseHeldGates_frame (s := coilReleased s) haux]
    exact ⟨rfl, rfl, rfl⟩
  case gatesProceed =>
    refine ⟨_, exec_interlockRelease hlock, ?_⟩
    rw [heldCoilProceeds_of_none hheld, releaseHeldGates_of_closed haux hgates]
    exact ⟨rfl, rfl⟩
  case senseLost =>
    refine ⟨_, exec_economiserSample htmr hadc, ?_⟩
    rw [economiser_of_lost hcoil hloop (senseFails_of_above _ habove), senseLost_frame]
    exact ⟨rfl, rfl, rfl, rfl⟩
  case closedLoop =>
    refine ⟨_, exec_economiserSample htmr hadc, ?_⟩
    rw [economiser_of_held hcoil hloop hholds hmake]
    exact ⟨rfl, hloop, rfl⟩
  case coilOff =>
    refine ⟨_, exec_economiserSample htmr hadc, ?_⟩
    rw [economiser_of_off hcoil]
    exact ⟨rfl, rfl, rfl⟩

end Sys2Proof.Machine
end

section
/-! What the operations of a session leave of the cable lock (08): at most a command of the lock is added (R34, R217). -/

namespace Sys2Proof.Machine

/-! ### Operations that leave the lock alone -/

@[simp] theorem eventPrompt_lck (n : Nat) (s : State) : (eventPrompt n s).lck = s.lck := by rw [eventPrompt_frame]

@[simp] theorem markStop_lck (r : BitVec 8) (s : State) : (markStop r s).lck = s.lck := by rw [markStop_frame]

@[simp] theorem releaseGrant_lck (s : State) : (releaseGrant s).lck = s.lck := by
  unfold releaseGrant
  repeat' split
  all_goals rfl

@[simp] theorem closeSession_lck (r : BitVec 8) (s : State) : (closeSession r s).lck = s.lck := by
  unfold closeSession
  split
  · rfl
  · exact (releaseGrant_lck _).trans (markStop_lck r s)

@[simp] theorem endPrompt_lck (r : BitVec 8) (s : State) : (endPrompt r s).lck = s.lck := by
  unfold endPrompt
  repeat' split
  all_goals simp

@[simp] theorem enterPaused_lck (s : State) : (enterPaused s).lck = s.lck := by simp [enterPaused]

@[simp] theorem offerOrPause_lck (s : State) : (offerOrPause s).lck = s.lck := by
  unfold offerOrPause
  dsimp only
  split
  · rfl
  · exact enterPaused_lck _

@[simp] theorem dueHold_lck (s : State) : (dueHold s).lck = s.lck := by
  unfold dueHold
  split <;> rfl

@[simp] theorem breakBegins_lck (r : BitVec 8) (s : State) : (breakBegins r s).lck = s.lck := by
  unfold breakBegins
  dsimp only
  split
  · rfl
  · exact markStop_lck r _

/-! ### Operations that may command the lock -/

/-- From s to t the lock differs at most in the command that waits. -/
def OnlyCommanded (s t : State) : Prop := t.lck = { s.lck with queued := t.lck.queued }

theorem OnlyCommanded.of_eq {s t : State} (h : t.lck = s.lck) : OnlyCommanded s t := by
  unfold OnlyCommanded
  rw [h]

theorem OnlyCommanded.trans {s t u : State} (h : OnlyCommanded s t) (h' : OnlyCommanded t u) : OnlyCommanded s u := by
  unfold OnlyCommanded at *
  rw [h', h]

theorem commandMove_onlyCommanded (b : Bool) (s : State) : OnlyCommanded s (commandMove b s) := by
  unfold commandMove
  split
  · exact Eq.refl _
  · exact .of_eq rfl

theorem lockAtEnd_onlyCommanded (r : BitVec 8) (s : State) : OnlyCommanded s (lockAtEnd r s) := by
  unfold lockAtEnd
  repeat' split
  case isFalse.isFalse.isTrue => exact commandMove_onlyCommanded false s
  all_goals exact .of_eq rfl

theorem endSession_onlyCommanded (r : BitVec 8) (s : State) : OnlyCommanded s (endSession r s) := by
  have hphase : OnlyCommanded s (phaseEnded (closeSession r s)) := .of_eq (closeSession_lck r s)
  rw [endSession, enterEnded_eq]
  exact (hphase.trans (lockAtEnd_onlyCommanded r _)).trans (.of_eq (endPrompt_lck r _))

theorem breakOutcome_onlyCommanded (s : State) : OnlyCommanded s (breakOutcome s) := by
  unfold breakOutcome
  repeat' split
  case isFalse => exact endSession_onlyCommanded _ s
  all_goals exact .of_eq (enterPaused_lck s)

theorem finishBreak_onlyCommanded (s : State) : OnlyCommanded s (finishBreak s) := by
  have hstep : OnlyCommanded s { s with ses := { s.ses with breakStep := 0 } } := .of_eq rfl
  rw [finishBreak_eq]
  exact (hstep.trans (breakOutcome_onlyCommanded _)).trans (.of_eq (dueHold_lck _))

theorem breakStepFive_onlyCommanded (s : State) : OnlyCommanded s (breakStepFive s) := by
  unfold breakStepFive
  dsimp only
  split
  · exact .of_eq rfl
  · exact finishBreak_onlyCommanded _

theorem releaseCoil_onlyCommanded (s : State) : OnlyCommanded s (releaseCoil s) := by
  unfold releaseCoil
  dsimp only
  repeat' split
  case isTrue.isTrue.isFalse => exact breakStepFive_onlyCommanded (coilReleased s)
  case isFalse.isFalse => exact breakStepFive_onlyCommanded s
  all_goals exact .of_eq rfl

theorem startBreak_onlyCommanded (r : BitVec 8) (s : State) : OnlyCommanded s (startBreak r s) := by
  have hbegins : OnlyCommanded s (breakBegins r s) := .of_eq (breakBegins_lck r s)
  rw [startBreak_eq]
  split
  · exact .of_eq (breakBegins_lck r s)
  · exact hbegins.trans (releaseCoil_onlyCommanded _)

theorem stopSession_onlyCommanded (r : BitVec 8) (s : State) : OnlyCommanded s (stopSession r s) := by
  unfold stopSession
  repeat' split
  case h_1.isTrue => exact .of_eq (markStop_lck r _)
  case h_2 | h_3 | h_4 => exact startBreak_onlyCommanded r s
  case h_5 => exact endSession_onlyCommanded r s
  all_goals exact .of_eq rfl

end Sys2Proof.Machine
end

section
/-! The cable lock (08): its moves and their ends, what a limit and the hall sensor bring about, and what a fault leaves (R215 to R225). -/

namespace Sys2Proof.Machine

/-! ### Bits -/

theorem getLsbD_setBit_self {w n : Nat} (b : BitVec w) (h : n < w) : (setBit b n).getLsbD n = true := by
  rw [setBit, BitVec.getLsbD_or, BitVec.getLsbD_ofNat, Nat.testBit_two_pow_self, decide_eq_true h, Bool.and_self, Bool.or_true]

/-- A bit that is set already is set again without effect. -/
theorem setBit_of_set {w n : Nat} {b : BitVec w} (h : b.getLsbD n = true) : setBit b n = b := by
  apply BitVec.eq_of_getLsbD_eq
  intro i hi
  by_cases hin : i = n
  · rw [hin, h, getLsbD_setBit_of n h]
  · rw [setBit, BitVec.getLsbD_or, BitVec.getLsbD_ofNat, Nat.testBit_two_pow_of_ne (Ne.symm hin), Bool.and_false, Bool.or_false]

section
variable {s : State}

/-! ### A lock fault (R223, R225) -/

/-- The lock under a fault: braked, in LockState 5, with no command left. -/
def faultedLock (n : Nat) (s : State) : Lock := { s.lck with
  moving := none, drive := .brake, homing := false, elapsedMs := if s.lck.moving.isSome then elapsedNow s else s.lck.elapsedMs
  faults := setBit s.lck.faults n, state := 5, queued := none, homingDue := false, afterBrake := 5 }

theorem lockFaultNoted_lck (n : Nat) (s : State) : (lockFaultNoted n s).lck = faultedLock n s := by
  unfold lockFaultNoted
  rw [logEvent_frame]
  dsimp only
  split <;> rfl

/-- The end of the session that a fault brings about leaves the lock under it. -/
theorem lockFault_lck (n : Nat) (s : State) :
    (lockFault n s).lck = { faultedLock n s with queued := (lockFault n s).lck.queued } := by
  rw [lockFault_eq, ← lockFaultNoted_lck]
  split
  · rfl
  · exact stopSession_onlyCommanded 5 _

theorem lockFault_stands {n : Nat} (h : n < 3) (s : State) : (lockFault n s).lck.faults.getLsbD n = true
    ∧ (lockFault n s).lck.state = 5 ∧ (lockFault n s).lck.drive = .brake ∧ (lockFault n s).lck.moving = none := by
  rw [lockFault_lck]
  exact ⟨getLsbD_setBit_self s.lck.faults h, rfl, rfl, rfl⟩

/-- The time of the move that a fault ends stands in LCK_MOVE. -/
theorem lockFault_elapsed (n : Nat) (h : s.lck.moving ≠ none) : (lockFault n s).lck.elapsedMs = elapsedNow s := by
  rw [lockFault_lck]
  exact if_pos (Option.isSome_iff_ne_none.mpr h)

/-! ### Moves (R216, R218, R221) -/

/-- The motor is driven towards a limit. -/
def moveDriven (toLocked : Bool) (s : State) : State := { s with lck := { s.lck with
  queued := none, homing := s.lck.homing || (s.lck.homingDue && !toLocked), homingDue := false, moving := some toLocked
  state := if toLocked then 3 else 4, drive := if toLocked then .locking else .unlocking, pulses := 0, moveStart := s.bil.running } }

/-- A move whose limit is not yet closed drives the motor, and is a fault over a hall sensor known to be absent (R223). -/
theorem beginMove_of_away {toLocked : Bool} (h : (if toLocked then s.lck.limLocked else s.lck.limUnlocked) = false) :
    beginMove toLocked s =
      if s.lck.hallKnown && !s.lck.hallOk then lockFault 2 (moveDriven toLocked s) else moveDriven toLocked s := by
  rw [beginMove]
  exact if_neg (ne_true_of_eq_false h)

theorem exec_lockMove {toLocked : Bool} (htmr : isUp s .tmr = true) (hfit : lockFitted s = true)
    (hqueued : s.lck.queued = some toLocked) (hrest : s.lck.moving = none) (hfree : s.lck.drive = .free) (hsound : s.lck.faults = 0)
    (hsafe : safeInForce s = false) (hbrown : s.pwr.brown.active = false) :
    exec (.lockMove toLocked) s = .next (settle (beginMove toLocked s)) := by
  show execLockMove toLocked s = _
  simp [execLockMove, done_eq, htmr, hfit, hqueued, hrest, hfree, hsound, hsafe, hbrown]

/-- No move begins under a lock fault (R223, R225). -/
theorem exec_lockMove_of_fault {toLocked : Bool} (h : s.lck.faults ≠ 0) : exec (.lockMove toLocked) s = .next (settle s) := by
  show execLockMove toLocked s = _
  rw [execLockMove, beq_eq_false_iff_ne.mpr h, Bool.and_false, Bool.false_and, Bool.false_and, guarded_false, done_eq]

theorem exec_lockBrakeEnd (h : s.lck.drive = .brake) : exec .lockBrakeEnd s
    = .next (settle { s with lck := { s.lck with drive := .free, state := s.lck.afterBrake } }) := by
  show execLockBrakeEnd s = _
  rw [execLockBrakeEnd, h]
  rfl

theorem exec_unlockAfterStateA (hwaits : s.ses.unlockWaits = true) (hstate : s.plt.state = .a) (hsafe : s.safe.active = false)
    (hsound : s.lck.faults = 0) :
    exec .unlockAfterStateA s = .next (settle (commandMove false { s with ses := { s.ses with unlockWaits := false } })) := by
  show execUnlockAfterStateA s = _
  rw [execUnlockAfterStateA, hwaits, hstate, hsafe, hsound]
  rfl

/-! ### Limits (R215, R222, R223) -/

theorem exec_limitTransition (w : Limit) (n : Nat) (htmr : isUp s .tmr = true) (hfit : lockFitted s = true) :
    exec (.limitTransition w n) s = .next (settle (guarded (decide (4 < n)) (lockFault 1) s)) := by
  show execLimitTransition w n s = _
  rw [execLimitTransition, htmr, hfit, done_eq]
  rfl

/-- LIM_LOCKED is confirmed closed. -/
def lockedConfirmed (s : State) : State := { s with lck := { s.lck with limLocked := true } }

theorem exec_limitConfirmed_locked (htmr : isUp s .tmr = true) (hfit : lockFitted s = true) :
    exec (.limitConfirmed .locked true) s
      = .next (settle (limitFollows true s.lck.limLocked true (lockedConfirmed s))) := by
  show execLimitConfirmed .locked true s = _
  rw [execLimitConfirmed, htmr, guarded_true, done_eq]
  exact congrArg (fun u => Host.Outcome.next (settle u)) (if_pos hfit)

/-- Both limits closed at once are a fault of the wiring (R223). -/
theorem limitFollows_of_both (isL wasLocked closed : Bool) (hl : s.lck.limLocked = true) (hu : s.lck.limUnlocked = true) :
    limitFollows isL wasLocked closed s = lockFault 0 s := by
  rw [limitFollows, hl, hu]
  rfl

/-- The lock whose move ends at LIM_LOCKED: braked, to be locked as BRAKE ends (R216). -/
def lockedReached (s : State) : Lock := { s.lck with
  moving := none, drive := .brake, homing := false, elapsedMs := elapsedNow s, afterBrake := 2 }

theorem limitFollows_of_reached (wasLocked : Bool) (hmove : s.lck.moving = some true) (hhoming : s.lck.homing = false)
    (hu : s.lck.limUnlocked = false) : (limitFollows true wasLocked true s).lck = lockedReached s := by
  have hstop : (stopMotor s).lck.elapsedMs = elapsedNow s := if_pos (by simp [hmove])
  rw [limitFollows, hu, hmove, hhoming]
  simp only [Bool.and_false, Bool.false_eq_true, if_false, Bool.and_self, beq_self_eq_true, if_true]
  split
  · rw [offerOrPause_lck, lockedReached, ← hstop]
    rfl
  · rw [lockedReached, ← hstop]
    rfl

/-! ### The hall sensor (R215, R223, R224) -/

theorem exec_hallPulse (htmr : isUp s .tmr = true) (hfit : lockFitted s = true) (hmove : s.lck.moving ≠ none) :
    exec .hallPulse s = .next (settle { s with lck := { s.lck with pulses := satInc s.lck.pulses } }) := by
  have hdriven : (s.lck.moving.isSome || s.lck.drive != .free) = true := by
    rw [Option.isSome_iff_ne_none.mpr hmove, Bool.true_or]
  show execHallPulse s = _
  rw [execHallPulse, htmr, hfit, done_eq]
  exact congrArg (fun u => Host.Outcome.next (settle u)) (if_pos hdriven)

theorem exec_hallTimeout (h : s.lck.moving ≠ none) : exec .hallTimeout s = .next (settle (lockFault 2 s)) := by
  show execHallTimeout s = _
  rw [execHallTimeout, done_eq, Option.isSome_iff_ne_none.mpr h]
  rfl

theorem exec_lockMoveTimeout (h : s.lck.moving ≠ none) : exec .lockMoveTimeout s = .next (settle (lockFault 0 s)) := by
  show execLockMoveTimeout s = _
  rw [execLockMoveTimeout, done_eq, Option.isSome_iff_ne_none.mpr h]
  rfl

theorem exec_hallSensorAbsent_of_present {ua : BitVec 16} (htmr : isUp s .tmr = true) (hadc : adcRuns s = true)
    (h : 1000 ≤ ua.toNat ∧ ua.toNat ≤ 20000) : exec (.hallSensorAbsent ua) s
      = .next (settle { s with lck := { s.lck with hallOk := true, hallKnown := true } }) := by
  have hpresent : hallPresent ua = true := by simpa [hallPresent] using h
  show execHallSensorAbsent ua s = _
  rw [execHallSensorAbsent, htmr, hadc, Bool.and_self, guarded_true, done_eq, if_pos hpresent]

theorem exec_hallSensorAbsent_of_absent {ua : BitVec 16} (htmr : isUp s .tmr = true) (hadc : adcRuns s = true)
    (h : ua.toNat < 1000 ∨ 20000 < ua.toNat) : exec (.hallSensorAbsent ua) s = .next (settle (hallLost s)) := by
  have habsent : ¬ hallPresent ua = true := by
    simp only [hallPresent, Bool.and_eq_true, decide_eq_true_eq]
    omega
  show execHallSensorAbsent ua s = _
  rw [execHallSensorAbsent, htmr, hadc, Bool.and_self, guarded_true, done_eq, if_neg habsent]

/-- The sensor is known to be absent. -/
def hallAbsent (s : State) : State := { s with lck := { s.lck with hallOk := false, hallKnown := true } }

/-- LOCK_FB_LOST is latched over a lock that stays locked, and the session is excused (R224). -/
def feedbackLost (s : State) : State := { s with
  lck := { s.lck with faults := setBit s.lck.faults 2 }, ses := { s.ses with lockExcused := true } }

theorem hallLost_eq (s : State) : hallLost s =
    if !lockFitted s then hallAbsent s
    else if s.lck.moving.isSome then lockFault 2 (hallAbsent s)
    else if s.lck.state = 2 then
      if !s.lck.limLocked then lockFault 2 (hallAbsent s)
      else if s.lck.faults.getLsbD 2 then hallAbsent s
      else logEvent (.lockFault 4) (feedbackLost (hallAbsent s))
    else hallAbsent s := rfl

theorem hallLost_of_moving (hfit : lockFitted s = true) (hmove : s.lck.moving ≠ none) : hallLost s = lockFault 2 (hallAbsent s) := by
  rw [hallLost_eq, hfit, Option.isSome_iff_ne_none.mpr hmove]
  rfl

/-- While the lock is proven locked the loss is latched and logged once (R224). -/
theorem hallLost_of_locked (hfit : lockFitted s = true) (hrest : s.lck.moving = none) (hstate : s.lck.state = 2)
    (hlim : s.lck.limLocked = true) : hallLost s =
      if s.lck.faults.getLsbD 2 then hallAbsent s else logEvent (.lockFault 4) (feedbackLost (hallAbsent s)) := by
  rw [hallLost_eq, hfit, hrest, if_pos hstate, hlim]
  rfl

end

/-- Settles O17: the moves of the lock and their ends, and each way in which a move, a limit or the sensor leads to a fault. -/
theorem lockMoves : Obligations.LockMoves := by
  unfold Obligations.LockMoves
  intro s htmr hfit
  refine ⟨fun toLocked hqueued hrest hfree hsound hsafe hbrown haway => ⟨fun hhall => ?driven, fun hknown habsent => ?unfollowed⟩,
    fun _ => exec_lockMove_of_fault, fun w n hmany => ?chatter, fun w n hfew => ?settled, fun hmove hhoming hopen => ?reached,
    fun hboth => ?wiring, exec_lockBrakeEnd, fun hmove => ⟨_, exec_hallPulse htmr hfit hmove, rfl, rfl⟩,
    fun hmove => ⟨?noPulse, ?tooLong⟩,
    fun ua hadc => ⟨exec_hallSensorAbsent_of_present htmr hadc, fun hrange => ⟨fun hmove => ?lostMoving,
      fun hrest hstate hlim => ?lostLocked⟩⟩,
    fun hwaits hstate hsafe hsound => ?unlocks⟩
  case driven =>
    have hfollowed : (s.lck.hallKnown && !s.lck.hallOk) = false := by
      obtain h | h := hhall <;> simp [h]
    refine ⟨_, exec_lockMove htmr hfit hqueued hrest hfree hsound hsafe hbrown, ?_⟩
    rw [beginMove_of_away haway, hfollowed]
    exact ⟨rfl, rfl, rfl, rfl, rfl⟩
  case unfollowed =>
    refine ⟨_, exec_lockMove htmr hfit hqueued hrest hfree hsound hsafe hbrown, ?_⟩
    rw [beginMove_of_away haway, hknown, habsent]
    exact lockFault_stands (by decide) _
  case chatter =>
    refine ⟨_, exec_limitTransition w n htmr hfit, ?_⟩
    rw [decide_eq_true hmany, guarded_true]
    obtain ⟨hbit, hstate, hdrive, -⟩ := lockFault_stands (n := 1) (by decide) s
    exact ⟨hbit, hstate, hdrive⟩
  case settled =>
    rw [exec_limitTransition w n htmr hfit, decide_eq_false (by omega), guarded_false]
  case reached =>
    refine ⟨_, exec_limitConfirmed_locked htmr hfit, ?_⟩
    rw [settle_lck, limitFollows_of_reached (s := lockedConfirmed s) s.lck.limLocked hmove hhoming hopen]
    exact ⟨rfl, rfl, rfl, rfl, rfl⟩
  case wiring =>
    refine ⟨_, exec_limitConfirmed_locked htmr hfit, ?_⟩
    rw [limitFollows_of_both true s.lck.limLocked true (s := lockedConfirmed s) rfl hboth]
    obtain ⟨hbit, hstate, -, -⟩ := lockFault_stands (n := 0) (by decide) (lockedConfirmed s)
    exact ⟨hbit, hstate⟩
  case noPulse =>
    obtain ⟨hbit, hstate, -, -⟩ := lockFault_stands (n := 2) (by decide) s
    exact ⟨_, exec_hallTimeout hmove, hbit, hstate, lockFault_elapsed 2 hmove⟩
  case tooLong =>
    obtain ⟨hbit, hstate, -, -⟩ := lockFault_stands (n := 0) (by decide) s
    exact ⟨_, exec_lockMoveTimeout hmove, hbit, hstate, lockFault_elapsed 0 hmove⟩
  case lostMoving =>
    refine ⟨_, exec_hallSensorAbsent_of_absent htmr hadc hrange, ?_⟩
    rw [hallLost_of_moving hfit hmove]
    obtain ⟨hbit, hstate, -, -⟩ := lockFault_stands (n := 2) (by decide) (hallAbsent s)
    exact ⟨hbit, hstate⟩
  case lostLocked =>
    refine ⟨_, exec_hallSensorAbsent_of_absent htmr hadc hrange, ?_⟩
    rw [hallLost_of_locked hfit hrest hstate hlim, settle_lck, settle_ses]
    cases hlatched : s.lck.faults.getLsbD 2 with
    | true =>
      rw [setBit_of_set hlatched]
      exact ⟨rfl, fun h => absurd h (by decide)⟩
    | false =>
      rw [if_neg Bool.false_ne_true, logEvent_lck, logEvent_ses]
      exact ⟨rfl, fun _ => rfl⟩
  case unlocks =>
    refine ⟨_, exec_unlockAfterStateA hwaits hstate hsafe hsound, ?_⟩
    rw [commandMove_of_fitted (by exact hfit)]
    exact ⟨rfl, rfl, rfl⟩

end Sys2Proof.Machine
end

section
/-! The Glint path (09): what a comparator latches, counts and reports, its tests, its blind windows, and its thresholds. -/

namespace Sys2Proof.Machine

/-! ### Bits -/

theorem fcNum_lt (fc : Comparator) : fcNum fc < 4 := by cases fc <;> decide

theorem conductorNum_lt (c : Conductor) : conductorNum c < 4 := by cases c <;> decide

theorem getLsbD_clearBit_self {w : Nat} (b : BitVec w) (n : Nat) : (clearBit b n).getLsbD n = false := by
  rw [clearBit, BitVec.getLsbD_and, BitVec.getLsbD_not, BitVec.getLsbD_ofNat, Nat.testBit_two_pow_self]
  simp

theorem getLsbD_putBit_self {w n : Nat} (b : BitVec w) (v : Bool) (h : n < w) : (putBit b n v).getLsbD n = v := by
  cases v with
  | true => exact getLsbD_setBit_self b h
  | false => exact getLsbD_clearBit_self b n

theorem putBit_zero_false {w : Nat} (n : Nat) : putBit (0 : BitVec w) n false = 0 := BitVec.zero_and

section
variable {s : State}

/-! ### The kill latch and its pads (R201, R203) -/

/-- With the latch set every gate pad is off and GKILLN is low, whatever is commanded. -/
theorem pads_of_kill (h : s.glt.kill = true) : gatePads s = 0 ∧ gkillnPad s = .low := by
  constructor
  · simp [gatePads, h]
  · simp [gkillnPad, driven, h]

theorem settle_kill (h : s.glt.kill = true) : (settle s).glt.kill = true := by
  show (s.glt.kill || !isUp s .safe || s.pwr.brown.active) = true
  rw [h, Bool.true_or, Bool.true_or]

/-! ### A comparator's trip (R235, R242, R243) -/

/-- The latch with the comparator's bits, and for FC3 the conductors whose input is tripped (R201). -/
def tripLatched (n : Nat) (s : State) : State := { s with
  glt := { s.glt with
    kill := true, trip := setBit s.glt.trip n, first := if s.glt.trip == 0 then setBit 0 n else s.glt.first }
  swg := { s.swg with desat := if n = 3 then s.swg.desat ||| s.glt.desatNow else s.swg.desat } }

/-- The trip in its counter: that of the earth fault for FC0, of desaturation for FC3. -/
def tripCounted (n : Nat) (s : State) : State := { s with
  rcd := { s.rcd with trips := if n = 0 then satInc s.rcd.trips else s.rcd.trips }
  swg := { s.swg with desatTrips := if n = 3 then satInc s.swg.desatTrips else s.swg.desatTrips } }

/-- The log's entry of a trip that comes in the safe state or the brown-out sequence (R243). -/
def tripLogged (n : Nat) (s : State) : State :=
  if safeInForce s || s.pwr.brown.active then logEvent (.tripInForce (setBit 0 n)) s else s

/-- The report to SAFE with the comparator's own cause; none in a brown-out sequence without the safe state (R243). -/
def tripReported (n : Nat) (s : State) : State :=
  if s.pwr.brown.active && !safeInForce s then s else report (BitVec.ofNat 16 (0x102 + n)) s

theorem tripLogged_frame (n : Nat) (s : State) : tripLogged n s = { s with flash := (tripLogged n s).flash } := by
  unfold tripLogged
  split
  · exact logEvent_frame _ s
  · rfl

/-- An input that merely stays present latches and no more; a fresh trip is counted, logged and reported too. -/
theorem comparatorTrip_eq (fresh : Bool) (n : Nat) (s : State) : comparatorTrip fresh n s =
    if fresh then tripReported n (tripLogged n (tripCounted n (tripLatched n s))) else tripLatched n s := by
  have hlatched : (if n = 3 then { killByComparator n s with
      swg := { (killByComparator n s).swg with
        desat := (killByComparator n s).swg.desat ||| (killByComparator n s).glt.desatNow } }
      else killByComparator n s) = tripLatched n s := by
    unfold tripLatched
    split <;> rfl
  have hcounted (u : State) : (if n = 0 then { u with rcd := { u.rcd with trips := satInc u.rcd.trips } }
      else if n = 3 then { u with swg := { u.swg with desatTrips := satInc u.swg.desatTrips } } else u) = tripCounted n u := by
    unfold tripCounted
    split
    case isTrue h0 => rw [if_neg (by omega)]
    case isFalse => split <;> rfl
  unfold comparatorTrip
  dsimp only
  rw [hlatched, hcounted]
  cases fresh <;> rfl

/-- Whether fresh or not, the latch and the conductors of FC3 stand as they are latched. -/
theorem comparatorTrip_latched (fresh : Bool) (n : Nat) (s : State) : (comparatorTrip fresh n s).glt = (tripLatched n s).glt
    ∧ (comparatorTrip fresh n s).swg.desat = (tripLatched n s).swg.desat := by
  rw [comparatorTrip_eq, tripReported, tripLogged_frame]
  repeat' split
  all_goals exact ⟨rfl, rfl⟩

/-- A fresh trip is counted once. -/
theorem comparatorTrip_counted (n : Nat) (s : State) :
    (comparatorTrip true n s).rcd.trips = (if n = 0 then satInc s.rcd.trips else s.rcd.trips)
      ∧ (comparatorTrip true n s).swg.desatTrips = if n = 3 then satInc s.swg.desatTrips else s.swg.desatTrips := by
  rw [comparatorTrip_eq, if_pos rfl, tripReported, tripLogged_frame]
  split <;> exact ⟨rfl, rfl⟩

/-- A fresh trip is reported with the comparator's own cause (R242). -/
theorem comparatorTrip_reports {n : Nat} (h : s.pwr.brown.active = false ∨ safeInForce s = true) :
    (comparatorTrip true n s).safe.reports = s.safe.reports ++ [BitVec.ofNat 16 (0x102 + n)] := by
  have hreports : ¬ (s.pwr.brown.active && !safeInForce s) = true := by
    obtain h | h := h <;> simp [h]
  rw [comparatorTrip_eq, if_pos rfl, tripReported, tripLogged_frame, if_neg (by exact hreports)]
  rfl

/-- In a brown-out sequence without the safe state SAFE sees nothing of it (R243). -/
theorem comparatorTrip_withheld {n : Nat} (hbrown : s.pwr.brown.active = true) (hsafe : safeInForce s = false) :
    (comparatorTrip true n s).safe = s.safe := by
  have hwithheld : (s.pwr.brown.active && !safeInForce s) = true := by simp [hbrown, hsafe]
  rw [comparatorTrip_eq, if_pos rfl, tripReported, tripLogged_frame, if_pos (by exact hwithheld)]
  rfl

/-- What every trip leaves at the end of its command: the latch, the comparator's bit, and the pads off. -/
theorem comparatorTrip_kills (fresh : Bool) {n : Nat} (h : n < 4) (s : State) :
    (settle (comparatorTrip fresh n s)).glt.kill = true
      ∧ (settle (comparatorTrip fresh n s)).glt.trip.getLsbD n = true
      ∧ gatePads (settle (comparatorTrip fresh n s)) = 0 ∧ gkillnPad (settle (comparatorTrip fresh n s)) = .low := by
  obtain ⟨hglt, -⟩ := comparatorTrip_latched fresh n s
  have hkill : (settle (comparatorTrip fresh n s)).glt.kill = true := settle_kill (by rw [hglt]; rfl)
  refine ⟨hkill, ?_, pads_of_kill hkill⟩
  rw [settle_glt_trip, hglt]
  exact getLsbD_setBit_self s.glt.trip h

/-- A desaturation that is tripped stands in DESAT (R201). -/
theorem comparatorTrip_desat (fresh : Bool) {c : Nat} (h : s.glt.desatNow.getLsbD c = true) :
    (comparatorTrip fresh 3 s).swg.desat.getLsbD c = true := by
  rw [(comparatorTrip_latched fresh 3 s).2]
  show (s.swg.desat ||| s.glt.desatNow).getLsbD c = true
  rw [BitVec.getLsbD_or, h, Bool.or_true]

/-! ### FAST_COMPARATOR_TRIP (R200, R235) -/

/-- The comparator's input is not that of a conductor that SW5 leaves undeclared (R200). -/
def InputDeclared (fc : Comparator) (c : Conductor) (s : State) : Prop :=
  fcNum fc ≠ 3 ∨ (conductors s).contains (conductorNum c) = true

theorem InputDeclared.eq_true {fc : Comparator} {c : Conductor} (h : InputDeclared fc c s) :
    (fcNum fc != 3 || (conductors s).contains (conductorNum c)) = true := by
  obtain h | h := h
  · rw [bne_iff_ne.mpr h, Bool.true_or]
  · rw [h, Bool.or_true]

/-- The input stands above its threshold, for FC3 with its conductor. -/
def inputSeen (fc : Comparator) (c : Conductor) (s : State) : State := { s with glt := { s.glt with
  active := setBit s.glt.active (fcNum fc)
  desatNow := if fcNum fc = 3 then setBit s.glt.desatNow (conductorNum c) else s.glt.desatNow } }

theorem exec_fastComparatorTrip {fc : Comparator} {c : Conductor} (h : InputDeclared fc c s) :
    exec (.fastComparatorTrip fc c) s = .next (settle (if diverted s (fcNum fc) then inputSeen fc c s
      else comparatorTrip true (fcNum fc) (inputSeen fc c s))) := by
  show execFastComparatorTrip fc c s = _
  rw [execFastComparatorTrip, h.eq_true, guarded_true, done_eq]
  rfl

theorem exec_fastComparatorTrip_undeclared {c : Conductor} (h : (conductors s).contains (conductorNum c) = false) :
    exec (.fastComparatorTrip .fc3 c) s = .next (settle s) := by
  show execFastComparatorTrip .fc3 c s = _
  rw [execFastComparatorTrip, h]
  rfl

/-! ### COMPARATOR_TEST (R238) -/

/-- A comparator under test: diverted, with its outcome in TEST_FAIL. -/
def testBegun (fc : Comparator) (pass : Bool) (s : State) : State := { s with glt := { s.glt with
  testing := setBit 0 (fcNum fc), testFail := putBit s.glt.testFail (fcNum fc) (!pass) } }

theorem exec_comparatorTest_fails (fc : Comparator) (hadc : isUp s .adc = true) (hidle : s.glt.testing = 0) :
    exec (.comparatorTest fc false) s = .next (settle (diagFail 5 (testBegun fc false s))) := by
  show execComparatorTest fc false s = _
  rw [execComparatorTest, hadc, hidle]
  rfl

/-- Diagnostic 5 passes once no test stands failed. -/
theorem exec_comparatorTest_passes (fc : Comparator) (hadc : isUp s .adc = true) (hidle : s.glt.testing = 0)
    (hgood : (testBegun fc true s).glt.testFail = 0) :
    exec (.comparatorTest fc true) s = .next (settle (diagPass 5 (testBegun fc true s))) := by
  show execComparatorTest fc true s = _
  rw [execComparatorTest, hadc, hidle]
  exact congrArg (fun u => Host.Outcome.next (settle u)) (if_pos hgood)

theorem exec_comparatorTest_busy {fc : Comparator} {b : Bool} (h : s.glt.testing ≠ 0) :
    exec (.comparatorTest fc b) s = .next (settle s) := by
  show execComparatorTest fc b s = _
  rw [execComparatorTest, beq_eq_false_iff_ne.mpr h, Bool.and_false, guarded_false, done_eq]

/-! ### BLIND_WINDOW_END (R238, R245) -/

/-- The window has ended: the comparator is no longer diverted, and its input is what it is now. -/
def windowEnded (fc : Comparator) (present : Bool) (c : Nat) (s : State) : State := { s with glt := { s.glt with
  testing := clearBit s.glt.testing (fcNum fc), active := putBit s.glt.active (fcNum fc) present
  desatNow := if fcNum fc = 3 then (if present then setBit s.glt.desatNow c else 0) else s.glt.desatNow } }

theorem exec_blindWindowEnd_absent {fc : Comparator} (h : s.glt.testing.getLsbD (fcNum fc) = true) :
    exec (.blindWindowEnd fc none) s = .next (settle (reconnect (fcNum fc) (windowEnded fc false 0 s))) := by
  show execBlindWindowEnd fc none s = _
  rw [execBlindWindowEnd, h]
  rfl

theorem exec_blindWindowEnd_present {fc : Comparator} {c : Conductor} (h : s.glt.testing.getLsbD (fcNum fc) = true)
    (hdecl : InputDeclared fc c s) : exec (.blindWindowEnd fc (some c)) s
      = .next (settle (reconnect (fcNum fc) (windowEnded fc true (conductorNum c) s))) := by
  have hpresent : ((some c).isSome && (fcNum fc != 3 || (conductors s).contains (conductorNum c))) = true := hdecl.eq_true
  show execBlindWindowEnd fc (some c) s = _
  rw [execBlindWindowEnd, h, guarded_true, done_eq]
  simp only [Option.map_some, Option.getD_some, hpresent]
  rfl

theorem reconnect_of_absent {n : Nat} (h : s.glt.active.getLsbD n = false) : reconnect n s = s := by
  rw [reconnect, h]
  rfl

theorem reconnect_of_present {n : Nat} (h : s.glt.active.getLsbD n = true) (hdiv : diverted s n = false) :
    reconnect n s = comparatorTrip (!s.glt.trip.getLsbD n) n s := by
  rw [reconnect, h, hdiv]
  rfl

theorem windowEnded_active (fc : Comparator) (present : Bool) (c : Nat) (s : State) :
    (windowEnded fc present c s).glt.active.getLsbD (fcNum fc) = present :=
  getLsbD_putBit_self s.glt.active present (fcNum_lt fc)

/-- After its window only step 4 of the test-winding check diverts a comparator: FC0 (R239). -/
theorem windowEnded_diverted {fc : Comparator} (present : Bool) (c : Nat) (h : fc = .fc0 → s.rcd.windingStep ≠ 4) :
    diverted (windowEnded fc present c s) (fcNum fc) = false := by
  have htest : (windowEnded fc present c s).glt.testing.getLsbD (fcNum fc) = false := getLsbD_clearBit_self s.glt.testing _
  rw [diverted, htest, Bool.false_or]
  cases fc with
  | fc0 => exact beq_eq_false_iff_ne.mpr (h rfl)
  | fc1 | fc2 | fc3 => rfl

/-! ### THRESHOLD_LOAD (R234) -/

theorem exec_thresholdLoad (hsafe : isUp s .safe = true) (hadc : isUp s .adc = true) : exec .thresholdLoad s
    = .next (settle { s with glt := { s.glt with
        fc0Ma := BitVec.ofNat 9 (setting? s 12 4), fc12A := BitVec.ofNat 9 (fc12For (sealAmps s)) } }) := by
  show execThresholdLoad s = _
  rw [execThresholdLoad, hsafe, hadc]
  rfl

end

/-- Settles O20: a trip by what it latches, counts and reports, a test by its outcome, and a blind window by the input at its end. -/
theorem fastComparators : Obligations.FastComparators := by
  unfold Obligations.FastComparators
  intro s
  refine ⟨fun fc c hdecl hconn => ?trips, fun c => exec_fastComparatorTrip_undeclared, fun fc c hdecl hdiv => ?diverts,
    fun fc hadc hidle => ?testFails, fun fc hadc hidle hgood => ?testPasses, fun fc b => exec_comparatorTest_busy,
    fun fc c htesting => ⟨?inputGone, fun hdecl hwinding => ?inputStays⟩,
    fun hsafe hadc => ⟨_, exec_thresholdLoad hsafe hadc, rfl, rfl, rfl⟩⟩
  case trips =>
    have hexec := exec_fastComparatorTrip hdecl
    rw [hconn, if_neg Bool.false_ne_true] at hexec
    obtain ⟨hglt, -⟩ := comparatorTrip_latched true (fcNum fc) (inputSeen fc c s)
    obtain ⟨htrips, hdesats⟩ := comparatorTrip_counted (fcNum fc) (inputSeen fc c s)
    obtain ⟨hkill, hbit, hgates, hpin⟩ := comparatorTrip_kills true (fcNum_lt fc) (inputSeen fc c s)
    refine ⟨_, hexec, hkill, hbit, hgates, hpin, fun hnone => ?first, fun hsome => ?notFirst,
      comparatorTrip_reports (s := inputSeen fc c s), comparatorTrip_withheld (s := inputSeen fc c s), fun hfc => ?fc0, fun hfc => ?fc3⟩
    case first =>
      rw [settle_glt_first, hglt]
      exact if_pos (beq_iff_eq.mpr hnone)
    case notFirst =>
      rw [settle_glt_first, hglt]
      exact if_neg (mt beq_iff_eq.mp hsome)
    case fc0 =>
      subst hfc
      exact htrips
    case fc3 =>
      subst hfc
      exact ⟨hdesats, comparatorTrip_desat true (getLsbD_setBit_self s.glt.desatNow (conductorNum_lt c))⟩
  case diverts =>
    rw [exec_fastComparatorTrip hdecl, hdiv]
    rfl
  case testFails =>
    refine ⟨_, exec_comparatorTest_fails fc hadc hidle, ?_, ?_, diagFail_standing (n := 5) _ (by decide)⟩
    · rw [settle_glt_testing, diagFail_glt]
      rfl
    · rw [settle_glt_testFail, diagFail_glt]
      exact getLsbD_putBit_self s.glt.testFail true (fcNum_lt fc)
  case testPasses =>
    have hnone : (testBegun fc true s).glt.testFail = 0 := by
      show putBit s.glt.testFail (fcNum fc) false = 0
      rw [hgood, putBit_zero_false]
    exact ⟨_, exec_comparatorTest_passes fc hadc hidle hnone, rfl, hnone, getLsbD_setBit_self s.safe.passed (by decide)⟩
  case inputGone =>
    refine ⟨_, exec_blindWindowEnd_absent htesting, ?_⟩
    rw [reconnect_of_absent (windowEnded_active fc false 0 s)]
    exact ⟨rfl, rfl, rfl⟩
  case inputStays =>
    have hexec := exec_blindWindowEnd_present htesting hdecl
    rw [reconnect_of_present (windowEnded_active fc true _ s) (windowEnded_diverted true _ hwinding)] at hexec
    obtain ⟨hkill, hbit, hgates, -⟩ := comparatorTrip_kills _ (fcNum_lt fc) (windowEnded fc true (conductorNum c) s)
    refine ⟨_, hexec, hkill, hbit, hgates, fun hfc => ?_⟩
    subst hfc
    exact comparatorTrip_desat _ (getLsbD_setBit_self s.glt.desatNow (conductorNum_lt c))

end Sys2Proof.Machine
end

section
/-! The graded levels (09): what one result makes of a level's window, its bit in ABOVE and its trip. -/

namespace Sys2Proof.Machine

/-! ### One value at a window that stands outside its band (R281) -/

theorem satInc_of_ne_max {a : Byte} (h : a ≠ 255) : satInc a = a + 1 := by
  have hlt : a.toNat ≠ 255 := fun hmax => h (BitVec.eq_of_toNat_eq hmax)
  apply BitVec.eq_of_toNat_eq
  rw [satInc_toNat]
  bv_omega

section
variable {signed : Bool} {v : Int} {w : WinComp}

/-- Back inside by the hysteresis: the count starts again, and nothing fires. -/
theorem evalWindow_of_back (hen : w.en = true) (hout : w.out = true) (hback : backInside signed w v = true) :
    evalWindow signed v w = ({ w with out := false, cnt := 0 }, false) := by
  simp [evalWindow, hen, hout, hback]

/-- Still outside, with the value that completes the count: the window fires. -/
theorem evalWindow_of_reached (hen : w.en = true) (hout : w.out = true) (hstays : backInside signed w v = false)
    (hreached : w.cnt + 1 = w.count) (hmax : w.cnt ≠ 255) :
    evalWindow signed v w = ({ w with cnt := w.count, exits := satInc w.exits }, true) := by
  have hcnt : satInc w.cnt = w.count := (satInc_of_ne_max hmax).trans hreached
  have hnew : w.count ≠ w.cnt := by
    rw [← hreached]
    simp
  simp [evalWindow, hen, hout, hstays, hcnt, hnew]

end

/-! ### The trip of a level (R233, R243) -/

section
variable {n v : Nat} {s : State}

/-- The level latched, and the trip counted (R233). -/
def levelLatched (n : Nat) (s : State) : State :=
  { s with rcd := { s.rcd with trip := setBit s.rcd.trip n, trips := satInc s.rcd.trips } }

/-- A trip is latched and counted, logged where it comes in the safe state or the brown-out sequence, and reported unless R243 withholds it. -/
theorem gradedTrip_eq (n : Nat) (s : State) : gradedTrip n s =
    if s.pwr.brown.active && !safeInForce s then tripLogged (n + 4) (levelLatched n s)
    else report 0x101 (tripLogged (n + 4) (levelLatched n s)) := by
  have hsame : ((tripLogged (n + 4) (levelLatched n s)).pwr.brown.active && !safeInForce (tripLogged (n + 4) (levelLatched n s)))
      = (s.pwr.brown.active && !safeInForce s) := by
    rw [tripLogged_frame]
    rfl
  exact if_congr (iff_of_eq (congrArg (· = true) hsame)) rfl rfl

theorem gradedTrip_rcd (n : Nat) (s : State) : (gradedTrip n s).rcd = (levelLatched n s).rcd := by
  rw [gradedTrip_eq, tripLogged_frame]
  split <;> rfl

theorem gradedTrip_reports (h : s.pwr.brown.active = false ∨ safeInForce s = true) : 0x101 ∈ (gradedTrip n s).safe.reports := by
  have hreports : ¬ (s.pwr.brown.active && !safeInForce s) = true := by
    obtain h | h := h <;> simp [h]
  rw [gradedTrip_eq, if_neg hreports]
  exact List.mem_append_right _ List.mem_cons_self

theorem gradedTrip_withheld (hbrown : s.pwr.brown.active = true) (hsafe : safeInForce s = false) :
    (gradedTrip n s).safe = s.safe := by
  rw [gradedTrip_eq, hbrown, hsafe, tripLogged_frame]
  rfl

/-! ### A result at one level (R231, R239) -/

/-- What a result leaves of a level before any trip: its window, its count, and its bit in ABOVE. -/
def levelJudged (n : Nat) (w : WinComp) (s : State) : State := { setWin (10 + n) w s with rcd := { s.rcd with
  counts := s.rcd.counts.setIfInBounds n w.cnt.toNat, above := putBit s.rcd.above n (w.cnt != 0)
  dc6Counted := s.rcd.dc6Counted || (n == 0 && s.rcd.windingStep == 2 && w.cnt != 0) } }

theorem feedLevel_of_armed (h : levelArmed s n = true) : feedLevel v n s =
    if (evalWindow false v (winAt s (10 + n))).2 && !s.rcd.windingRun then
      gradedTrip n (levelJudged n (evalWindow false v (winAt s (10 + n))).1 s)
    else levelJudged n (evalWindow false v (winAt s (10 + n))).1 s := by
  rw [feedLevel, h]
  rfl

/-- While no check of the test winding runs, a window that fires trips its level. -/
theorem feedLevel_of_fires {w : WinComp} (harmed : levelArmed s n = true) (hidle : s.rcd.windingRun = false)
    (hfires : evalWindow false v (winAt s (10 + n)) = (w, true)) : feedLevel v n s = gradedTrip n (levelJudged n w s) := by
  rw [feedLevel_of_armed harmed, hfires, hidle]
  rfl

theorem feedLevel_of_quiet {w : WinComp} (harmed : levelArmed s n = true)
    (hquiet : evalWindow false v (winAt s (10 + n)) = (w, false)) : feedLevel v n s = levelJudged n w s := by
  rw [feedLevel_of_armed harmed, hquiet]
  rfl

end

/-- Settles O19: a level by what its window makes of the result, one that completes the count or one that is back inside. -/
theorem gradedTrips : Obligations.GradedTrips := by
  unfold Obligations.GradedTrips
  intro s n v hn harmed hen hidle
  refine ⟨fun hout hreached hmax hstays => ?trips, fun hout hback => ?restarts⟩
  case trips =>
    rw [feedLevel_of_fires harmed hidle (evalWindow_of_reached hen hout hstays hreached hmax), gradedTrip_rcd]
    exact ⟨getLsbD_setBit_self s.rcd.trip hn, rfl, fun h => gradedTrip_reports h, fun hbrown hsafe => gradedTrip_withheld hbrown hsafe⟩
  case restarts =>
    rw [feedLevel_of_quiet harmed (evalWindow_of_back hen hout hback)]
    refine ⟨rfl, getLsbD_clearBit_self s.rcd.above n, ?_⟩
    exact congrArg WinComp.cnt (winAt_setWin_same (by omega) _ s)

end Sys2Proof.Machine
end

section
/-! Residual current (09): the excitation's half periods, what a result leaves of the values it is made of, and how near the values are
to the samples. -/

namespace Sys2Proof.Machine

section
variable {s : State}

/-! ### The excitation (R228, R246, Table 9-8) -/

/-- The peak lies in its range (Table 9-8). -/
def peakInRange (peak : Byte) : Bool := 20 ≤ peak.toNat && peak.toNat ≤ 60

/-- A half period in RCD_FLX, with the good ones in a row (R228). -/
def halfNoted (saturated : Bool) (peak : Byte) (s : State) : State := { s with rcd := { s.rcd with
  peakMa := peak, miss := if saturated then 0 else satInc s.rcd.miss
  goodHalves := if saturated && peakInRange peak then min 2 (s.rcd.goodHalves + 1) else 0 } }

/-- The second good half period locks (R228). -/
def halfLocked (s : State) : State := { s with rcd := { s.rcd with excLock := s.rcd.excLock || s.rcd.goodHalves == 2 } }

theorem halfPeriod_eq (saturated : Bool) (peak : Byte) (s : State) : halfPeriod saturated peak s =
    if 4 ≤ (halfNoted saturated peak s).rcd.miss.toNat || !peakInRange peak then excitationLost (halfNoted saturated peak s)
    else diagPass 1 (halfLocked (halfNoted saturated peak s)) := rfl

theorem peakInRange_eq_false {peak : Byte} (h : peak.toNat < 20 ∨ 60 < peak.toNat) : peakInRange peak = false := by
  unfold peakInRange
  obtain h | h := h
  · rw [decide_eq_false (by omega), Bool.false_and]
  · rw [decide_eq_false (p := peak.toNat ≤ 60) (by omega), Bool.and_false]

/-- A saturation with its peak in range is good. -/
theorem halfPeriod_of_good {peak : Byte} (h : peakInRange peak = true) (s : State) :
    halfPeriod true peak s = diagPass 1 (halfLocked (halfNoted true peak s)) := by
  rw [halfPeriod_eq, h]
  rfl

/-- A good half period writes RCD_FLX, the lock and what diagnostic 1 writes, and the second one in a row locks (R228). -/
theorem halfPeriod_good_frame (peak : Byte) (s : State) : diagPass 1 (halfLocked (halfNoted true peak s)) = { s with
    rcd := (halfLocked (halfNoted true peak s)).rcd, safe := (diagPass 1 s).safe, live := (diagPass 1 s).live } := rfl

theorem halfNoted_goodHalves {peak : Byte} (h : peakInRange peak = true) (hbefore : 1 ≤ s.rcd.goodHalves) :
    (halfNoted true peak s).rcd.goodHalves = 2 := by
  show (if (true && peakInRange peak) = true then min 2 (s.rcd.goodHalves + 1) else 0) = 2
  rw [h, Bool.true_and, if_pos rfl]
  omega

theorem halfPeriod_of_missed {peak : Byte} (h : s.rcd.miss = 3) :
    halfPeriod false peak s = excitationLost (halfNoted false peak s) := by
  rw [halfPeriod_eq, halfNoted, h]
  rfl

theorem halfPeriod_of_outOfRange {saturated : Bool} {peak : Byte} (h : peakInRange peak = false) :
    halfPeriod saturated peak s = excitationLost (halfNoted saturated peak s) := by
  rw [halfPeriod_eq, h, Bool.not_false, Bool.or_true]
  rfl

/-- Excitation that is lost is no longer locked, and diagnostic 1 stands with its cause (R246). -/
theorem excitationLost_state (s : State) :
    (excitationLost s).rcd = { s.rcd with excLost := true, excLock := false, goodHalves := 0 }
      ∧ 0x201 ∈ (excitationLost s).live.standing :=
  ⟨diagFail_rcd .., diagFail_standing (n := 1) _ (by decide)⟩

theorem exec_excitationHalfPeriod {saturated : Bool} {peak : Byte} (h : isUp s .adc = true) :
    exec (.excitationHalfPeriod saturated peak) s = .next (settle (halfPeriod saturated peak s)) := by
  show execExcitationHalfPeriod saturated peak s = _
  rw [execExcitationHalfPeriod, h]
  rfl

end

/-! ### What a result leaves as it is (R229, R231) -/

/-- The values of the last result, and all of billing, the session and the switches, stand in t as in s. -/
def ResultStands (s t : State) : Prop :=
  t.rcd.ac = s.rcd.ac ∧ t.rcd.dc = s.rcd.dc ∧ t.bil = s.bil ∧ t.ses = s.ses ∧ t.swg = s.swg

theorem ResultStands.rfl {s : State} : ResultStands s s := ⟨Eq.refl _, Eq.refl _, Eq.refl _, Eq.refl _, Eq.refl _⟩

theorem ResultStands.trans {s t u : State} (h : ResultStands s t) (h' : ResultStands t u) : ResultStands s u := by
  obtain ⟨hac, hdc, hbil, hses, hswg⟩ := h
  obtain ⟨hac', hdc', hbil', hses', hswg'⟩ := h'
  exact ⟨hac'.trans hac, hdc'.trans hdc, hbil'.trans hbil, hses'.trans hses, hswg'.trans hswg⟩

theorem foldl_resultStands {α : Type} {f : State → α → State} (h : ∀ s a, ResultStands s (f s a)) (l : List α) (s : State) :
    ResultStands s (l.foldl f s) :=
  List.foldlRecOn (motive := ResultStands s) _ _ .rfl fun t ht a _ => ht.trans (h t a)

theorem OnlyWindows.resultStands {s t : State} (h : OnlyWindows s t) : ResultStands s t := by
  rw [h]
  exact .rfl

/-- Of the residual current's values, levels that are set write their counts and ABOVE alone (R244). -/
theorem setLevels_rcd (l : List Nat) (s : State) :
    (setLevels l s).rcd = { s.rcd with counts := (setLevels l s).rcd.counts, above := (setLevels l s).rcd.above } := by
  unfold setLevels
  induction l generalizing s with
  | nil => rfl
  | cons n l ih =>
    rw [List.foldl_cons, ih]

theorem setLevels_resultStands (l : List Nat) (s : State) : ResultStands s (setLevels l s) := by
  rw [setLevels_frame, setLevels_rcd]
  exact .rfl

theorem takeLevels_resultStands (s : State) : ResultStands s (takeLevels s) := by
  have hnoted : ResultStands s { s with rcd := { s.rcd with levelsDue := false } } := .rfl
  unfold takeLevels
  split
  · exact hnoted.trans (setLevels_resultStands _ _)
  · exact .rfl

theorem gradedTrip_resultStands (n : Nat) (s : State) : ResultStands s (gradedTrip n s) := by
  rw [gradedTrip_eq, tripLogged_frame]
  split <;> exact .rfl

theorem feedLevel_resultStands (v n : Nat) (s : State) : ResultStands s (feedLevel v n s) := by
  cases harmed : levelArmed s n with
  | false =>
    rw [feedLevel, harmed]
    exact .rfl
  | true =>
    rw [feedLevel_of_armed harmed]
    have hjudged (w : WinComp) : ResultStands s (levelJudged n w s) := .rfl
    split
    · exact (hjudged _).trans (gradedTrip_resultStands n _)
    · exact hjudged _

/-- A value reaches the levels of a list in turn (R231). -/
def levelsFed (v : Nat) (l : List Nat) (s : State) : State := l.foldl (fun s n => feedLevel v n s) s

theorem levelsFed_resultStands (v : Nat) (l : List Nat) (s : State) : ResultStands s (levelsFed v l s) :=
  foldl_resultStands (fun s n => feedLevel_resultStands v n s) l s

/-- A result in both values, before any window or level sees it. -/
def resultTaken (ac dc : BitVec 16) (s : State) : State := { s with rcd := { s.rcd with ac := ac, dc := dc } }

theorem residual_eq (ac dc : BitVec 16) (s : State) : residual ac dc s =
    levelsFed ac.toNat [3, 4, 5] (levelsFed dc.toInt.natAbs [0, 1, 2] (feedSource true 0x11 dc.toInt (feedSource false 0x10 ac.toNat
      (noteBaseline ac dc (takeLevels (resultTaken ac dc s)))))) := rfl

/-- A result stands as it was computed, whatever its windows and levels make of it. -/
theorem residual_resultStands (ac dc : BitVec 16) (s : State) : ResultStands (resultTaken ac dc s) (residual ac dc s) := by
  have hbaseline (u : State) : ResultStands u (noteBaseline ac dc u) := .rfl
  rw [residual_eq]
  exact (takeLevels_resultStands _).trans <| (hbaseline _).trans <| (feedSource_onlyWindows _ _ _ _).resultStands.trans <|
    (feedSource_onlyWindows _ _ _ _).resultStands.trans <| (levelsFed_resultStands _ _ _).trans (levelsFed_resultStands _ _ _)

theorem residual_values (ac dc : BitVec 16) (s : State) : (settle (residual ac dc s)).rcd.ac = ac
    ∧ (settle (residual ac dc s)).rcd.dc = dc ∧ (settle (residual ac dc s)).bil = s.bil ∧ (settle (residual ac dc s)).ses = s.ses
    ∧ (settle (residual ac dc s)).swg = s.swg := by
  obtain ⟨hac, hdc, hbil, hses, hswg⟩ := residual_resultStands ac dc s
  rw [settle_rcd, settle_bil, settle_ses, settle_swg]
  exact ⟨hac, hdc, hbil, hses, hswg⟩

theorem exec_residualResult {up down : Bool} {s : State} (hruns : adcRuns s = true) (hlock : s.rcd.excLock = true)
    (hsome : residualSamples s ≠ []) : exec (.residualResult up down) s = .next (settle (residual
      (BitVec.ofNat 16 (residualAc up (residualSamples s))) (ofInt 16 (residualDc down (residualSamples s))) s)) := by
  have hguard : (adcRuns s && s.rcd.excLock && !(residualSamples s).isEmpty) = true := by simp [hruns, hlock, hsome]
  show execResidualResult up down s = _
  rw [execResidualResult, hguard]
  rfl

theorem exec_residualResult_held {up down : Bool} {s : State}
    (h : adcRuns s = false ∨ s.rcd.excLock = false ∨ residualSamples s = []) :
    exec (.residualResult up down) s = .next (settle s) := by
  have hguard : (adcRuns s && s.rcd.excLock && !(residualSamples s).isEmpty) = false := by
    obtain h | h | h := h <;> simp [h]
  show execResidualResult up down s = _
  rw [execResidualResult, hguard]
  rfl

/-! ### The values (R229) -/

theorem residualAc_le (up : Bool) (l : List Int) : residualAc up l ≤ 30000 := Nat.min_le_left ..

/-- The DC value is the floor of the mean, or where the operand says so the whole number above it. -/
theorem residualDc_eq (up : Bool) (l : List Int) :
    residualDc up l = l.sum / l.length + if up && l.sum % l.length != 0 then 1 else 0 := by
  have hlen : (0 : Int) ≤ l.length := Int.natCast_nonneg _
  rw [residualDc, ← List.sum_eq_foldl, Int.fdiv_eq_ediv_of_nonneg _ hlen, Int.fmod_eq_emod_of_nonneg _ hlen]

/-- What the value, taken once for each sample, has over the samples' sum: the mean's remainder is cut off, or made up to a whole unit. -/
theorem residualDc_excess (up : Bool) (l : List Int) : residualDc up l * l.length - l.sum =
    (if up && l.sum % l.length != 0 then (l.length : Int) else 0) - l.sum % l.length := by
  have hparts := Int.ediv_mul_add_emod l.sum l.length
  rw [residualDc_eq, Int.add_mul]
  split <;> omega

/-- The value is less than one unit away from the mean, and rounded down not above it. -/
theorem residualDc_near {l : List Int} (up : Bool) (h : l ≠ []) :
    (residualDc up l * l.length - l.sum).natAbs < l.length ∧ residualDc false l * l.length ≤ l.sum := by
  have hlen : (0 : Int) < l.length := by exact_mod_cast List.length_pos_iff.mpr h
  have hlow := Int.emod_nonneg l.sum hlen.ne'
  have hhigh := Int.emod_lt_of_pos l.sum hlen
  constructor
  · rw [residualDc_excess]
    split
    case isTrue hup =>
      have hrest : l.sum % l.length ≠ 0 := by simpa using (Bool.and_eq_true_iff.mp hup).2
      omega
    case isFalse => omega
  · have hdown := residualDc_excess false l
    rw [Bool.false_and, if_neg Bool.false_ne_true] at hdown
    omega

/-- Settles O18: a half period by its peak and what it misses, a result by the values it is made of, and the values by the samples. -/
theorem residualCurrent : Obligations.ResidualCurrent := by
  unfold Obligations.ResidualCurrent
  refine ⟨fun s hadc => ⟨fun peak hlow hhigh => ?good, fun peak hmiss => ?missed, fun saturated peak hpeak => ?outOfRange,
    fun up down hruns hlock hsome => ?result, fun up down => exec_residualResult_held⟩, residualAc_le, fun up l => residualDc_near up⟩
  case good =>
    have hrange : peakInRange peak = true := by simp [peakInRange, hlow, hhigh]
    rw [exec_excitationHalfPeriod hadc, halfPeriod_of_good hrange, halfPeriod_good_frame]
    refine ⟨_, rfl, rfl, rfl, fun hbefore => ?_, settle_frame _⟩
    show ((halfNoted true peak s).rcd.excLock || (halfNoted true peak s).rcd.goodHalves == 2) = true
    rw [halfNoted_goodHalves hrange hbefore, beq_self_eq_true, Bool.or_true]
  case missed =>
    obtain ⟨hrcd, hstands⟩ := excitationLost_state (halfNoted false peak s)
    rw [exec_excitationHalfPeriod hadc, halfPeriod_of_missed hmiss]
    refine ⟨_, rfl, ?_, ?_, ?_, hstands⟩
    all_goals rw [settle_rcd, hrcd]
    show satInc s.rcd.miss = 4
    rw [hmiss]
    rfl
  case outOfRange =>
    obtain ⟨hrcd, hstands⟩ := excitationLost_state (halfNoted saturated peak s)
    rw [exec_excitationHalfPeriod hadc, halfPeriod_of_outOfRange (peakInRange_eq_false hpeak)]
    refine ⟨_, rfl, ?_, ?_, ?_, hstands⟩
    all_goals rw [settle_rcd, hrcd]
    rfl
  case result =>
    exact ⟨_, exec_residualResult hruns hlock hsome, residual_values ..⟩

end Sys2Proof.Machine
end

section
/-! The ends of self-tests (20): the test that is due, and what its end writes (R491, R492). -/

namespace Sys2Proof.Machine

section
variable {c : Byte} {o : BitVec 4} {s : State}

theorem setOutcome_frame (c : Byte) (o : BitVec 4) (items : Nat) (s : State) : setOutcome c o items s =
    { s with tst := (setOutcome c o items s).tst, flash := (setOutcome c o items s).flash } := by
  unfold setOutcome
  dsimp only
  split
  · rw [logEvent_tst]
    exact logEvent_frame ..
  · rfl

/-- What a part of code 06h adds to the worst outcome and the ITEMS so far (R491). -/
def partEnded (k : Nat) (o : BitVec 4) (s : State) : State := { s with tst := { s.tst with
  worst := if outcomeRank s.tst.worst < outcomeRank o then o else s.tst.worst
  items := if o = 0 then s.tst.items else setBit s.tst.items (k - 1), part := k + 1 } }

theorem testEnds_eq (k : Nat) (o : BitVec 4) (items : Nat) (s : State) : testEnds k o items s =
    if testDue s != k || k == 0 then s
    else if s.tst.waiting == some 6 then
      if k = 5 then setOutcome 6 (partEnded k o s).tst.worst (partEnded k o s).tst.items.toNat (partEnded k o s) else partEnded k o s
    else setOutcome (BitVec.ofNat 8 k) o items s := rfl

/-- Of whatever test, its end writes the self-test block and the log alone (R492). -/
theorem testEnds_frame (k : Nat) (o : BitVec 4) (items : Nat) (s : State) : testEnds k o items s =
    { s with tst := (testEnds k o items s).tst, flash := (testEnds k o items s).flash } := by
  rw [testEnds_eq]
  split
  · rfl
  · split
    · split
      · exact setOutcome_frame ..
      · rfl
    · exact setOutcome_frame ..

/-- The outcome of a test that has ended, with its time; nothing waits any longer (R492). -/
def outcomeTaken (c : Byte) (o : BitVec 4) (items : Nat) (s : State) : State := { s with tst := { s.tst with
  code := c, outcome := o, result := resultWord c o items, time := s.bil.clock, waiting := none, part := 0 } }

/-- Outcomes 0 to 4 end the test and are logged (R492). -/
theorem setOutcome_of_ended (h : o.toNat ≤ 4) (c : Byte) (items : Nat) (s : State) :
    setOutcome c o items s = logEvent (.selfTest c o) (outcomeTaken c o items s) := by
  rw [setOutcome, if_pos h]
  rfl

/-- A test that was asked for by its own code is the one that is due (R491). -/
theorem testDue_of_lone (hwait : s.tst.waiting = some c) (h : c.toNat ≤ 5) : testDue s = c.toNat := by
  have hnot : (c == 6) = false := beq_eq_false_iff_ne.mpr (by bv_omega)
  rw [testDue, hwait]
  simp only [hnot, h, if_true, Bool.false_eq_true, if_false]

theorem testEnds_of_lone (hwait : s.tst.waiting = some c) (hlow : 1 ≤ c.toNat) (hhigh : c.toNat ≤ 5) (o : BitVec 4) (items : Nat) :
    testEnds c.toNat o items s = setOutcome c o items s := by
  have hnot : (some c == some (6 : Byte)) = false := beq_eq_false_iff_ne.mpr fun h => by
    rw [Option.some.inj h] at hhigh
    exact absurd hhigh (by decide)
  have hdue : (testDue s != c.toNat || c.toNat == 0) = false := by
    rw [testDue_of_lone hwait hhigh, bne_self_eq_false, Bool.false_or]
    exact beq_eq_false_iff_ne.mpr (by omega)
  rw [testEnds_eq, hdue, hwait, hnot, BitVec.ofNat_toNat, BitVec.setWidth_eq]
  rfl

end

end Sys2Proof.Machine
end

section
/-! The check of the test winding (09): its attempts, its steps, and how it fails or passes (R239, R240). -/

namespace Sys2Proof.Machine

section
variable {b : Bool} {s : State}

/-! ### A comparator's trip, again (R235) -/

/-- Of the residual current's values a trip writes its counter alone, and it leaves self-tests and secrets as they were. -/
theorem comparatorTrip_frame (fresh : Bool) (n : Nat) (s : State) : comparatorTrip fresh n s = { s with
    glt := (comparatorTrip fresh n s).glt, swg := (comparatorTrip fresh n s).swg, safe := (comparatorTrip fresh n s).safe
    rcd := { s.rcd with trips := (comparatorTrip fresh n s).rcd.trips }, flash := (comparatorTrip fresh n s).flash } := by
  rw [comparatorTrip_eq, tripReported, tripLogged_frame]
  repeat' split
  all_goals rfl

/-! ### The end of an attempt (R239, R240) -/

/-- However it ends, no step of the check runs any longer, and the graded counts start again. -/
theorem windingEnd_frame (s : State) : windingEnd s = { s with
    adc := (windingEnd s).adc
    rcd := { s.rcd with
      windingStep := 0, windingRun := false, counts := (windingEnd s).rcd.counts, above := (windingEnd s).rcd.above } } := by
  unfold windingEnd
  rw [setLevels_frame, setLevels_rcd]

/-- An attempt that ends runs no more, and of itself withholds Make neither more nor less than before. -/
theorem windingEnd_state (s : State) : (windingEnd s).rcd.windingRun = false ∧ (windingEnd s).rcd.windingStep = 0
    ∧ (windingEnd s).rcd.windingFail = s.rcd.windingFail ∧ (windingEnd s).ses = s.ses := by
  rw [windingEnd_frame]
  exact ⟨rfl, rfl, rfl, rfl⟩

/-- A step that fails shows WINDING_FAIL and diagnostic 9, and Make stays withheld (R240). -/
theorem windingFailed_state (n : Nat) (s : State) : (windingFailed n s).ses.windingDue = true
    ∧ (windingFailed n s).rcd.windingRun = false ∧ (windingFailed n s).rcd.windingFail = true
    ∧ 0x202 ∈ (windingFailed n s).live.standing := by
  unfold windingFailed
  refine ⟨by rw [diagFail_ses], ?_, by rw [diagFail_rcd], diagFail_standing (n := 9) _ (by decide)⟩
  rw [diagFail_rcd, testEnds_frame, windingEnd_frame]

/-- A check that passes withholds Make no longer (R240). -/
theorem windingPassed_state (s : State) : (windingPassed s).ses.windingDue = false
    ∧ (windingPassed s).rcd.windingRun = false ∧ (windingPassed s).rcd.windingFail = false
    ∧ (windingPassed s).safe.passed.getLsbD 9 = true := by
  unfold windingPassed
  refine ⟨rfl, ?_, rfl, getLsbD_setBit_self _ (by decide)⟩
  rw [diagPass_rcd, testEnds_frame, windingEnd_frame]

/-! ### The steps (R239) -/

/-- The next step of the check. -/
def windingGo (n : Nat) (s : State) : State := { s with rcd := { s.rcd with windingStep := n } }

/-- FC0's response to the pulse of step 4. -/
def responseNoted (b : Bool) (s : State) : State := { s with rcd := { s.rcd with fc0Ok := b } }

/-- Step 2 saw its direct current, and DC6 counted it where that level is armed. -/
def dcSeen (s : State) : Bool :=
  800 ≤ s.rcd.dc.toInt && s.rcd.dc.toInt ≤ 1200 && (!s.rcd.dcArmed || s.rcd.dc6Counted)

/-- Step 3 saw its alternating current. -/
def acSeen (s : State) : Bool := 800 ≤ s.rcd.ac.toNat && s.rcd.ac.toNat ≤ 1200

theorem windingStepEnd_baseline (h : s.rcd.windingStep = 1) :
    windingStepEnd b s = if s.rcd.baseline then windingGo 2 s else windingEnd s := by
  rw [windingStepEnd, h]
  rfl

theorem windingStepEnd_dc (h : s.rcd.windingStep = 2) :
    windingStepEnd b s = if dcSeen s then windingGo 3 s else windingFailed 2 s := by
  rw [windingStepEnd, h]
  rfl

theorem windingStepEnd_ac (h : s.rcd.windingStep = 3) :
    windingStepEnd b s = if acSeen s then windingGo 4 s else windingFailed 3 s := by
  rw [windingStepEnd, h]
  rfl

theorem windingStepEnd_pulse (h : s.rcd.windingStep = 4) :
    windingStepEnd b s = reconnect 0 (windingGo 5 (responseNoted b s)) := by
  rw [windingStepEnd, h]
  rfl

theorem windingStepEnd_wait (h : s.rcd.windingStep = 5) :
    windingStepEnd b s = if s.rcd.fc0Ok then windingPassed s else windingFailed 4 s := by
  rw [windingStepEnd, h]
  rfl

/-- What a step saw was out of its bounds, or FC0 did not respond (R239). -/
def StepFails (s : State) : Prop :=
  (s.rcd.windingStep = 2 ∧ (s.rcd.dc.toInt < 800 ∨ 1200 < s.rcd.dc.toInt)) ∨
    (s.rcd.windingStep = 3 ∧ (s.rcd.ac.toNat < 800 ∨ 1200 < s.rcd.ac.toNat)) ∨ (s.rcd.windingStep = 5 ∧ s.rcd.fc0Ok = false)

theorem windingStepEnd_of_fails (h : StepFails s) : ∃ n, windingStepEnd b s = windingFailed n s := by
  obtain ⟨hstep, hdc⟩ | ⟨hstep, hac⟩ | ⟨hstep, hfc0⟩ := h
  · have hunseen : ¬ dcSeen s = true := by
      simp only [dcSeen, Bool.and_eq_true, decide_eq_true_eq]
      omega
    exact ⟨2, (windingStepEnd_dc hstep).trans (if_neg hunseen)⟩
  · have hunseen : ¬ acSeen s = true := by
      simp only [acSeen, Bool.and_eq_true, decide_eq_true_eq]
      omega
    exact ⟨3, (windingStepEnd_ac hstep).trans (if_neg hunseen)⟩
  · exact ⟨4, (windingStepEnd_wait hstep).trans (if_neg (by rw [hfc0]; exact Bool.false_ne_true))⟩

/-! ### Its commands -/

theorem exec_testWindingCheck (hmay : windingMay s = true) (hcalled : s.ses.windingDue = true ∨ s.ses.inUse = false) :
    exec .testWindingCheck s = .next (settle (windingBegins s)) := by
  have hguard : (windingMay s && (s.ses.windingDue || !sessionOn s || testDue s == 3)) = true := by
    obtain h | h := hcalled <;> simp [hmay, sessionOn, h]
  show execTestWindingCheck s = _
  rw [execTestWindingCheck, hguard]
  rfl

theorem exec_testWindingStepEnd (hadc : isUp s .adc = true) (hrun : s.rcd.windingRun = true) :
    exec (.testWindingStepEnd b) s = .next (settle (windingStepEnd b s)) := by
  show execTestWindingStepEnd b s = _
  rw [execTestWindingStepEnd, hadc, hrun]
  rfl

/-- Make begins with no check due or running and the kill latch clear (R236, R240). -/
theorem mayMake_checked (h : mayMake s = true) : s.ses.windingDue = false ∧ s.rcd.windingRun = false ∧ s.glt.kill = false := by
  simp only [mayMake, Bool.and_eq_true, Bool.not_eq_true'] at h
  obtain ⟨⟨⟨-, hkill⟩, hdue⟩, hrun⟩ := h
  exact ⟨hdue, hrun, hkill⟩

end

/-- Settles O21: an attempt by its command, and each of its steps by what it saw. -/
theorem testWinding : Obligations.TestWinding := by
  unfold Obligations.TestWinding
  intro s
  refine ⟨exec_testWindingCheck, fun b hadc hrun => ?steps, mayMake_checked⟩
  case steps =>
    rw [exec_testWindingStepEnd hadc hrun]
    refine ⟨fun hstep hbase => ?baseline, fun hstep hbase => ?noBaseline, fun hstep hlow hhigh hdc6 => ?dc, fun hstep hlow hhigh => ?ac,
      fun hstep habsent => ?reconnected, fun hstep hpresent htest => ?trips, fun hstep hfc0 => ?passes, fun hfails => ?fails⟩
    case baseline =>
      rw [windingStepEnd_baseline hstep, hbase]
      rfl
    case noBaseline =>
      rw [windingStepEnd_baseline hstep, hbase, if_neg Bool.false_ne_true]
      exact ⟨_, rfl, windingEnd_state s⟩
    case dc =>
      have hseen : dcSeen s = true := by
        obtain h | h := hdc6 <;> simp [dcSeen, hlow, hhigh, h]
      rw [windingStepEnd_dc hstep, hseen]
      rfl
    case ac =>
      have hseen : acSeen s = true := by simp [acSeen, hlow, hhigh]
      rw [windingStepEnd_ac hstep, hseen]
      rfl
    case reconnected =>
      rw [windingStepEnd_pulse hstep, reconnect_of_absent (by exact habsent)]
      rfl
    case trips =>
      have hconn : diverted (windingGo 5 (responseNoted b s)) 0 = false := by
        show (s.glt.testing.getLsbD 0 || false) = false
        rw [htest, Bool.or_false]
      obtain ⟨hkill, hbit, -⟩ := comparatorTrip_kills (n := 0) (!s.glt.trip.getLsbD 0) (by decide) (windingGo 5 (responseNoted b s))
      rw [windingStepEnd_pulse hstep, reconnect_of_present (by exact hpresent) hconn]
      refine ⟨_, rfl, hkill, hbit, ?_⟩
      rw [settle_rcd, comparatorTrip_frame]
      rfl
    case passes =>
      obtain ⟨hdue, hrun, hfail, hdiag⟩ := windingPassed_state s
      rw [windingStepEnd_wait hstep, hfc0, if_pos rfl]
      exact ⟨_, rfl, hdue, hrun, hfail, hdiag⟩
    case fails =>
      obtain ⟨n, hfailed⟩ := windingStepEnd_of_fails (b := b) hfails
      rw [hfailed]
      exact ⟨_, rfl, windingFailed_state n s⟩

end Sys2Proof.Machine
end

section
/-! Self-tests (20): those that run, wait and are held, and the scan of a BIST run (R490 to R499, R505). -/

namespace Sys2Proof.Machine

section
variable {c : Byte} {s : State}

/-! ### What the end of a lone test leaves (R491, R492) -/

/-- A test that ends writes its block and the log, and no test waits any longer. -/
theorem outcomeTaken_logged (c : Byte) (o : BitVec 4) (items : Nat) (s : State) :
    (settle (logEvent (.selfTest c o) (outcomeTaken c o items s))).tst = (outcomeTaken c o items s).tst
      ∧ settle (logEvent (.selfTest c o) (outcomeTaken c o items s)) = { s with
          tst := (settle (logEvent (.selfTest c o) (outcomeTaken c o items s))).tst
          flash := (settle (logEvent (.selfTest c o) (outcomeTaken c o items s))).flash
          fab := (settle (logEvent (.selfTest c o) (outcomeTaken c o items s))).fab
          glt := (settle (logEvent (.selfTest c o) (outcomeTaken c o items s))).glt } := by
  constructor
  · rw [settle_tst, logEvent_tst]
  · rw [settle_frame, logEvent_frame]
    rfl

/-! ### LOOPBACK_TEST_RUN and SELF_TEST_CONDITION_TIMEOUT (R491, R494 to R497) -/

/-- What the run of test k makes of the state while it is due: nothing unless its condition holds (R491). -/
def testTried (k : Nat) (items : BitVec 12) (noLoad : Bool) (s : State) : State :=
  if k = 5 && s.aud.latched then testEnds 5 2 0 s
  else if !testMayRun k s then s
  else if k = 3 then windingBegins s
  else testRan k items noLoad s

theorem exec_loopbackTestRun {k : Nat} {items : BitVec 12} {noLoad : Bool} (hdue : testDue s = k) (hk : k ≠ 0)
    (hseq : isUp s .seq = true) :
    exec (.loopbackTestRun items noLoad) s = .next (settle (testTried k items noLoad s)) := by
  show execLoopbackTestRun items noLoad s = _
  rw [execLoopbackTestRun, hdue, hseq, bne_iff_ne.mpr hk]
  rfl

theorem testTried_of_may {k : Nat} {items : BitVec 12} {noLoad : Bool} (hk : k ≠ 5) (hmay : testMayRun k s = true) :
    testTried k items noLoad s = if k = 3 then windingBegins s else testRan k items noLoad s := by
  rw [testTried, hmay, decide_eq_false hk]
  rfl

/-- Tests 1 and 4, unless aborted, end as soon as they have run with what their readings gave. -/
theorem testTried_measured {items : BitVec 12} (hwait : s.tst.waiting = some c) (hcode : c = 1 ∨ c = 4)
    (hmay : testMayRun c.toNat s = true) (hwhole : items.getLsbD 11 = false) : testTried c.toNat items false s =
      setOutcome c (if items.toNat % 16 = 0 then 0 else 1) (items.toNat % 4) s := by
  have hran : testRan c.toNat items false s = testEnds c.toNat (if items.toNat % 16 = 0 then 0 else 1) (items.toNat % 4) s := by
    rw [testRan, hwhole]
    obtain rfl | rfl := hcode <;> rfl
  have hnum : c.toNat = 1 ∨ c.toNat = 4 := hcode.imp (fun h => by rw [h]; rfl) fun h => by rw [h]; rfl
  rw [testTried_of_may (by omega) hmay, if_neg (by omega), hran, testEnds_of_lone hwait (by omega) (by omega)]

/-- A test whose condition did not come ends with outcome 2 (R491). -/
theorem exec_selfTestConditionTimeout (hwait : s.tst.waiting = some c) (hlow : 1 ≤ c.toNat) (hhigh : c.toNat ≤ 5)
    (hseq : isUp s .seq = true) (hmay : testMayRun c.toNat s = false) (hidle : s.rcd.windingRun = false) :
    exec .selfTestConditionTimeout s = .next (settle (setOutcome c 2 0 s)) := by
  have hdue := testDue_of_lone hwait hhigh
  have hsome : (c.toNat != 0) = true := bne_iff_ne.mpr (by omega)
  show execSelfTestConditionTimeout s = _
  rw [execSelfTestConditionTimeout, hdue, hseq, hmay, hidle, hsome, Bool.and_false]
  exact congrArg (fun u => Host.Outcome.next (settle u)) (testEnds_of_lone hwait hlow hhigh 2 0)

/-! ### HELD_SELF_TEST_START (R490) -/

theorem exec_heldSelfTestStart (hheld : s.tst.held = some c) (hseq : isUp s .seq = true) (hses : inSession s = false)
    (hlone : isBist c = false) : exec .heldSelfTestStart s = .next (settle (beginTest c { s with tst := { s.tst with held := none } })) := by
  have hmay : heldMayStart s c = true := by simp [heldMayStart, hses, hlone]
  show execHeldSelfTestStart s = _
  rw [execHeldSelfTestStart, hheld]
  show done (guarded (isUp s .seq && heldMayStart s c) _ s) = _
  rw [hseq, hmay, hlone]
  rfl

end

/-! ### An island's departure and the scan (R56, R499) -/

section
variable {s : State}

@[simp] theorem absenceReaction_fab (i : Island) (s : State) : (absenceReaction i s).fab = s.fab := by
  unfold absenceReaction
  repeat' split
  · rfl
  · rw [stopForSafe_fab, setKill_fab]
  · rw [logEvent_fab]

/-- An island that leaves has the STATE of its leaving, whatever the other parts make of it. -/
theorem leaveQuietly_state (i : Island) (st : PortState) (s : State) : (port (leaveQuietly i st s) i).state = st := by
  have h := leaveService_state i st s
  rwa [leaveService, port, absenceReaction_fab] at h

/-- The scan goes on in t as it stands in s: of the self-test block only a waiting or held request differs, and the lock of the secrets
stays as it is. -/
def ScanStands (s t : State) : Prop :=
  t.tst = { s.tst with waiting := t.tst.waiting, held := t.tst.held, part := t.tst.part } ∧ t.sec.scanLock = s.sec.scanLock

theorem ScanStands.of_eq {s t : State} (htst : t.tst = s.tst) (hsec : t.sec.scanLock = s.sec.scanLock) : ScanStands s t :=
  ⟨by rw [htst], hsec⟩

theorem ScanStands.rfl {s : State} : ScanStands s s := .of_eq (Eq.refl _) (Eq.refl _)

theorem ScanStands.trans {s t u : State} (h : ScanStands s t) (h' : ScanStands t u) : ScanStands s u := by
  obtain ⟨htst, hsec⟩ := h
  obtain ⟨htst', hsec'⟩ := h'
  exact ⟨by rw [htst', htst], hsec'.trans hsec⟩

theorem logEvent_scanStands (k : EventKind) (s : State) : ScanStands s (logEvent k s) := .of_eq (logEvent_tst s k) (by rw [logEvent_sec])

theorem fabricLeave_scanStands (i : Island) (s : State) : ScanStands s (fabricLeave i s) := by
  rw [fabricLeave_onlyFabricAndLog]
  exact .rfl

theorem reconnect_scanStands (n : Nat) (s : State) : ScanStands s (reconnect n s) := by
  unfold reconnect
  split
  · rw [comparatorTrip_frame]
    exact .rfl
  · exact .rfl

theorem reconnectAll_scanStands (s t : State) : ScanStands t (reconnectAll s t) := by
  refine List.foldlRecOn (motive := ScanStands t) _ _ .rfl fun u hu n _ => ?_
  split
  · exact hu.trans (reconnect_scanStands n u)
  · exact hu

theorem holdsEnd_scanStands (s : State) : ScanStands s (holdsEnd s) := by
  unfold holdsEnd logHold
  dsimp only
  repeat' split
  · exact (logEvent_scanStands _ _).trans (logEvent_scanStands _ _)
  · exact logEvent_scanStands _ _
  · exact logEvent_scanStands _ _
  · exact .rfl

/-- Laurel-B's own requests go with SEQ; no island's reset touches the scan otherwise (R56, R499). -/
theorem resetIsland_scanStands (i : Island) (s : State) : ScanStands s (resetIsland i s) := by
  cases i
  case adc => exact .trans (.of_eq rfl rfl) (reconnectAll_scanStands s _)
  case plc => exact (holdsEnd_scanStands s).trans (.of_eq rfl rfl)
  all_goals exact ⟨rfl, rfl⟩

theorem leaveQuietly_scanStands (i : Island) (st : PortState) (s : State) : ScanStands s (leaveQuietly i st s) := by
  have hlost (k : EventKind) (x : Billing) (u : State) : ScanStands u (logEvent k { u with bil := x }) :=
    .trans (.of_eq rfl rfl) (logEvent_scanStands k _)
  unfold leaveQuietly
  dsimp only
  generalize hu : fabricLeave i _ = u
  have hleft : ScanStands s u := hu ▸ .trans (.of_eq rfl rfl) (fabricLeave_scanStands i _)
  have hreset (v : State) : ScanStands v (resetIsland i v) := resetIsland_scanStands i v
  split <;> split
  · exact ((hleft.trans (hlost ..)).trans (hreset _)).trans (.of_eq rfl rfl)
  · exact (hleft.trans (hreset _)).trans (.of_eq rfl rfl)
  · exact (hleft.trans (hlost ..)).trans (hreset _)
  · exact hleft.trans (hreset _)

/-! ### BIST_ISLAND and BIST_ISLAND_NOT_RETURNED (R498, R499, R505) -/

/-- What the march and the scan of an island found (R499). -/
def islandJudged (i : Island) (pass : Bool) (sig : Word) (good : Bool) (s : State) : State := { s with tst := { s.tst with
  island := BitVec.ofNat 4 (islandNum i), awaiting := some i, todo := s.tst.todo.drop 1, misr := sig
  memFail := if pass then s.tst.memFail else setBit s.tst.memFail (islandNum i)
  logicFail := if good then s.tst.logicFail else setBit s.tst.logicFail (islandNum i) } }

/-- An island under test leaves service, with its loadable content to be reloaded (R499). -/
def islandTaken (i : Island) (s : State) : State :=
  setPort (leaveQuietly i .resetting s) i { port (leaveQuietly i .resetting s) i with reloadAtReturn := true }

theorem bistOne_eq (i : Island) (pass : Bool) (sig : Word) (s : State) :
    bistOne i pass sig s = islandJudged i pass sig (referenceSignature s i == some sig) (islandTaken i s) := rfl

theorem islandTaken_scanStands (i : Island) (s : State) : ScanStands s (islandTaken i s) :=
  (leaveQuietly_scanStands i .resetting s).trans (.of_eq rfl rfl)

theorem islandTaken_state (i : Island) (s : State) : (port (islandTaken i s) i).state = .resetting := by
  rw [islandTaken, setPort_port_same]
  exact leaveQuietly_state i .resetting s

/-- What the test of one island leaves: the island out of service and awaited, and its failures in the masks (R499). -/
theorem bistOne_state (i : Island) (pass : Bool) (sig : Word) (s : State) : (bistOne i pass sig s).tst.scanning = s.tst.scanning
    ∧ (bistOne i pass sig s).tst.awaiting = some i ∧ (bistOne i pass sig s).tst.todo = s.tst.todo.drop 1
    ∧ (bistOne i pass sig s).tst.misr = sig ∧ (port (bistOne i pass sig s) i).state = .resetting
    ∧ (bistOne i pass sig s).sec.scanLock = s.sec.scanLock
    ∧ (pass = false → (bistOne i pass sig s).tst.memFail = setBit s.tst.memFail (islandNum i))
    ∧ (referenceSignature s i ≠ some sig → (bistOne i pass sig s).tst.logicFail = setBit s.tst.logicFail (islandNum i)) := by
  obtain ⟨htst, hsec⟩ := islandTaken_scanStands i s
  have hport := islandTaken_state i s
  rw [bistOne_eq]
  generalize islandTaken i s = u at *
  refine ⟨?scanning, rfl, ?todo, rfl, hport, hsec, fun hpass => ?mem, fun hdiffers => ?logic⟩
  case scanning =>
    show u.tst.scanning = _
    rw [htst]
  case todo =>
    show u.tst.todo.drop 1 = _
    rw [htst]
  case mem =>
    show (if pass = true then _ else setBit u.tst.memFail _) = _
    rw [hpass, if_neg Bool.false_ne_true, htst]
  case logic =>
    show (if (referenceSignature s i == some sig) = true then _ else setBit u.tst.logicFail _) = _
    rw [beq_eq_false_iff_ne.mpr hdiffers, if_neg Bool.false_ne_true, htst]

/-- The scan phase begins with its first island (R498). -/
def scanEntered (s : State) : State := if s.tst.scanning then s else scanBegins s

/-- In the scan phase the secrets are locked from its beginning; no mask and no island of the run has changed (R343). -/
theorem scanEntered_state (s : State) : (scanEntered s).tst = { s.tst with scanning := true }
    ∧ (s.tst.scanning = false → (scanEntered s).sec.scanLock = true) ∧ (scanEntered s).fw = s.fw := by
  unfold scanEntered
  cases h : s.tst.scanning with
  | true => exact ⟨by rw [if_pos rfl, ← h], nofun, rfl⟩
  | false => exact ⟨rfl, fun _ => rfl, rfl⟩

theorem exec_bistIsland {i : Island} {l : List Island} {pass : Bool} {sig : Word} (htodo : s.tst.todo = i :: l)
    (hnone : s.tst.awaiting = none) (hphase : s.tst.scanning = true ∨ (s.tst.bistBoot = true ∧ startReady s = true)) :
    exec (.bistIsland pass sig) s = .next (settle (bistOne i pass sig (scanEntered s))) := by
  have hguard : (s.tst.awaiting.isNone && (s.tst.scanning || (s.tst.bistBoot && startReady s))) = true := by
    obtain h | ⟨hboot, hready⟩ := hphase
    · simp [hnone, h]
    · simp [hnone, hboot, hready]
  show execBistIsland pass sig s = _
  rw [execBistIsland, htodo]
  show done (guarded (s.tst.awaiting.isNone && (s.tst.scanning || (s.tst.bistBoot && startReady s))) _ s) = _
  rw [hguard]
  rfl

/-- An island that did not return counts as failed in both masks (R505). -/
def islandLost (i : Island) (s : State) : State := { s with tst := { s.tst with
  memFail := setBit s.tst.memFail (islandNum i), logicFail := setBit s.tst.logicFail (islandNum i), awaiting := none, island := 0 } }

/-- The run's end as AON keeps it: the outcome, the time and PENDING clear (R498). -/
def scanOver (s : State) : State := { s with tst := { s.tst with
  pending := false, outcome := if s.tst.outcome = 3 then 3 else if (s.tst.logicFail ||| s.tst.memFail) = 0 then 0 else 1
  endSec := BitVec.ofNat 32 (s.bil.clock.toNat / 65536), copyDue := true, awaiting := none } }

theorem exec_bistIslandNotReturned {i : Island} (h : s.tst.awaiting = some i) : exec .bistIslandNotReturned s
    = .next (settle (if s.tst.todo.isEmpty then wholeReset .odRestart (scanOver (islandLost i s)) else islandLost i s)) := by
  show execBistIslandNotReturned s = _
  rw [execBistIslandNotReturned, h]
  rfl

end

/-- Settles O42: a test that runs, waits in vain or was held by what its end or its start sets; the scan by its next island, and by one
that does not return. -/
theorem selfTestRuns : Obligations.SelfTestRuns := by
  unfold Obligations.SelfTestRuns
  intro s
  refine ⟨fun c items hwait hcode hseq hmay hwhole => ?measured, fun b hwait hseq hmay => ?winding,
    fun c hwait hlow hhigh hseq hmay hidle => ?timeout, fun c hheld hseq hses hlone => ?held,
    fun i l pass sig htodo hnone hphase => ?scans, fun i hwait hmore => ?goesOn, fun i hwait hlast => ?finishes⟩
  case measured =>
    have hsome : c ≠ 0 := by obtain rfl | rfl := hcode <;> decide
    have hended : (if items.toNat % 16 = 0 then (0 : BitVec 4) else 1).toNat ≤ 4 := by split <;> decide
    have hdue : testDue s = c.toNat := testDue_of_lone hwait (by obtain rfl | rfl := hcode <;> decide)
    rw [exec_loopbackTestRun hdue (by bv_omega) hseq, testTried_measured hwait hcode hmay hwhole, setOutcome_of_ended hended]
    obtain ⟨htst, hframe⟩ := outcomeTaken_logged c (if items.toNat % 16 = 0 then 0 else 1) (items.toNat % 4) s
    refine ⟨_, rfl, ?_, ?_, ?_, ?_, hframe⟩
    all_goals rw [htst]; rfl
  case winding =>
    rw [exec_loopbackTestRun (k := 3) (testDue_of_lone hwait (by decide)) (by decide) hseq, testTried_of_may (by decide) hmay]
    exact ⟨_, rfl, rfl, rfl, rfl⟩
  case timeout =>
    rw [exec_selfTestConditionTimeout hwait hlow hhigh hseq hmay hidle, setOutcome_of_ended (by decide)]
    obtain ⟨htst, hframe⟩ := outcomeTaken_logged c 2 0 s
    refine ⟨_, rfl, ?_, ?_, hframe⟩
    all_goals rw [htst]; rfl
  case held =>
    exact ⟨_, exec_heldSelfTestStart hheld hseq hses hlone, rfl, rfl, rfl, rfl⟩
  case scans =>
    obtain ⟨hentered, hlocked, hfw⟩ := scanEntered_state s
    obtain ⟨hscan, hwaits, htodos, hmisr, hport, hlock, hmem, hlogic⟩ := bistOne_state i pass sig (scanEntered s)
    have hreference : referenceSignature (scanEntered s) i = referenceSignature s i := by rw [referenceSignature, hfw]; rfl
    rw [hreference] at hlogic
    rw [hentered] at hscan htodos hmem hlogic
    refine ⟨_, exec_bistIsland htodo hnone hphase, hscan, hwaits, ?_, hmisr, hport, fun h => ?_, hmem, hlogic⟩
    · rw [settle_tst, htodos, htodo]
      rfl
    · exact hlock.trans (hlocked h)
  case goesOn =>
    rw [exec_bistIslandNotReturned hwait, List.isEmpty_eq_false_iff.mpr hmore]
    exact ⟨_, rfl, rfl, rfl, rfl, rfl⟩
  case finishes =>
    rw [exec_bistIslandNotReturned hwait, hlast]
    obtain ⟨hheld, hcause, -⟩ := wholeReset_power .odRestart (scanOver (islandLost i s))
    exact ⟨_, rfl, hheld, hcause⟩

end Sys2Proof.Machine
end

section
/-! Entry into the safe state (10): what the end of the session leaves of the pilot and the switches, and what SAFE itself sets
(R250 to R252, R265, R266). -/

namespace Sys2Proof.Machine

section
variable {r : BitVec 8} {s : State}

/-! ### The pilot in the operations of a session (R34) -/

@[simp] theorem eventPrompt_plt (n : Nat) (s : State) : (eventPrompt n s).plt = s.plt := by rw [eventPrompt_frame]

@[simp] theorem markStop_plt (r : BitVec 8) (s : State) : (markStop r s).plt = s.plt := by rw [markStop_frame]

@[simp] theorem commandMove_plt (b : Bool) (s : State) : (commandMove b s).plt = s.plt := by rw [commandMove_frame]

@[simp] theorem releaseGrant_plt (s : State) : (releaseGrant s).plt = s.plt := by
  unfold releaseGrant
  repeat' split
  all_goals rfl

@[simp] theorem closeSession_plt (r : BitVec 8) (s : State) : (closeSession r s).plt = s.plt := by
  unfold closeSession
  split
  · rfl
  · exact (releaseGrant_plt _).trans (markStop_plt r s)

@[simp] theorem lockAtEnd_plt (r : BitVec 8) (s : State) : (lockAtEnd r s).plt = s.plt := by
  unfold lockAtEnd
  repeat' split
  all_goals simp

@[simp] theorem endPrompt_plt (r : BitVec 8) (s : State) : (endPrompt r s).plt = s.plt := by
  unfold endPrompt
  repeat' split
  all_goals simp

@[simp] theorem enterPaused_plt (s : State) : (enterPaused s).plt = s.plt := eventPrompt_plt 5 _

/-- A session's end drops the duty that waits for the PWM; the level in force stays. -/
@[simp] theorem endSession_plt (r : BitVec 8) (s : State) : (endSession r s).plt = { s.plt with next := 0, digital := false } := by
  rw [endSession, enterEnded_eq, endPrompt_plt, lockAtEnd_plt, ← closeSession_plt r s]
  rfl

/-! ### State F level, with nothing held back to energise (R250) -/

/-- The pilot stands at state F level, and the interlock holds back no gate and no closing of the coil. -/
structure EnergyOff (s : State) : Prop where
  level : s.plt.level = .stateF
  duty : s.plt.duty = 0
  gates : s.swg.heldGates = 0
  coil : s.swg.heldCoil ≠ some true

theorem EnergyOff.of_eq {t : State} (h : EnergyOff s) (hlevel : t.plt.level = s.plt.level) (hduty : t.plt.duty = s.plt.duty)
    (hswg : t.swg = s.swg) : EnergyOff t :=
  ⟨hlevel ▸ h.level, hduty ▸ h.duty, hswg ▸ h.gates, hswg ▸ h.coil⟩

theorem energyRefused_energyOff (s : State) : EnergyOff (energyRefused s) := by
  refine ⟨rfl, rfl, rfl, ?_⟩
  show s.swg.heldCoil.filter (!·) ≠ some true
  simp [Option.filter_eq_some_iff]

theorem closeSession_energyOff (h : EnergyOff s) : EnergyOff (closeSession r s) :=
  h.of_eq (by simp) (by simp) (closeSession_onlySession r s).swg_eq

theorem endSession_energyOff (h : EnergyOff s) : EnergyOff (endSession r s) :=
  h.of_eq (by simp) (by simp) (endSession_onlySession r s).swg_eq

theorem breakOutcome_energyOff (h : EnergyOff s) : EnergyOff (breakOutcome s) := by
  have hpaused : EnergyOff (enterPaused s) := h.of_eq (by simp) (by simp) (enterPaused_onlySession s).swg_eq
  unfold breakOutcome
  repeat' split
  · exact hpaused.of_eq rfl rfl rfl
  · exact hpaused
  · exact endSession_energyOff h

/-- A pilot fault's hold is at state F level too. -/
theorem dueHold_energyOff (h : EnergyOff s) : EnergyOff (dueHold s) := by
  unfold dueHold
  split
  · exact ⟨rfl, rfl, h.gates, h.coil⟩
  · exact h

theorem finishBreak_energyOff (h : EnergyOff s) : EnergyOff (finishBreak s) := by
  rw [finishBreak_eq]
  exact dueHold_energyOff (breakOutcome_energyOff (h.of_eq rfl rfl rfl))

theorem breakStepFive_energyOff (h : EnergyOff s) : EnergyOff (breakStepFive s) := by
  unfold breakStepFive
  dsimp only
  split
  · exact h.of_eq rfl rfl rfl
  · exact finishBreak_energyOff (h.of_eq rfl rfl rfl)

/-- The coil's release holds back an opening at most (R210). -/
theorem releaseCoil_energyOff (h : EnergyOff s) : EnergyOff (releaseCoil s) := by
  have hreleased : EnergyOff (coilReleased s) := ⟨h.level, h.duty, h.gates, by simp [coilReleased]⟩
  unfold releaseCoil
  dsimp only
  repeat' split
  case isTrue.isTrue.isTrue => exact hreleased
  case isTrue.isTrue.isFalse => exact breakStepFive_energyOff hreleased
  case isTrue.isFalse => exact ⟨h.level, h.duty, h.gates, by simp⟩
  case isFalse.isTrue => exact h.of_eq rfl rfl rfl
  case isFalse.isFalse => exact breakStepFive_energyOff h

@[simp] theorem breakBegins_plt (r : BitVec 8) (s : State) : (breakBegins r s).plt = s.plt := by
  unfold breakBegins
  dsimp only
  split
  · rfl
  · exact markStop_plt r _

theorem startBreak_energyOff (h : EnergyOff s) : EnergyOff (startBreak r s) := by
  have hbegins : EnergyOff (breakBegins r s) := ⟨by simp [h.level], by simp [h.duty], by simp, by simp⟩
  rw [startBreak_eq]
  split
  · exact hbegins.of_eq rfl rfl rfl
  · exact releaseCoil_energyOff hbegins

theorem stopSession_energyOff (h : EnergyOff s) : EnergyOff (stopSession r s) := by
  unfold stopSession
  repeat' split
  case h_1.isTrue => exact h.of_eq (by simp) (by simp) (markStop_onlySession r _).swg_eq
  case h_2 | h_3 | h_4 => exact startBreak_energyOff h
  case h_5 => exact endSession_energyOff h
  all_goals exact h.of_eq rfl rfl rfl

/-! ### The session is over (R41) -/

/-- A session that is closed is in use no longer, whether or not there was one. -/
theorem closeSession_inUse (r : BitVec 8) (s : State) : (closeSession r s).ses.inUse = false := by
  cases h : s.ses.inUse with
  | true => exact (closeSession_ses h).2.1
  | false => rwa [closeSession, show sessionOn s = false from h]

/-- Break that ends without a session starts none. -/
theorem finishBreak_inUse (h : s.ses.inUse = false) : (finishBreak s).ses.inUse = false := by
  rw [finishBreak_eq, dueHold_ses, breakOutcome]
  repeat' split
  · exact (congrArg Session.inUse (eventPrompt_ses 5 _)).trans h
  · exact (congrArg Session.inUse (eventPrompt_ses 5 _)).trans h
  · rw [endSession, enterEnded_ses]
    exact closeSession_inUse _ _

/-- Whatever an entry finds, it leaves state F level, nothing held back to energise, and no session (R41, R250). -/
theorem stopForSafe_state (s : State) : EnergyOff (stopForSafe s) ∧ (stopForSafe s).ses.inUse = false := by
  have hstop := stopSession_energyOff (r := 6) (energyRefused_energyOff s)
  have hover : (stopsAndCloses (energyRefused s)).ses.inUse = false := closeSession_inUse _ _
  rw [stopForSafe_eq]
  repeat' split
  · exact ⟨finishBreak_energyOff (closeSession_energyOff hstop), finishBreak_inUse hover⟩
  · exact ⟨closeSession_energyOff hstop, hover⟩
  · exact ⟨closeSession_energyOff (startBreak_energyOff (energyRefused_energyOff s)), closeSession_inUse _ _⟩
  · exact ⟨closeSession_energyOff hstop, closeSession_inUse _ _⟩

end

/-! ### An entry and its records (R250, R265, R266) -/

/-- SAFE_KILL is asserted. -/
def safeKills (s : State) : State := setKill { s with glt := { s.glt with srcSafe := true } }

/-- The safe state comes into force with the cause c: it is counted, and no cause has been seen in it. -/
def entryCounted (c : BitVec 16) (s : State) : State :=
  eventPrompt 7 (setActive true { s with
    boot := if s.safe.startHold && !s.pwr.billing then { s.boot with stage := 0xF } else s.boot
    safe := { s.safe with cause := c, startHold := false, entries := satInc s.safe.entries, seen := [], autoSpent := false } })

/-- The causes l join those that govern the release (R261, R262). -/
def causesSeen (l : List (BitVec 16)) (s : State) : State :=
  let s := { s with safe := { s.safe with
    seen := s.safe.seen ++ l.filter (fun x => !s.safe.seen.contains x), passed := 0
    needsReset := s.safe.needsReset || l.any (fun x => releaseClass x == 3) } }
  { s with safe := { s.safe with autoSpent := s.safe.autoSpent || (s.safe.autoLeft == 0 && l.any fun x => releaseClass x == 0) } }

/-- One record for each cause of an entry, that of c as the entry's own (Table 10-9). -/
def entryRecords (c : BitVec 16) (l : List (BitVec 16)) (s : State) : State :=
  l.foldl (fun s x => writeEvidence (if x == c then 0x10 else 0x11) x s) s

/-- An entry with the causes l, up to what it stops: the latch, the count, the causes and their records. -/
def entryMade (l : List (BitVec 16)) (s : State) : State :=
  entryRecords (governing s l) l (causesSeen l (entryCounted (governing s l) (safeKills s)))

theorem safeEntry_of_fresh {l : List (BitVec 16)} {s : State} (hl : l ≠ []) (hfresh : safeInForce s = false) :
    safeEntry l s = safeStop (entryMade (distinctCauses l) s) := by
  rw [safeEntry, if_neg (by simpa using hl), hfresh]
  rfl

theorem entryCounted_safe (c : BitVec 16) (s : State) : (entryCounted c s).safe = { s.safe with
    cause := c, startHold := false, entries := satInc s.safe.entries, seen := [], autoSpent := false, active := true } := by
  rw [entryCounted, eventPrompt_frame]
  rfl

@[simp] theorem entryCounted_glt (c : BitVec 16) (s : State) : (entryCounted c s).glt = s.glt := by
  rw [entryCounted, eventPrompt_frame]
  rfl

/-- From s to t SAFE and the latch differ at most in SAFE's records, held or of a seal change (R265, R270). -/
def OnlyEvidence (s t : State) : Prop := t.glt = s.glt ∧ t.safe
  = { s.safe with posRecorded := t.safe.posRecorded, evidence := t.safe.evidence, lost := t.safe.lost }

theorem OnlyEvidence.trans {s t u : State} (h : OnlyEvidence s t) (h' : OnlyEvidence t u) : OnlyEvidence s u := by
  obtain ⟨hglt, hsafe⟩ := h
  obtain ⟨hglt', hsafe'⟩ := h'
  exact ⟨hglt'.trans hglt, by rw [hsafe', hsafe]⟩

theorem writeEvidence_onlyEvidence (type : Nat) (c : BitVec 16) (s : State) : OnlyEvidence s (writeEvidence type c s) := by
  refine ⟨by rw [writeEvidence_frame], ?_⟩
  unfold writeEvidence
  dsimp only
  repeat' split
  all_goals simp

theorem entryRecords_onlyEvidence (c : BitVec 16) (l : List (BitVec 16)) (s : State) : OnlyEvidence s (entryRecords c l s) :=
  List.foldlRecOn (motive := OnlyEvidence s) _ _ ⟨rfl, rfl⟩ fun _ ht _ _ => ht.trans (writeEvidence_onlyEvidence _ _ _)

/-- The safe state is in force from s on, with gate-kill asserted, and counted once; nothing waits to be judged anew. -/
structure InForceFrom (s t : State) : Prop where
  active : t.safe.active = true
  startHold : t.safe.startHold = false
  entries : t.safe.entries = satInc s.safe.entries
  reports : t.safe.reports = s.safe.reports
  failed : t.safe.failed = s.safe.failed
  kill : t.glt.kill = true

theorem InForceFrom.of_eq {s t u : State} (h : InForceFrom s t) (hsafe : u.safe = t.safe) (hglt : u.glt = t.glt) :
    InForceFrom s u := by
  constructor
  case kill => rw [hglt, h.kill]
  all_goals rw [hsafe]
  exacts [h.active, h.startHold, h.entries, h.reports, h.failed]

theorem entryMade_inForce (l : List (BitVec 16)) (s : State) : InForceFrom s (entryMade l s) := by
  obtain ⟨hglt, hsafe⟩ := entryRecords_onlyEvidence (governing s l) l (causesSeen l (entryCounted (governing s l) (safeKills s)))
  unfold entryMade
  constructor
  case kill =>
    rw [hglt]
    exact congrArg Glint.kill (entryCounted_glt _ _)
  all_goals
    rw [hsafe]
    simp only [causesSeen, entryCounted_safe, safeKills, setKill_safe]

theorem safeStop_onlySwitching (s : State) : OnlySwitching s (safeStop s) := by
  have hbrake : OnlySwitching s (brakeMove s) := by
    unfold OnlySwitching
    rw [brakeMove_frame]
  exact hbrake.trans (stopForSafe_onlySwitching _)

/-- An entry leaves the safe state in force, nothing energised or held back to energise, and no session (R250). -/
theorem safeEntry_state {l : List (BitVec 16)} {s : State} (hl : l ≠ []) (hfresh : safeInForce s = false) :
    InForceFrom s (safeEntry l s) ∧ EnergyOff (safeEntry l s) ∧ (safeEntry l s).ses.inUse = false := by
  rw [safeEntry_of_fresh hl hfresh]
  have hstop := safeStop_onlySwitching (entryMade (distinctCauses l) s)
  exact ⟨(entryMade_inForce _ s).of_eq hstop.safe_eq (by rw [hstop]), stopForSafe_state _⟩

end Sys2Proof.Machine
end

section
/-! The windows of SAFE (10): what diagnostics 8 and 4 leave for the window's end, and the entry that it brings (R250, R251, R253). -/

namespace Sys2Proof.Machine

section
variable {n : Nat} {s : State}

/-! ### A diagnostic that fails (R253, R254) -/

/-- What a failed diagnostic leaves of SAFE: its bit, and its cause reported unless it stands already. -/
theorem diagFail_safe (n : Nat) (s : State) : (diagFail n s).safe = { s.safe with
    failed := setBit s.safe.failed n
    reports := if s.live.standing.contains (diagCause n) then s.safe.reports else s.safe.reports ++ [diagCause n] } := by
  unfold diagFail
  dsimp only
  split <;> rfl

theorem diagFail_reports_new (h : diagCause n ∉ s.live.standing) :
    (diagFail n s).safe.reports = s.safe.reports ++ [diagCause n] := by
  rw [diagFail_safe]
  simp [h]

/-- From s to t diagnostics were evaluated: SAFE's marks of them are new, and no report that waited is lost. -/
structure Evaluated (s t : State) : Prop where
  safe : t.safe = { s.safe with
    passed := t.safe.passed, failed := t.safe.failed, clockBad := t.safe.clockBad, reports := t.safe.reports }
  reports : s.safe.reports ≠ [] → t.safe.reports ≠ []

theorem Evaluated.trans {t u : State} (h : Evaluated s t) (h' : Evaluated t u) : Evaluated s u :=
  ⟨by rw [h'.safe, h.safe], h'.reports ∘ h.reports⟩

theorem Evaluated.of_eq {t : State} (h : t.safe = s.safe) : Evaluated s t := ⟨by rw [h], fun hwait => by rwa [h]⟩

theorem Evaluated.thenFails {t : State} (h : Evaluated s t) (n : Nat) : Evaluated s (diagFail n t) := by
  refine h.trans ?_
  constructor <;> rw [diagFail_safe]
  intro hwait
  dsimp only
  split
  · exact hwait
  · exact List.append_ne_nil_of_left_ne_nil hwait _

theorem clockWindow_evaluated (n : Nat) (s : State) : Evaluated s (clockWindow n s) := by
  unfold clockWindow
  dsimp only
  repeat' split
  · exact .of_eq rfl
  · exact ⟨rfl, id⟩
  · refine .thenFails ?_ 8
    exact ⟨rfl, id⟩
  · exact ⟨rfl, id⟩

theorem auxWindow_evaluated (s : State) : Evaluated s (auxWindow s) := by
  unfold auxWindow
  dsimp only
  repeat' split
  · exact .of_eq rfl
  · exact ⟨rfl, id⟩
  · refine .thenFails ?_ 4
    exact .of_eq rfl
  · exact .of_eq rfl

/-! ### A window's end (R251) -/

/-- Diagnostics 8 and 4 in one window, before its reports are judged. -/
def windowWatched (n : Nat) (s : State) : State := auxWindow (clockWindow n s)

/-- The window's reports are taken, to be judged. -/
def reportsTaken (s : State) : State := { s with safe := { s.safe with reports := [] } }

theorem judgeWindow_eq (n : Nat) (s : State) :
    judgeWindow n s = safeEntry (windowWatched n s).safe.reports (reportsTaken (windowWatched n s)) := rfl

theorem exec_safeWindow (hup : isUp s .safe = true) : exec (.safeWindow n) s = .next (settle (judgeWindow n s)) := by
  show execSafeWindow n s = _
  rw [execSafeWindow, hup, guarded_true, done_eq]

theorem windowWatched_evaluated (n : Nat) (s : State) : Evaluated s (windowWatched n s) :=
  (clockWindow_evaluated n s).trans (auxWindow_evaluated _)

/-- A window with reports, from no safe state: it is entered, counted once over the entries before (R250, R251). -/
theorem judgeWindow_enters (hfresh : safeInForce s = false) (hreports : (windowWatched n s).safe.reports ≠ []) :
    InForceFrom (reportsTaken (windowWatched n s)) (judgeWindow n s) ∧ EnergyOff (judgeWindow n s)
      ∧ (judgeWindow n s).ses.inUse = false ∧ (judgeWindow n s).safe.entries = satInc s.safe.entries := by
  have hsafe := (windowWatched_evaluated n s).safe
  have hnone : safeInForce (reportsTaken (windowWatched n s)) = false := by
    show ((windowWatched n s).safe.active && !(windowWatched n s).safe.startHold) = false
    rw [hsafe]
    exact hfresh
  obtain ⟨hin, henergy, huse⟩ := safeEntry_state hreports hnone
  rw [judgeWindow_eq]
  refine ⟨hin, henergy, huse, hin.entries.trans ?_⟩
  show satInc (windowWatched n s).safe.entries = _
  rw [hsafe]

end

/-- Settles O22: what the window's entry sets, and the pads that follow from the latch. -/
theorem safeStateEntry : Obligations.SafeStateEntry := by
  unfold Obligations.SafeStateEntry
  intro s n hup hfresh hreports
  have hwaiting := (windowWatched_evaluated n s).reports hreports
  obtain ⟨hin, henergy, huse, hentries⟩ := judgeWindow_enters hfresh hwaiting
  have hkill := settle_kill hin.kill
  obtain ⟨hgates, hgkilln⟩ := pads_of_kill hkill
  rw [exec_safeWindow hup]
  exact ⟨_, rfl, hin.active, hin.startHold, hkill, hgates, hgkilln, henergy.gates, henergy.coil, henergy.level, henergy.duty,
    hentries, hin.reports, huse⟩

end Sys2Proof.Machine
end

section
/-! What SAFE watches in its windows and at its heartbeat reads (10): windows without reports, the auxiliary contact, islands that miss (R251,
R253, R256, Tables 10-3 and 10-5). -/

namespace Sys2Proof.Machine

section
variable {n : Nat} {i : Island} {s : State}

/-! ### Diagnostics 8 and 4 in a window (R253) -/

/-- Diagnostic 8 after a window whose count is in its limits; before the crystal has run it is not judged. -/
def clockGood (s : State) : State := if xtalHasRun s then diagPass 8 { s with safe := { s.safe with clockBad := 0 } } else s

theorem clockWindow_of_inside (hlow : 24500 ≤ n) (hhigh : n ≤ 25500) : clockWindow n s = clockGood s := by
  cases h : xtalHasRun s <;> simp [clockWindow, clockGood, h, hlow, hhigh]

theorem clockGood_frame (s : State) : clockGood s = { s with
    safe := { s.safe with passed := (clockGood s).safe.passed, clockBad := (clockGood s).safe.clockBad }
    live := { s.live with standing := (clockGood s).live.standing } } := by
  unfold clockGood
  split <;> rfl

theorem clockGood_passed (h : xtalHasRun s = true) : (clockGood s).safe.passed.getLsbD 8 = true := by
  rw [clockGood, if_pos h]
  exact getLsbD_setBit_self s.safe.passed (by decide)

/-- A cause that does not stand still does not after a diagnostic that passes. -/
theorem clockGood_standing {c : BitVec 16} (h : c ∉ s.live.standing) : c ∉ (clockGood s).live.standing := by
  unfold clockGood
  split
  · exact fun hc => h (List.mem_filter.mp hc).1
  · exact h

/-- Short of 150 ms, diagnostic 4 raises nothing: at most it passes (R253). -/
theorem auxWindow_of_short (h : s.swg.aux = s.swg.coilCmd ∨ s.live.auxDiffers < 149) : auxWindow s = { s with
    safe := { s.safe with passed := (auxWindow s).safe.passed }, live := (auxWindow s).live } := by
  unfold auxWindow
  dsimp only
  repeat' split
  case isFalse.isFalse.isTrue hagree hlong =>
    obtain h | h := h
    · exact absurd (beq_iff_eq.mpr h) hagree
    · omega
  all_goals rfl

/-- A diagnostic that has passed stays so through diagnostic 4's evaluation. -/
theorem auxWindow_passed {b : Nat} (h : s.safe.passed.getLsbD b = true) : (auxWindow s).safe.passed.getLsbD b = true := by
  unfold auxWindow
  dsimp only
  repeat' split
  · exact h
  · exact getLsbD_setBit_of 4 h
  · rw [diagFail_safe]
    exact h
  · exact h

/-- The 150th window in which AUX_IN and COIL_CMD differ outside Make and Break (Table 10-3). -/
theorem auxWindow_of_long (htmr : isUp s .tmr = true) (hmake : s.ses.phase ≠ .make) (hbreak : s.ses.phase ≠ .break)
    (hdiffers : s.swg.aux ≠ s.swg.coilCmd) (hlong : 149 ≤ s.live.auxDiffers) :
    auxWindow s = diagFail 4 { s with live := { s.live with auxDiffers := 150 } } := by
  have hcount : min 150 (s.live.auxDiffers + 1) = 150 := by omega
  simp [auxWindow, htmr, hmake, hbreak, hdiffers, hcount]

/-- Together they write SAFE's marks of them, the clock's count of bad windows, and what stands. -/
theorem auxWindow_clockGood_frame (haux : s.swg.aux = s.swg.coilCmd ∨ s.live.auxDiffers < 149) : auxWindow (clockGood s) = { s with
    safe := { s.safe with
      passed := (auxWindow (clockGood s)).safe.passed, clockBad := (auxWindow (clockGood s)).safe.clockBad }
    live := (auxWindow (clockGood s)).live } := by
  have hshort : (clockGood s).swg.aux = (clockGood s).swg.coilCmd ∨ (clockGood s).live.auxDiffers < 149 := by
    rw [clockGood_frame]
    exact haux
  rw [auxWindow_of_short hshort, clockGood_frame]

/-- A window without reports in which nothing fails judges nothing (R251). -/
theorem judgeWindow_of_quiet (hnone : s.safe.reports = []) (hlow : 24500 ≤ n) (hhigh : n ≤ 25500)
    (haux : s.swg.aux = s.swg.coilCmd ∨ s.live.auxDiffers < 149) :
    judgeWindow n s = reportsTaken (auxWindow (clockGood s)) := by
  have hreports : (auxWindow (clockGood s)).safe.reports = [] := by
    rw [auxWindow_clockGood_frame haux]
    exact hnone
  rw [judgeWindow_eq, windowWatched, clockWindow_of_inside hlow hhigh, hreports]
  rfl

/-- The window that completes the 150 ms reports cause 0208h. -/
theorem windowWatched_auxFails (htmr : isUp s .tmr = true) (hlow : 24500 ≤ n) (hhigh : n ≤ 25500) (hmake : s.ses.phase ≠ .make)
    (hbreak : s.ses.phase ≠ .break) (hdiffers : s.swg.aux ≠ s.swg.coilCmd) (hlong : 149 ≤ s.live.auxDiffers)
    (hnew : 0x208 ∉ s.live.standing) : (windowWatched n s).safe.reports = s.safe.reports ++ [0x208]
      ∧ (windowWatched n s).safe.failed.getLsbD 4 = true := by
  have hfails : windowWatched n s
      = diagFail 4 { clockGood s with live := { (clockGood s).live with auxDiffers := 150 } } := by
    rw [windowWatched, clockWindow_of_inside hlow hhigh]
    apply auxWindow_of_long <;> rw [clockGood_frame] <;> assumption
  rw [hfails]
  constructor
  · rw [diagFail_reports_new (n := 4) (by exact clockGood_standing hnew), clockGood_frame]
    rfl
  · rw [diagFail_failed]
    exact getLsbD_setBit_self _ (by decide)

/-! ### FAILED through an island's departure (R56) -/

@[simp] theorem comparatorTrip_failed (b : Bool) (n : Nat) (s : State) : (comparatorTrip b n s).safe.failed = s.safe.failed := by
  rw [comparatorTrip_eq, tripReported, tripLogged_frame]
  repeat' split
  all_goals rfl

@[simp] theorem reconnect_failed (n : Nat) (s : State) : (reconnect n s).safe.failed = s.safe.failed := by
  unfold reconnect
  split <;> simp

@[simp] theorem reconnectAll_failed (s t : State) : (reconnectAll s t).safe.failed = t.safe.failed := by
  refine List.foldlRecOn (motive := fun u : State => u.safe.failed = t.safe.failed) _ _ rfl fun u hu n _ => ?_
  split
  · rw [reconnect_failed, hu]
  · exact hu

@[simp] theorem holdsEnd_safe (s : State) : (holdsEnd s).safe = s.safe := by
  unfold holdsEnd logHold
  dsimp only
  split <;> split <;> simp

theorem resetIsland_failed (h : i ≠ .safe) (s : State) : (resetIsland i s).safe.failed = s.safe.failed := by
  cases i
  case safe => exact absurd rfl h
  case adc => exact reconnectAll_failed s _
  case plc => exact congrArg Safe.failed (holdsEnd_safe s)
  all_goals rfl

@[simp] theorem fabricLeave_safe (i : Island) (s : State) : (fabricLeave i s).safe = s.safe := by rw [fabricLeave_onlyFabricAndLog]

theorem leaveQuietly_failed (h : i ≠ .safe) (st : PortState) (s : State) : (leaveQuietly i st s).safe.failed = s.safe.failed := by
  unfold leaveQuietly
  dsimp only
  split <;> split <;> simp [resetIsland_failed h]

theorem absenceReaction_failed (i : Island) (s : State) : (absenceReaction i s).safe.failed = s.safe.failed := by
  unfold absenceReaction
  repeat' split
  · rfl
  · rw [(stopForSafe_onlySwitching _).safe_eq, setKill_safe]
  · rw [logEvent_safe]

/-- Only SAFE's own departure clears what has failed. -/
theorem leaveService_failed (h : i ≠ .safe) (st : PortState) (s : State) : (leaveService i st s).safe.failed = s.safe.failed := by
  rw [leaveService, absenceReaction_failed, leaveQuietly_failed h]

/-! ### Heartbeats (R256, Table 10-5) -/

theorem exec_islandHeartbeat {advanced : Bool} (hsafe : isUp s .safe = true) (hne : i ≠ .safe) (hup : isUp s i = true)
    (htest : underTest s i = false) : exec (.islandHeartbeat i advanced) s = .next (settle (heartbeat i advanced s)) := by
  have hcome : (port s i).state ≠ .notYetUp := by
    rw [isUp_iff.mp hup]
    decide
  have hguard : (isUp s .safe && i != .safe && (port s i).state != .notYetUp && !underTest s i
      && (isUp s i || !s.pwr.loaderState)) = true := by
    simp [hsafe, hne, hup, htest, hcome]
  show execIslandHeartbeat i advanced s = _
  rw [execIslandHeartbeat, hguard, guarded_true, done_eq]

theorem heartbeat_of_advanced (hup : isUp s i = true) : heartbeat i true s
    = { s with safe := { s.safe with misses := pset s.safe.misses i 0, passed := setBit s.safe.passed 7 } } := by
  simp [heartbeat, hup]

/-- The third miss in a row: counted, and diagnostic 7 marked as failed. -/
def thirdMiss (i : Island) (s : State) : State :=
  { s with safe := { s.safe with misses := pset s.safe.misses i 3, failed := setBit s.safe.failed 7 } }

theorem heartbeat_of_third (hup : isUp s i = true) (hmisses : pget s.safe.misses i = 2) : heartbeat i false s
    = if i = .aon then report 0x400 (thirdMiss i s) else logEvent (.islandReset i) (leaveService i .resetting (thirdMiss i s)) := by
  have hlost : heartbeat i false s = heartbeatLost i { s with safe := { s.safe with misses := pset s.safe.misses i 3 } } := by
    simp [heartbeat, hmisses]
  have hstill : (!isUp (thirdMiss i s) i) ≠ true := by
    rw [show isUp (thirdMiss i s) i = true from hup]
    decide
  rw [hlost, heartbeatLost, if_neg (by exact hstill)]
  by_cases h : i = .aon
  · rw [if_pos h, if_pos (beq_iff_eq.mpr h)]
    rfl
  · rw [if_neg h, if_neg (beq_iff_eq.not.mpr h)]
    rfl

theorem thirdMiss_failed (i : Island) (s : State) : (thirdMiss i s).safe.failed.getLsbD 7 = true :=
  getLsbD_setBit_self s.safe.failed (by decide)

end

end Sys2Proof.Machine
end

section
/-! Reference checks, SAFE's reset, its held records, its own fault and the automatic release (10): R253, R261, R263, R264, R269, R270. -/

namespace Sys2Proof.Machine

section
variable {n : Nat} {s : State}

/-! ### Reference checks (R253, R288) -/

theorem convNum_lt (c : Converter) : convNum c < 4 := by cases c <;> decide

theorem exec_referenceCheck {c : Converter} {code : BitVec 16} (hsafe : isUp s .safe = true) (hadc : adcRuns s = true) :
    exec (.referenceCheck c code) s
      = .next (settle (refChecked (convNum c) c (refNear (s.adc.refValue.toList.getD (convNum c) 0) code) s)) := by
  show execReferenceCheck c code s = _
  rw [execReferenceCheck, hsafe, hadc, Bool.and_self, guarded_true, done_eq]

/-- The check of converter n has been seen at this coming up of ADC (R290). -/
def refNoted (n : Nat) (s : State) : State := { s with adc := { s.adc with refSeen := setBit s.adc.refSeen n } }

/-- Diagnostic 2 passes once every converter has been checked. -/
def refPassed (s : State) : State :=
  if s.adc.refSeen == 0xF then { s with safe := { s.safe with passed := setBit s.safe.passed 2 } } else s

/-- A good check starts the converter's count of bad ones again. -/
def refGood (n : Nat) (s : State) : State := { s with
  safe := { s.safe with refBad := s.safe.refBad.setIfInBounds n 0 }, adc := { s.adc with refFail := clearBit s.adc.refFail n } }

/-- A bad check is counted, by the converter and in all. -/
def refFailed (n : Nat) (c : Converter) (s : State) : State := { s with
  safe := { s.safe with refBad := s.safe.refBad.setIfInBounds n (min 2 (s.safe.refBad.toList.getD n 0 + 1)) }
  adc := { s.adc with
    refFail := setBit s.adc.refFail n, converterErrors := satInc s.adc.converterErrors, calFirst := some c } }

/-- Cause 0204h stands no longer while no converter has failed twice. -/
def refCleared (s : State) : State :=
  if s.safe.refBad.toList.all (· < 2) then
    { s with live := { s.live with standing := s.live.standing.filter (· != diagCause 2) } }
  else s

theorem refChecked_good (n : Nat) (c : Converter) (s : State) :
    refChecked n c true s = refCleared (refPassed (refGood n (refNoted n s))) := rfl

theorem refChecked_bad (n : Nat) (c : Converter) (s : State) : refChecked n c false s
    = if 1 ≤ s.safe.refBad.toList.getD n 0 then diagFail 2 (refFailed n c (refNoted n s))
      else refPassed (refFailed n c (refNoted n s)) := by
  have htwice : 2 ≤ min 2 (s.safe.refBad.toList.getD n 0 + 1) ↔ 1 ≤ s.safe.refBad.toList.getD n 0 := by omega
  rw [← if_congr htwice rfl rfl]
  rfl

theorem refCleared_frame (s : State) : refCleared s = { s with live := (refCleared s).live } := by
  unfold refCleared
  split <;> rfl

theorem refPassed_frame (s : State) : refPassed s = { s with safe := { s.safe with passed := (refPassed s).safe.passed } } := by
  unfold refPassed
  split <;> rfl

/-- What a good check leaves of SAFE and ADC. -/
theorem refChecked_good_state (h : n < 4) (c : Converter) (s : State) :
    (refChecked n c true s).safe.refBad.toList.getD n 9 = 0 ∧ (refChecked n c true s).adc.refFail.getLsbD n = false
      ∧ (refChecked n c true s).safe.passed
        = if setBit s.adc.refSeen n = 0xF then setBit s.safe.passed 2 else s.safe.passed := by
  rw [refChecked_good, refCleared_frame]
  refine ⟨?_, ?_, ?_⟩
  · rw [refPassed_frame]
    simp [refGood, refNoted, h]
  · rw [refPassed_frame]
    exact getLsbD_clearBit_self _ _
  · show (refPassed (refGood n (refNoted n s))).safe.passed = _
    by_cases hall : setBit s.adc.refSeen n = 0xF
    · rw [if_pos hall, refPassed, if_pos (by exact beq_iff_eq.mpr hall)]
      rfl
    · rw [if_neg hall, refPassed, if_neg (by exact beq_iff_eq.not.mpr hall)]
      rfl

/-- A bad check shows in REF_FAIL and in the count; a second in a row fails diagnostic 2. -/
theorem refChecked_bad_state (h : n < 4) (c : Converter) (s : State) :
    (refChecked n c false s).adc.refFail.getLsbD n = true
      ∧ (refChecked n c false s).adc.converterErrors = satInc s.adc.converterErrors
      ∧ (1 ≤ s.safe.refBad.toList.getD n 0 → 0x204 ∈ (refChecked n c false s).live.standing) := by
  have hadc : (refChecked n c false s).adc = (refFailed n c (refNoted n s)).adc := by
    rw [refChecked_bad]
    split
    · rw [diagFail_adc]
    · rw [refPassed_frame]
  refine ⟨?_, ?_, fun hone => ?_⟩
  · rw [hadc]
    exact getLsbD_setBit_self s.adc.refFail h
  · rw [hadc]
    rfl
  · rw [refChecked_bad, if_pos hone]
    exact diagFail_standing (n := 2) _ (by decide)

/-! ### SAFE's reset (R264, R269) -/

theorem exec_safeReset (h : (safeInForce s = true ∧ s.safe.needsReset = true) ∨ s.glt.safeFault = true) :
    exec .safeReset s = .next (settle (heldBackReset .safeReq s)) := by
  have hguard : ((safeInForce s && s.safe.needsReset) || s.glt.safeFault) = true := by simpa using h
  show execSafeReset s = _
  rw [execSafeReset, hguard, guarded_true, done_eq]

theorem exec_safeSelfFault (h : isUp s .safe = true) : exec .safeSelfFault s = .next (settle (report 0x502 (holdKill s))) := by
  show execSafeSelfFault s = _
  rw [execSafeSelfFault, h, guarded_true, done_eq]

/-! ### Records that were held (R270) -/

/-- While log flash can be written, each event of a list adds one entry. -/
theorem foldl_logEvent_length {α : Type} (k : α → EventKind) (l : List α) (h : s.flash.writable = true) :
    (l.foldl (fun s x => logEvent (k x) s) s).flash.log.length = s.flash.log.length + l.length := by
  induction l generalizing s with
  | nil => rfl
  | cons x l ih =>
    have hstill : (logEvent (k x) s).flash.writable = true := by simp [logEvent, h]
    rw [List.foldl_cons, ih hstill, logEvent_appends h]
    simp only [List.length_append, List.length_cons, List.length_nil]
    omega

/-- The held records, written oldest first. -/
def evidenceFlushed (s : State) : State :=
  s.safe.evidence.foldl (fun s b => logEvent (.safeState b) s) { s with safe := { s.safe with evidence := [] } }

theorem exec_evidenceFlush (hwrite : s.flash.writable = true) (hheld : s.safe.evidence ≠ []) :
    exec .evidenceFlush s = .next (settle (evidenceFlushed s)) := by
  show execEvidenceFlush s = _
  rw [execEvidenceFlush, hwrite, List.isEmpty_eq_false_iff.mpr hheld]
  rfl

theorem evidenceFlushed_frame (s : State) : evidenceFlushed s
    = { s with safe := { s.safe with evidence := [] }, flash := (evidenceFlushed s).flash } := by
  unfold evidenceFlushed
  rw [foldl_logEvent_frame]

/-! ### The automatic release (R261, R263) -/

/-- After some causes a test-winding check comes before the next Make (R263). -/
def checkOwed (s : State) : Bool := s.safe.seen.any fun c => (0x101 ≤ c.toNat && c.toNat ≤ 0x106) || c == 0x201 || c == 0x202

/-- What a release notes before it clears the latch: its record, the check that Make waits for, and an automatic release spent. -/
def releaseNoted (automatic : Bool) (s : State) : State :=
  let t := writeEvidence 0x12 s.safe.cause s
  let t := { t with ses := { t.ses with windingDue := t.ses.windingDue || checkOwed s || releasesStart s } }
  if automatic then { t with safe := { t.safe with autoLeft := t.safe.autoLeft - 1, autoTimes := t.bil.running :: t.safe.autoTimes } }
  else t

/-- The lock is unlocked at a release, unless a fault is latched or it is unlocked already (R263). -/
def unlockedAtRelease (s : State) : State := if s.lck.faults = 0 && s.lck.state != 1 then commandMove false s else s

theorem releaseQuietly_eq (automatic : Bool) (s : State) : releaseQuietly automatic s
    = if releasesStart s then versionKept (unlockedAtRelease (commonRelease (releaseNoted automatic s)))
      else unlockedAtRelease (commonRelease (releaseNoted automatic s)) := rfl

/-- From s to t SAFE, the latch, the pilot, the power state and the fabric stand. -/
structure SafetyStands (s t : State) : Prop where
  safe : t.safe = s.safe
  glt : t.glt = s.glt
  plt : t.plt = s.plt
  pwr : t.pwr = s.pwr
  fab : t.fab = s.fab

theorem SafetyStands.trans {t u : State} (h : SafetyStands s t) (h' : SafetyStands t u) : SafetyStands s u :=
  ⟨h'.safe.trans h.safe, h'.glt.trans h.glt, h'.plt.trans h.plt, h'.pwr.trans h.pwr, h'.fab.trans h.fab⟩

theorem unlockedAtRelease_stands (s : State) : SafetyStands s (unlockedAtRelease s) := by
  unfold unlockedAtRelease
  split
  · rw [commandMove_frame]
    exact ⟨rfl, rfl, rfl, rfl, rfl⟩
  · exact ⟨rfl, rfl, rfl, rfl, rfl⟩

theorem versionKept_stands (s : State) : SafetyStands s (versionKept s) := by
  rw [versionKept, logEvent_frame]
  exact ⟨rfl, rfl, rfl, rfl, rfl⟩

theorem epochNotify_stands (s : State) : SafetyStands s (epochNotify s) := by
  rw [(epochNotify_sends s).2]
  exact ⟨rfl, rfl, rfl, rfl, rfl⟩

/-- The NOTIFY that follows the release of a start changes nothing of it (R163). -/
theorem releaseSafe_stands (automatic : Bool) (s : State) :
    SafetyStands (releaseQuietly automatic s) (releaseSafe automatic s) := by
  unfold releaseSafe
  split
  · exact epochNotify_stands _
  · exact ⟨rfl, rfl, rfl, rfl, rfl⟩

theorem releaseQuietly_stands (automatic : Bool) (s : State) :
    SafetyStands (commonRelease (releaseNoted automatic s)) (releaseQuietly automatic s) := by
  rw [releaseQuietly_eq]
  split
  · exact (unlockedAtRelease_stands _).trans (versionKept_stands _)
  · exact unlockedAtRelease_stands _

/-- An automatic release spends one of those left; the latch, the power state and the fabric are not touched before it. -/
theorem releaseNoted_automatic (s : State) : (releaseNoted true s).safe.autoLeft = s.safe.autoLeft - 1
    ∧ (releaseNoted true s).glt = s.glt ∧ (releaseNoted true s).pwr = s.pwr ∧ (releaseNoted true s).fab = s.fab := by
  obtain ⟨-, hsafe⟩ := writeEvidence_onlyEvidence 0x12 s.safe.cause s
  have hleft : (writeEvidence 0x12 s.safe.cause s).safe.autoLeft = s.safe.autoLeft := by rw [hsafe]
  unfold releaseNoted
  rw [writeEvidence_frame] at hleft ⊢
  exact ⟨congrArg (· - 1) hleft, rfl, rfl, rfl⟩

theorem clearKill_of_free (h : killInputActive s = false) : clearKill s = { s with
    glt := { s.glt with kill := false, trip := 0, first := 0, srcSafe := false, srcBrown := false, srcSafeAbsent := false }
    rcd := { s.rcd with trip := 0 } } := if_neg (Bool.eq_false_iff.mp h)

theorem resumeBilling_brown (s : State) : (resumeBilling s).pwr.brown = s.pwr.brown := by
  unfold resumeBilling
  dsimp only
  repeat' split
  all_goals rfl

/-- With no input that sets the latch active, a release clears it (R236, R263). -/
theorem commonRelease_unlatched (h : killInputActive s = false) : (commonRelease s).glt.kill = false ∧ (commonRelease s).glt.trip = 0
    ∧ (commonRelease s).safe.sealChanged = false ∧ (commonRelease s).safe.autoLeft = s.safe.autoLeft
    ∧ (commonRelease s).pwr.brown = s.pwr.brown ∧ (commonRelease s).fab = s.fab := by
  unfold commonRelease
  dsimp only
  rw [clearKill_of_free h]
  split
  all_goals
    refine ⟨?_, ?_, ?_, ?_, resumeBilling_brown _, ?_⟩
    all_goals
      rw [resumeBilling_frame]
      rfl

theorem exec_automaticRelease (hup : isUp s .safe = true) (hforce : safeInForce s = true) (hok : releaseOk true s = true) :
    exec .automaticRelease s = .next (settle (releaseSafe true s)) := by
  show execAutomaticRelease s = _
  rw [execAutomaticRelease, hup, hforce, hok, Bool.and_self, Bool.and_self, guarded_true, done_eq]

/-- R262 lets no release come while an input that sets the latch is active. -/
theorem killInputActive_of_releaseOk {automatic : Bool} (h : releaseOk automatic s = true) : killInputActive s = false := by
  simp only [releaseOk, Bool.and_eq_true, Bool.not_eq_true'] at h
  obtain ⟨⟨⟨⟨-, hinput⟩, -⟩, -⟩, -⟩ := h
  exact hinput

/-- After an automatic release the safe state is over, and the latch stays clear at the end of the command. -/
theorem automaticRelease_state (hup : isUp s .safe = true) (hok : releaseOk true s = true) :
    (releaseSafe true s).safe.active = false ∧ (releaseSafe true s).safe.autoLeft = s.safe.autoLeft - 1
      ∧ (releaseSafe true s).safe.sealChanged = false ∧ (releaseSafe true s).safe.failed = 0
      ∧ (releaseSafe true s).plt.level = (if s.plt.holdF then .stateF else .steady)
      ∧ (settle (releaseSafe true s)).glt.kill = false ∧ (releaseSafe true s).glt.trip = 0 := by
  obtain ⟨hleft, hglt, hpwr, hfab⟩ := releaseNoted_automatic s
  have hinput := killInputActive_of_releaseOk hok
  have hfree : killInputActive (releaseNoted true s) = false := by
    unfold killInputActive isUp port
    rw [hglt, hpwr, hfab]
    exact hinput
  obtain ⟨hkill, htrip, hchanged, hleft', hbrown, hfab'⟩ := commonRelease_unlatched hfree
  have hstands := (releaseQuietly_stands true s).trans (releaseSafe_stands true s)
  have hidle : s.pwr.brown.active = false := by
    simp only [killInputActive, Bool.or_eq_false_iff] at hinput
    obtain ⟨⟨⟨-, hbrownOff⟩, -⟩, -⟩ := hinput
    exact hbrownOff
  have hsettled : (settle (releaseSafe true s)).glt.kill = false := by
    show ((releaseSafe true s).glt.kill || !isUp (releaseSafe true s) .safe || (releaseSafe true s).pwr.brown.active) = false
    unfold isUp port at hup ⊢
    rw [hstands.glt, hstands.fab, hstands.pwr, hkill, hbrown, hpwr, hidle, hfab', hfab, hup]
    rfl
  obtain ⟨hactive, hfailed, hlevel, -⟩ := releaseQuietly_isReleased true s
  have hnotify := releaseSafe_stands true s
  refine ⟨?_, ?_, ?_, ?_, ?_, hsettled, ?_⟩
  · rw [hnotify.safe, hactive]
  · rw [hstands.safe, hleft', hleft]
  · rw [hstands.safe, hchanged]
  · rw [hnotify.safe, hfailed]
  · rw [hnotify.plt, hlevel]
  · rw [hstands.glt, htrip]

end

/-- Settles O23: windows by what diagnostics 8 and 4 find, heartbeats by the count of misses, reference checks by the reading, the reset by
what it waits for, then held records, SAFE's own fault and the automatic release. -/
theorem safetyWatches : Obligations.SafetyWatches := by
  unfold Obligations.SafetyWatches
  intro s
  refine ⟨fun n hup hnone hlow hhigh haux => ?quiet, fun n hup htmr _ hlow hhigh hfresh hmake hbreak hdiffers hlong hnew => ?aux,
    fun i hsafe hne hup htest => ?heartbeats, fun c code hsafe hadc hlists => ?references, fun hcause => ?reset, fun hwrite hheld => ?flush,
    fun hsafe => ?selfFault, fun hsafe hforce hok => ?release⟩
  case quiet =>
    rw [exec_safeWindow hup, judgeWindow_of_quiet hnone hlow hhigh haux]
    refine ⟨_, rfl, ?active, ?entries, fun hrun => ?passed, ?frame⟩
    case passed => exact auxWindow_passed (s := clockGood s) (clockGood_passed hrun)
    all_goals
      rw [auxWindow_clockGood_frame haux]
      rfl
  case aux =>
    obtain ⟨hreports, hfailed⟩ := windowWatched_auxFails htmr hlow hhigh hmake hbreak hdiffers hlong hnew
    obtain ⟨hin, -⟩ := judgeWindow_enters (n := n) hfresh (by simp [hreports])
    rw [exec_safeWindow hup]
    exact ⟨_, rfl, hin.active, settle_kill hin.kill, by rw [settle_safe, hin.failed]; exact hfailed⟩
  case heartbeats =>
    refine ⟨?advances, fun hmisses hi => ?lost, fun hmisses hi => ?aonLost⟩ <;> rw [exec_islandHeartbeat hsafe hne hup htest]
    case advances =>
      rw [heartbeat_of_advanced hup]
      exact ⟨_, rfl, pget_pset_same _ _ _, getLsbD_setBit_self s.safe.passed (by decide), rfl⟩
    case lost =>
      rw [heartbeat_of_third hup hmisses, if_neg hi]
      refine ⟨_, rfl, ?_, ?_⟩
      · rw [settle_port, logEvent_port, leaveService_state]
      · rw [settle_safe, logEvent_safe, leaveService_failed hne]
        exact thirdMiss_failed i s
    case aonLost =>
      rw [heartbeat_of_third hup hmisses, if_pos hi]
      exact ⟨_, rfl, List.mem_append_right _ List.mem_cons_self, thirdMiss_failed i s⟩
  case references =>
    rw [exec_referenceCheck hsafe ((adcRuns_iff s).mpr ⟨hadc, hlists⟩)]
    refine ⟨fun hnear => ?good, fun hfar => ?bad⟩
    case good =>
      obtain ⟨hbad, hfail, hpassed⟩ := refChecked_good_state (convNum_lt c) c s
      rw [hnear]
      refine ⟨_, rfl, hbad, hfail, fun hall => ?_, fun hnotAll => ?_⟩
      · rw [settle_safe, hpassed, if_pos hall]
        exact getLsbD_setBit_self _ (by decide)
      · rw [settle_safe, hpassed, if_neg hnotAll]
    case bad =>
      rw [hfar]
      exact ⟨_, rfl, refChecked_bad_state (convNum_lt c) c s⟩
  case reset =>
    rw [exec_safeReset hcause]
    refine ⟨fun hfree => ?_, fun hwaits => ?_⟩
    · obtain ⟨hheld, hbit, -⟩ := wholeReset_power .safeReq (resetClose s)
      rw [heldBackReset_of_free hfree]
      exact ⟨_, rfl, hheld, hbit⟩
    · rw [heldBackReset_of_waits hwaits]
      rfl
  case flush =>
    have hlength := foldl_logEvent_length (s := { s with safe := { s.safe with evidence := [] } }) EventKind.safeState s.safe.evidence hwrite
    refine ⟨_, exec_evidenceFlush hwrite hheld, ?_, hlength, ?_⟩
    all_goals
      rw [evidenceFlushed_frame]
      rfl
  case selfFault =>
    have hkill : (settle (report 0x502 (holdKill s))).glt.kill = true := settle_kill rfl
    exact ⟨_, exec_safeSelfFault hsafe, hkill, rfl, (pads_of_kill hkill).1, rfl⟩
  case release =>
    exact ⟨_, exec_automaticRelease hsafe hforce hok, automaticRelease_state hsafe hok⟩

end Sys2Proof.Machine
end

section
/-! The calibrator (11): a run that begins, its end with the trims it found, and the converter that it borrows (R278 to R280, R288). -/

namespace Sys2Proof.Machine

section
variable {c : Converter} {s : State}

/-! ### A run begins (R278, R279, R474) -/

/-- The calibrator is at work on a converter; BGD shows it once the lists run. -/
def runBegun (c : Converter) (s : State) : State := { s with
  adc := { s.adc with calRun := some c }
  bgd := { s.bgd with active := if s.adc.listsRun then setBit s.bgd.active 1 else s.bgd.active } }

theorem exec_calibrationRun (hup : isUp s .adc = true) (hidle : s.adc.calRun = none) (hmay : mayCalibrate s = true)
    (hturn : c = calibratorNext s) : exec (.calibrationRun c) s = .next (settle (runBegun c s)) := by
  have hguard : (isUp s .adc && s.adc.calRun.isNone && mayCalibrate s && c == calibratorNext s) = true := by
    rw [hup, hidle, hmay, beq_iff_eq.mpr hturn]
    rfl
  show execCalibrationRun c s = _
  rw [execCalibrationRun, hguard, guarded_true, done_eq]
  rfl

/-! ### The trims of a run (R277, R278, R288) -/

theorem trimsTaken_of_found {x : Option Trims} {t : Trims} (h : trimsFound c x = some t) : trimsTaken c x s = { s with adc := { s.adc with
    calibrated := setBit s.adc.calibrated (convNum c)
    offset := s.adc.offset.setIfInBounds (convNum c) t.offset, gain := s.adc.gain.setIfInBounds (convNum c) t.gain
    skew := if upperOfPair c then s.adc.skew.setIfInBounds (convNum c / 2) t.skew else s.adc.skew } } := by
  rw [trimsTaken, h]

/-- The previous trims stay in force, and the converter counts as not calibrated. -/
def trimsRefused (c : Converter) (s : State) : State :=
  { s with adc := { s.adc with calibrated := clearBit s.adc.calibrated (convNum c) } }

theorem trimsTaken_of_none {x : Option Trims} (h : trimsFound c x = none) :
    trimsTaken c x s = logEvent (.calibrationOut c) (trimsRefused c s) := by
  rw [trimsTaken, h]
  rfl

/-- A run's trims write CALIBRATED, the trims themselves and the log. -/
theorem trimsTaken_frame (c : Converter) (x : Option Trims) (s : State) : trimsTaken c x s = { s with
    adc := { s.adc with
      calibrated := putBit s.adc.calibrated (convNum c) (trimsFound c x).isSome
      offset := (trimsTaken c x s).adc.offset, gain := (trimsTaken c x s).adc.gain, skew := (trimsTaken c x s).adc.skew }
    flash := (trimsTaken c x s).flash } := by
  cases h : trimsFound c x with
  | some t =>
    rw [trimsTaken_of_found h]
    rfl
  | none =>
    rw [trimsTaken_of_none h, logEvent_frame]
    rfl

/-! ### What follows the trims at the end of a run (R253, R279) -/

/-- From s to t at most the lists' start, the capture that it begins, and a reference check's notes differ. -/
def OnlyListsAndChecks (s t : State) : Prop := t = { s with
  adc := { s.adc with
    listsRun := t.adc.listsRun, capStart := t.adc.capStart, capBusy := t.adc.capBusy, capGaps := t.adc.capGaps
    capBuf := t.adc.capBuf, interleaved := t.adc.interleaved, refSeen := t.adc.refSeen, refFail := t.adc.refFail }
  safe := t.safe, live := t.live }

theorem OnlyListsAndChecks.rfl : OnlyListsAndChecks s s := Eq.refl s

theorem OnlyListsAndChecks.trans {t u : State} (h : OnlyListsAndChecks s t) (h' : OnlyListsAndChecks t u) : OnlyListsAndChecks s u := by
  unfold OnlyListsAndChecks at *
  rw [h', h]

theorem listsStart_onlyListsAndChecks (s : State) : OnlyListsAndChecks s (listsStart s) := by
  unfold listsStart
  dsimp only
  repeat' split
  all_goals exact Eq.refl _

theorem listsStart_listsRun (s : State) : (listsStart s).adc.listsRun = true := by
  unfold listsStart
  dsimp only
  repeat' split
  case isTrue h => exact h
  all_goals rfl

theorem refChecked_good_onlyListsAndChecks (n : Nat) (c : Converter) (s : State) : OnlyListsAndChecks s (refChecked n c true s) := by
  unfold OnlyListsAndChecks
  rw [refChecked_good, refCleared_frame, refPassed_frame]
  rfl

theorem refChecked_good_listsRun (n : Nat) (c : Converter) (s : State) : (refChecked n c true s).adc.listsRun = s.adc.listsRun := by
  rw [refChecked_good, refCleared_frame, refPassed_frame]
  rfl

/-- The run's reading is the converter's reference check, as far as SAFE is there to take it (R278). -/
def runChecked (c : Converter) (s : State) : State := if isUp s .safe then refChecked (convNum c) c true s else s

theorem runChecked_onlyListsAndChecks (c : Converter) (s : State) : OnlyListsAndChecks s (runChecked c s) := by
  unfold runChecked
  split
  · exact refChecked_good_onlyListsAndChecks _ c s
  · exact .rfl

theorem runChecked_listsRun (c : Converter) (s : State) : (runChecked c s).adc.listsRun = s.adc.listsRun := by
  unfold runChecked
  split
  · exact refChecked_good_listsRun _ c s
  · rfl

/-- The run of A3, the last of a start-up calibration, lets the lists start. -/
def runReleased (c : Converter) (s : State) : State := if c == .a3 then listsStart s else s

theorem runReleased_onlyListsAndChecks (c : Converter) (s : State) : OnlyListsAndChecks s (runReleased c s) := by
  unfold runReleased
  split
  · exact listsStart_onlyListsAndChecks s
  · exact .rfl

/-! ### The end of a run (R278, R288) -/

/-- The run is over: its converter is returned, the reading v stands as its calibrated value, and the turn passes on. -/
def runOver (c : Converter) (v : BitVec 16) (s : State) : State := { s with
  adc := { s.adc with
    calRun := none, borrowed := clearBit s.adc.borrowed (convNum c), refValue := s.adc.refValue.setIfInBounds (convNum c) v
    calFirst := if s.adc.calFirst == some c then none else s.adc.calFirst
    calNext := if s.adc.calFirst == some c then s.adc.calNext else convAfter c }
  bgd := { s.bgd with active := clearBit s.bgd.active 1 } }

/-- The end of a run: what is written whatever it found, then its trims, then the lists' start and its reference check. -/
def runEnded (c : Converter) (v : BitVec 16) (x : Option Trims) (s : State) : State :=
  runChecked c (runReleased c (trimsTaken c x (runOver c v s)))

theorem exec_calibrationDone {v : BitVec 16} {x : Option Trims} (hup : isUp s .adc = true) (hrun : s.adc.calRun = some c) :
    exec (.calibrationDone c v x) s = .next (settle (runEnded c v x s)) := by
  have hguard : (isUp s .adc && s.adc.calRun == some c) = true := by
    rw [hup, hrun, beq_self_eq_true, Bool.and_self]
  show execCalibrationDone c v x s = _
  rw [execCalibrationDone, hguard, guarded_true, done_eq]
  rfl

theorem runEnded_onlyListsAndChecks (c : Converter) (v : BitVec 16) (x : Option Trims) (s : State) :
    OnlyListsAndChecks (trimsTaken c x (runOver c v s)) (runEnded c v x s) :=
  (runReleased_onlyListsAndChecks c _).trans (runChecked_onlyListsAndChecks c _)

theorem runEnded_listsRun (v : BitVec 16) (x : Option Trims) (s : State) : (runEnded .a3 v x s).adc.listsRun = true :=
  (runChecked_listsRun .a3 _).trans (listsStart_listsRun _)

/-- What a run's end leaves, whatever trims it found. -/
theorem runEnded_state (c : Converter) (v : BitVec 16) (x : Option Trims) (s : State) :
    (runEnded c v x s).adc.calRun = none ∧ (runEnded c v x s).adc.refValue.toList.getD (convNum c) 0 = v
      ∧ (runEnded c v x s).adc.calibrated.getLsbD (convNum c) = (trimsFound c x).isSome
      ∧ (runEnded c v x s).adc.borrowed.getLsbD (convNum c) = false := by
  rw [runEnded_onlyListsAndChecks c v x s, trimsTaken_frame]
  refine ⟨rfl, ?_, getLsbD_putBit_self _ _ (convNum_lt c), getLsbD_clearBit_self _ _⟩
  simp [runOver, convNum_lt c]

/-- Trims in their range are set; the skew belongs to the upper converter's run (R278). -/
theorem runEnded_of_found {v : BitVec 16} {x : Option Trims} {r : Trims} (h : trimsFound c x = some r) :
    (runEnded c v x s).adc.offset.toList.getD (convNum c) 0 = r.offset ∧ (runEnded c v x s).adc.gain.toList.getD (convNum c) 0 = r.gain
      ∧ (upperOfPair c = true → (runEnded c v x s).adc.skew.toList.getD (convNum c / 2) 0 = r.skew)
      ∧ (upperOfPair c = false → (runEnded c v x s).adc.skew = s.adc.skew) := by
  have hpair : convNum c / 2 < 2 := Nat.div_lt_of_lt_mul (convNum_lt c)
  rw [runEnded_onlyListsAndChecks c v x s, trimsTaken_of_found h]
  refine ⟨?_, ?_, fun hupper => ?_, fun hlower => ?_⟩
  · simp [convNum_lt c]
  · simp [convNum_lt c]
  · simp [hupper, hpair]
  · simp [hlower, runOver]

/-- Out of their range the previous trims stay, and the event is logged (R288). -/
theorem runEnded_of_none {v : BitVec 16} {x : Option Trims} (h : trimsFound c x = none) :
    (runEnded c v x s).adc.offset = s.adc.offset ∧ (runEnded c v x s).adc.gain = s.adc.gain ∧ (runEnded c v x s).adc.skew = s.adc.skew
      ∧ (s.flash.writable = true → (satInc s.flash.eventCount, .calibrationOut c) ∈ (runEnded c v x s).flash.log) := by
  rw [runEnded_onlyListsAndChecks c v x s, trimsTaken_of_none h, logEvent_adc]
  refine ⟨rfl, rfl, rfl, fun hwrite => ?_⟩
  have hwritable : (trimsRefused c (runOver c v s)).flash.writable = true := hwrite
  show _ ∈ (logEvent (.calibrationOut c) (trimsRefused c (runOver c v s))).flash.log
  rw [logEvent_appends hwritable]
  exact List.mem_append_right _ List.mem_cons_self

/-! ### Borrowing (R280, R293) -/

/-- A piece begins or ends: at most the run's converter is borrowed, and MET learns of a pair that lost one (R293). -/
def pieceBorrowed (c : Converter) (begins : Bool) (s : State) : State :=
  let s := { s with adc := { s.adc with borrowed := if begins then setBit 0 (convNum c) else clearBit s.adc.borrowed (convNum c) } }
  { s with met := { s.met with skewNow := s.met.skewNow || (begins && pairBorrowed s) } }

theorem exec_borrow {begins : Bool} (hlists : adcRuns s = true) (hrun : s.adc.calRun = some c) :
    exec (.borrow c begins) s = .next (settle (pieceBorrowed c begins s)) := by
  show execBorrow c begins s = _
  rw [execBorrow, hlists, hrun, beq_self_eq_true, Bool.and_self, guarded_true, done_eq]
  rfl

theorem pieceBorrowed_ends_frame (c : Converter) (s : State) :
    pieceBorrowed c false s = { s with adc := { s.adc with borrowed := clearBit s.adc.borrowed (convNum c) } } := by
  simp [pieceBorrowed]

end

/-- Settles O27: a run begins for the converter whose turn it is; its end by what is written before, at and after the trims, in range or
not; a piece of borrowing by the bit of the run's converter. -/
theorem calibration : Obligations.Calibration := by
  unfold Obligations.Calibration
  intro s c hup
  refine ⟨fun hidle hmay hturn => ?begins, fun v found hrun => ?ends, fun hlists hrun => ⟨?borrows, ?returns⟩⟩
  case begins => exact ⟨_, exec_calibrationRun hup hidle hmay hturn, rfl, rfl⟩
  case ends =>
    obtain ⟨hover, hreading, hcalibrated, hreturned⟩ := runEnded_state c v found s
    refine ⟨_, exec_calibrationDone hup hrun, hover, hreading, hcalibrated, hreturned, ?_, fun x => runEnded_of_found, runEnded_of_none⟩
    rintro rfl
    exact runEnded_listsRun v found s
  case borrows => exact ⟨_, exec_borrow hlists hrun, rfl, rfl⟩
  case returns =>
    rw [exec_borrow hlists hrun, pieceBorrowed_ends_frame]
    exact ⟨_, rfl, rfl, rfl⟩

end Sys2Proof.Machine
end

section
/-! Steps and commands together (00): a step takes the front command, and every command completes with the queue as it found it. -/

namespace Sys2Proof.Machine

theorem step_cons {s : State} {c : Instr} {q : List Instr} (h : s.pending = c :: q) : step s = exec c { s with pending := q } := by
  rw [step, h]

theorem step_nil {s : State} (h : s.pending = []) : step s = .next s := by rw [step, h]

/-- Settles O56: the queue's front by the equation of a step on a queue that is not empty, the idle step by that on an empty one. -/
theorem stepTakesTheFrontCommand : Obligations.StepTakesTheFrontCommand := by
  unfold Obligations.StepTakesTheFrontCommand
  exact fun s c q => ⟨step_cons, step_cons rfl, step_nil⟩

/-- The request at the head of the OD queue is no command of the block's queue (R144). -/
theorem serveHead_pending {f : Requester → Bytes → State → State} (h : ∀ rq b s, (f rq b s).pending = s.pending) (op : Nat) (s : State) :
    (serveHead op f s).pending = s.pending := by
  unfold serveHead
  split
  · rfl
  next q r _ =>
    split
    · rfl
    · dsimp only
      split
      · rfl
      · exact h q.requester q.payload { s with od := { s.od with queue := r } }

theorem commitEnds_pending (j : CommitJob) (s : State) : (commitEnds j s).pending = s.pending := by
  unfold commitEnds
  split
  · exact (respond_keeps ..).1
  · split
    · exact (respond_keeps ..).1
    · rw [(respond_keeps ..).1, logEvent_pending]
      rfl

theorem execCommit_pending (s : State) : ∃ u, execCommit s = done u ∧ u.pending = s.pending := by
  unfold execCommit
  split
  next j _ => exact ⟨_, rfl, commitEnds_pending j s⟩
  · refine ⟨_, rfl, serveHead_pending (fun rq _ s => ?_) 4 s⟩
    dsimp only
    split
    · rfl
    · exact (respond_keeps ..).1

/-- Settles O58: COMMIT writes OTP and leaves the queue; every other command leaves both. -/
theorem everyCommandCompletes : Obligations.EveryCommandCompletes := by
  unfold Obligations.EveryCommandCompletes
  intro c s
  by_cases hc : c = .commit
  · subst hc
    obtain ⟨u, hu, hpending⟩ := execCommit_pending s
    exact ⟨settle u, hu, hpending⟩
  · obtain ⟨u, hu, hkeeps⟩ := exec_endsKept hc s
    exact ⟨settle u, hu, hkeeps.1⟩

end Sys2Proof.Machine
end

section
/-! The timer channels (18): what a count-clock event, a wrap and the match rule make of a channel, and the host's writes of its registers. -/

namespace Sys2Proof.Machine

/-! ### Fields kept for each index -/

@[simp] theorem getD_setIfInBounds_same {α : Type} {m i : Nat} (v : Vector α m) (h : i < m) (a d : α) :
    (v.setIfInBounds i a).toList.getD i d = a := by
  simp [List.getD_eq_getElem?_getD, h]

theorem getD_setIfInBounds_other {α : Type} {m i j : Nat} (v : Vector α m) (h : i ≠ j) (a d : α) :
    (v.setIfInBounds i a).toList.getD j d = v.toList.getD j d := by
  simp [List.getD_eq_getElem?_getD, h]

/-- Commands that lead to one state before they settle have one outcome. -/
theorem next_settle {t u : State} (h : t = u) : (Host.Outcome.next (settle t) : Host.Outcome State Fault Refusal) = .next (settle u) := by
  rw [h]

section
variable {s : State} {n m : Nat}

/-! ### One channel (R453) -/

@[simp] theorem chan_setChan_same (c : Channel) (s : State) (h : n < 8) : chan (setChan n c s) n = c := getD_setIfInBounds_same _ h _ _

@[simp] theorem chan_settle (s : State) (n : Nat) : chan (settle s) n = chan s n := rfl

@[simp] theorem chan_free (s : State) (k n : Nat) : chan { s with free := k } n = chan s n := rfl

@[simp] theorem chan_setChan_other (c : Channel) (s : State) (h : n ≠ m) : chan (setChan n c s) m = chan s m :=
  getD_setIfInBounds_other _ h _ _

/-- A match that goes to ADC writes no channel and no flag of TMR (R276). -/
@[simp] theorem matchToCapture_tmr (n : Nat) (s : State) : (matchToCapture n s).tmr = s.tmr := by
  unfold matchToCapture
  repeat' split
  all_goals rfl

/-! ### The match rule (R460) -/

/-- The match rule's condition. -/
def matches? (c : Channel) : Bool := !c.matched && c.cmp.toNat ≤ c.count.toNat

/-- What the match rule makes of a channel. -/
def matchedChannel (late : Bool) (c : Channel) : Channel := if matches? c then { c with matched := true, cmpLate := c.cmpLate || late } else c

theorem matchedChannel_of_match {c : Channel} (late : Bool) (h : matches? c = true) :
    matchedChannel late c = { c with matched := true, cmpLate := c.cmpLate || late } := by rw [matchedChannel, if_pos h]

/-! The match rule writes MATCHED and CMP_LATE of a channel alone. -/

@[simp] theorem matchedChannel_run (late : Bool) (c : Channel) : (matchedChannel late c).run = c.run := by unfold matchedChannel; split <;> rfl
@[simp] theorem matchedChannel_count (late : Bool) (c : Channel) : (matchedChannel late c).count = c.count := by unfold matchedChannel; split <;> rfl
@[simp] theorem matchedChannel_top (late : Bool) (c : Channel) : (matchedChannel late c).top = c.top := by unfold matchedChannel; split <;> rfl
@[simp] theorem matchedChannel_cmp (late : Bool) (c : Channel) : (matchedChannel late c).cmp = c.cmp := by unfold matchedChannel; split <;> rfl
@[simp] theorem matchedChannel_topNext (late : Bool) (c : Channel) : (matchedChannel late c).topNext = c.topNext := by unfold matchedChannel; split <;> rfl
@[simp] theorem matchedChannel_cmpNext (late : Bool) (c : Channel) : (matchedChannel late c).cmpNext = c.cmpNext := by unfold matchedChannel; split <;> rfl

theorem matchRule_tmr (late : Bool) (n : Nat) (s : State) : (matchRule late n s).tmr = { s.tmr with
    ch := if matches? (chan s n) then s.tmr.ch.setIfInBounds n (matchedChannel late (chan s n)) else s.tmr.ch
    irqMatch := if matches? (chan s n) then setBit s.tmr.irqMatch n else s.tmr.irqMatch } := by
  unfold matchRule
  by_cases h : matches? (chan s n) = true
  · rw [matchedChannel_of_match late h, if_pos h, if_pos h]
    exact if_pos h ▸ matchToCapture_tmr ..
  · rw [if_neg h, if_neg h]
    exact congrArg State.tmr (if_neg h)

@[simp] theorem chan_matchRule_same (late : Bool) (s : State) (h : n < 8) :
    chan (matchRule late n s) n = matchedChannel late (chan s n) := by
  rw [chan, matchRule_tmr]
  by_cases hm : matches? (chan s n) = true
  · simp only [hm, if_true, getD_setIfInBounds_same _ h]
  · simp only [hm, matchedChannel]
    rfl

@[simp] theorem chan_matchRule_other (late : Bool) (s : State) (h : n ≠ m) : chan (matchRule late n s) m = chan s m := by
  rw [chan, matchRule_tmr]
  by_cases hm : matches? (chan s n) = true
  · simp only [hm, if_true, getD_setIfInBounds_other _ h]
    rfl
  · simp only [hm]
    rfl

/-! ### Count-clock events (R456) -/

theorem exec_tick {n : Fin 8} (hup : isUp s .tmr = true) (hclk : (chan s n).clk ≠ 5) :
    exec (.tick n) s = .next (settle (tickChannel 8 n { s with free := s.free + 1 })) := by
  have hguard : (isUp s .tmr && (chan s n).clk != 5) = true := by
    rw [hup, Bool.true_and]
    exact bne_iff_ne.mpr hclk
  show execTick n s = _
  rw [execTick, hguard, guarded_true, done_eq]

theorem tickChannel_of_stopped (f : Nat) (h : (chan s n).run = false) : tickChannel (f + 1) n s = s := by
  rw [tickChannel, h]
  rfl

/-- A channel that runs and that no gate holds counts the event. -/
theorem not_held (hrun : (chan s n).run = true) (hgate : (chan s n).gateEn = false) : ¬ (!(chan s n).run || gated s n) = true := by
  rw [gated, hrun, hgate]
  exact Bool.false_ne_true

/-- A channel counts by one. -/
def countUp (c : Channel) : Channel := { c with count := c.count + 1 }

/-- A channel counts by one, and the match rule follows. -/
def counted (n : Nat) (s : State) : State := matchRule false n (setChan n (countUp (chan s n)) s)

theorem tickChannel_of_below (f : Nat) (hrun : (chan s n).run = true) (hgate : (chan s n).gateEn = false)
    (hlt : (chan s n).count.toNat < (chan s n).top.toNat) : tickChannel (f + 1) n s = counted n s :=
  (if_neg (not_held hrun hgate)).trans (if_neg (Nat.not_le.mpr hlt))

/-- At TOP a channel wraps; a next channel that does not count its wraps stands as it was. -/
theorem tickChannel_of_wrap (f : Nat) (hrun : (chan s n).run = true) (hgate : (chan s n).gateEn = false)
    (hle : (chan s n).top.toNat ≤ (chan s n).count.toNat) (hnext : n = 7 ∨ (chan s (n + 1)).clk ≠ 5) :
    tickChannel (f + 1) n s = wrapChannel n s := by
  have hclk : (chan (wrapChannel n s) (n + 1)).clk = (chan s (n + 1)).clk := by
    rw [wrapChannel, chan_matchRule_other _ _ (Nat.ne_of_lt n.lt_succ_self)]
    exact congrArg Channel.clk (chan_setChan_other _ _ (Nat.ne_of_lt n.lt_succ_self))
  have hcascade : ¬ (n + 1 < 8 && (chan (wrapChannel n s) (n + 1)).clk = 5) = true := by
    rw [hclk, Bool.and_eq_true, decide_eq_true_eq, decide_eq_true_eq]
    rintro ⟨hlt, hfive⟩
    rcases hnext with rfl | hne
    · omega
    · exact hne hfive
  exact (if_neg (not_held hrun hgate)).trans ((if_pos hle).trans (if_neg hcascade))

theorem chan_counted (s : State) (h : n < 8) :
    chan (counted n s) n = matchedChannel false (countUp (chan s n)) := by
  rw [counted, chan_matchRule_same _ _ h, chan_setChan_same _ _ h]

theorem counted_irqWrap (n : Nat) (s : State) : (counted n s).tmr.irqWrap = s.tmr.irqWrap := by
  rw [counted, matchRule_tmr]
  rfl

theorem counted_irqMatch (s : State) (h : n < 8) (hm : matches? (countUp (chan s n)) = true) :
    (counted n s).tmr.irqMatch = setBit s.tmr.irqMatch n := by
  rw [counted, matchRule_tmr, chan_setChan_same _ _ h]
  exact if_pos hm

/-- Below TOP the channel's new COUNT is at most TOP, so that it has not wrapped as a word. -/
theorem countUp_count_toNat {c : Channel} (h : c.count.toNat < c.top.toNat) : (countUp c).count.toNat = c.count.toNat + 1 := by
  have := c.top.isLt
  show (c.count + 1).toNat = _
  rw [BitVec.toNat_add]
  exact Nat.mod_eq_of_lt (by show c.count.toNat + 1 < 2 ^ 32; omega)

theorem countUp_matches {c : Channel} (hlt : c.count.toNat < c.top.toNat) (hunmatched : c.matched = false)
    (hcmp : c.cmp.toNat ≤ c.count.toNat + 1) : matches? (countUp c) = true := by
  rw [matches?, countUp_count_toNat hlt]
  simp [countUp, hunmatched, hcmp]

theorem chan_wrapChannel (s : State) (h : n < 8) : chan (wrapChannel n s) n
    = matchedChannel false { newPeriod (chan s n) with run := (chan s n).run && !(chan s n).oneshot } := by
  rw [wrapChannel, chan_matchRule_same _ _ h]
  exact congrArg _ (chan_setChan_same _ s h)

theorem wrapChannel_irqWrap (n : Nat) (s : State) : (wrapChannel n s).tmr.irqWrap = setBit s.tmr.irqWrap n := by
  rw [wrapChannel, matchRule_tmr]
  rfl

theorem exec_tick_below {n : Fin 8} (hup : isUp s .tmr = true) (hclk : (chan s n).clk ≠ 5) (hrun : (chan s n).run = true)
    (hgate : (chan s n).gateEn = false) (hlt : (chan s n).count.toNat < (chan s n).top.toNat) :
    exec (.tick n) s = .next (settle (counted n { s with free := s.free + 1 })) :=
  (exec_tick hup hclk).trans (next_settle (tickChannel_of_below 7 hrun hgate hlt))

theorem exec_tick_wrap {n : Fin 8} (hup : isUp s .tmr = true) (hclk : (chan s n).clk ≠ 5) (hrun : (chan s n).run = true)
    (hgate : (chan s n).gateEn = false) (hle : (chan s n).top.toNat ≤ (chan s n).count.toNat)
    (hnext : n.val = 7 ∨ (chan s (n + 1)).clk ≠ 5) :
    exec (.tick n) s = .next (settle (wrapChannel n { s with free := s.free + 1 })) :=
  (exec_tick hup hclk).trans (next_settle (tickChannel_of_wrap 7 hrun hgate hle hnext))

theorem exec_tick_stopped {n : Fin 8} (hup : isUp s .tmr = true) (hclk : (chan s n).clk ≠ 5) (hstopped : (chan s n).run = false) :
    exec (.tick n) s = .next (settle { s with free := s.free + 1 }) :=
  (exec_tick hup hclk).trans (next_settle (tickChannel_of_stopped 7 hstopped))

/-! ### The host's writes (R452, R457, R458) -/

/-- A write to a channel register by the host, of whatever kind, with what it does to a channel of its own. -/
inductive HostWrites (n : Fin 8) (v : Word) : Instr → (State → State) → Prop
  | top : HostWrites n v (.topWrite n v) (topWrite n v)
  | cmp : HostWrites n v (.cmpWrite n v) (cmpWrite n v)
  | clr : HostWrites n v (.clr n) (clrChannel n)
  | start : HostWrites n v (.runStart n) (runChannel true n)
  | stop : HostWrites n v (.runStop n) (runChannel false n)
  | cfg : HostWrites n v (.cfgWrite n v) (cfgWrite n v)

theorem exec_hostWrite {n : Fin 8} {v : Word} {c : Instr} {f : State → State} (h : HostWrites n v c f) (s : State) :
    exec c s = .next (settle (hostChannel n f s)) := by
  cases h <;> rfl

theorem exec_hostWrite_own {n : Fin 8} {v : Word} {c : Instr} {f : State → State} (h : HostWrites n v c f) (hup : isUp s .tmr = true)
    (hn : n.val < 6) : exec c s = .next (settle (f s)) := by
  rw [exec_hostWrite h, hostChannel, hup]
  simp [hn]

theorem exec_hostWrite_other {n : Fin 8} {v : Word} {c : Instr} {f : State → State} (h : HostWrites n v c f) (hup : isUp s .tmr = true)
    (hn : 6 ≤ n.val) : exec c s = .next (settle { s with tmr := { s.tmr with notOwner := true } }) := by
  rw [exec_hostWrite h, hostChannel, hup]
  simp [Nat.not_lt.mpr hn]

theorem chan_cmpWrite_of_immediate (v : Word) (hn : n < 8) (h : immediate (chan s n) = true) :
    chan (cmpWrite n v s) n = matchedChannel true { chan s n with cmp := v } := by
  rw [cmpWrite]
  simp [h, hn]

theorem cmpWrite_of_preload (v : Word) (h : immediate (chan s n) = false) :
    cmpWrite n v s = setChan n { chan s n with cmpNext := some v } s := by
  rw [cmpWrite]
  simp [h]

theorem chan_clrChannel (s : State) (h : n < 8) : chan (clrChannel n s) n = matchedChannel false (newPeriod (chan s n)) := by
  rw [clrChannel, chan_matchRule_same _ _ h, chan_setChan_same _ _ h]

theorem clrChannel_irqWrap (n : Nat) (s : State) : (clrChannel n s).tmr.irqWrap = s.tmr.irqWrap := by
  rw [clrChannel, matchRule_tmr]
  rfl

/-- The fields of CFG, each taken only where its code is one that the channel may select (R466). -/
def configured (n : Nat) (w : Nat) (c : Channel) : Channel := { c with
  clk := if clkOk n (bits w 0 3) then BitVec.ofNat 3 (bits w 0 3) else c.clk
  pre := BitVec.ofNat 4 (bits w 4 4)
  src := if sourceOk n (bits w 8 4) then BitVec.ofNat 4 (bits w 8 4) else c.src
  gateSrc := if sourceOk n (bits w 12 4) then BitVec.ofNat 4 (bits w 12 4) else c.gateSrc
  gateEn := hasBit w 16, gateLvl := hasBit w 17
  capSrc := if sourceOk n (bits w 18 4) then BitVec.ofNat 4 (bits w 18 4) else c.capSrc
  capEdge := BitVec.ofNat 2 (bits w 22 2), filt := BitVec.ofNat 3 (bits w 24 3) }

theorem chan_cfgWrite (v : Word) (s : State) (h : n < 8) : chan (cfgWrite n v s) n = configured n v.toNat (chan s n) :=
  chan_setChan_same _ s h

theorem cfgWrite_cfgErr_of_clk {v : Word} (s : State) (h : clkOk n (bits v.toNat 0 3) = false) : (cfgWrite n v s).tmr.cfgErr = true := by
  simp [cfgWrite, h]

/-! ### Captures (R461) -/

theorem exec_capture {n : Fin 8} (hup : isUp s .tmr = true) : exec (.capture n) s = .next (settle (captureEdge n s)) := by
  show execCapture n s = _
  rw [execCapture, hup, guarded_true, done_eq]

theorem exec_captRead {n : Fin 8} (hup : isUp s .tmr = true) : exec (.captRead n) s = .next (settle (captClear n s)) := by
  show execCaptRead n s = _
  rw [execCaptRead, hup, guarded_true, done_eq]

theorem captureEdge_of_edge (h : (chan s n).capEdge ≠ 0) : captureEdge n s = { setChan n { chan s n with
    capt := (chan s n).count, overrun := (chan s n).overrun || (chan s n).full, full := true } s with
    tmr := { (setChan n { chan s n with capt := (chan s n).count, overrun := (chan s n).overrun || (chan s n).full, full := true } s).tmr with
      irqCapt := setBit s.tmr.irqCapt n } } := if_neg h

theorem captureEdge_of_none (h : (chan s n).capEdge = 0) : captureEdge n s = s := if_pos h

end

/-- Settles O28: an event by where the channel stands, each write of the host by what it makes of the channel, and the capture. -/
theorem timerChannels : Obligations.TimerChannels := by
  unfold Obligations.TimerChannels
  refine ⟨fun s n hup hclk => ⟨fun hrun hgate hlt => ?counts, fun hrun hgate hle hnext => ?wraps, fun hstopped => ?stands⟩,
    fun s n v hup => ⟨fun hn c hc => ?notOwner, fun hn => ⟨?top, fun hpre => ?cmpNext, fun himm => ?cmp, ?clr, ?start, ?stop, ?cfg⟩,
      fun hedge => ?captures, fun hedge => ?noEdge, ?read⟩⟩
  case counts =>
    refine ⟨_, exec_tick_below hup hclk hrun hgate hlt, ?_, ?_, counted_irqWrap .., fun hunmatched hcmp => ⟨?_, ?_⟩⟩
    · simp [chan_counted, countUp]
    · simp [chan_counted, countUp, hrun]
    · exact counted_irqMatch { s with free := s.free + 1 } n.isLt (countUp_matches hlt hunmatched hcmp)
    · simp [chan_counted, matchedChannel_of_match false (countUp_matches hlt hunmatched hcmp)]
  case wraps =>
    refine ⟨_, exec_tick_wrap hup hclk hrun hgate hle hnext, ?_, wrapChannel_irqWrap .., ?_, ?_, ?_, ?_, ?_⟩
    all_goals simp [chan_wrapChannel, newPeriod, hrun]
  case stands => exact exec_tick_stopped hup hclk hstopped
  case notOwner =>
    rcases hc with rfl | rfl | rfl | rfl | rfl | rfl
    · exact exec_hostWrite_other (.top (v := v)) hup hn
    · exact exec_hostWrite_other (.cmp (v := v)) hup hn
    · exact exec_hostWrite_other (.clr (v := v)) hup hn
    · exact exec_hostWrite_other (.start (v := v)) hup hn
    · exact exec_hostWrite_other (.stop (v := v)) hup hn
    · exact exec_hostWrite_other (.cfg (v := v)) hup hn
  case top => exact ⟨_, exec_hostWrite_own .top hup hn, chan_setChan_same _ _ n.isLt, rfl⟩
  case cmpNext =>
    rw [exec_hostWrite_own .cmp hup hn, cmpWrite_of_preload v hpre]
    exact ⟨_, rfl, chan_setChan_same _ _ n.isLt, rfl⟩
  case cmp =>
    have hnew := chan_cmpWrite_of_immediate v n.isLt himm
    refine ⟨_, exec_hostWrite_own .cmp hup hn, ?_, ?_, fun hunmatched hle => ?_⟩
    · simp [hnew]
    · simp [hnew]
    · have hmatch : matches? { chan s n with cmp := v } = true := by simp [matches?, hunmatched, hle]
      simp [hnew, matchedChannel_of_match true hmatch]
  case clr =>
    refine ⟨_, exec_hostWrite_own (.clr (v := v)) hup hn, ?_, ?_, clrChannel_irqWrap .., ?_⟩
    all_goals simp [chan_clrChannel, newPeriod]
  case start => exact ⟨_, exec_hostWrite_own (.start (v := v)) hup hn, chan_setChan_same _ _ n.isLt, rfl⟩
  case stop => exact ⟨_, exec_hostWrite_own (.stop (v := v)) hup hn, chan_setChan_same _ _ n.isLt, rfl⟩
  case cfg =>
    refine ⟨_, exec_hostWrite_own .cfg hup hn, ?_, ?_, fun hok => ?_, fun hbad => ⟨?_, cfgWrite_cfgErr_of_clk s hbad⟩⟩
    all_goals rw [chan_settle, chan_cfgWrite v s n.isLt]
    · rfl
    · rfl
    · exact if_pos hok
    · exact if_neg (ne_true_of_eq_false hbad)
  case captures =>
    rw [exec_capture hup, captureEdge_of_edge hedge]
    exact ⟨_, rfl, rfl, chan_setChan_same _ _ n.isLt⟩
  case noEdge => rw [exec_capture hup, captureEdge_of_none hedge]
  case read => exact ⟨_, exec_captRead hup, chan_setChan_same _ _ n.isLt, rfl⟩

end Sys2Proof.Machine
end

section
/-! Submissions of rectangles (17): what is queued or refused, where a pushed word goes, and which rectangle is taken up (R429 to R435). -/

namespace Sys2Proof.Machine

section
variable {s : State} {b : Bool} {f : State → State}

/-! ### The owner's accesses (R429) -/

theorem ownerOnly_of_other (hup : isUp s .disp = true) (h : isOwner s b = false) :
    ownerOnly b f s = { s with disp := { s.disp with notOwner := true } } := by
  rw [ownerOnly, hup, h]
  rfl

theorem ownerOnly_of_owner (hup : isUp s .disp = true) (h : isOwner s b = true) : ownerOnly b f s = f s := by
  rw [ownerOnly, hup, h]
  rfl

/-! ### Submissions (R431 to R433) -/

/-- The four commands that submit a rectangle, by its operation. -/
theorem exec_submit {c : Instr} {op : RectOp} (h : (c, op) ∈ [(Instr.fill b, RectOp.fill), (Instr.copy b, RectOp.copy),
    (Instr.asset b, RectOp.asset), (Instr.rectWrite b, RectOp.write)]) (s : State) :
    exec c s = .next (settle (ownerOnly b (submit op) s)) := by
  simp only [List.mem_cons, Prod.mk.injEq, List.not_mem_nil, or_false] at h
  rcases h with ⟨rfl, rfl⟩ | ⟨rfl, rfl⟩ | ⟨rfl, rfl⟩ | ⟨rfl, rfl⟩ <;> rfl

theorem submit_of_ok {op : RectOp} (h : submitOk op s = true) :
    submit op s = { s with disp := { s.disp with queue := s.disp.queue ++ [rectOf op s], lastSeq := s.disp.lastSeq + 1 } } := by
  rw [submit, if_pos h]
  rfl

/-- A submission that is refused sets the flag of each reason that holds. -/
def refusedSubmission (op : RectOp) (s : State) : State := { s with disp := { s.disp with
  bounds := s.disp.bounds || !inBounds s (rectOf op s), pendingDst := s.disp.pendingDst || pendingDest s
  shownDst := s.disp.shownDst || shownDest s, queueFull := s.disp.queueFull || decide (8 ≤ s.disp.queue.length) } }

theorem submit_of_refused {op : RectOp} (h : submitOk op s = false) : submit op s = refusedSubmission op s := by
  rw [submit, if_neg (ne_true_of_eq_false h)]
  rfl

/-! ### Words (R435) -/

theorem exec_rectData (hup : isUp s .disp = true) (w : Word) : exec (.rectData w) s = .next (settle (pushData w s)) := by
  show execRectData w s = _
  rw [execRectData, hup, guarded_true, done_eq]

/-- No rectangle takes a word where none needs data. -/
theorem feed_of_none {l : List Rect} (w : Word) (h : l.any needsData = false) : feed w l = none := by
  induction l with
  | nil => rfl
  | cons r l ih =>
    rw [List.any_cons, Bool.or_eq_false_iff] at h
    obtain ⟨hr, hl⟩ := h
    rw [feed, hr, ih hl]
    rfl

theorem drainFifo_of_none (q : List Word) {l : List Rect} (h : l.any needsData = false) : drainFifo q l = (q, l) := by
  cases q with
  | nil => rfl
  | cons w q => rw [drainFifo, feed_of_none w h]

theorem feedAll_of_none (h : s.disp.flight.any needsData = false) : feedAll s = s := by
  rw [feedAll, drainFifo_of_none _ h]

theorem feedAll_of_empty (h : s.disp.fifo = []) : feedAll s = s := by
  rw [feedAll, h, drainFifo]
  simp only [← h]

theorem pushData_of_full {w : Word} (h : 64 ≤ s.disp.fifo.length) : pushData w s = { s with disp := { s.disp with dataOvf := true } } :=
  if_pos h

theorem pushData_of_none {w : Word} (h : s.disp.fifo.length < 64) (hnone : s.disp.flight.any needsData = false) :
    pushData w s = { s with disp := { s.disp with fifo := s.disp.fifo ++ [w] } } :=
  (if_neg (Nat.not_le.mpr h)).trans (feedAll_of_none hnone)

/-- A word that finds the FIFO empty and one rectangle in flight that needs data goes to that rectangle. -/
theorem pushData_of_lone {w : Word} {r : Rect} (hfifo : s.disp.fifo = []) (hflight : s.disp.flight = [r]) (hneeds : needsData r = true) :
    pushData w s = { s with disp := { s.disp with flight := [{ r with words := r.words ++ [w] }] } } := by
  have hdrain : drainFifo (s.disp.fifo ++ [w]) s.disp.flight = (s.disp.fifo, [{ r with words := r.words ++ [w] }]) := by
    rw [hfifo, hflight]
    simp [drainFifo, feed, hneeds]
  have hroom : ¬ 64 ≤ s.disp.fifo.length := by simp [hfifo]
  rw [pushData, if_neg hroom, feedAll]
  simp only [hdrain]

/-! ### The head of the queue (R432, R433) -/

theorem exec_rectangleInFlight {r : Rect} {q : List Rect} (h : s.disp.queue = r :: q) :
    exec .rectangleInFlight s = .next (settle (guarded (isUp s .disp && mayFly s r) (fun s =>
      feedAll { s with disp := { s.disp with queue := q, flight := s.disp.flight ++ [r] } }) s)) := by
  show execRectangleInFlight s = _
  rw [execRectangleInFlight, h]
  rfl

end

/-- Settles O49: a submission by its party and by what refuses it, a word by where it goes, and the head of the queue by whether it may fly. -/
theorem rectangleSubmissions : Obligations.RectangleSubmissions := by
  unfold Obligations.RectangleSubmissions
  intro s hup
  refine ⟨fun b c op hc => ?submits, fun w => ⟨fun hfull => ?overflows, fun hroom hnone => ?waits, fun r hfifo hflight hneeds => ?goes⟩,
    fun r q hqueue hfifo => ⟨fun hmay => ?flies, fun hmay => ?stays⟩⟩
  case submits =>
    rw [exec_submit hc]
    refine ⟨fun hother => by rw [ownerOnly_of_other hup hother], fun howner => ?_⟩
    rw [ownerOnly_of_owner hup howner]
    refine ⟨fun hok => by rw [submit_of_ok hok], fun hrefused => ?_⟩
    rw [submit_of_refused hrefused]
    exact ⟨_, rfl, by simp [refusedSubmission], by simp [refusedSubmission, pendingDest], by simp [refusedSubmission, shownDest],
      by simp [refusedSubmission], rfl⟩
  case overflows => rw [exec_rectData hup, pushData_of_full hfull]
  case waits => rw [exec_rectData hup, pushData_of_none hroom hnone]
  case goes => rw [exec_rectData hup, pushData_of_lone hfifo hflight hneeds]
  case flies =>
    rw [exec_rectangleInFlight hqueue, hup, hmay, Bool.and_self, guarded_true]
    exact next_settle (feedAll_of_empty hfifo)
  case stays => rw [exec_rectangleInFlight hqueue, hmay, Bool.and_false, guarded_false]

end Sys2Proof.Machine
end

section
/-! A rectangle that finishes (17): its pixels, the other buffer, DONE_SEQ, and the pending commit (R429, R431, R434 to R436). -/

namespace Sys2Proof.Machine

/-- From s to t only the display's block differs. -/
def OnlyDisplay (s t : State) : Prop := t = { s with disp := t.disp }

theorem OnlyDisplay.of_disp (s : State) (d : Disp) : OnlyDisplay s { s with disp := d } := Eq.refl _

theorem OnlyDisplay.trans {s t u : State} (h : OnlyDisplay s t) (h' : OnlyDisplay t u) : OnlyDisplay s u := by
  unfold OnlyDisplay at *
  rw [h', h]

/-- A command that writes the display alone leaves the rest, but for what every command settles. -/
theorem OnlyDisplay.settle_frame {s t : State} (h : OnlyDisplay s t) :
    settle t = { s with disp := (settle t).disp, fab := (settle t).fab, glt := (settle t).glt } := by
  unfold OnlyDisplay at h
  rw [h]
  rfl

section
variable {s : State} {r : Rect} {l : List (Nat × BitVec 4)}

/-! ### The frame buffers (R429) -/

theorem frameBuf_setFrameBuf_same (b : Bool) (l : List (Nat × BitVec 4)) (s : State) : frameBuf (setFrameBuf b l s) b = l := by
  cases b <;> rfl

theorem frameBuf_setFrameBuf_other (b : Bool) (l : List (Nat × BitVec 4)) (s : State) :
    frameBuf (setFrameBuf b l s) (!b) = frameBuf s (!b) := by
  cases b <;> rfl

theorem frameBuf_canonical (b : Bool) (h0 : Canonical s.disp.fb0) (h1 : Canonical s.disp.fb1) : Canonical (frameBuf s b) := by
  cases b
  · exact h0
  · exact h1

/-! ### The pixels of a rectangle (R431, R435) -/

/-- The pixel of the buffer that a rectangle's n-th pixel is. -/
def pixelOf (r : Rect) (n : Nat) : Nat := pixelNo (r.x + n % r.w) (r.y + n / r.w)

/-- The n-th pixel of a rectangle drawn into a buffer. -/
def drawPixel (s : State) (r : Rect) (l : List (Nat × BitVec 4)) (n : Nat) : List (Nat × BitVec 4) :=
  match rectPixel s r (n % r.w) (n / r.w) with
  | some v => setPixel (pixelOf r n) v l
  | none => l

theorem drawRect_eq (r : Rect) (s : State) :
    drawRect r s = setFrameBuf r.buf ((List.range (r.w * r.h)).foldl (drawPixel s r) (frameBuf s r.buf)) s := rfl

theorem drawPixel_canonical (h : Canonical l) (n : Nat) : Canonical (drawPixel s r l n) := by
  unfold drawPixel
  split
  · exact setPixel_canonical h _ _
  · exact h

theorem pixelAt_drawPixel_other {n k : Nat} (h : Canonical l) (hk : pixelOf r n ≠ k) : pixelAt (drawPixel s r l n) k = pixelAt l k := by
  unfold drawPixel
  split
  · rw [pixelAt_setPixel h, if_neg (Ne.symm hk)]
  · rfl

theorem pixelAt_drawPixels_other {k : Nat} (ns : List Nat) (h : Canonical l) (hk : ∀ n ∈ ns, pixelOf r n ≠ k) :
    pixelAt (ns.foldl (drawPixel s r) l) k = pixelAt l k := by
  induction ns generalizing l with
  | nil => rfl
  | cons n ns ih =>
    rw [List.foldl_cons, ih (drawPixel_canonical h n) fun m hm => hk m (List.mem_cons_of_mem _ hm),
      pixelAt_drawPixel_other h (hk n List.mem_cons_self)]

/-- A FILL gives the level to each pixel that it draws; one drawn twice has it twice. -/
theorem pixelAt_drawPixels_fill {k : Nat} (ns : List Nat) (hop : r.op = .fill) (h : Canonical l) (hk : ∃ n ∈ ns, pixelOf r n = k) :
    pixelAt (ns.foldl (drawPixel s r) l) k = r.arg.setWidth 4 := by
  have hdraw : ∀ m l, drawPixel s r l m = setPixel (pixelOf r m) (r.arg.setWidth 4) l := by
    intro m l
    simp only [drawPixel, rectPixel, hop]
  induction ns generalizing l with
  | nil => simp at hk
  | cons m ns ih =>
    rw [List.foldl_cons]
    by_cases hlater : ∃ n ∈ ns, pixelOf r n = k
    · exact ih (drawPixel_canonical h m) hlater
    · have hm : pixelOf r m = k := by
        obtain ⟨n, hn, hnk⟩ := hk
        rcases List.mem_cons.mp hn with rfl | hn
        · exact hnk
        · exact absurd ⟨n, hn, hnk⟩ hlater
      rw [pixelAt_drawPixels_other ns (drawPixel_canonical h m) fun n hn hnk => hlater ⟨n, hn, hnk⟩, hdraw, pixelAt_setPixel h,
        if_pos hm.symm]

/-- The pixels inside a rectangle are those that its drawing visits. -/
theorem inside_iff {k : Nat} : Inside r k ↔ ∃ n ∈ List.range (r.w * r.h), pixelOf r n = k := by
  constructor
  · rintro ⟨i, hi, j, hj, rfl⟩
    refine ⟨i + r.w * j, List.mem_range.mpr ?_, ?_⟩
    · calc i + r.w * j < r.w * 1 + r.w * j := by omega
        _ = r.w * (1 + j) := (Nat.mul_add ..).symm
        _ ≤ r.w * r.h := Nat.mul_le_mul_left _ (by omega)
    · have hpos : 0 < r.w := by omega
      rw [pixelOf, Nat.add_mul_mod_self_left, Nat.mod_eq_of_lt hi, Nat.add_mul_div_left _ _ hpos, Nat.div_eq_of_lt hi, Nat.zero_add]
  · rintro ⟨n, hn, rfl⟩
    have hlt := List.mem_range.mp hn
    have hpos : 0 < r.w := Nat.pos_of_ne_zero fun h => by simp [h] at hlt
    exact ⟨n % r.w, Nat.mod_lt n hpos, n / r.w, Nat.div_lt_of_lt_mul hlt, rfl⟩

theorem drawRect_outside {k : Nat} (h : Canonical (frameBuf s r.buf)) (hk : ¬ Inside r k) :
    pixelAt (frameBuf (drawRect r s) r.buf) k = pixelAt (frameBuf s r.buf) k := by
  rw [drawRect_eq, frameBuf_setFrameBuf_same]
  exact pixelAt_drawPixels_other _ h fun n hn hnk => hk (inside_iff.mpr ⟨n, hn, hnk⟩)

theorem drawRect_fill {k : Nat} (hop : r.op = .fill) (h : Canonical (frameBuf s r.buf)) (hk : Inside r k) :
    pixelAt (frameBuf (drawRect r s) r.buf) k = r.arg.setWidth 4 := by
  rw [drawRect_eq, frameBuf_setFrameBuf_same]
  exact pixelAt_drawPixels_fill _ hop h (inside_iff.mp hk)

theorem drawRect_other (r : Rect) (s : State) : frameBuf (drawRect r s) (!r.buf) = frameBuf s (!r.buf) := by
  rw [drawRect_eq, frameBuf_setFrameBuf_other]

/-- Drawing writes the two buffers and nothing else. -/
theorem drawRect_frame (r : Rect) (s : State) :
    drawRect r s = { s with disp := { s.disp with fb0 := (drawRect r s).disp.fb0, fb1 := (drawRect r s).disp.fb1 } } := by
  rw [drawRect_eq, setFrameBuf]
  split <;> rfl

theorem drawRect_onlyDisplay (r : Rect) (s : State) : OnlyDisplay s (drawRect r s) := by
  unfold OnlyDisplay
  rw [drawRect_frame]

/-! ### The rectangle leaves (R434, R436) -/

/-- The pending commit that completes writes its own bits and TAKE_SEQ. -/
theorem completeCommit_frame (late : Bool) (s : State) : completeCommit late s = { s with disp := { s.disp with
    commitDone := (completeCommit late s).disp.commitDone, commitLate := (completeCommit late s).disp.commitLate
    takeSeq := (completeCommit late s).disp.takeSeq } } := by
  unfold completeCommit
  dsimp only
  split <;> rfl

theorem completeCommit_onlyDisplay (late : Bool) (s : State) : OnlyDisplay s (completeCommit late s) := by
  unfold OnlyDisplay
  rw [completeCommit_frame]

/-- DONE_SEQ takes the next rectangle's number, and stops there where no later one has finished. -/
theorem advanceDone_next (f : Nat) (d : Byte) : advanceDone (f + 2) d [d + 1] = (d + 1, []) := by
  simp [advanceDone]

/-- The only rectangle in flight, next after DONE_SEQ, has left. -/
def loneFinished (r : Rect) (late : Bool) (s : State) : State :=
  completeCommit late { s with disp := { s.disp with flight := [], doneSeq := r.seq, finished := [] } }

theorem finishRect_of_lone (late : Bool) (hflight : s.disp.flight = [r]) (hseq : r.seq = s.disp.doneSeq + 1) (hdone : s.disp.finished = [])
    (hfifo : s.disp.fifo = []) : finishRect r late s = loneFinished r late s := by
  have hadvance : advanceDone 12 s.disp.doneSeq (r.seq :: s.disp.finished) = (r.seq, []) := by
    rw [hdone, hseq]
    exact advanceDone_next 10 _
  have hleft : s.disp.flight.filter (· != r) = [] := by simp [hflight]
  rw [finishRect]
  simp only [hadvance, hleft]
  refine feedAll_of_empty ?_
  rw [completeCommit_frame]
  exact hfifo

end

section
variable {s : State} {r : Rect}

/-- What holds of a rectangle that is alone in flight, next after DONE_SEQ, with no words waiting. -/
structure LoneFlight (s : State) (r : Rect) : Prop where
  flight : s.disp.flight = [r]
  seq : r.seq = s.disp.doneSeq + 1
  finished : s.disp.finished = []
  fifo : s.disp.fifo = []

/-- It is drawn and leaves. -/
theorem LoneFlight.finish_draw (h : LoneFlight s r) (late : Bool) :
    finishRect r late (drawRect r s) = loneFinished r late (drawRect r s) := by
  have hd := drawRect_frame r s
  refine finishRect_of_lone late ?_ ?_ ?_ ?_
  all_goals rw [hd]
  · exact h.flight
  · exact h.seq
  · exact h.finished
  · exact h.fifo

theorem exec_rectangleFinish (hup : isUp s .disp = true) (h : LoneFlight s r) (late : Bool) :
    exec (.rectangleFinish r.seq late) s
      = .next (settle (guarded (!needsData r) (fun s => finishRect r late (drawRect r s)) s)) := by
  have hfind : s.disp.flight.find? (·.seq == r.seq) = some r := by simp [h.flight]
  show execRectangleFinish r.seq late s = _
  rw [execRectangleFinish, hfind]
  simp only [hup, Bool.true_and, done_eq]

theorem exec_writeRectTimeout (hup : isUp s .disp = true) (h : LoneFlight s r) (hneeds : needsData r = true) (late : Bool) :
    exec (.writeRectTimeout late) s = .next (settle { finishRect r late (drawRect r s) with
      disp := { (finishRect r late (drawRect r s)).disp with dataTimeout := true } }) := by
  have hfind : s.disp.flight.find? needsData = some r := by simp [h.flight, hneeds]
  show execWriteRectTimeout late s = _
  rw [execWriteRectTimeout, hfind]
  simp only [hup, guarded_true, done_eq]

/-- What is left of the display when the rectangle has been drawn and has left. -/
structure DrawnAndLeft (r : Rect) (s t : State) : Prop where
  flight : t.disp.flight = []
  doneSeq : t.disp.doneSeq = r.seq
  queue : t.disp.queue = s.disp.queue
  fb0 : t.disp.fb0 = (drawRect r s).disp.fb0
  fb1 : t.disp.fb1 = (drawRect r s).disp.fb1
  only : OnlyDisplay s t

theorem loneFinished_drawn (r : Rect) (late : Bool) (s : State) : DrawnAndLeft r s (loneFinished r late (drawRect r s)) := by
  have hc := completeCommit_frame late { drawRect r s with disp := { (drawRect r s).disp with flight := [], doneSeq := r.seq, finished := [] } }
  refine ⟨?_, ?_, ?_, ?_, ?_, ?only⟩
  case only => exact (drawRect_onlyDisplay r s).trans ((OnlyDisplay.of_disp _ _).trans (completeCommit_onlyDisplay late _))
  all_goals rw [loneFinished, hc]
  rw [drawRect_frame]

theorem DrawnAndLeft.frameBuf_eq {t : State} (h : DrawnAndLeft r s t) (b : Bool) : frameBuf t b = frameBuf (drawRect r s) b := by
  cases b
  · exact h.fb0
  · exact h.fb1

end

/-- Settles O50: the rectangle is drawn and leaves, by its end or by a time-out; the pixels are those of the drawing. -/
theorem rectanglesFinish : Obligations.RectanglesFinish := by
  unfold Obligations.RectanglesFinish
  intro s r hup hflight hseq hfinished hfifo h0 h1 late
  have hlone : LoneFlight s r := ⟨hflight, hseq, hfinished, hfifo⟩
  have hdrawn := loneFinished_drawn r late s
  obtain ⟨hc0, hc1⟩ := drawRect_canonical r h0 h1
  have hform := frameBuf_canonical r.buf h0 h1
  refine ⟨fun hneeds => ?ends, fun hneeds => ?waits, fun hneeds => ?timesOut⟩
  case ends =>
    rw [exec_rectangleFinish hup hlone, hneeds, Bool.not_false, guarded_true, hlone.finish_draw]
    refine ⟨_, rfl, hdrawn.flight, hdrawn.doneSeq, hdrawn.fb0 ▸ hc0, hdrawn.fb1 ▸ hc1, ?_, fun k hk => ?_, fun hop k hk => ?_, hdrawn.queue, ?_⟩
    · exact (hdrawn.frameBuf_eq _).trans (drawRect_other r s)
    · exact (congrArg (pixelAt · k) (hdrawn.frameBuf_eq _)).trans (drawRect_outside hform hk)
    · exact (congrArg (pixelAt · k) (hdrawn.frameBuf_eq _)).trans (drawRect_fill hop hform hk)
    · exact hdrawn.only.settle_frame
  case waits => rw [exec_rectangleFinish hup hlone, hneeds, Bool.not_true, guarded_false]
  case timesOut =>
    rw [exec_writeRectTimeout hup hlone hneeds, hlone.finish_draw]
    refine ⟨_, rfl, hdrawn.flight, rfl, hdrawn.doneSeq, hdrawn.fb0 ▸ hc0, hdrawn.fb1 ▸ hc1, fun k hk => ?_, ?_⟩
    · exact (congrArg (pixelAt · k) (hdrawn.frameBuf_eq _)).trans (drawRect_outside hform hk)
    · exact (hdrawn.only.trans (.of_disp _ _)).settle_frame

end Sys2Proof.Machine
end

section
/-! Commits, blankings, owners and the charge pump (17): R422, R428, R430, R436 to R438, R445, R449. -/

namespace Sys2Proof.Machine

section
variable {s : State} {byHost buf late : Bool}

/-! ### Commits (R436 to R438) -/

theorem exec_displayCommit (byHost buf late : Bool) (s : State) : exec (.displayCommit byHost buf late) s
    = .next (settle (ownerOnly byHost (fun s => commitBuf buf late
        (if byHost || s.disp.pending then s else { s with disp := { s.disp with redrawDue := false } })) s)) := rfl

theorem commitBuf_of_pending (h : s.disp.pending = true) : commitBuf buf late s = { s with disp := { s.disp with commitBusy := true } } :=
  if_pos h

/-- The commit waits from now on for the rectangles submitted before it. -/
def commitTaken (buf late : Bool) (s : State) : State := { s with disp := { s.disp with
  buf := buf, pending := true, commitDone := false, commitSeq := s.disp.lastSeq
  takeSeq := s.disp.frameSeq.setWidth 16 + (if late then 2 else 1) } }

theorem commitBuf_of_free (h : s.disp.pending = false) : commitBuf buf late s = completeCommit late (commitTaken buf late s) :=
  if_neg (ne_true_of_eq_false h)

/-- A commit just taken completes at once if every rectangle before it has finished. -/
theorem completeCommit_taken (buf late : Bool) (s : State) : completeCommit late (commitTaken buf late s)
    = { commitTaken buf late s with disp := { (commitTaken buf late s).disp with
        commitDone := finishedUpTo s s.disp.lastSeq, commitLate := if finishedUpTo s s.disp.lastSeq then late else s.disp.commitLate } } := by
  cases h : finishedUpTo s s.disp.lastSeq with
  | true => exact if_pos h
  | false => exact if_neg (ne_true_of_eq_false h)

/-- Laurel-B's commit clears the redraw that was due, where no commit is pending. -/
def redrawCleared (byHost : Bool) (s : State) : State := if byHost then s else { s with disp := { s.disp with redrawDue := false } }

theorem exec_displayCommit_of_free (hup : isUp s .disp = true) (howner : isOwner s byHost = true) (hfree : s.disp.pending = false) :
    exec (.displayCommit byHost buf late) s
      = .next (settle (completeCommit late (commitTaken buf late (redrawCleared byHost s)))) := by
  have hcleared : (if byHost || s.disp.pending then s else { s with disp := { s.disp with redrawDue := false } }) = redrawCleared byHost s := by
    rw [hfree, Bool.or_false]
    rfl
  have hstill : (redrawCleared byHost s).disp.pending = false := by
    unfold redrawCleared
    split <;> exact hfree
  rw [exec_displayCommit, ownerOnly_of_owner hup howner]
  simp only [hcleared, commitBuf_of_free hstill]

theorem redrawCleared_frame (byHost : Bool) (s : State) :
    redrawCleared byHost s = { s with disp := { s.disp with redrawDue := (redrawCleared byHost s).disp.redrawDue } } := by
  unfold redrawCleared
  split <;> rfl

/-! ### Blankings (R422, R428, R436, R437) -/

/-- A new frame begins with the settings that a reload of the mode left due. -/
def frameBegun (s : State) : State := { s with disp := { s.disp with
  frameSeq := s.disp.frameSeq + 1, div := s.disp.divNext, lcdDue := false
  duty := if s.disp.lcdDue then setting? s 0x14 1 == 1 else s.disp.duty
  bias := if s.disp.lcdDue then setting? s 0x14 2 == 1 else s.disp.bias } }

theorem exec_blanking (hup : isUp s .disp = true) : exec .blanking s = .next (settle (commitAtBlanking (frameBegun s))) := by
  show execBlanking s = _
  rw [execBlanking, hup, guarded_true, done_eq]
  rfl

/-- A completed commit whose window was open takes effect, and the host hears of it while it is in service. -/
theorem commitAtBlanking_taken (hpending : s.disp.pending = true) (hdone : s.disp.commitDone = true) (hlate : s.disp.commitLate = false) :
    commitAtBlanking s = { s with
      disp := { s.disp with
        shown := s.disp.buf, pending := false, commitDone := false, queue := s.disp.queue.map fun r => { r with waitShown := false } }
      hst := if isUp s .host then { s.hst with dispTake := true } else s.hst } := by
  rw [commitAtBlanking]
  simp only [hpending, hdone, hlate]
  rfl

/-- At most the commit's own lateness and TAKE_SEQ change where none takes effect. -/
theorem commitAtBlanking_waits (h : s.disp.pending = false ∨ s.disp.commitDone = false ∨ s.disp.commitLate = true) :
    commitAtBlanking s = { s with disp := { s.disp with
      commitLate := (commitAtBlanking s).disp.commitLate, takeSeq := (commitAtBlanking s).disp.takeSeq } } := by
  unfold commitAtBlanking
  dsimp only
  split
  · rfl
  · split
    next hpending hnow =>
      simp only [Bool.not_eq_true', Bool.not_eq_false] at hpending
      simp only [Bool.and_eq_true, Bool.not_eq_true'] at hnow
      simp [hpending, hnow.1, hnow.2] at h
    next => split <;> rfl

/-- A blanking leaves the buffers and the frame's own fields to the frame, and writes HST_IRQ's DISP_TAKE at most beside the display. -/
theorem commitAtBlanking_frame (s : State) : commitAtBlanking s = { s with
    disp := { s.disp with
      shown := (commitAtBlanking s).disp.shown, pending := (commitAtBlanking s).disp.pending
      commitDone := (commitAtBlanking s).disp.commitDone, queue := (commitAtBlanking s).disp.queue
      commitLate := (commitAtBlanking s).disp.commitLate, takeSeq := (commitAtBlanking s).disp.takeSeq }
    hst := { s.hst with dispTake := (commitAtBlanking s).hst.dispTake } } := by
  unfold commitAtBlanking
  dsimp only
  repeat' split
  all_goals rfl

/-! ### Owners (R430, R445) -/

theorem exec_hostOwn (hup : isUp s .disp = true) (b : Bool) :
    exec (.hostOwn b) s = .next (settle { s with disp := { s.disp with hostOwn := b } }) := by
  show execHostOwn b s = _
  rw [execHostOwn, hup, guarded_true, done_eq]

theorem exec_ownerChange (hup : isUp s .disp = true) : exec .ownerChange s
    = .next (settle (guarded (s.disp.queue.isEmpty && s.disp.flight.isEmpty && !s.disp.pending)
        (fun s => { s with disp := { s.disp with owner := s.disp.hostOwn } }) s)) := by
  show execOwnerChange s = _
  rw [execOwnerChange, hup, Bool.true_and, done_eq]

/-! ### The charge pump (R449) and the mode (R422) -/

/-- The pump is out of regulation and drives nothing. -/
def pumpFailed (s : State) : State :=
  refreshDrive { s with disp := { s.disp with pumpOk := false, pumpFault := true, pumpLogged := true } }

theorem exec_pumpFault (hup : isUp s .disp = true) (hmode : s.disp.pixelMode = false) :
    exec .pumpFault s = .next (settle (if s.disp.pumpLogged then pumpFailed s else logEvent .pumpFault (pumpFailed s))) := by
  show execPumpFault s = _
  rw [execPumpFault, hup, hmode]
  rfl

theorem pumpFailed_driveOn (hmode : s.disp.pixelMode = false) : (pumpFailed s).disp.driveOn = false := by
  simp [pumpFailed, refreshDrive, hmode]

theorem exec_pumpRestart (hup : isUp s .disp = true) (hmode : s.disp.pixelMode = false) (hpump : s.disp.pumpOk = false) (good : Bool) :
    exec (.pumpRestart good) s = .next (settle (guarded good
      (fun s => refreshDrive { s with disp := { s.disp with pumpOk := true, pumpLogged := false } }) s)) := by
  show execPumpRestart good s = _
  rw [execPumpRestart, hup, hmode, hpump, done_eq]
  rfl

theorem exec_displayModeReload (hseq : isUp s .seq = true) (hup : isUp s .disp = true) (hdue : s.disp.reloadDue = true) :
    exec .displayModeReload s
      = .next (settle (leaveService .disp .reloading { s with disp := { s.disp with reloadDue := false } })) := by
  show execDisplayModeReload s = _
  rw [execDisplayModeReload, hseq, hup, hdue]
  rfl

/-- The display leaves by its own reset alone, beside the fabric and the log. -/
theorem leaveService_disp_bil (st : PortState) (s : State) : (leaveService .disp st s).bil = s.bil := by
  show (logEvent _ (resetIsland .disp (fabricLeave .disp _))).bil = _
  rw [logEvent_bil]
  show (fabricLeave .disp _).bil = _
  rw [fabricLeave_onlyFabricAndLog]
  rfl

theorem leaveService_disp_reloadDue (st : PortState) (s : State) : (leaveService .disp st s).disp.reloadDue = false := by
  show (logEvent _ (resetIsland .disp (fabricLeave .disp _))).disp.reloadDue = _
  rw [logEvent_disp]
  rfl

end

/-- Settles O51: a commit by its party and by one that is pending, a blanking by the commit that it finds, the owner, the pump, and the
reload for a new mode. -/
theorem commitsAndBlankings : Obligations.CommitsAndBlankings := by
  unfold Obligations.CommitsAndBlankings
  intro s hup
  refine ⟨fun byHost buf late => ⟨fun hother => ?notOwner, fun howner hpending => ?busy, fun howner hfree => ?commits⟩, ?blanks, fun b => ?owns,
    fun hqueue hflight hpending => ?changes, fun hbusy => ?stands, fun hmode => ?fails,
    fun hmode hpump => ⟨?restarts, ?waits⟩, fun hseq hdue => ?reloads⟩
  case notOwner => rw [exec_displayCommit, ownerOnly_of_other hup hother]
  case busy =>
    rw [exec_displayCommit, ownerOnly_of_owner hup howner]
    simp only [hpending, Bool.or_true, if_true, commitBuf_of_pending hpending]
  case commits =>
    rw [exec_displayCommit_of_free hup howner hfree, completeCommit_taken, redrawCleared_frame]
    exact ⟨_, rfl, rfl, rfl, rfl, rfl, rfl, rfl⟩
  case blanks =>
    have hframe := commitAtBlanking_frame (frameBegun s)
    refine ⟨_, exec_blanking hup, congrArg (·.disp.frameSeq) hframe, congrArg (·.disp.div) hframe, congrArg (·.disp.lcdDue) hframe,
      fun hdue => ⟨?_, ?_⟩, fun hdue => ⟨?_, ?_⟩, congrArg (·.disp.fb0) hframe, congrArg (·.disp.fb1) hframe,
      fun hpending hdone hlate => ?_, fun hwaits => ?_, ?_⟩
    · exact (congrArg (·.disp.duty) hframe).trans (if_pos hdue)
    · exact (congrArg (·.disp.bias) hframe).trans (if_pos hdue)
    · exact (congrArg (·.disp.duty) hframe).trans (if_neg (ne_true_of_eq_false hdue))
    · exact (congrArg (·.disp.bias) hframe).trans (if_neg (ne_true_of_eq_false hdue))
    · rw [commitAtBlanking_taken (s := frameBegun s) hpending hdone hlate]
      refine ⟨rfl, rfl, fun hhost => congrArg Hst.dispTake (if_pos hhost), fun r hr => ?_⟩
      obtain ⟨q, -, rfl⟩ := List.mem_map.mp hr
      rfl
    · rw [commitAtBlanking_waits (s := frameBegun s) hwaits]
      exact ⟨rfl, rfl, rfl⟩
    · rw [hframe]
      rfl
  case owns => exact exec_hostOwn hup b
  case changes => rw [exec_ownerChange hup, hqueue, hflight, hpending]; rfl
  case stands =>
    have hguard : (s.disp.queue.isEmpty && s.disp.flight.isEmpty && !s.disp.pending) = false := by
      rcases hbusy with h | h | h <;> simp [h]
    rw [exec_ownerChange hup, hguard, guarded_false]
  case fails =>
    rw [exec_pumpFault hup hmode]
    cases hlogged : s.disp.pumpLogged with
    | true => exact ⟨_, rfl, rfl, rfl, pumpFailed_driveOn hmode, fun _ => rfl, rfl⟩
    | false =>
      rw [if_neg Bool.false_ne_true, logEvent_frame]
      exact ⟨_, rfl, rfl, rfl, pumpFailed_driveOn hmode, fun h => absurd h Bool.false_ne_true, rfl⟩
  case restarts =>
    rw [exec_pumpRestart hup hmode hpump]
    exact ⟨_, rfl, rfl, rfl⟩
  case waits => rw [exec_pumpRestart hup hmode hpump, guarded_false]
  case reloads =>
    exact ⟨_, exec_displayModeReload hseq hup hdue, leaveService_state .., leaveService_disp_reloadDue .., leaveService_disp_bil ..⟩

end Sys2Proof.Machine
end

section
/-! The annunciator (17): prompts, shutdowns of the class-D stage, their retries and the latch (R441 to R443, R511). -/

namespace Sys2Proof.Machine

section
variable {s : State}

theorem exec_promptStart {p : Prompt} {q : List Prompt} (hup : isUp s .aud = true) (hqueue : s.aud.queue = p :: q) (hplaying : s.aud.playing = none)
    (hreleased : s.aud.released = true) (hlatched : s.aud.latched = false) :
    exec .promptStart s = .next (settle { s with aud := { s.aud with
      queue := q, playing := if promptExists s p.number.toNat then some p else none
      prompt := if promptExists s p.number.toNat then p.number else s.aud.prompt } }) := by
  show execPromptStart s = _
  rw [execPromptStart, hqueue]
  simp only [hup, hplaying, hreleased, hlatched, Option.isNone_none, Bool.and_self, Bool.not_false, guarded_true, done_eq]

theorem exec_promptEnd (hup : isUp s .aud = true) :
    exec .promptEnd s = .next (settle { s with aud := { s.aud with playing := none, limit := false } }) := by
  show execPromptEnd s = _
  rw [execPromptEnd, hup, guarded_true, done_eq]

/-- A shutdown holds the stage. -/
def stageHeld (s : State) : State :=
  logEvent .audioShutdown { s with aud := { s.aud with hold := true, limit := true, faults := setBit s.aud.faults 0 } }

/-- The sixth shutdown latches it: nothing plays and nothing waits. -/
def stageLatched (s : State) : State := logEvent .audioLatched { s with aud := { s.aud with
  latched := true, faults := setBit s.aud.faults 1, playing := none, queue := [] } }

theorem exec_audShort (hup : isUp s .aud = true) (hon : s.aud.stageOn = true) (hreleased : s.aud.released = true) (hhold : s.aud.hold = false)
    (hlatched : s.aud.latched = false) :
    exec .audShort s = .next (settle (if s.aud.retries.toNat < 5 then stageHeld s else stageLatched (stageHeld s))) := by
  have hretries : (stageHeld s).aud.retries = s.aud.retries := by rw [stageHeld, logEvent_aud]
  show execAudShort s = _
  rw [execAudShort, hup, hon, hreleased, hhold, hlatched, ← hretries]
  rfl

theorem stageHeld_aud (s : State) :
    (stageHeld s).aud = { s.aud with hold := true, limit := true, faults := setBit s.aud.faults 0 } := by rw [stageHeld, logEvent_aud]

theorem stageLatched_aud (s : State) : (stageLatched s).aud = { s.aud with
    latched := true, faults := setBit s.aud.faults 1, playing := none, queue := [] } := by rw [stageLatched, logEvent_aud]

theorem exec_shutdownEnd (hup : isUp s .aud = true) (hhold : s.aud.hold = true) :
    exec .shutdownEnd s = .next (settle { s with aud := { s.aud with
      hold := false, limit := false, retries := if s.aud.latched then s.aud.retries else s.aud.retries + 1 } }) := by
  show execShutdownEnd s = _
  rw [execShutdownEnd, hup, hhold]
  rfl

theorem exec_retriesReset (hup : isUp s .aud = true) :
    exec .retriesReset s = .next (settle (guarded (!s.aud.hold) (fun s => { s with aud := { s.aud with retries := 0 } }) s)) := by
  show execRetriesReset s = _
  rw [execRetriesReset, hup, Bool.true_and, done_eq]

end

/-- Settles O52: the first prompt by the set, a shutdown by the retries before it, and what ends a hold or clears the retries. -/
theorem annunciator : Obligations.Annunciator := by
  unfold Obligations.Annunciator
  intro s hup
  refine ⟨fun p q hqueue hplaying hreleased hlatched => ⟨fun hthere => ?plays, fun hlacks => ?lacks⟩, exec_promptEnd hup,
    fun hon hreleased hhold hlatched => ⟨fun hfew => ?holds, fun hmany => ?latches⟩, fun hhold => ?restarts, fun hhold => ?clears,
    fun hhold => ?keeps⟩
  case plays => simp only [exec_promptStart hup hqueue hplaying hreleased hlatched, hthere, if_true]
  case lacks =>
    rw [exec_promptStart hup hqueue hplaying hreleased hlatched, hlacks, ← hplaying]
    rfl
  case holds =>
    rw [exec_audShort hup hon hreleased hhold hlatched, if_pos hfew]
    refine ⟨_, rfl, stageHeld_aud s, ?_⟩
    rw [stageHeld, logEvent_frame]
    rfl
  case latches =>
    rw [exec_audShort hup hon hreleased hhold hlatched, if_neg (Nat.not_lt.mpr hmany)]
    refine ⟨_, rfl, ?_⟩
    rw [settle_aud, stageLatched_aud]
    exact ⟨rfl, rfl, rfl, getLsbD_setBit_self _ (by decide)⟩
  case restarts => exact ⟨_, exec_shutdownEnd hup hhold, rfl, rfl⟩
  case clears => rw [exec_retriesReset hup, hhold]; rfl
  case keeps => rw [exec_retriesReset hup, hhold]; rfl

end Sys2Proof.Machine
end

section
/-! The background engines (19): the scrubber, the code check and the snapshot (R470 to R473, R480, R484), and what an island's departure
leaves of them and of the events. -/

namespace Sys2Proof.Machine

section
variable {s : State}

/-! ### An island's departure leaves BGD and the events (R56) -/

/-- From s to t BGD's own block stands, and every event that was logged is still logged. -/
structure EnginesStand (s t : State) : Prop where
  bgd : t.bgd = s.bgd
  log : s.flash.log ⊆ t.flash.log

theorem EnginesStand.of_eq {s t : State} (hbgd : t.bgd = s.bgd) (hflash : t.flash.log = s.flash.log) : EnginesStand s t :=
  ⟨hbgd, hflash ▸ List.Subset.refl _⟩

theorem EnginesStand.rfl {s : State} : EnginesStand s s := .of_eq (Eq.refl _) (Eq.refl _)

theorem EnginesStand.trans {s t u : State} (h : EnginesStand s t) (h' : EnginesStand t u) : EnginesStand s u :=
  ⟨h'.bgd.trans h.bgd, List.Subset.trans h.log h'.log⟩

theorem logEvent_enginesStand (k : EventKind) (s : State) : EnginesStand s (logEvent k s) := by
  refine ⟨logEvent_bgd s k, ?_⟩
  unfold logEvent
  split
  · exact List.subset_append_left _ _
  · exact List.Subset.refl _

theorem OnlyFabric.enginesStand {s t : State} (h : OnlyFabric s t) : EnginesStand s t := by
  unfold OnlyFabric at h
  rw [h]
  exact .of_eq (Eq.refl _) (Eq.refl _)

theorem answerAbsent_enginesStand (i : Island) (f : Flight) (s : State) : EnginesStand s (answerAbsent i f s) := by
  unfold answerAbsent
  split
  · exact (failAt_onlyFabric _ _ _ s).enginesStand
  · exact (failAt_onlyFabric _ _ _ s).enginesStand.trans (logEvent_enginesStand _ _)

theorem fabricLeave_enginesStand (i : Island) (s : State) : EnginesStand s (fabricLeave i s) := by
  unfold fabricLeave
  dsimp only
  generalize hu : List.foldl _ _ _ = u
  have hanswered : EnginesStand s u := by
    rw [← hu]
    exact List.foldlRecOn (motive := EnginesStand s) _ _ (.of_eq (Eq.refl _) (Eq.refl _)) fun t ht f _ =>
      ht.trans (answerAbsent_enginesStand i f t)
  have hgone (x : Fabric) : EnginesStand u { u with fab := x } := .of_eq (Eq.refl _) (Eq.refl _)
  exact (hanswered.trans (hgone _)).trans (settleFences_onlyFabric _).enginesStand

theorem comparatorTrip_enginesStand (fresh : Bool) (n : Nat) (s : State) : EnginesStand s (comparatorTrip fresh n s) := by
  have hcounted : EnginesStand s (tripCounted n (tripLatched n s)) := .of_eq (Eq.refl _) (Eq.refl _)
  have hlogged (t : State) : EnginesStand t (tripLogged n t) := by
    unfold tripLogged
    split
    · exact logEvent_enginesStand _ t
    · exact .rfl
  have hreported (t : State) : EnginesStand t (tripReported n t) := by
    unfold tripReported
    split
    · exact .rfl
    · exact .of_eq (Eq.refl _) (Eq.refl _)
  rw [comparatorTrip_eq]
  split
  · exact (hcounted.trans (hlogged _)).trans (hreported _)
  · exact .of_eq (Eq.refl _) (Eq.refl _)

theorem reconnect_enginesStand (n : Nat) (s : State) : EnginesStand s (reconnect n s) := by
  unfold reconnect
  split
  · refine .trans ?_ (comparatorTrip_enginesStand _ _ _)
    exact .of_eq rfl rfl
  · exact .of_eq rfl rfl

theorem reconnectAll_enginesStand (s t : State) : EnginesStand t (reconnectAll s t) := by
  refine List.foldlRecOn (motive := EnginesStand t) _ _ .rfl fun u hu n _ => ?_
  split
  · exact hu.trans (reconnect_enginesStand n u)
  · exact hu

theorem holdsEnd_enginesStand (s : State) : EnginesStand s (holdsEnd s) := by
  unfold holdsEnd logHold
  dsimp only
  repeat' split
  · exact (logEvent_enginesStand _ _).trans (logEvent_enginesStand _ _)
  · exact logEvent_enginesStand _ _
  · exact logEvent_enginesStand _ _
  · exact .rfl

theorem resetIsland_enginesStand {i : Island} (h : i ≠ .bgd) (s : State) : EnginesStand s (resetIsland i s) := by
  cases i
  case bgd => exact absurd rfl h
  case adc =>
    refine .trans ?_ (reconnectAll_enginesStand s _)
    exact .of_eq rfl rfl
  case plc => exact (holdsEnd_enginesStand s).trans (.of_eq rfl rfl)
  all_goals exact .of_eq rfl rfl

theorem leaveQuietly_enginesStand {i : Island} (h : i ≠ .bgd) (st : PortState) (s : State) : EnginesStand s (leaveQuietly i st s) := by
  have hlost (k : EventKind) (x : Billing) (u : State) : EnginesStand u (logEvent k { u with bil := x }) := by
    refine .trans ?_ (logEvent_enginesStand k _)
    exact .of_eq rfl rfl
  unfold leaveQuietly
  dsimp only
  generalize hu : fabricLeave i _ = u
  have hleft : EnginesStand s u := by
    rw [← hu]
    refine .trans ?_ (fabricLeave_enginesStand i _)
    exact .of_eq rfl rfl
  have hreset (v : State) : EnginesStand v (resetIsland i v) := resetIsland_enginesStand h v
  split <;> split
  · exact ((hleft.trans (hlost ..)).trans (hreset _)).trans (.of_eq rfl rfl)
  · exact (hleft.trans (hreset _)).trans (.of_eq rfl rfl)
  · exact (hleft.trans (hlost ..)).trans (hreset _)
  · exact hleft.trans (hreset _)

theorem absenceReaction_enginesStand (i : Island) (s : State) : EnginesStand s (absenceReaction i s) := by
  unfold absenceReaction
  repeat' split
  · exact .of_eq rfl rfl
  · rw [stopForSafe_onlySwitching]
    exact .of_eq rfl rfl
  · exact logEvent_enginesStand _ s

theorem leaveService_enginesStand {i : Island} (h : i ≠ .bgd) (st : PortState) (s : State) : EnginesStand s (leaveService i st s) :=
  (leaveQuietly_enginesStand h st s).trans (absenceReaction_enginesStand i _)

/-! ### The scrubber (R470, R471, R473) -/

theorem exec_scrubWord (h : engineRuns s 0 = true) (r : ScrubResult) : exec (.scrubWord r) s = .next (settle (scrubWord r s)) := by
  show execScrubWord r s = _
  rw [execScrubWord, h, guarded_true, done_eq]

theorem sweepNext_scrubLate_within (h : s.bgd.sramWord ≠ 0x1FFFF) : (sweepNext s).bgd.scrubLate = s.bgd.scrubLate := by
  simp only [sweepNext, decide_eq_false h, Bool.false_and, Bool.not_false, Bool.and_true]

theorem sweepNext_scrubLate_end (h : s.bgd.sramWord = 0x1FFFF) (hintime : s.bgd.sweepLate = false) :
    (sweepNext s).bgd.scrubLate = false := by
  simp [sweepNext, h, hintime]

/-- An uncorrectable word is counted and logged, and the sweep goes on. -/
def wordLost (i : Island) (s : State) : State := logEvent (.scrubUncorrectable i s.bgd.sramWord)
  (sweepNext { s with bgd := { s.bgd with uncorrectable := satInc s.bgd.uncorrectable } })

theorem wordLost_isUp (i j : Island) (s : State) : isUp (wordLost i s) j = isUp s j := by
  rw [isUp, wordLost, logEvent_port]
  rfl

/-- Its island, in service beside SAFE, is reloaded. -/
theorem scrubWord_uncorrectable {i : Island} (haon : i ≠ .aon) (hne : i ≠ .safe) (hsafe : isUp s .safe = true) (hup : isUp s i = true) :
    scrubWord (.uncorrectable i) s = leaveService i .reloading (wordLost i s) := by
  have hswept : (i == .aon || i == .safe) = false := by simp [haon, hne]
  have hboth : (isUp (wordLost i s) .safe && isUp (wordLost i s) i) = true := by rw [wordLost_isUp, wordLost_isUp, hsafe, hup]; rfl
  exact (if_neg (ne_true_of_eq_false hswept)).trans (if_pos hboth)

theorem wordLost_bgd (i : Island) (s : State) :
    (wordLost i s).bgd = (sweepNext { s with bgd := { s.bgd with uncorrectable := satInc s.bgd.uncorrectable } }).bgd := logEvent_bgd ..

theorem wordLost_logged (i : Island) (hw : s.flash.writable = true) :
    (satInc s.flash.eventCount, .scrubUncorrectable i s.bgd.sramWord) ∈ (wordLost i s).flash.log := by
  have hlog := logEvent_appends (k := .scrubUncorrectable i s.bgd.sramWord)
    (s := sweepNext { s with bgd := { s.bgd with uncorrectable := satInc s.bgd.uncorrectable } }) hw
  rw [wordLost, hlog]
  exact List.mem_append_right _ List.mem_cons_self

/-! ### The code check (R472) -/

theorem exec_codeBlockCheck (h : engineRuns s 0 = true) (b : Bool) : exec (.codeBlockCheck b) s = .next (settle (codeBlockCheck b s)) := by
  show execCodeBlockCheck b s = _
  rw [execCodeBlockCheck, h, guarded_true, done_eq]

/-- The first failure of a block is noted, and the check is to be repeated. -/
def blockFailed (s : State) : State :=
  logEvent (.codeFail s.bgd.codeBlock) { s with bgd := { s.bgd with codeFail := true, codeRepeat := true } }

theorem codeBlockCheck_first (h : s.bgd.codeRepeat = false) : codeBlockCheck false s = blockFailed s := by
  rw [codeBlockCheck, h]
  rfl

theorem codeBlockCheck_again (h : s.bgd.codeRepeat = true) : codeBlockCheck false s
    = nextCodeBlock { s with fw := { s.fw with corrupt := s.bgd.codeBlock.toNat :: s.fw.corrupt } } := by
  rw [codeBlockCheck, h]
  rfl

/-! ### A late sweep (R473) and the snapshot (R480) -/

/-- The sweep is late. -/
def sweepIsLate (s : State) : State := { s with bgd := { s.bgd with scrubLate := true, sweepLate := true } }

theorem exec_scrubLate (hup : isUp s .bgd = true) (hreleased : s.bgd.released = true) :
    exec .scrubLate s = .next (settle (if s.bgd.sweepLate then sweepIsLate s else logEvent .scrubLate (sweepIsLate s))) := by
  show execScrubLate s = _
  rw [execScrubLate, hup, hreleased]
  rfl

theorem exec_telemetrySnapshot (hruns : engineRuns s 3 = true) (hseq : isUp s .seq = true) (hclosed : s.bil.closed = []) :
    exec .telemetrySnapshot s = .next (settle { s with bgd := { s.bgd with
      snapshot := some (leBytes 2 s.od.serviceEpoch.toNat ++ snapshotEntries.flatMap (notifyRecord s)), snapshotDue := false } }) := by
  show execTelemetrySnapshot s = _
  rw [execTelemetrySnapshot, hruns, hseq, hclosed]
  rfl

end

/-- Settles O53: a word by what the scrubber finds in it, a block by its check and whether it is repeated, a late sweep, and the snapshot. -/
theorem backgroundEngines : Obligations.BackgroundEngines := by
  unfold Obligations.BackgroundEngines
  intro s
  refine ⟨fun hruns => ⟨?clean, ?single, fun i haon hne hbgd hsafe hup => ?lost, ?passes, fun hfirst hw => ?fails, fun hagain => ?failsAgain⟩,
    fun hstands r b => ⟨?noWord, ?noBlock⟩, fun hup hreleased hw => ?late, fun hruns hseq hclosed => exec_telemetrySnapshot hruns hseq hclosed⟩
  case clean =>
    exact ⟨_, exec_scrubWord hruns .clean, rfl, rfl, rfl, sweepNext_scrubLate_within, sweepNext_scrubLate_end, rfl⟩
  case single => exact ⟨_, exec_scrubWord hruns (.single false), rfl, rfl, rfl, rfl⟩
  case lost =>
    obtain ⟨hsame, hlog⟩ := leaveService_enginesStand hbgd .reloading (wordLost i s)
    rw [exec_scrubWord hruns, scrubWord_uncorrectable haon hne hsafe hup]
    refine ⟨_, rfl, ?_, ?_, leaveService_state .., fun hw => hlog (wordLost_logged i hw)⟩
    · rw [settle_bgd, hsame, wordLost_bgd]
      rfl
    · rw [settle_bgd, hsame, wordLost_bgd]
      rfl
  case passes => exact ⟨_, exec_codeBlockCheck hruns true, rfl, rfl, rfl⟩
  case fails =>
    have hlog := logEvent_appends (k := .codeFail s.bgd.codeBlock)
      (s := { s with bgd := { s.bgd with codeFail := true, codeRepeat := true } }) hw
    rw [exec_codeBlockCheck hruns, codeBlockCheck_first hfirst, blockFailed, logEvent_frame]
    exact ⟨_, rfl, rfl, rfl, rfl, hlog, rfl⟩
  case failsAgain =>
    rw [exec_codeBlockCheck hruns, codeBlockCheck_again hagain]
    exact ⟨_, rfl, rfl, rfl, rfl, rfl⟩
  case noWord => exact congrArg (fun c => Host.Outcome.next (settle (guarded c (scrubWord r) s))) hstands
  case noBlock => exact congrArg (fun c => Host.Outcome.next (settle (guarded c (codeBlockCheck b) s))) hstands
  case late =>
    rw [exec_scrubLate hup hreleased]
    cases hknown : s.bgd.sweepLate with
    | true => exact ⟨_, rfl, rfl, rfl, rfl⟩
    | false =>
      have hlog := logEvent_appends (k := .scrubLate) (s := sweepIsLate s) hw
      rw [if_neg Bool.false_ne_true, if_neg Bool.false_ne_true, logEvent_frame]
      exact ⟨_, rfl, rfl, hlog, rfl⟩

end Sys2Proof.Machine
end

section
/-! The zones of log flash (19): where a record goes, which block is erased, what an erase leaves, and the copy of a worn block
(R475 to R478, R482, R487). -/

namespace Sys2Proof.Machine

/-! ### The least of erase counts (R476) -/

theorem foldl_min_le (l : List Nat) (a : Nat) : l.foldl min a ≤ a ∧ ∀ m ∈ l, l.foldl min a ≤ m := by
  induction l generalizing a with
  | nil => simp
  | cons b l ih =>
    obtain ⟨hstart, hrest⟩ := ih (min a b)
    refine ⟨hstart.trans (min_le_left a b), fun m hm => ?_⟩
    rcases List.mem_cons.mp hm with rfl | hm
    · exact hstart.trans (min_le_right a m)
    · exact hrest m hm

theorem foldl_min_mem (l : List Nat) (a : Nat) : l.foldl min a ∈ a :: l := by
  induction l generalizing a with
  | nil => simp
  | cons b l ih =>
    rcases List.mem_cons.mp (ih (min a b)) with h | h
    · rw [List.foldl_cons, h]
      rcases min_choice a b with hmin | hmin <;> simp [hmin]
    · exact List.mem_cons_of_mem _ (List.mem_cons_of_mem _ h)

theorem leastOf_mem {l : List Nat} (h : l ≠ []) : leastOf l ∈ l := by
  cases l with
  | nil => exact absurd rfl h
  | cons a l => exact foldl_min_mem l a

theorem leastOf_le {l : List Nat} {m : Nat} (h : m ∈ l) : leastOf l ≤ m := by
  cases l with
  | nil => simp at h
  | cons a l =>
    obtain ⟨hstart, hrest⟩ := foldl_min_le l a
    rcases List.mem_cons.mp h with rfl | h
    · exact hstart
    · exact hrest m h

theorem takeLeast_of_some {l : List Nat} (h : l ≠ []) : takeLeast l = some (leastOf l, l.erase (leastOf l)) := by
  rw [takeLeast, List.isEmpty_eq_false_iff.mpr h]
  rfl

section
variable {s : State} {z : Zone}

/-! ### A zone, read and written (R475) -/

@[simp] theorem zoneOf_setZone (z : Zone) (x : FlashZone) (s : State) : zoneOf (setZone z x s).flash z = x := by cases z <;> rfl

theorem setZone_setZone (z : Zone) (x y : FlashZone) (s : State) : setZone z y (setZone z x s) = setZone z y s := by cases z <;> rfl

theorem logEvent_writable (k : EventKind) (s : State) : (logEvent k s).flash.writable = s.flash.writable := by
  unfold logEvent
  split <;> rfl

/-! ### A record's place (R476) -/

theorem exec_logFlashWrite (hsec : isUp s .sec = true) (z : Zone) (good : Bool) : exec (.logFlashWrite z good) s
    = .next (settle (endWearSuspension (if good then takePlace z s else retireNewest z (takePlace z s)))) := by
  show execLogFlashWrite z good s = _
  rw [execLogFlashWrite, hsec, guarded_true, done_eq]

theorem takePlace_of_room (h : (zoneOf s.flash z).fill < perBlock z) : takePlace z s
    = setZone z { zoneOf s.flash z with fill := (zoneOf s.flash z).fill + 1 } (logHeldDue { s with flash := { s.flash with writable := true } }) :=
  if_pos h

theorem takePlace_of_full (h : perBlock z ≤ (zoneOf s.flash z).fill) (hfree : (zoneOf s.flash z).free ≠ []) : takePlace z s
    = setZone z { zoneOf s.flash z with
        fill := 1, used := (zoneOf s.flash z).used ++ [nextBlock (zoneOf s.flash z) (leastOf (zoneOf s.flash z).free)]
        free := (zoneOf s.flash z).free.erase (leastOf (zoneOf s.flash z).free) }
      (logHeldDue { s with flash := { s.flash with writable := true } }) := by
  rw [takePlace, if_neg (Nat.not_lt.mpr h), takeLeast_of_some hfree]

/-- Nothing that is held can be logged while log flash cannot be written. -/
theorem takePlace_of_none (h : perBlock z ≤ (zoneOf s.flash z).fill) (hfree : (zoneOf s.flash z).free = []) : takePlace z s
    = { s with flash := { s.flash with writable := false } } := by
  rw [takePlace, if_neg (Nat.not_lt.mpr h), hfree]
  rfl

theorem nextBlock_logical {x : FlashZone} {y : FlashBlock} (n : Nat) (h : x.used.getLast? = some y) :
    (nextBlock x n).logical = y.logical + 1 := by
  rw [nextBlock, h]

/-! ### The end of the wear manager's suspension (Table 19-4, R482) -/

/-- The wear manager goes on, and the erases with it. -/
def wearResumed (s : State) : State :=
  suspendErases false { s with bgd := { s.bgd with suspended := clearBit s.bgd.suspended 2 } }

theorem endWearSuspension_eq (s : State) : endWearSuspension s
    = if s.bgd.suspended.getLsbD 2 && reserveLow s then logEvent .wearSuspendCleared (wearResumed s) else s := rfl

theorem endWearSuspension_of_running (h : s.bgd.suspended.getLsbD 2 = false) : endWearSuspension s = s := by
  rw [endWearSuspension_eq, h]
  rfl

/-- Where a zone is low after it, the suspension is over; one that it ended is logged. -/
theorem endWearSuspension_low (h : reserveLow (endWearSuspension s) = true) : (endWearSuspension s).bgd.suspended.getLsbD 2 = false
    ∧ (s.bgd.suspended.getLsbD 2 = true → (endWearSuspension s).flash.writable = true →
      ∃ n, (n, EventKind.wearSuspendCleared) ∈ (endWearSuspension s).flash.log) := by
  cases hsusp : s.bgd.suspended.getLsbD 2 with
  | false =>
    rw [endWearSuspension_of_running hsusp]
    exact ⟨hsusp, fun habs => absurd habs Bool.false_ne_true⟩
  | true =>
    cases hlow : reserveLow s with
    | false =>
      have hsame : endWearSuspension s = s := by rw [endWearSuspension_eq, hlow, Bool.and_false]; rfl
      rw [hsame, hlow] at h
      exact absurd h Bool.false_ne_true
    | true =>
      have hends : endWearSuspension s = logEvent .wearSuspendCleared (wearResumed s) := by rw [endWearSuspension_eq, hsusp, hlow]; rfl
      rw [hends]
      refine ⟨?_, fun _ hw => ?_⟩
      · rw [logEvent_bgd]
        exact getLsbD_clearBit_self s.bgd.suspended 2
      · rw [logEvent_writable] at hw
        rw [logEvent_appends hw]
        exact ⟨_, List.mem_append_right _ List.mem_cons_self⟩

/-! A record's place leaves BGD's suspension as it is. -/

theorem logHeldDue_bgd (s : State) : (logHeldDue s).bgd = s.bgd := by
  unfold logHeldDue
  split
  · exact List.foldlRecOn (motive := fun u : State => u.bgd = s.bgd) _ _ rfl fun u hu _ _ => (logEvent_bgd u _).trans hu
  · rfl

theorem takePlace_bgd (z : Zone) (s : State) : (takePlace z s).bgd = s.bgd := by
  unfold takePlace
  dsimp only
  split
  · exact logHeldDue_bgd _
  · split
    · exact logHeldDue_bgd _
    · exact logHeldDue_bgd _

theorem noteRetired_suspended (z : Zone) (s : State) : (noteRetired z s).bgd.suspended = s.bgd.suspended := by
  rw [noteRetired, logEvent_bgd]

theorem replacement_bgd {r : Nat × State} (h : replacement s = some r) : r.2.bgd = s.bgd := by
  unfold replacement at h
  dsimp only at h
  have hgive (y : Zone) (l : Nat) (x : Nat × State) (hx : (if zoneBlocks (zoneOf s.flash y) ≤ l then none
      else (takeLeast (zoneOf s.flash y).free).map fun x => (x.1, setZone y { zoneOf s.flash y with free := x.2 } s)) = some x) :
      x.2.bgd = s.bgd := by
    split at hx
    · simp at hx
    · obtain ⟨w, -, rfl⟩ := Option.map_eq_some_iff.mp hx
      rfl
  split at h
  · cases h
    rfl
  · split at h
    next hevents =>
      cases h
      exact hgive _ _ _ hevents
    next => exact hgive _ _ _ h

theorem retireNewest_suspended (z : Zone) (s : State) : (retireNewest z s).bgd.suspended = s.bgd.suspended := by
  unfold retireNewest
  split
  · exact noteRetired_suspended z _
  next r hr =>
    dsimp only
    rw [noteRetired_suspended]
    exact congrArg Bgd.suspended (replacement_bgd hr)

/-! ### An erase begins (R476, R477, R482) -/

theorem exec_erase {good : Bool} (hsec : isUp s .sec = true) (hbgd : isUp s .bgd = true) (hreleased : s.bgd.released = true)
    (hbrown : s.pwr.brown.active = false) (hfew : (zoneOf s.flash z).free.length ≤ 1) (hnone : (zoneOf s.flash z).erasing = none)
    (hruns : s.bgd.suspended.getLsbD 2 = false) : exec (.erase z good) s = .next (settle (beginErase z good s)) := by
  show execErase z good s = _
  rw [execErase, hsec, hbgd, hreleased, hbrown]
  simp only [hnone, decide_eq_true hfew, Option.isNone_none, Bool.and_self, Bool.not_false, guarded_true, done_eq,
    endWearSuspension_of_running hruns]

/-- BGD shows the wear manager at work. -/
def wearActive (s : State) : State := { s with bgd := { s.bgd with active := setBit s.bgd.active 2 } }

theorem beginErase_of_taken {n : Nat} {u : State} (h : takeForErase z s = some (n, u)) :
    beginErase z true s = setZone z { zoneOf u.flash z with erasing := some n, suspended := false } (wearActive u) := by
  rw [beginErase, h]
  rfl

theorem takeForErase_of_dirty (h : (zoneOf s.flash z).dirty ≠ []) : takeForErase z s = some (leastOf (zoneOf s.flash z).dirty,
    setZone z { zoneOf s.flash z with dirty := (zoneOf s.flash z).dirty.erase (leastOf (zoneOf s.flash z).dirty) } s) := by
  rw [takeForErase, takeLeast_of_some h]

theorem takeForErase_of_oldest {c d : FlashBlock} {r : List FlashBlock} (hdirty : (zoneOf s.flash z).dirty = [])
    (hused : (zoneOf s.flash z).used = c :: d :: r) : takeForErase z s
      = some (c.erases, setZone z { zoneOf s.flash z with used := d :: r } (dropOldest z s)) := by
  have hnone : takeLeast (zoneOf s.flash z).dirty = none := by rw [hdirty]; rfl
  rw [takeForErase, hnone]
  simp only [hused]

theorem wearActive_setZone (z : Zone) (x : FlashZone) (s : State) : wearActive (setZone z x s) = setZone z x (wearActive s) := rfl

/-- A free block that is not erased is taken first, the one of the lowest erase count. -/
theorem beginErase_of_dirty (h : (zoneOf s.flash z).dirty ≠ []) : beginErase z true s = setZone z { zoneOf s.flash z with
    dirty := (zoneOf s.flash z).dirty.erase (leastOf (zoneOf s.flash z).dirty), erasing := some (leastOf (zoneOf s.flash z).dirty)
    suspended := false } (wearActive s) := by
  rw [beginErase_of_taken (takeForErase_of_dirty h), wearActive_setZone, setZone_setZone, zoneOf_setZone]

/-- Without one the oldest block is taken, after its records are removed. -/
theorem beginErase_of_oldest {c d : FlashBlock} {r : List FlashBlock} (hdirty : (zoneOf s.flash z).dirty = [])
    (hused : (zoneOf s.flash z).used = c :: d :: r) : beginErase z true s = setZone z { zoneOf s.flash z with
      used := d :: r, erasing := some c.erases, suspended := false } (wearActive (dropOldest z s)) := by
  rw [beginErase_of_taken (takeForErase_of_oldest hdirty hused), wearActive_setZone, setZone_setZone, zoneOf_setZone]

/-- The removal of records writes the oldest index and the list of its zone. -/
theorem dropOldest_frame (z : Zone) (s : State) : dropOldest z s = { s with
    bil := { s.bil with oldestIndex := (dropOldest z s).bil.oldestIndex, ledger := (dropOldest z s).bil.ledger }
    flash := { s.flash with eventOldest := (dropOldest z s).flash.eventOldest, log := (dropOldest z s).flash.log } } := by
  cases z <;> rfl

/-- The ledger keeps the records from the new oldest index on. -/
theorem dropOldest_ledger (s : State) : (dropOldest .ledger s).bil.oldestIndex = satAdd s.bil.oldestIndex 15
    ∧ ∀ e ∈ (dropOldest .ledger s).bil.ledger, e ∈ s.bil.ledger ∧ (dropOldest .ledger s).bil.oldestIndex.toNat ≤ e.record.index.toNat := by
  refine ⟨rfl, fun e he => ?_⟩
  obtain ⟨hmem, hle⟩ := List.mem_filter.mp he
  exact ⟨hmem, of_decide_eq_true hle⟩

/-- The event log keeps the events from the new oldest index on. -/
theorem dropOldest_events (s : State) : (dropOldest .events s).flash.eventOldest = satAdd s.flash.eventOldest 127
    ∧ ∀ e ∈ (dropOldest .events s).flash.log, e ∈ s.flash.log ∧ (dropOldest .events s).flash.eventOldest.toNat ≤ e.1.toNat := by
  refine ⟨rfl, fun e he => ?_⟩
  obtain ⟨hmem, hle⟩ := List.mem_filter.mp he
  exact ⟨hmem, of_decide_eq_true hle⟩

/-! ### An erase ends (R476) -/

theorem exec_eraseDone {c : Nat} (hsec : isUp s .sec = true) (herasing : (zoneOf s.flash z).erasing = some c)
    (hruns : (zoneOf s.flash z).suspended = false) (hbrown : s.pwr.brown.active = false) :
    ∃ b : Bgd, exec (.eraseDone z) s = .next (settle { setZone z { zoneOf s.flash z with
      erasing := none, free := (zoneOf s.flash z).free ++ [c + 1] } s with bgd := b }) := by
  show ∃ b : Bgd, execEraseDone z s = _
  rw [execEraseDone]
  simp only [herasing, hsec, hruns, hbrown, Bool.not_false, Bool.and_self, guarded_true, done_eq]
  exact ⟨_, rfl⟩

/-! ### Worn blocks (R478) -/

theorem exec_wearCopy {i : Nat} (hruns : engineRuns s 2 = true) (hsec : isUp s .sec = true) (hworn : wornBlock s z = some i) :
    exec (.wearCopy z true) s = .next (settle (wearCopy z true i s)) := by
  show execWearCopy z true s = _
  rw [execWearCopy, hworn]
  simp only [hruns, hsec, Bool.and_self, guarded_true, done_eq]

/-- The worn block is one in use, more than 2000 erases above the least of the flash. -/
theorem wornBlock_spec {i : Nat} (h : wornBlock s z = some i) :
    ∃ c, (zoneOf s.flash z).used[i]? = some c ∧ leastOf (allCounts s) + 2000 < c.erases := by
  obtain ⟨hlt, hworn, -⟩ := List.findIdx?_eq_some_iff_getElem.mp h
  exact ⟨_, List.getElem?_eq_getElem hlt, of_decide_eq_true hworn⟩

theorem wearCopy_of_free {i : Nat} {c : FlashBlock} (hfree : (zoneOf s.flash z).free ≠ []) (hused : (zoneOf s.flash z).used[i]? = some c) :
    wearCopy z true i s = setZone z { zoneOf s.flash z with
      used := (zoneOf s.flash z).used.set i { c with erases := leastOf (zoneOf s.flash z).free }
      free := (zoneOf s.flash z).free.erase (leastOf (zoneOf s.flash z).free)
      dirty := (zoneOf s.flash z).dirty ++ [c.erases] } s := by
  rw [wearCopy, takeLeast_of_some hfree]
  simp only [if_true, List.getD_eq_getElem?_getD, hused, Option.getD_some]

end

/-- Settles O54: a record by the room of the newest block, a suspension by what is left of the reserves, an erase by the block it takes, its
end, and a worn block's copy. -/
theorem logFlashZones : Obligations.LogFlashZones := by
  unfold Obligations.LogFlashZones
  intro s z hsec
  refine ⟨fun hroom => ?room, fun hfull hfree => ?full, fun hfull hfree => ?none, fun good => ?suspension,
    fun hbgd hreleased hbrown hfew hnone hruns => ⟨fun hdirty => ?unerased, fun c d r hdirty hused => ?oldest⟩,
    fun c herasing hruns hbrown => ?ends, fun hruns i hworn hfree => ?worn⟩
  case room => rw [exec_logFlashWrite hsec, if_pos rfl, takePlace_of_room hroom]
  case full =>
    refine ⟨_, leastOf_mem hfree, fun m hm => leastOf_le hm, nextBlock _ _, rfl, rfl, fun y hy => nextBlock_logical _ hy, ?_⟩
    rw [exec_logFlashWrite hsec, if_pos rfl, takePlace_of_full hfull hfree]
    rfl
  case none => rw [exec_logFlashWrite hsec, if_pos rfl, takePlace_of_none hfull hfree]
  case suspension =>
    let u := if good then takePlace z s else retireNewest z (takePlace z s)
    have hsusp : u.bgd.suspended = s.bgd.suspended := by
      cases good
      · exact (retireNewest_suspended z _).trans (congrArg Bgd.suspended (takePlace_bgd z s))
      · exact congrArg Bgd.suspended (takePlace_bgd z s)
    refine ⟨_, exec_logFlashWrite hsec z good, fun hlow => ?_⟩
    obtain ⟨hover, hlogged⟩ := endWearSuspension_low (s := u) hlow
    exact ⟨hover, fun hwas => hlogged (hsusp ▸ hwas)⟩
  case unerased =>
    refine ⟨_, leastOf_mem hdirty, fun m hm => leastOf_le hm, ?_⟩
    rw [exec_erase hsec hbgd hreleased hbrown hfew hnone hruns, beginErase_of_dirty hdirty]
    rfl
  case oldest =>
    rw [exec_erase hsec hbgd hreleased hbrown hfew hnone hruns, beginErase_of_oldest hdirty hused]
    refine ⟨_, rfl, zoneOf_setZone .., ?_, ?_, ?_, ?_⟩
    · rintro rfl
      exact dropOldest_ledger s
    · rintro rfl
      exact dropOldest_events s
    · rw [dropOldest_frame]
      rfl
    · rw [dropOldest_frame]
      rfl
  case ends =>
    obtain ⟨b, hexec⟩ := exec_eraseDone hsec herasing hruns hbrown
    exact ⟨_, hexec, zoneOf_setZone .., rfl⟩
  case worn =>
    obtain ⟨c, hused, hover⟩ := wornBlock_spec hworn
    refine ⟨_, leastOf_mem hfree, fun m hm => leastOf_le hm, c, hused, hover, ?_⟩
    rw [exec_wearCopy hruns hsec hworn, wearCopy_of_free hfree hused]

end Sys2Proof.Machine
end

section
/-! Self-test requests (20): a test that waits, one that is held until the session ends, a BIST run with its reset (R490, R491, R498). -/

namespace Sys2Proof.Machine

section
variable {s : State} {rq : Requester} {code : Nat} {queue : Bool}

/-! ### The value of SelfTestRequest (R489) -/

theorem ofLe_leBytes_two {n : Nat} (h : n < 65536) : ofLe (leBytes 2 n) = n := by
  simp only [leBytes, ofLe, BitVec.toNat_ofNat]
  omega

theorem requestValue (h : code < 256) (queue : Bool) : ofLe (leBytes 2 (code + 256 * bit queue)) = code + 256 * bit queue := by
  have hbit : bit queue ≤ 1 := by cases queue <;> decide
  exact ofLe_leBytes_two (by omega)

theorem requestValue_code (h : code < 256) (queue : Bool) :
    BitVec.ofNat 8 (ofLe (leBytes 2 (code + 256 * bit queue))) = BitVec.ofNat 8 code := by
  rw [requestValue h]
  apply BitVec.eq_of_toNat_eq
  rw [BitVec.toNat_ofNat, BitVec.toNat_ofNat]
  exact Nat.add_mul_mod_self_left ..

theorem requestValue_queue (h : code < 256) (queue : Bool) : (ofLe (leBytes 2 (code + 256 * bit queue))).testBit 8 = queue := by
  rw [requestValue h, Nat.testBit_eq_decide_div_mod_eq]
  cases queue with
  | true => exact decide_eq_true (by show (code + 256 * 1) / 256 % 2 = 1; omega)
  | false => exact decide_eq_false (by show ¬ (code + 256 * 0) / 256 % 2 = 1; omega)

/-- The effect of an accepted request is that of its code and its queue bit. -/
theorem actionEffect_selfTest (h : code < 256) (queue : Bool) (s : State) :
    actionEffect (od 0x24 0) (leBytes 2 (code + 256 * bit queue)) s = selfTestRequest (BitVec.ofNat 8 code) queue s := by
  show selfTestRequest (BitVec.ofNat 8 (ofLe _)) ((ofLe _).testBit 8) s = _
  rw [requestValue_code h, requestValue_queue h]

/-! ### A request by its kind (R490, R498) -/

/-- Outcomes 5 and 6 are no end: they take no time, and nothing is logged. -/
theorem setOutcome_of_pending {c : Byte} {o : BitVec 4} (items : Nat) (h : 4 < o.toNat) (s : State) : setOutcome c o items s
    = { s with tst := { s.tst with code := c, outcome := o, result := resultWord c o items } } :=
  if_neg (Nat.not_le.mpr h)

theorem selfTestRequest_held {c : Byte} (hsession : inSession s = true) (hbarred : barredInSession c = true) :
    selfTestRequest c true s = ⟨stOk, setOutcome c 5 0 { s with tst := { s.tst with held := some c } }, .nothing⟩ := by
  rw [selfTestRequest, hsession, hbarred]
  rfl

theorem selfTestRequest_loopback {c : Byte} (hfree : inSession s = false ∨ barredInSession c = false) (hloop : isBist c = false) :
    selfTestRequest c queue s = ⟨stOk, beginTest c s, .nothing⟩ := by
  have hnow : (inSession s && barredInSession c && queue) = false := by
    rcases hfree with h | h <;> simp [h]
  rw [selfTestRequest, hnow, hloop]
  rfl

theorem selfTestRequest_bist {c : Byte} (hfree : inSession s = false) (hbist : isBist c = true) :
    selfTestRequest c queue s = ⟨stOk, setOutcome c 6 0 s, .bist c⟩ := by
  rw [selfTestRequest, hfree, hbist]
  rfl

/-- The six loopback requests, by their codes, none of them a BIST code (Table 20-1). -/
theorem exec_selfTest {c : Instr} (h : (c, code) ∈ [(Instr.selfTestPilotLoopback rq queue, 1), (Instr.selfTestReference rq queue, 2),
    (Instr.selfTestWinding rq queue, 3), (Instr.selfTestLineLoopback rq queue, 4), (Instr.selfTestClassD rq queue, 5),
    (Instr.selfTestAll rq queue, 6)]) : isBist (BitVec.ofNat 8 code) = false ∧ code < 256 ∧ ∀ s, exec c s = done (selfTestRow rq code queue s) := by
  simp only [List.mem_cons, Prod.mk.injEq, List.not_mem_nil, or_false] at h
  rcases h with ⟨rfl, rfl⟩ | ⟨rfl, rfl⟩ | ⟨rfl, rfl⟩ | ⟨rfl, rfl⟩ | ⟨rfl, rfl⟩ | ⟨rfl, rfl⟩ <;>
    exact ⟨by decide, by decide, fun _ => rfl⟩

/-- A BIST request is answered OK; AON keeps the run for the reset that waits (R498). -/
theorem bist_answered {a : BitVec 16} {v : Bytes} {u : State} {c : Byte} (h : Accepted rq false a v s) (hact : isAction a = true)
    (hlong : (odRow? a).map OdRow.long = some false) (heff : actionEffect a v s = ⟨stOk, u, .bist c⟩) :
    ∃ (o : Od) (x : Sec), o.lastStatus = 0
      ∧ done (actionRowWrite rq a v s) = .next (settle (awaitReset .odRestart (bistRequested c { u with od := o, sec := x }))) := by
  refine ⟨_, (respond rq 1 stOk [] u).sec, respond_lastStatus rq 1 stOk [] u, ?_⟩
  rw [done_eq, actionRowWrite_of_reply h.1 hlong ((writeEntry_of_accepted h hact).trans heff), runLater, ← respond_frame]

/-! ### The reset that begins the run (R102, R498) -/

theorem exec_heldResetRelease_bist (hheld : s.pwr.heldResets = [.odRestart]) (hpending : s.tst.pending = true) :
    exec .heldResetRelease s = .next (settle (bistReset (resetClose { s with pwr := { s.pwr with heldResets := [] } }))) := by
  have hpend : (resetClose { s with pwr := { s.pwr with heldResets := [] } }).tst.pending = true := by
    rw [resetClose_frame]
    exact hpending
  show execHeldResetRelease s = _
  rw [execHeldResetRelease, hheld]
  simp only [hpend]
  rfl

end

/-- Settles O41: a loopback test that waits or is held, a BIST run with the reset that it waits for, and that reset. -/
theorem selfTestRequests : Obligations.SelfTestRequests := by
  unfold Obligations.SelfTestRequests
  intro s rq queue
  refine ⟨fun c code hc h => ?loopback, fun c code hc hbist h hfree => ?bist, fun hpending hheld => ?reset⟩
  case loopback =>
    obtain ⟨hloop, hcode, hexec⟩ := exec_selfTest hc
    rw [hexec s]
    refine ⟨fun hfree => ?waits, fun hsession hbarred hqueue => ?held⟩
    case waits =>
      have heff := (actionEffect_selfTest hcode queue s).trans (selfTestRequest_loopback hfree hloop)
      rw [beginTest, setOutcome_of_pending 0 (by decide)] at heff
      obtain ⟨o, y, x, n, hok, hrow⟩ := action_answered h rfl rfl heff (.inl rfl)
      exact ⟨_, hrow, hok, rfl, rfl, rfl, rfl⟩
    case held =>
      subst hqueue
      have heff := (actionEffect_selfTest hcode true s).trans (selfTestRequest_held hsession hbarred)
      rw [setOutcome_of_pending 0 (by decide)] at heff
      obtain ⟨o, y, x, n, hok, hrow⟩ := action_answered h rfl rfl heff (.inl rfl)
      exact ⟨_, hrow, hok, rfl, rfl, rfl⟩
  case bist =>
    have hexec : exec c s = done (selfTestRow rq code.toNat queue s) := by
      rcases hc with rfl | ⟨rfl, rfl⟩ <;> rfl
    have heff := actionEffect_selfTest code.isLt queue s
    rw [BitVec.ofNat_toNat, BitVec.setWidth_eq, selfTestRequest_bist hfree hbist, setOutcome_of_pending 0 (by decide)] at heff
    obtain ⟨o, x, hok, hrow⟩ := bist_answered h rfl rfl heff
    exact ⟨_, hexec.trans hrow, hok, rfl, rfl, rfl, rfl, rfl, rfl, rfl⟩
  case reset =>
    rw [exec_heldResetRelease_bist hheld hpending, resetClose_frame]
    refine ⟨_, rfl, rfl, rfl, ?_, ?_, ?_, rfl, rfl⟩
    · exact causeBit_markCause .odRestart s.rst
    · show (s.tst.pending && true) = true
      rw [hpending]
      rfl
    · exact hpending

end Sys2Proof.Machine
end

section
/-! Firmware streams in running code (21): a first PDU, one out of order, the hand-over to the loader and a stall (R513, R514, R516). -/

namespace Sys2Proof.Machine

section
variable {s : State} {rq : Requester} {p : FwPdu}

/-! ### One PDU (R513) -/

theorem exec_fwImageBlock {first last : Bool} {off total : Word} {data : Bytes} (hserved : odServed s = true) (hone : 1 ≤ data.length)
    (hmax : data.length ≤ 200) : exec (.fwImageBlock rq first last off total data) s
      = .next (settle (fwImageBlock rq ⟨first, last, off.toNat, total.toNat, data⟩ s)) := by
  have hform : ¬ (data.length = 0 || 200 < data.length) = true := by
    rw [Bool.or_eq_true, decide_eq_true_eq, decide_eq_true_eq]
    omega
  show execFwImageBlock rq first last off total data s = _
  rw [execFwImageBlock, hserved, guarded_true, if_neg hform, done_eq]

/-- While SEC is in service a PDU is answered with the status of its stream, over the state that it leaves. -/
theorem fwImageBlock_answered {st : Nat} {u : State} (hsec : isUp s .sec = true) (h : streamPdu (rq.path = .mailbox) p s = (st, u)) :
    (fwImageBlock rq p s).od.lastStatus = BitVec.ofNat 8 st
      ∧ fwImageBlock rq p s = { u with od := (fwImageBlock rq p s).od, sec := (fwImageBlock rq p s).sec } := by
  have hanswer : ∃ b, fwImageBlock rq p s = respond rq 3 st b u := by
    rw [fwImageBlock, hsec]
    simp only [Bool.not_true, Bool.false_eq_true, if_false, h]
    exact ⟨_, rfl⟩
  obtain ⟨b, hb⟩ := hanswer
  rw [hb]
  exact ⟨respond_lastStatus .., respond_frame ..⟩

/-- A first PDU at offset 0, not the last, has the form of R513 where its total does. -/
theorem fwFormOk_of_first {total : Nat} {data : Bytes} (hone : 1 ≤ data.length) (hmax : data.length ≤ 200) (hblocks : total % 4096 = 0)
    (hlow : 8192 ≤ total) (hhigh : total ≤ 1028096) : fwFormOk ⟨true, false, 0, total, data⟩ = true := by
  simp [fwFormOk, hblocks, hlow, hhigh]
  omega

/-- The stream that a first PDU begins outside the loader (R514). -/
def streamBegun (mailbox : Bool) (total : Nat) (data : Bytes) (s : State) : State := { s with fw := { s.fw with
  stream := some ⟨mailbox, false, BitVec.ofNat 32 total, BitVec.ofNat 32 data.length, data⟩
  phase := 1, mode := false, error := 0, next := 0, total := 0 } }

theorem addToStream_of_part {x : Stream} (h : (x.part ++ p.data).length < 4096) : addToStream x p s = (stOk, { s with
    fw := { s.fw with stream := some { x with part := x.part ++ p.data, received := BitVec.ofNat 32 (p.offset + p.data.length) } } }) :=
  if_pos h

theorem newStream_of_running (mailbox : Bool) (p : FwPdu) (hrunning : s.pwr.loaderState = false) (hmode : s.od.fwUpdateMode = 0) :
    newStream mailbox p s = { s with fw := { s.fw with
      stream := some ⟨mailbox, false, BitVec.ofNat 32 p.total, 0, []⟩, phase := 1, mode := false, error := 0, next := 0, total := 0 } } := by
  rw [newStream, hrunning, hmode]
  rfl

theorem streamPdu_of_first {mailbox : Bool} {total : Nat} {data : Bytes} (hrunning : s.pwr.loaderState = false) (hmay : mayStream s = true)
    (hnone : s.fw.stream = none) (hmode : s.od.fwUpdateMode = 0) (hform : fwFormOk ⟨true, false, 0, total, data⟩ = true)
    (hmax : data.length ≤ 200) : streamPdu mailbox ⟨true, false, 0, total, data⟩ s = (stOk, streamBegun mailbox total data s) := by
  have hpart : (([] : Bytes) ++ data).length < 4096 := by
    rw [List.nil_append]
    omega
  rw [streamPdu]
  simp only [hnone, hmode, hrunning, hmay, hform, newStream_of_running _ _ hrunning hmode, decide_true, Bool.and_self, if_true,
    Bool.not_true, Bool.not_false, Bool.and_false, Bool.false_eq_true, if_false]
  rw [addToStream_of_part hpart]
  simp only [Nat.zero_add]
  rfl

/-- A later PDU at another offset than the stream's is refused, and changes nothing (R513). -/
theorem streamPdu_of_gap {x : Stream} {last : Bool} {off total : Nat} {data : Bytes} (hstream : s.fw.stream = some x)
    (hchecked : x.deferred = false) (hgap : off ≠ x.received.toNat) :
    streamPdu x.mailbox ⟨false, last, off, total, data⟩ s = (stOrder, s) := by
  have hresume : resumes ⟨false, last, off, total, data⟩ s = false := by simp [resumes, hstream]
  rw [streamPdu]
  simp only [hstream, hchecked, hresume, hgap, bne_self_eq_false, Bool.false_and, Bool.false_eq_true, if_false, decide_false, ite_self]

/-! ### The hand-over (R516) -/

/-- The update area asks the loader for the update (Table 21-4). -/
def updateRequested (s : State) : State := { s with
  pwr := { s.pwr with handoverDue := false }
  fw := { s.fw with request := 1, areaMode := if s.fw.mode then 1 else 0, areaTotal := s.fw.total } }

theorem exec_loaderHandover (hdue : s.pwr.handoverDue = true) (hrunning : s.pwr.loaderState = false) (hfree : resetWaits .loader s = false) :
    exec .loaderHandover s = .next (settle (wholeReset .loader (resetClose (updateRequested s)))) := by
  show execLoaderHandover s = _
  rw [execLoaderHandover, hdue, hrunning]
  exact next_settle (heldBackReset_of_free (s := updateRequested s) hfree)

/-- A reset keeps the update area (R81, Table 21-4). -/
theorem wholeReset_updateArea (c : ResetCause) (s : State) :
    (wholeReset c s).fw.request = s.fw.request ∧ (wholeReset c s).fw.areaTotal = s.fw.areaTotal := by
  cases h : s.pwr.resetHeld with
  | true =>
    rw [wholeReset_held h]
    exact ⟨rfl, rfl⟩
  | false =>
    rw [wholeReset_begins h, resetOnset, discardTest_frame]
    exact ⟨rfl, rfl⟩

/-! ### A stall (R516) -/

theorem exec_streamStall {x : Stream} (hstream : s.fw.stream = some x) (hfew : x.received.toNat < 4096) : exec .streamStall s
    = .next (settle { s with fw := { s.fw with stream := none, phase := if s.pwr.loaderState then s.fw.phase else 0 } }) := by
  show execStreamStall s = _
  rw [execStreamStall, hstream]
  simp only [hfew, decide_true, guarded_true, done_eq]

end

/-- Settles O43: a first PDU by the stream that it begins, one at another offset by its refusal, the hand-over and the stall. -/
theorem firmwareStreams : Obligations.FirmwareStreams := by
  unfold Obligations.FirmwareStreams
  intro s rq
  refine ⟨fun total data hserved hsec hrunning hmay hnone hmode hone hmax hblocks hlow hhigh => ?first,
    fun x last off total data hserved hsec hstream hpath hchecked hone hmax hgap => ?gap, fun hdue hrunning hfree => ?handover,
    fun x hstream hfew => ⟨_, exec_streamStall hstream hfew, rfl, rfl, rfl⟩⟩
  case first =>
    have hpdu := streamPdu_of_first (mailbox := decide (rq.path = .mailbox)) hrunning hmay hnone hmode
      (fwFormOk_of_first hone hmax hblocks hlow hhigh) hmax
    obtain ⟨hok, hframe⟩ := fwImageBlock_answered hsec hpdu
    refine ⟨_, exec_fwImageBlock hserved hone hmax, hok, ?_⟩
    rw [show (0 : Word).toNat = 0 from rfl, hframe, streamBegun, BitVec.ofNat_toNat, BitVec.setWidth_eq]
    exact ⟨rfl, rfl, rfl, rfl, rfl⟩
  case gap =>
    have hpdu := streamPdu_of_gap (last := last) (total := total.toNat) (data := data) hstream hchecked
      fun h => hgap (BitVec.eq_of_toNat_eq h)
    rw [hpath] at hpdu
    obtain ⟨horder, hframe⟩ := fwImageBlock_answered hsec hpdu
    refine ⟨_, exec_fwImageBlock hserved hone hmax, horder, ?_⟩
    rw [hframe]
    rfl
  case handover =>
    obtain ⟨hheld, hcause, -, -⟩ := wholeReset_power .loader (resetClose (updateRequested s))
    obtain ⟨hrequest, htotal⟩ := wholeReset_updateArea .loader (resetClose (updateRequested s))
    obtain ⟨hclock, -⟩ := wholeReset_resetClose_retains .loader (updateRequested s)
    refine ⟨_, exec_loaderHandover hdue hrunning hfree, hheld, hcause, ?_, ?_, hclock⟩
    · exact hrequest.trans (by rw [resetClose_frame]; rfl)
    · exact htotal.trans (by rw [resetClose_frame]; rfl)

end Sys2Proof.Machine
end

section
/-! A Mirror statement at the end of MirrorCount's range (14): the model's count saturates where the statement has it wrap (R356). -/

namespace Sys2Proof.Machine

/-- A statement leaves MirrorCount where signing fails, and counts it one up, up to its largest value, otherwise. -/
theorem mirrorSigned_mirrorCount (body : Bytes) (sig : Option Bytes) (s : State) :
    (mirrorSigned body sig s).sec.mirrorCount = s.sec.mirrorCount ∨ (mirrorSigned body sig s).sec.mirrorCount = satInc s.sec.mirrorCount := by
  cases sig with
  | none => exact .inl rfl
  | some x => exact .inr rfl

/-- A served statement is built and signed over the state it finds. -/
theorem exec_mirrorStatementReady {s : State} {n : Bytes} (hup : isUp s .sec = true) (hopen : s.sec.scanLock = false)
    (hn : s.sec.mirrorNonce = some n) (hgood : s.sec.signFault = false) (hfirst : recordFirst s = false) :
    exec .mirrorStatementReady s = .next (settle (buildMirror n s)) := by
  show execMirrorStatementReady s = _
  rw [execMirrorStatementReady, hn]
  show done (guarded (isUp s .sec && !s.sec.scanLock && !s.sec.signFault && !recordFirst s) (buildMirror n) s) = _
  rw [hup, hopen, hgood, hfirst]
  exact done_eq _

/-! ### A state that is signed and whose count is at its end -/

/-- The state `mirrored`, whose statement is signed, with MirrorCount at its largest value. -/
def mirroredFull : State := { mirrored with sec := { mirrored.sec with mirrorCount := 0xFFFFFFFF } }

/-- The body that the statement of O44 names there: its count wraps to 0. -/
def wrappedBody : Bytes := mirrorBody (zeros 16) (mirroredFull.sec.mirrorCount + 1) mirroredFull

/-- The hash of that body. -/
def wrappedHash : Bytes := beBytes 32 0x31D2B0EDB498F19D49DD803EE78D5453765E2E0049EC6B186D20C4F6627CEEC5

/-- The signature of that body. -/
def wrappedSignature : Bytes := beBytes 32 0xB6600FEA942CD6A2C0AB5C0D1A39FD1F2740A807466879B7D790585036A0F8EC
    ++ beBytes 32 0x9FA10E54C8005BA775B9CEFECECB839E9A096AA7EE60BC935BC8652B52C93E24

theorem sha256_wrappedBody : sha256 wrappedBody = wrappedHash := by decide +kernel
theorem ecdsaTry_wrappedHash : ecdsaTry mirrorD mirrorK wrappedHash 0#8 = some wrappedSignature := by decide +kernel
theorem ecdsaVerify_wrappedHash : ecdsaVerify mirrorP wrappedHash wrappedSignature = true := by decide +kernel

/-- The wrapped body can be signed, so the hypotheses of the statement's third clause are met. -/
theorem mirrorSignature_wrappedBody : mirrorSignature wrappedBody mirroredFull = some wrappedSignature := by
  have hkeys : identity mirroredFull = mirrorD := by decide +kernel
  have hnonce : hkdf [] (slotKey mirroredFull 3) (ascii "HL-NONCE-M") 32 = mirrorK := by decide +kernel
  rw [mirrorSignature, sha256_wrappedBody, hnonce, hkeys]
  exact ecdsaSign_first test_mirror_public ecdsaTry_wrappedHash ecdsaVerify_wrappedHash

/-- A count at its largest value stays there, whatever signing gives. -/
theorem buildMirror_of_full {s : State} (n : Bytes) (hfull : satInc s.sec.mirrorCount = s.sec.mirrorCount) :
    (settle (buildMirror n s)).sec.mirrorCount = s.sec.mirrorCount := by
  rw [settle_sec, buildMirror]
  obtain h | h := mirrorSigned_mirrorCount (mirrorBody n (satInc s.sec.mirrorCount) s)
    (mirrorSignature (mirrorBody n (satInc s.sec.mirrorCount) s) s) s
  · exact h
  · exact h.trans hfull

/-- Refutes O44: with MirrorCount at FFFFFFFFh a statement leaves it there, since the model's counters saturate, and the statement has it
wrap to 0. The state is `mirroredFull`, and the body with the count 0 is one that the device's keys sign. -/
theorem not_keysAndMirror : ¬ Obligations.KeysAndMirror := by
  unfold Obligations.KeysAndMirror
  intro h
  have hup : isUp mirroredFull .sec = true := by decide +kernel
  have hnonce : mirroredFull.sec.mirrorNonce = some (zeros 16) := by decide +kernel
  have hgood : mirroredFull.sec.signFault = false := by decide +kernel
  have hfirst : recordFirst mirroredFull = false := by decide +kernel
  have hopen : mirroredFull.sec.scanLock = false := by decide +kernel
  obtain ⟨-, -, hstatement, -⟩ := h mirroredFull hup hopen
  obtain ⟨t, ht, -, hcount, -⟩ := hstatement (zeros 16) wrappedSignature hnonce hgood hfirst mirrorSignature_wrappedBody
  rw [exec_mirrorStatementReady hup hopen hnonce hgood hfirst] at ht
  have hfull : satInc mirroredFull.sec.mirrorCount = mirroredFull.sec.mirrorCount := by decide +kernel
  have hstay : t.sec.mirrorCount = mirroredFull.sec.mirrorCount := by
    injection ht with ht
    exact ht ▸ buildMirror_of_full (zeros 16) hfull
  exact absurd (hcount.symm.trans hstay) (by decide +kernel)

end Sys2Proof.Machine
end

section
/-! The link's queues and access to the medium (15, 16): what access changes, and QueuesAndAccess (R377, R378, R379, R384, R392, R403). -/

namespace Sys2Proof.Machine

/-! ### What the link's operations change -/

/-- From s to t at most PLC's own block differs. -/
def OnlyLink (s t : State) : Prop := t = { s with plc := t.plc }

theorem OnlyLink.trans {s t u : State} (h : OnlyLink s t) (h' : OnlyLink t u) : OnlyLink s u := by
  unfold OnlyLink at *
  rw [h', h]

/-- From s to t at most the access to the medium differs: its window or slot, the frame in access, and the marks of the waiting frames. -/
def OnlyAccess (s t : State) : Prop := t = { s with plc := { s.plc with
  access := t.plc.access, current := t.plc.current, q0 := t.plc.q0, q1 := t.plc.q1, q2 := t.plc.q2, repeats := t.plc.repeats } }

theorem OnlyAccess.onlyLink {s t : State} (h : OnlyAccess s t) : OnlyLink s t := by
  unfold OnlyAccess at h
  unfold OnlyLink
  rw [h]

section
variable {s t : State} (h : OnlyAccess s t)
include h

theorem OnlyAccess.tx : t.plc.tx = s.plc.tx := by rw [h]
theorem OnlyAccess.ackWindow : t.plc.ackWindow = s.plc.ackWindow := by rw [h]
theorem OnlyAccess.relayed : t.plc.relayed = s.plc.relayed := by rw [h]
theorem OnlyAccess.fid : t.plc.fid = s.plc.fid := by rw [h]
theorem OnlyAccess.refused : t.plc.refused = s.plc.refused := by rw [h]
theorem OnlyAccess.framesLost : t.plc.framesLost = s.plc.framesLost := by rw [h]
theorem OnlyAccess.modes : t.plc.modes = s.plc.modes := by rw [h]
theorem OnlyAccess.shortHold : t.plc.shortHold = s.plc.shortHold := by rw [h]
theorem OnlyAccess.thermal : t.plc.thermal = s.plc.thermal := by rw [h]
theorem OnlyAccess.aborts : t.plc.aborts = s.plc.aborts := by rw [h]
theorem OnlyAccess.od : t.od = s.od := by rw [h]
theorem OnlyAccess.flash : t.flash = s.flash := by rw [h]

end

theorem beginAccess_onlyAccess (s : State) : OnlyAccess s (beginAccess s) := by
  unfold beginAccess
  repeat' split
  all_goals rfl

/-- Access begins only while the medium has been idle. -/
theorem beginAccess_of_not_idle {s : State} (h : s.plc.idle = false) : beginAccess s = s := by simp [beginAccess, h]

/-- With no frame that could take access nothing begins. -/
theorem beginAccess_of_no_candidate {s : State} (h : candidate s = none) : beginAccess s = s := by
  rw [beginAccess, h]
  split <;> rfl

/-- A frame's own access, copy or window comes first. -/
theorem beginAccess_of_underWay {s : State} (h : underWay s = true) : beginAccess s = s := by simp [beginAccess, h]

/-- The frame whose turn it is begins access once the medium is idle and its paths can carry a copy. -/
theorem beginAccess_starts {s : State} {f : OutFrame} (hup : isUp s .plc = true) (hidle : s.plc.idle = true) (hspan : s.plc.spanHold = false)
    (hfree : underWay s = false) (hf : candidate s = some f) (hready : (linkPaths s f).all (pathReady s) = true) :
    beginAccess s = startAccess f s := by
  rw [beginAccess, hup, hidle, hspan, hfree, hf]
  exact if_pos hready

/-- Access marks frames of a queue; it neither adds nor removes one. -/
theorem queueOf_beginAccess_length (s : State) (p : BitVec 2) : (queueOf (beginAccess s) p).length = (queueOf s p).length := by
  have hmarked (f : OutFrame) : (queueOf (startAccess f s) p).length = (queueOf s p).length := by
    unfold queueOf startAccess updateFrame
    split_ifs <;> exact List.length_map _
  unfold beginAccess
  repeat' split
  · exact hmarked _
  all_goals rfl

section
variable {s : State}

/-! ### Frames handed over (R384) -/

theorem handOver_joins {h : Handover} (hok : handoverOk s h = true) (hroom : (queueOf s h.prio).length < 8) :
    handOver h s = beginAccess (pushFrame (newFrame s h) { s with plc := { s.plc with fid := s.plc.fid + 1 } }) := by
  rw [handOver, hok, Bool.not_true, if_neg Bool.false_ne_true, if_neg (by omega)]

theorem handOver_refused {h : Handover} (hok : handoverOk s h = true) (hfull : 8 ≤ (queueOf s h.prio).length) :
    handOver h s = refuseFrame h.isNotify s := by
  rw [handOver, hok, Bool.not_true, if_neg Bool.false_ne_true, if_pos hfull]

/-- A frame that joins stands last in the queue of its priority. -/
theorem queueOf_pushFrame (f : OutFrame) (s : State) : queueOf (pushFrame f s) f.prio = queueOf s f.prio ++ [f] := by
  unfold queueOf pushFrame
  split_ifs <;> rfl

theorem pushFrame_onlyAccess (f : OutFrame) (s : State) : OnlyAccess s (pushFrame f s) := by
  unfold pushFrame
  split_ifs <;> rfl

/-- The state in which a frame that was handed over has joined its queue. -/
def frameJoined (h : Handover) (s : State) : State :=
  pushFrame (newFrame s h) { takeOut h.payload s with plc := { s.plc with fid := s.plc.fid + 1 } }

theorem exec_frameHandover {h : Handover} (hok : handoverOk s h = true) (hroom : (queueOf s h.prio).length < 8) :
    exec (.frameHandover h) s = .next (settle (beginAccess (frameJoined h s))) :=
  congrArg (fun t => Host.Outcome.next (settle t)) (handOver_joins (s := takeOut h.payload s) hok hroom)

theorem exec_frameHandover_full {h : Handover} (hok : handoverOk s h = true) (hfull : 8 ≤ (queueOf s h.prio).length) :
    exec (.frameHandover h) s = .next (settle (refuseFrame h.isNotify (takeOut h.payload s))) :=
  congrArg (fun t => Host.Outcome.next (settle t)) (handOver_refused (s := takeOut h.payload s) hok hfull)

theorem queueOf_frameJoined (h : Handover) (s : State) : queueOf (frameJoined h s) h.prio = queueOf s h.prio ++ [newFrame s h] :=
  queueOf_pushFrame (newFrame s h) _

theorem frameJoined_access (h : Handover) (s : State) :
    OnlyAccess { takeOut h.payload s with plc := { s.plc with fid := s.plc.fid + 1 } } (frameJoined h s) := pushFrame_onlyAccess _ _

/-! ### The medium turns idle or busy (R377, R392) -/

/-- The state in which the medium has turned idle. -/
def mediumQuiet (s : State) : State :=
  { s with plc := { s.plc with busy := false, idle := s.plc.tx.isNone, busyUs := 0 }, net := { s.net with fpBusyLogged := false } }

theorem exec_mediumIdle (hup : isUp s .plc = true) (hclose : s.net.closeDue = false) :
    exec .mediumIdle s = .next (settle (beginAccess (mediumQuiet s))) := by
  show execMediumIdle s = _
  rw [execMediumIdle, hup, guarded_true, done_eq]
  exact congrArg (fun t => Host.Outcome.next (settle (beginAccess t))) (if_neg (by simp [hclose]))

theorem exec_mediumIdle_starts {f : OutFrame} (hup : isUp s .plc = true) (hclose : s.net.closeDue = false) (htx : s.plc.tx = none)
    (haccess : s.plc.access = .none) (hwindow : s.plc.ackWindow = none) (hspan : s.plc.spanHold = false) (hf : candidate s = some f)
    (hready : (linkPaths s f).all (pathReady s) = true) :
    exec .mediumIdle s = .next (settle (startAccess f (mediumQuiet s))) := by
  have hidle : (mediumQuiet s).plc.idle = true := congrArg Option.isNone htx
  have hfree : underWay (mediumQuiet s) = false := by
    show underWay s = false
    rw [underWay, haccess, htx, hwindow]
    rfl
  rw [exec_mediumIdle hup hclose, beginAccess_starts (s := mediumQuiet s) hup hidle hspan hfree hf hready]

theorem exec_mediumBusy (hup : isUp s .plc = true) (hawake : awake s = true) : exec .mediumBusy s = .next (settle (mediumTurnsBusy 0 s)) := by
  show execMediumBusy s = _
  rw [execMediumBusy, hup, hawake]
  rfl

theorem exec_fchDecode {b : Bytes} (h : receives s .line = true) :
    exec (.fchDecode b) s = .next (settle (mediumTurnsBusy (fchBusyUs s b) s)) := by
  show execFchDecode b s = _
  rw [execFchDecode, h]
  rfl

/-- A header that fails its CRC8 keeps the medium busy for the shortest frame. -/
theorem fchBusyUs_of_bad {b : Bytes} (h : crc8Ok b = false) : fchBusyUs s b = frameUs s.plc.bandC .q 0 := by
  rw [fchBusyUs, h]
  exact if_neg Bool.false_ne_true

/-! ### Windows, slots and waits (R378, R379) -/

variable {f : OutFrame}

theorem exec_accessSlot_window {k : Nat} (tone : Bool) (haccess : s.plc.access = .window k) (hf : s.plc.current = some f) :
    exec (.accessSlot tone) s = .next (settle (windowEnds k tone f s)) := by
  show execAccessSlot tone s = _
  rw [execAccessSlot, haccess, hf]
  rfl

/-- A tone in a window of higher priority breaks access off. -/
theorem windowEnds_of_tone {k : Nat} (h : k < f.prio.toNat) : windowEnds k true f s = deferAccess s := by simp [windowEnds, h]

/-- A silent window of higher priority is followed by the next one. -/
theorem windowEnds_of_silence {k : Nat} (h : k < f.prio.toNat) (hk : k < 2) :
    windowEnds k false f s = { s with plc := { s.plc with access := .window (k + 1) } } := by
  simp [windowEnds, nextWindow, h.ne, hk]

theorem exec_accessSlot_random {n : Nat} (tone : Bool) (haccess : s.plc.access = .random n) (hf : s.plc.current = some f) :
    exec (.accessSlot tone) s = .next (settle (if tone then deferAccess s else if n ≤ 1 then startFrame f s
      else { s with plc := { s.plc with access := .random (n - 1) } })) := by
  show execAccessSlot tone s = _
  rw [execAccessSlot, haccess, hf]
  rfl

theorem exec_bandCWaitEnd (free : Bool) (haccess : s.plc.access = .bandC) (hf : s.plc.current = some f) :
    exec (.bandCWaitEnd free) s = .next (settle (if free then startFrame f s else deferAccess s)) := by
  show execBandCWaitEnd free s = _
  rw [execBandCWaitEnd, haccess, hf]
  rfl

/-- The frame as its copy starts: the first copy takes the destination's mode (R376). -/
def modeFixed (s : State) (f : OutFrame) : OutFrame :=
  if f.repeats = false ∧ f.attempt = 0 ∧ f.sent = false then { f with firstMode := (destOf s f.dst).mode } else f

/-- The copy that is put on its paths. -/
def sentCopy (g : OutFrame) : OutFrame := { g with sent := true, placed := false, resent := g.resent || g.attempt != 0 }

/-- A frame whose paths are ready and whose copy ends before the next protected span is put on them. -/
theorem startFrame_sends (hready : (linkPaths s (modeFixed s f)).all (pathReady s) = true)
    (hspan : reachesSpan s (copyAndWindowUs s (modeFixed s f)) = false) :
    (startFrame f s).plc.access = .none ∧ (startFrame f s).plc.tx = some (sentCopy (modeFixed s f))
      ∧ (startFrame f s).plc.txPaths = linkPaths s (sentCopy (modeFixed s f)) := by
  have hfixed : (if (!f.repeats && decide (f.attempt = 0) && !f.sent) = true then { f with firstMode := (destOf s f.dst).mode } else f)
      = modeFixed s f := by
    unfold modeFixed
    congr 1
    simp [and_assoc]
  have hpaths (g : OutFrame) : linkPaths (updateFrame g (countAttempt (modeFixed s f) s)) g = linkPaths s g := by
    unfold countAttempt
    split_ifs <;> rfl
  unfold startFrame
  simp only [hfixed, hready, hspan, Bool.not_true, Bool.false_eq_true, if_false]
  exact ⟨rfl, rfl, hpaths (sentCopy (modeFixed s f))⟩

/-! ### Frames that are too old (R384) -/

/-- The state that a frame too old leaves, before another frame begins access. -/
def frameAged (f : OutFrame) (s : State) : State :=
  let u := removeFrame f (refuseFrame true (if s.plc.current.any (sameFrame f) then stopAccess s else s))
  if f.dst = 0xFF then u else stepRobust f.dst u

theorem exec_queueAgeDrop {p : BitVec 2} {i : Nat} (h : waitingAt s p i = some f) :
    exec (.queueAgeDrop p i) s = .next (settle (beginAccess (frameAged f s))) := by
  show execQueueAgeDrop p i s = _
  rw [execQueueAgeDrop, h]
  rfl

theorem exec_queueAgeDrop_none {p : BitVec 2} {i : Nat} (h : waitingAt s p i = none) : exec (.queueAgeDrop p i) s = .next (settle s) := by
  show execQueueAgeDrop p i s = _
  rw [execQueueAgeDrop, h]
  rfl

theorem frameAged_counts (f : OutFrame) (s : State) : (frameAged f s).plc.refused = satInc s.plc.refused
    ∧ (frameAged f s).plc.framesLost = satInc s.plc.framesLost ∧ (frameAged f s).plc.idle = s.plc.idle := by
  unfold frameAged
  split_ifs <;> exact ⟨rfl, rfl, rfl⟩

/-- The frame leaves its queue. -/
theorem queueOf_frameAged (f : OutFrame) (s : State) (p : BitVec 2) :
    queueOf (frameAged f s) p = (queueOf s p).filter fun x => !sameFrame x f := by
  unfold frameAged queueOf
  split_ifs <;> rfl

theorem exec_protectedSpanEnd (h : s.plc.idle = false) :
    exec .protectedSpanEnd s = .next (settle { s with plc := { s.plc with spanHold := false } }) := by
  exact congrArg (fun t => Host.Outcome.next (settle t)) (beginAccess_of_not_idle (s := { s with plc := { s.plc with spanHold := false } }) h)

end

/-- Settles O45: a frame joins its queue or is refused, access begins, breaks off and counts down, and a frame too old leaves. -/
theorem queuesAndAccess : Obligations.QueuesAndAccess := by
  unfold Obligations.QueuesAndAccess
  intro s
  refine ⟨fun h hok hroom => ⟨?_, fun hidle => ?_⟩, fun h hok hfull => ⟨_, exec_frameHandover_full hok hfull, rfl, rfl, rfl⟩,
    fun f hup hclose htx haccess hwindow hspan hf hready =>
      ⟨_, exec_mediumIdle_starts hup hclose htx haccess hwindow hspan hf hready, rfl, rfl, rfl⟩,
    fun hup hclose hnone => ?_, fun k f tone haccess hf => ⟨fun hk htone => ?_, fun hk htone hlast => ?_⟩,
    fun n f haccess hf => ⟨exec_accessSlot_random true haccess hf, fun hn => ?_, fun hn hready hspan => ?_⟩,
    fun f haccess hf => ⟨exec_bandCWaitEnd false haccess hf, fun hready hspan => ?_⟩,
    fun hup hawake => ⟨_, exec_mediumBusy hup hawake, rfl, rfl, rfl, rfl, rfl⟩,
    fun b hb => ⟨_, exec_fchDecode hb, rfl, rfl, rfl, fchBusyUs_of_bad⟩, exec_protectedSpanEnd,
    fun p i f hf => ?_, fun p i hnone => exec_queueAgeDrop_none hnone⟩
  · have hjoined := frameJoined_access h s
    have hbegun := beginAccess_onlyAccess (frameJoined h s)
    refine ⟨_, exec_frameHandover hok hroom, ?_, hbegun.fid.trans hjoined.fid, hbegun.refused.trans hjoined.refused, ?_⟩
    · show (queueOf (beginAccess (frameJoined h s)) h.prio).length = _
      rw [queueOf_beginAccess_length, queueOf_frameJoined, List.length_append]
      rfl
    · rw [settle_frame, hbegun, hjoined]
      rfl
  · have hquiet : (frameJoined h s).plc.idle = false := by
      rw [frameJoined_access h s]
      exact hidle
    refine ⟨_, exec_frameHandover hok hroom, ?_⟩
    rw [beginAccess_of_not_idle hquiet]
    exact queueOf_frameJoined h s
  · refine ⟨_, exec_mediumIdle hup hclose, ?_⟩
    rw [beginAccess_of_no_candidate (s := mediumQuiet s) hnone]
    exact ⟨rfl, rfl, rfl, rfl⟩
  · rw [exec_accessSlot_window tone haccess hf, htone, windowEnds_of_tone hk]
    rfl
  · rw [exec_accessSlot_window tone haccess hf, htone, windowEnds_of_silence hk hlast]
  · rw [exec_accessSlot_random false haccess hf, if_neg Bool.false_ne_true, if_neg (by omega)]
  · refine ⟨_, exec_accessSlot_random false haccess hf, ?_⟩
    rw [if_neg Bool.false_ne_true, if_pos hn]
    exact startFrame_sends hready hspan
  · refine ⟨_, exec_bandCWaitEnd true haccess hf, ?_⟩
    obtain ⟨hnone, hsent, -⟩ := startFrame_sends hready hspan
    exact ⟨hnone, hsent⟩
  · have hbegun := beginAccess_onlyAccess (frameAged f s)
    obtain ⟨hrefused, hlost, hidle⟩ := frameAged_counts f s
    refine ⟨_, exec_queueAgeDrop hf, hbegun.refused.trans hrefused, hbegun.framesLost.trans hlost, fun hbusy => ?_⟩
    rw [beginAccess_of_not_idle (hidle.trans hbusy)]
    exact queueOf_frameAged f s p

end Sys2Proof.Machine
end

section
/-! Copies sent, ACK windows, aborts and the line driver's holds (15, 16): SendingAndAcks (R380 to R383, R386 to R389, R396 to R399). -/

namespace Sys2Proof.Machine

section
variable {s : State} {f : OutFrame}

/-! ### A copy ends, an ACK goes out (R380, R388, R398) -/

/-- The state in which a unicast frame's copy has ended and its ACK window is open. -/
def windowOpened (limited : Bool) (f : OutFrame) (s : State) : State :=
  { s with plc := { s.plc with
      aborts := 0, limited := if limited then satInc s.plc.limited else s.plc.limited, tx := none, txPaths := [], current := none
      ackWindow := some f, relayed := false } }

theorem exec_transmitEnd_unicast (limited : Bool) (htx : s.plc.tx = some f) (htype : f.type ≠ 1) (hown : f.repeats = false)
    (hdst : f.dst ≠ 0xFF) : exec (.transmitEnd limited) s = .next (settle (beginAccess (windowOpened limited f s))) := by
  have hopens (t : State) : copyEnds f t = { clearTx t with plc := { (clearTx t).plc with ackWindow := some f, relayed := false } } := by
    rw [copyEnds, if_neg htype, hown, if_neg Bool.false_ne_true, if_neg hdst]
  show execTransmitEnd limited s = _
  rw [execTransmitEnd, htx]
  exact congrArg (fun t => done (beginAccess t)) (hopens _)

/-- While an ACK window is open no other frame begins access. -/
theorem beginAccess_windowOpened (limited : Bool) (f : OutFrame) (s : State) :
    beginAccess (windowOpened limited f s) = windowOpened limited f s :=
  beginAccess_of_underWay (by rw [underWay, windowOpened, Option.isSome_some, Bool.or_true])

/-- An ACK goes out at once on its path. -/
theorem sendAckNow_sends {a : AckDue} (htx : s.plc.tx = none) (hready : pathReady s a.path = true) :
    sendAckNow a s = putOn [a.path] (ackFrame a) .q (headerOf (deferAccess s) (ackFrame a)) (deferAccess s) := by
  rw [sendAckNow, htx, hready]
  rfl

theorem exec_sendAck {a : AckDue} {r : List AckDue} (hacks : s.plc.acks = a :: r) :
    exec .sendAck s = .next (settle (sendAckNow a { s with plc := { s.plc with acks := r } })) := by
  show execSendAck s = _
  rw [execSendAck, hacks]
  rfl

theorem exec_ackRelay {a : AckDue} {r : List AckDue} (hrelays : s.plc.relays = a :: r) :
    exec .ackRelay s = .next (settle (sendAckNow a { s with plc := { s.plc with relays := r } })) := by
  show execAckRelay s = _
  rw [execAckRelay, hrelays]
  rfl

/-! ### A window ends without an ACK (R381, R383, R399) -/

theorem nextAttempt_lost (hsent : f.sent = true) (hlast : f.attempt = 7) : nextAttempt f s = stepRobust f.dst (removeFrame f { s with plc :=
    { s.plc with ackWindow := none, relayed := false, framesLost := satInc s.plc.framesLost } }) := by
  rw [nextAttempt, hsent, Bool.not_true, if_neg Bool.false_ne_true, if_pos hlast]

theorem nextAttempt_placed (hsent : f.sent = true) (hmore : f.attempt ≠ 7) : nextAttempt f s
    = placeFrame { f with attempt := f.attempt + 1, sent := false } { s with plc := { s.plc with ackWindow := none, relayed := false } } := by
  rw [nextAttempt, hsent, Bool.not_true, if_neg Bool.false_ne_true, if_neg hmore]

theorem nextAttempt_onlyLink (f : OutFrame) (s : State) : OnlyLink s (nextAttempt f s) := by
  unfold nextAttempt
  split_ifs <;> rfl

theorem nextAttempt_closes (f : OutFrame) (s : State) : (nextAttempt f s).plc.ackWindow = none ∧ (nextAttempt f s).plc.relayed = false := by
  unfold nextAttempt
  split_ifs <;> exact ⟨rfl, rfl⟩

/-- What stands for a destination names it. -/
theorem destOf_node (s : State) (n : Byte) : (destOf s n).node = n := by
  unfold destOf
  cases h : s.plc.modes.find? fun m => m.node == n with
  | none => rfl
  | some d => exact eq_of_beq (List.find?_some (p := fun m : DestMode => m.node == n) h)

theorem destOf_setDest (d : DestMode) (s : State) : destOf (setDest d s) d.node = d := by
  have hnone : (s.plc.modes.filter fun m => m.node != d.node).find? (fun m => m.node == d.node) = none := by
    simp [List.find?_eq_none]
  simp [destOf, setDest, List.find?_append, hnone]

/-- A frame that was lost starts the count of clean frames again. -/
theorem destOf_stepRobust_run (n : Byte) (s : State) : (destOf (stepRobust n s) n).run = 0 := by
  have hset := destOf_setDest { destOf s n with mode := moreRobust (destOf s n).mode, run := 0 } s
  rw [show DestMode.node { destOf s n with mode := moreRobust (destOf s n).mode, run := 0 } = n from destOf_node s n] at hset
  rw [stepRobust, hset]

/-- The end of the window that is open: the direct one, or the relayed one. -/
theorem exec_windowEnd {c : Instr} (hf : s.plc.ackWindow = some f)
    (hc : (c = .ackWindowEnd ∧ s.plc.relayed = false) ∨ (c = .relayedWindowEnd ∧ s.plc.relayed = true)) :
    exec c s = .next (settle (beginAccess (nextAttempt f s))) := by
  obtain ⟨rfl, hrelayed⟩ | ⟨rfl, hrelayed⟩ := hc
  · show execAckWindowEnd s = _
    rw [execAckWindowEnd, hf]
    exact congrArg (fun b => done (guarded (!b) (fun s => beginAccess (nextAttempt f s)) s)) hrelayed
  · show execRelayedWindowEnd s = _
    rw [execRelayedWindowEnd, hf]
    exact congrArg (fun b => done (guarded b (fun s => beginAccess (nextAttempt f s)) s)) hrelayed

/-- The direct window does not end while the relayed one is open. -/
theorem exec_ackWindowEnd_relayed (hf : s.plc.ackWindow = some f) (h : s.plc.relayed = true) :
    exec .ackWindowEnd s = .next (settle s) := by
  show execAckWindowEnd s = _
  rw [execAckWindowEnd, hf]
  exact congrArg (fun b => done (guarded (!b) (fun s => beginAccess (nextAttempt f s)) s)) h

/-! ### The instant of a resend, and repeats (R381, R396, R397) -/

theorem exec_resendStart (hf : placedHead s = some f) (hup : isUp s .plc = true) (hfree : underWay s = false)
    (hready : (linkPaths s f).all (pathReady s) = true) (hspan : reachesSpan s (copyAndWindowUs s f) = false)
    (hband : s.plc.bandC = false) : exec (.resendStart true) s = .next (settle (startAccess f s)) := by
  show execResendStart true s = _
  rw [execResendStart, hf]
  simp only [hup, hfree, hready, hspan, hband, Bool.not_false, Bool.and_self, guarded_true, Bool.false_and, Bool.false_eq_true, if_false,
    if_true, done_eq]

theorem startAccess_current (f : OutFrame) (s : State) :
    (startAccess f s).plc.current = some { f with placed := false } ∧ (startAccess f s).plc.access ≠ .none := by
  refine ⟨rfl, ?_⟩
  show (if _ then Access.bandC else Access.window 0) ≠ Access.none
  split_ifs <;> exact Access.noConfusion

theorem startAccess_bandA {s : State} (h : s.plc.bandC = false) (f : OutFrame) : (startAccess f s).plc.access = .window 0 := by
  show (if s.plc.bandC && _ then Access.bandC else .window 0) = _
  rw [h]
  rfl

theorem sameFrame_placed (f : OutFrame) (b : Bool) : sameFrame f { f with placed := b } = true := by simp [sameFrame]

/-- The oldest waiting repeat begins access when nothing else waits or runs. -/
theorem exec_repeatFrame {l : List OutFrame} (hl : s.plc.repeats = f :: l) (hup : isUp s .plc = true) (hidle : s.plc.idle = true)
    (hspan : s.plc.spanHold = false) (hfree : underWay s = false) (h0 : s.plc.q0 = []) (h1 : s.plc.q1 = []) (h2 : s.plc.q2 = [])
    (hready : (linkPaths s { f with placed := false }).all (pathReady s) = true) :
    exec .repeatFrame s = .next (settle (startAccess { f with placed := false } (updateFrame { f with placed := false } s))) := by
  have hhead : queueHead (updateFrame { f with placed := false } s) = none := by simp [queueHead, updateFrame, h0, h1, h2]
  have hcandidate : candidate (updateFrame { f with placed := false } s) = some { f with placed := false } := by
    have hfirst : (updateFrame { f with placed := false } s).plc.repeats.find? (!·.placed) = some { f with placed := false } := by
      simp [updateFrame, hl, sameFrame_placed]
    rw [candidate, hfirst, hhead]
    rfl
  show execRepeatFrame s = _
  rw [execRepeatFrame, hl]
  show done (guarded (isUp s .plc) _ s) = _
  rw [hup, guarded_true, beginAccess_starts (s := updateFrame { f with placed := false } s) hup hidle hspan hfree hcandidate hready, done_eq]

/-! ### Limit aborts, holds and the thermal shutdown (R386, R387, R389) -/

/-- The counts and the hold that an abort leaves, before the copy is cut. -/
def abortCounted (s : State) : State :=
  { s with plc := { s.plc with
      aborts := s.plc.aborts + 1, shortHold := s.plc.shortHold || decide (8 ≤ (s.plc.aborts + 1).toNat)
      shortSince := if (s.plc.shortHold || decide (8 ≤ (s.plc.aborts + 1).toNat)) && !s.plc.shortHold then (s.bil.clock, s.bil.running)
        else s.plc.shortSince } }

theorem exec_limitAbort (htx : s.plc.tx.isSome = true) (hline : s.plc.txPaths.contains .line = true) :
    exec .limitAbort s = .next (settle (refreshDriver (copyCut (abortCounted s)))) := by
  show execLimitAbort s = _
  rw [execLimitAbort, htx, hline]
  rfl

/-- Cutting a copy leaves the counts and the driver's holds. -/
theorem copyCut_holds (s : State) : (copyCut s).plc.aborts = s.plc.aborts ∧ (copyCut s).plc.shortHold = s.plc.shortHold
    ∧ (copyCut s).plc.thermal = s.plc.thermal ∧ (copyCut s).plc.retries = s.plc.retries := by
  unfold copyCut
  dsimp only
  repeat' split
  all_goals exact ⟨rfl, rfl, rfl, rfl⟩

theorem refreshDriver_held (h : s.plc.shortHold = true) : (refreshDriver s).plc.drvOn = false := by simp [refreshDriver, h]

theorem refreshDriver_hot (h : s.plc.thermal = true) : (refreshDriver s).plc.drvOn = false := by simp [refreshDriver, h]

/-- The eighth abort holds the driver. -/
theorem abortCounted_holds (h : s.plc.aborts = 7) : (abortCounted s).plc.shortHold = true := by simp [abortCounted, h]

theorem exec_shortHoldEnd (h : s.plc.shortHold = true) : exec .shortHoldEnd s = .next (settle (beginAccess (refreshDriver
    (logHold false s.plc.shortSince { s with plc := { s.plc with shortHold := false, aborts := 0 } })))) := by
  show execShortHoldEnd s = _
  rw [execShortHoldEnd, h]
  rfl

theorem exec_thermalRecovery (h : s.plc.thermal = true) : exec .thermalRecovery s = .next (settle (beginAccess (refreshDriver
    (logHold true s.plc.thermalSince { s with plc := { s.plc with thermal := false } })))) := by
  show execThermalRecovery s = _
  rw [execThermalRecovery, h]
  rfl

/-- The log takes the hold with its start and length, and PLC's block stands. -/
theorem logHold_logs {thermal : Bool} {since : Time × Nat} (h : s.flash.writable = true) : (logHold thermal since s).flash.log
    = s.flash.log ++ [(satInc s.flash.eventCount, .driverHold thermal since.1 (s.bil.running - since.2))] := logEvent_appends h

theorem logHold_frame (thermal : Bool) (since : Time × Nat) (s : State) :
    logHold thermal since s = { s with flash := (logHold thermal since s).flash } := logEvent_frame _ s

/-- What the end of a hold leaves: the hold is logged, the driver follows, and a frame may begin access. -/
theorem holdEnds {u : State} (p : Plc) (thermal : Bool) (since : Time × Nat) (hp : u = { s with plc := p })
    (hw : s.flash.writable = true) :
    let t := settle (beginAccess (refreshDriver (logHold thermal since u)))
    t.plc.thermal = p.thermal ∧ t.plc.shortHold = p.shortHold ∧ t.plc.aborts = p.aborts
      ∧ t.flash.log = s.flash.log ++ [(satInc s.flash.eventCount, .driverHold thermal since.1 (s.bil.running - since.2))]
      ∧ t = { s with plc := t.plc, flash := t.flash, fab := t.fab, glt := t.glt } := by
  subst hp
  have hbegun := beginAccess_onlyAccess (refreshDriver (logHold thermal since { s with plc := p }))
  have hplc : (logHold thermal since { s with plc := p }).plc = p := by rw [logHold_frame]
  have hkept : (refreshDriver (logHold thermal since { s with plc := p })).plc = { p with
      drvOn := (refreshDriver (logHold thermal since { s with plc := p })).plc.drvOn } :=
    congrArg (fun q : Plc => { q with drvOn := (refreshDriver (logHold thermal since { s with plc := p })).plc.drvOn }) hplc
  refine ⟨?_, ?_, ?_, ?_, ?_⟩
  · exact hbegun.thermal.trans (by rw [hkept])
  · exact hbegun.shortHold.trans (by rw [hkept])
  · exact hbegun.aborts.trans (by rw [hkept])
  · exact (congrArg Flash.log hbegun.flash).trans (logHold_logs (s := { s with plc := p }) hw)
  · rw [settle_frame, hbegun]
    dsimp only [refreshDriver]
    rw [logHold_frame]

/-- The state that the thermal shutdown begins in. -/
def overheated (s : State) : State :=
  { s with plc := { s.plc with
      thermal := true, thermalSince := if s.plc.thermal then s.plc.thermalSince else (s.bil.clock, s.bil.running) } }

theorem exec_thermalShutdown (h : isUp s .plc = true) : exec .thermalShutdown s
    = .next (settle (refreshDriver (if s.plc.txPaths.contains .line then copyCut (overheated s) else overheated s))) := by
  show execThermalShutdown s = _
  rw [execThermalShutdown, h]
  rfl

end

/-- Settles O46: what each end of a copy, a window and a hold leaves, through the lemmas on `nextAttempt`, `copyCut` and `holdEnds`. -/
theorem sendingAndAcks : Obligations.SendingAndAcks := by
  unfold Obligations.SendingAndAcks
  intro s
  refine ⟨fun f limited htx htype hown hdst => ⟨_, exec_transmitEnd_unicast limited htx htype hown hdst, ?_⟩,
    fun a r hacks htx hready => ⟨_, exec_sendAck hacks, ?_⟩, fun a r hrelays htx hready => ⟨_, exec_ackRelay hrelays, ?_⟩,
    fun f c hf hsent hc => ?_, fun f hf hrelayed => exec_ackWindowEnd_relayed hf hrelayed,
    fun f hf hup hfree hready hspan hband =>
      ⟨_, exec_resendStart hf hup hfree hready hspan hband, startAccess_bandA hband f, (startAccess_current f s).1, rfl⟩,
    fun f l hl hup hidle hspan hfree h0 h1 h2 hready =>
      ⟨_, exec_repeatFrame hl hup hidle hspan hfree h0 h1 h2 hready, (startAccess_current _ _).1, (startAccess_current _ _).2, rfl⟩,
    fun htx hline => ?_, fun hhold hw => ?_, fun hup => ?_, fun hhot hw => ?_, fun hup hseq hdue => ?_⟩
  · rw [beginAccess_windowOpened]
    exact ⟨rfl, rfl, rfl, rfl, rfl⟩
  · rw [sendAckNow_sends (s := { s with plc := { s.plc with acks := r } }) htx hready]
    exact ⟨rfl, rfl, rfl, rfl⟩
  · rw [sendAckNow_sends (s := { s with plc := { s.plc with relays := r } }) htx hready]
    exact ⟨rfl, rfl, rfl, rfl⟩
  · have hbegun := beginAccess_onlyAccess (nextAttempt f s)
    obtain ⟨hclosed, hdirect⟩ := nextAttempt_closes f s
    refine ⟨_, exec_windowEnd hf hc, hbegun.ackWindow.trans hclosed, hbegun.relayed.trans hdirect, fun hlast => ⟨?_, ?_⟩,
      fun hmore => ⟨?_, ?_, ?_⟩, ?_⟩
    · exact hbegun.framesLost.trans (by rw [nextAttempt_lost hsent hlast]; rfl)
    · have hmodes : (destOf (settle (beginAccess (nextAttempt f s))) f.dst) = destOf (nextAttempt f s) f.dst := by
        unfold destOf
        rw [settle_plc, hbegun.modes]
      rw [hmodes, nextAttempt_lost hsent hlast, destOf_stepRobust_run]
    · exact hbegun.framesLost.trans (by rw [nextAttempt_placed hsent hmore]; rfl)
    · refine (queueOf_beginAccess_length (nextAttempt f s) 0).trans ?_
      rw [nextAttempt_placed hsent hmore]
      exact List.length_map _
    · refine (queueOf_beginAccess_length (nextAttempt f s) 1).trans ?_
      rw [nextAttempt_placed hsent hmore]
      exact List.length_map _
    · rw [settle_frame, (nextAttempt_onlyLink f s).trans hbegun.onlyLink]
  · obtain ⟨haborts, hhold, -, hretries⟩ := copyCut_holds (abortCounted s)
    refine ⟨_, exec_limitAbort htx hline, copyCut_tx _, haborts, fun hseven => ?_, hretries, ?_⟩
    · have hheld := hhold.trans (abortCounted_holds hseven)
      exact ⟨hheld, refreshDriver_held hheld⟩
    · rw [settle_frame, copyCut_frame]
      rfl
  · obtain ⟨-, hshort, haborts, hlog, hframe⟩ := holdEnds { s.plc with shortHold := false, aborts := 0 } false s.plc.shortSince rfl hw
    exact ⟨_, exec_shortHoldEnd hhold, hshort, haborts, hlog, hframe⟩
  · refine ⟨_, exec_thermalShutdown hup, ?_⟩
    split
    next hline =>
      obtain ⟨-, -, hthermal, -⟩ := copyCut_holds (overheated s)
      refine ⟨hthermal, refreshDriver_hot hthermal, fun _ => copyCut_tx _, ?_⟩
      rw [settle_frame, copyCut_frame]
      rfl
    next hoff => exact ⟨rfl, refreshDriver_hot rfl, fun hline => absurd hline hoff, rfl⟩
  · obtain ⟨hthermal, hshort, -, hlog, hframe⟩ := holdEnds { s.plc with thermal := false } true s.plc.thermalSince rfl hw
    exact ⟨_, exec_thermalRecovery hhot, hthermal, hshort, hlog, hframe⟩
  · show execLinkReload s = _
    rw [execLinkReload, hup, hseq, hdue]
    rfl

end Sys2Proof.Machine
end

section
/-! Received copies (15, 16): what each step of reception changes, and CopiesReceived (R375, R380, R392, R395, R411, R413, R416). -/

namespace Sys2Proof.Machine

/-! ### What the clock's adjustments change (13) -/

/-- From s to t at most the billing block and log flash differ. -/
def OnlyClock (s t : State) : Prop := t = { s with bil := t.bil, flash := t.flash }

theorem OnlyClock.trans {s t u : State} (h : OnlyClock s t) (h' : OnlyClock t u) : OnlyClock s u := by
  unfold OnlyClock at *
  rw [h', h]

theorem OnlyLog.onlyClock {s t : State} (h : OnlyLog s t) : OnlyClock s t := by
  unfold OnlyLog at h
  unfold OnlyClock
  rw [h]

theorem closeOne_onlyClock (k : RecordKind) (e n : Time) (a : Int) (s : State) : OnlyClock s (closeOne k e n a s) := by
  unfold OnlyClock
  rw [closeOne_frame]

theorem closeRecord_onlyClock (k : RecordKind) (e n : Time) (a : Int) (s : State) : OnlyClock s (closeRecord k e n a s) := by
  have hdue : OnlyClock s (closeDue e s) := by
    unfold closeDue
    split
    · exact closeOne_onlyClock _ _ _ _ s
    · rfl
  unfold closeRecord
  split
  · exact closeOne_onlyClock _ _ _ _ s
  · exact hdue.trans (closeOne_onlyClock _ _ _ _ _)

theorem stepClock_onlyClock (k : RecordKind) (new : Time) (s : State) : OnlyClock s (stepClock k new s) := by
  have hset (b : Billing) : OnlyClock s { s with bil := b } := Eq.refl _
  exact ((hset _).trans (closeRecord_onlyClock _ _ _ _ _)).trans (logEvent_onlyLog _ _).onlyClock

theorem applyBeaconTime_onlyClock (new : Time) (s : State) : OnlyClock s (applyBeaconTime new s) := by
  have hset (b : Billing) : OnlyClock s { s with bil := b } := Eq.refl _
  have hlogged (b : Billing) : OnlyClock s (logEvent .notApplied { s with bil := b }) := (hset b).trans (logEvent_onlyLog _ _).onlyClock
  unfold applyBeaconTime
  dsimp only
  repeat' split
  · exact hset _
  · rfl
  · exact hlogged _
  · exact hlogged _
  · exact stepClock_onlyClock _ _ s

theorem beaconTime_onlyClock (t0 : Time) (b : Bytes) (s : State) : OnlyClock s (beaconTime t0 b s) := by
  unfold beaconTime
  split
  · exact applyBeaconTime_onlyClock _ s
  · rfl

/-! ### What the parts of reception change -/

/-- Receiving leaves the address conflict and the count of field-port copies as it finds them. -/
def SameMarks (s t : State) : Prop := t.net.conflict = s.net.conflict ∧ t.net.fpFrames = s.net.fpFrames

theorem SameMarks.trans {s t u : State} (h : SameMarks s t) (h' : SameMarks t u) : SameMarks s u :=
  ⟨h'.1.trans h.1, h'.2.trans h.2⟩

theorem SameMarks.of_net {s t : State} (h : t.net = s.net) : SameMarks s t := by
  unfold SameMarks
  rw [h]
  exact ⟨rfl, rfl⟩

theorem OnlyLink.sameMarks {s t : State} (h : OnlyLink s t) : SameMarks s t := .of_net (by rw [h])
theorem OnlyTaken.sameMarks {s t : State} (h : OnlyTaken s t) : SameMarks s t := .of_net (by rw [h])

theorem dropRepeats_onlyLink (h : Fch) (s : State) : OnlyLink s (dropRepeats h s) := by
  unfold dropRepeats
  dsimp only
  split <;> rfl

theorem frameDelivered_onlyLink (f : OutFrame) (s : State) : OnlyLink s (frameDelivered f s) := by
  unfold frameDelivered stepClean
  dsimp only
  split_ifs <;> rfl

theorem receiveAck_onlyLink (p : Path) (h : Fch) (s : State) : OnlyLink s (receiveAck p h s) := by
  have hdropped := dropRepeats_onlyLink h s
  have hrelay (t : State) (l : List AckDue) : OnlyLink t { t with plc := { t.plc with relays := l } } := Eq.refl _
  unfold receiveAck
  dsimp only
  repeat' split
  · exact hdropped
  · exact hdropped.trans ((frameDelivered_onlyLink _ _).trans (beginAccess_onlyAccess _).onlyLink)
  · exact hdropped.trans (hrelay _ _)
  · exact hdropped

theorem hearOwnCopy_onlyLink (h : Fch) (s : State) : OnlyLink s (hearOwnCopy h s) := by
  unfold hearOwnCopy
  dsimp only
  repeat' split
  all_goals rfl

/-- The network block that a curtailment value leaves (R405, R518). -/
theorem setCurtail_net (v : Nat) (s : State) :
    (setCurtail v s).net = if s.pwr.loaderState then s.net else { s.net with curtail := BitVec.ofNat 16 v } := by
  unfold setCurtail
  split
  · rfl
  · rw [recompute_onlySwitching]

theorem setCurtail_sameMarks (v : Nat) (s : State) : SameMarks s (setCurtail v s) := by
  unfold SameMarks
  rw [setCurtail_net]
  split <;> exact ⟨rfl, rfl⟩

theorem broadcastTaken_sameMarks (beacon : Bool) (p : Path) (b : Bytes) (seq : Word) (s : State) :
    SameMarks s (broadcastTaken beacon p b seq s).1 := by
  have hload (c : YewCtx) (key : Bytes) (n : Nat) : SameMarks s (loadYew c key n s) := .of_net (by unfold loadYew; split <;> rfl)
  unfold broadcastTaken
  dsimp only
  repeat' split
  · exact ⟨rfl, rfl⟩
  · exact (hload _ _ _).trans ⟨rfl, rfl⟩
  · exact hload _ _ _
  · exact (hload _ _ _).trans ⟨rfl, rfl⟩

theorem beaconTiming_sameMarks (p : Path) (h : Fch) (t0 : Time) (fch b : Bytes) (s : State) : SameMarks s (beaconTiming p h t0 fch b s) := by
  have hlogged : SameMarks s (logEvent (.resync false) s) := .of_net (by rw [logEvent_frame])
  unfold beaconTiming
  dsimp only
  split
  · exact hlogged
  · exact ⟨rfl, rfl⟩

theorem beaconTime_sameMarks (t0 : Time) (b : Bytes) (s : State) : SameMarks s (beaconTime t0 b s) :=
  .of_net (by rw [beaconTime_onlyClock])

theorem beaconReceived_sameMarks (c : Copy) (h : Fch) (start : Time) (s : State) : SameMarks s (beaconReceived c h start s) := by
  have htaken := broadcastTaken_sameMarks true c.path c.payload (BitVec.ofNat 32 (fieldLe 0x30 4 c.payload)) s
  unfold beaconReceived
  dsimp only
  repeat' split
  · exact ⟨rfl, rfl⟩
  · exact htaken
  · exact ((htaken.trans (beaconTiming_sameMarks _ _ _ _ _ _)).trans (beaconTime_sameMarks _ _ _)).trans (setCurtail_sameMarks _ _)

theorem curtailReceived_sameMarks (c : Copy) (s : State) : SameMarks s (curtailReceived c s) := by
  have htaken := broadcastTaken_sameMarks false c.path c.payload (BitVec.ofNat 32 (fieldLe 8 4 c.payload)) s
  unfold curtailReceived
  dsimp only
  repeat' split
  · exact ⟨rfl, rfl⟩
  · exact htaken.trans (setCurtail_sameMarks _ _)
  · exact htaken

theorem deliverCopy_sameMarks (c : Copy) (h : Fch) (start : Time) (s : State) : SameMarks s (deliverCopy c h start s) := by
  unfold deliverCopy
  repeat' split
  · exact (pduReceive_onlyTaken _ s).sameMarks
  · exact curtailReceived_sameMarks c s
  · exact beaconReceived_sameMarks c h start s
  · exact ⟨rfl, rfl⟩

/-! ### A frame is received in steps (R375, R380, R395, R396, R399) -/

/-- The first step: a copy that a repeater is to repeat is queued. -/
def repeatQueued (c : Copy) (h : Fch) (s : State) : State := if mustRepeat s h then queueRepeat h c.payload s else s

/-- The second: the originator hears its own frame. -/
def ownHeard (h : Fch) (s : State) : State :=
  if h.orig = BitVec.ofNat 8 (nodeAddress s) && h.src != BitVec.ofNat 8 (nodeAddress s) then hearOwnCopy h s else s

/-- The third: a unicast frame for this node is owed its ACK. -/
def ackOwed (c : Copy) (h : Fch) (s : State) : State :=
  if h.type = 0 && h.ackReq && h.dst = BitVec.ofNat 8 (nodeAddress s) then
    { s with plc := { s.plc with acks := s.plc.acks ++ [ackFor c.path h h.src] } }
  else s

/-- The last: a new frame of node 0 is delivered. -/
def newDelivered (c : Copy) (h : Fch) (start : Time) (s : State) : State :=
  if h.orig = 0 && isNew s h then deliverCopy c h start (notePair h s) else s

theorem repeatQueued_onlyLink (c : Copy) (h : Fch) (s : State) : OnlyLink s (repeatQueued c h s) := by
  unfold repeatQueued
  split <;> rfl

theorem ownHeard_onlyLink (h : Fch) (s : State) : OnlyLink s (ownHeard h s) := by
  unfold ownHeard
  split
  · exact hearOwnCopy_onlyLink h s
  · rfl

theorem ackOwed_onlyLink (c : Copy) (h : Fch) (s : State) : OnlyLink s (ackOwed c h s) := by
  unfold ackOwed
  split <;> rfl

/-- A change of PLC's block does not change this node's address. -/
theorem OnlyLink.nodeAddress {s t : State} (h : OnlyLink s t) : nodeAddress t = nodeAddress s := by
  rw [h]
  rfl

theorem receiveFrame_eq (c : Copy) (h : Fch) (start : Time) (s : State) : receiveFrame c h start s
    = if !addressed (ownHeard h (repeatQueued c h s)) h || !fcsOk c then ownHeard h (repeatQueued c h s)
      else newDelivered c h start (ackOwed c h (ownHeard h (repeatQueued c h s))) := by
  have hrep := (repeatQueued_onlyLink c h s).nodeAddress
  have hown := ((repeatQueued_onlyLink c h s).trans (ownHeard_onlyLink h (repeatQueued c h s))).nodeAddress
  unfold newDelivered ackOwed
  rw [hown]
  unfold ownHeard
  rw [hrep]
  rfl

theorem receiveFrame_sameMarks (c : Copy) (h : Fch) (start : Time) (s : State) : SameMarks s (receiveFrame c h start s) := by
  have hheard := (repeatQueued_onlyLink c h s).trans (ownHeard_onlyLink h (repeatQueued c h s))
  have hdelivered (t : State) : SameMarks t (newDelivered c h start t) := by
    unfold newDelivered
    split
    · exact (SameMarks.of_net (s := t) (t := notePair h t) (Eq.refl _)).trans (deliverCopy_sameMarks c h start _)
    · exact ⟨rfl, rfl⟩
  rw [receiveFrame_eq]
  split
  · exact hheard.sameMarks
  · exact (hheard.trans (ackOwed_onlyLink c h _)).sameMarks.trans (hdelivered _)

/-! ### A copy is received in steps (R375, R413, R416) -/

/-- The first step: a copy on the field port is counted. -/
def portCounted (c : Copy) (s : State) : State :=
  if c.path = .field then { s with net := { s.net with fpFrames := s.net.fpFrames + 1 } } else s

/-- The second: its SRC was heard on the path, or is in conflict with this node. -/
def srcHeard (c : Copy) (s : State) : State :=
  if (parseFch c.fch).src = BitVec.ofNat 8 (nodeAddress s) then noteConflict s else noteHeard (parseFch c.fch).src c.path s

/-- The third: so was its ORIG. -/
def origHeard (c : Copy) (s : State) : State :=
  if (parseFch c.fch).type != 1 && (parseFch c.fch).orig != BitVec.ofNat 8 (nodeAddress s) then noteHeard (parseFch c.fch).orig c.path s else s

/-- The copy as counted and heard, before its ACK or frame is taken up. -/
def copyHeard (c : Copy) (s : State) : State := origHeard c (srcHeard c (portCounted c s))

/-- From s to t at most the destinations' paths, the marks of the network block and the log differ. -/
def OnlyHeard (s t : State) : Prop := t = { s with
  plc := { s.plc with modes := t.plc.modes }, flash := t.flash
  net := { s.net with conflict := t.net.conflict, conflictLogged := t.net.conflictLogged, fpFrames := t.net.fpFrames } }

theorem OnlyHeard.trans {s t u : State} (h : OnlyHeard s t) (h' : OnlyHeard t u) : OnlyHeard s u := by
  unfold OnlyHeard at *
  rw [h', h]

theorem portCounted_onlyHeard (c : Copy) (s : State) : OnlyHeard s (portCounted c s) := by
  unfold portCounted
  split <;> rfl

theorem noteConflict_onlyHeard (s : State) : OnlyHeard s (noteConflict s) := by
  have hlogged (n : Net) : logEvent .addressConflict { s with net := n }
      = { s with net := n, flash := (logEvent .addressConflict { s with net := n }).flash } := logEvent_frame _ _
  unfold noteConflict
  dsimp only
  split
  · rfl
  · rw [hlogged]
    rfl

theorem srcHeard_onlyHeard (c : Copy) (s : State) : OnlyHeard s (srcHeard c s) := by
  unfold srcHeard
  split
  · exact noteConflict_onlyHeard s
  · rfl

theorem origHeard_onlyHeard (c : Copy) (s : State) : OnlyHeard s (origHeard c s) := by
  unfold origHeard
  split <;> rfl

theorem copyHeard_onlyHeard (c : Copy) (s : State) : OnlyHeard s (copyHeard c s) :=
  ((portCounted_onlyHeard c s).trans (srcHeard_onlyHeard c _)).trans (origHeard_onlyHeard c _)

theorem OnlyHeard.nodeAddress {s t : State} (h : OnlyHeard s t) : nodeAddress t = nodeAddress s := by
  rw [h]
  rfl

theorem portCounted_fpFrames {c : Copy} (h : c.path = .field) (s : State) : (portCounted c s).net.fpFrames = s.net.fpFrames + 1 := by
  rw [portCounted, if_pos h]

/-- What is heard after the count leaves the count. -/
theorem noteConflict_marks (s : State) : (noteConflict s).net.conflict = true ∧ (noteConflict s).net.fpFrames = s.net.fpFrames := by
  unfold noteConflict
  dsimp only
  repeat' split
  · exact ⟨rfl, rfl⟩
  all_goals
    rw [logEvent_frame]
    exact ⟨rfl, rfl⟩

theorem origHeard_net (c : Copy) (s : State) : (origHeard c s).net = s.net := by
  unfold origHeard
  split <;> rfl

theorem srcHeard_fpFrames (c : Copy) (s : State) : (srcHeard c s).net.fpFrames = s.net.fpFrames := by
  unfold srcHeard
  split
  · exact (noteConflict_marks s).2
  · rfl

/-- A copy with this node's address as SRC is a conflict. -/
theorem copyHeard_conflict {c : Copy} {s : State} (h : (parseFch c.fch).src = BitVec.ofNat 8 (nodeAddress s)) :
    (copyHeard c s).net.conflict = true := by
  have hsrc : (parseFch c.fch).src = BitVec.ofNat 8 (nodeAddress (portCounted c s)) := by
    rw [h, (portCounted_onlyHeard c s).nodeAddress]
  rw [copyHeard, origHeard_net, srcHeard, if_pos hsrc]
  exact (noteConflict_marks _).1

theorem copyHeard_fpFrames {c : Copy} (h : c.path = .field) (s : State) : (copyHeard c s).net.fpFrames = s.net.fpFrames + 1 := by
  rw [copyHeard, origHeard_net, srcHeard_fpFrames, portCounted_fpFrames h]

section
variable {s : State} {c : Copy} {start : Time}

/-- A copy that the receiver does not take, or whose header fails, changes nothing (R375). -/
theorem receiveCopy_ignored (h : crc8Ok c.fch = false ∨ receives s c.path = false) : receiveCopy c start s = s := by
  have hout : (!receives s c.path || !crc8Ok c.fch) = true := by
    obtain h | h := h
    · rw [h, Bool.not_false, Bool.or_true]
    · rw [h, Bool.not_false, Bool.true_or]
  exact if_pos hout

/-- A copy of another segment is counted alone (R375, R411). -/
theorem receiveCopy_foreign (hrec : receives s c.path = true) (hcrc : crc8Ok c.fch = true)
    (hseg : (parseFch c.fch).seg ≠ segmentNumber s % 256) : receiveCopy c start s = portCounted c s := by
  have hforeign : ((parseFch c.fch).seg != segmentNumber (portCounted c s) % 256) = true := by
    rw [portCounted_onlyHeard c s]
    exact bne_iff_ne.mpr hseg
  have hin : ¬ (!receives s c.path || !crc8Ok c.fch) = true := by rw [hrec, hcrc]; decide
  exact (if_neg hin).trans (if_pos hforeign)

/-- A copy of this segment is heard, and its ACK or frame is taken up. -/
theorem receiveCopy_heard (hrec : receives s c.path = true) (hcrc : crc8Ok c.fch = true)
    (hseg : (parseFch c.fch).seg = segmentNumber s % 256) : receiveCopy c start s = if (parseFch c.fch).type = 1
      then receiveAck c.path (parseFch c.fch) (copyHeard c s) else receiveFrame c (parseFch c.fch) start (copyHeard c s) := by
  have hours : ¬ ((parseFch c.fch).seg != segmentNumber (portCounted c s) % 256) = true := by
    rw [portCounted_onlyHeard c s, bne_iff_ne, not_not]
    exact hseg
  have hin : ¬ (!receives s c.path || !crc8Ok c.fch) = true := by rw [hrec, hcrc]; decide
  have hown := (srcHeard_onlyHeard c (portCounted c s)).nodeAddress
  rw [copyHeard, origHeard, hown]
  exact (if_neg hin).trans (if_neg hours)

theorem receiveCopy_sameMarks (hrec : receives s c.path = true) (hcrc : crc8Ok c.fch = true)
    (hseg : (parseFch c.fch).seg = segmentNumber s % 256) : SameMarks (copyHeard c s) (receiveCopy c start s) := by
  rw [receiveCopy_heard hrec hcrc hseg]
  split
  · exact (receiveAck_onlyLink _ _ _).sameMarks
  · exact receiveFrame_sameMarks _ _ _ _

/-- A copy that the field port takes is counted, of whatever segment it is. -/
theorem receiveCopy_fpFrames (hrec : receives s .field = true) (hcrc : crc8Ok c.fch = true) (hpath : c.path = .field) :
    (receiveCopy c start s).net.fpFrames = s.net.fpFrames + 1 := by
  by_cases hseg : (parseFch c.fch).seg = segmentNumber s % 256
  · exact (receiveCopy_sameMarks (hpath ▸ hrec) hcrc hseg).2.trans (copyHeard_fpFrames hpath s)
  · rw [receiveCopy_foreign (hpath ▸ hrec) hcrc hseg, portCounted_fpFrames hpath]

theorem exec_frameReceive (c : Copy) (s : State) : exec (.frameReceive c) s = .next (settle (receiveCopy c (copyStart s c) s)) := rfl

/-! ### A unicast frame for this node (R375, R380) -/

theorem repeatQueued_acks (c : Copy) (h : Fch) (s : State) :
    (repeatQueued c h s).plc.acks = s.plc.acks ∧ (repeatQueued c h s).plc.lastPairs = s.plc.lastPairs := by
  unfold repeatQueued
  split <;> exact ⟨rfl, rfl⟩

/-- A right unicast frame is owed its ACK and, new from node 0, delivered. -/
theorem receiveFrame_unicast {h : Fch} (htype : h.type = 0) (hack : h.ackReq = true) (hdst : h.dst = BitVec.ofNat 8 (nodeAddress s))
    (horig : h.orig ≠ BitVec.ofNat 8 (nodeAddress s)) (hfcs : fcsOk c = true) :
    receiveFrame c h start s = newDelivered c h start { repeatQueued c h s with plc := { (repeatQueued c h s).plc with
      acks := s.plc.acks ++ [ackFor c.path h h.src] } } := by
  have haddr := (repeatQueued_onlyLink c h s).nodeAddress
  have hnot : ownHeard h (repeatQueued c h s) = repeatQueued c h s := by
    rw [ownHeard, haddr, decide_eq_false horig]
    rfl
  have hours : addressed (repeatQueued c h s) h = true := by simp [addressed, haddr, hdst, horig]
  have howed : (decide (h.type = 0) && h.ackReq && decide (h.dst = BitVec.ofNat 8 (nodeAddress (repeatQueued c h s)))) = true := by
    rw [haddr, hack, decide_eq_true htype, decide_eq_true hdst]
    rfl
  rw [receiveFrame_eq, hnot, hours, hfcs, ackOwed, if_pos howed, (repeatQueued_acks c h s).1]
  rfl

/-- Delivering data leaves PLC's block but for the pair that was delivered, and every block of the charging session. -/
theorem newDelivered_data {h : Fch} (htype : h.type = 0) (s : State) :
    let t := newDelivered c h start s
    t.plc.acks = s.plc.acks ∧ (h.orig = 0 → isNew s h = true → (h.orig, h.fid) ∈ t.plc.lastPairs)
      ∧ t.met = s.met ∧ t.bil = s.bil ∧ t.ses = s.ses := by
  have hpdu (d : Delivered) : (pduReceive d (notePair h s)).plc = (notePair h s).plc ∧ (pduReceive d (notePair h s)).met = s.met
      ∧ (pduReceive d (notePair h s)).bil = s.bil ∧ (pduReceive d (notePair h s)).ses = s.ses := by
    rw [pduReceive_onlyTaken]
    exact ⟨rfl, rfl, rfl, rfl⟩
  by_cases hnew : (decide (h.orig = 0) && isNew s h) = true
  · have hdelivered : newDelivered c h start s
        = pduReceive ⟨c.path, BitVec.ofNat 8 h.seg, h.orig, h.dst, BitVec.ofNat 2 h.prio, c.payload⟩ (notePair h s) := by
      rw [newDelivered, if_pos hnew, deliverCopy, if_pos htype]
    obtain ⟨hplc, hmet, hbil, hses⟩ := hpdu ⟨c.path, BitVec.ofNat 8 h.seg, h.orig, h.dst, BitVec.ofNat 2 h.prio, c.payload⟩
    rw [← hdelivered] at hplc hmet hbil hses
    exact ⟨by rw [hplc]; rfl, fun _ _ => by rw [hplc]; simp [notePair], hmet, hbil, hses⟩
  · have hnone : newDelivered c h start s = s := if_neg hnew
    dsimp only
    rw [hnone]
    exact ⟨rfl, fun h0 hn => absurd (by rw [h0, hn]; rfl) hnew, rfl, rfl, rfl⟩

/-- What a right unicast frame for this node leaves. -/
theorem receiveCopy_unicast (hrec : receives s c.path = true) (hcrc : crc8Ok c.fch = true)
    (hseg : (parseFch c.fch).seg = segmentNumber s % 256) (htype : (parseFch c.fch).type = 0) (hack : (parseFch c.fch).ackReq = true)
    (hdst : (parseFch c.fch).dst = BitVec.ofNat 8 (nodeAddress s)) (horig : (parseFch c.fch).orig ≠ BitVec.ofNat 8 (nodeAddress s))
    (hfcs : fcsOk c = true) :
    let t := receiveCopy c start s
    t.plc.acks = s.plc.acks ++ [ackFor c.path (parseFch c.fch) (parseFch c.fch).src]
      ∧ ((parseFch c.fch).orig = 0 → isNew s (parseFch c.fch) = true → ((parseFch c.fch).orig, (parseFch c.fch).fid) ∈ t.plc.lastPairs)
      ∧ t.met = s.met ∧ t.bil = s.bil ∧ t.ses = s.ses := by
  generalize hu : copyHeard c s = u
  have hheard : OnlyHeard s u := hu ▸ copyHeard_onlyHeard c s
  have haddr := hheard.nodeAddress
  have hkept : u.plc.acks = s.plc.acks ∧ u.plc.lastPairs = s.plc.lastPairs ∧ u.met = s.met ∧ u.bil = s.bil ∧ u.ses = s.ses := by
    rw [hheard]
    exact ⟨rfl, rfl, rfl, rfl, rfl⟩
  obtain ⟨hacks, hpairs, hmet, hbil, hses⟩ := hkept
  have hrep : (repeatQueued c (parseFch c.fch) u).met = u.met ∧ (repeatQueued c (parseFch c.fch) u).bil = u.bil
      ∧ (repeatQueued c (parseFch c.fch) u).ses = u.ses := by
    rw [repeatQueued_onlyLink]
    exact ⟨rfl, rfl, rfl⟩
  obtain ⟨hrmet, hrbil, hrses⟩ := hrep
  have heq : receiveCopy c start s = newDelivered c (parseFch c.fch) start { repeatQueued c (parseFch c.fch) u with plc :=
      { (repeatQueued c (parseFch c.fch) u).plc with acks := s.plc.acks ++ [ackFor c.path (parseFch c.fch) (parseFch c.fch).src] } } := by
    rw [receiveCopy_heard hrec hcrc hseg, htype, if_neg (by decide), hu,
      receiveFrame_unicast htype hack (haddr ▸ hdst) (haddr ▸ horig) hfcs, hacks]
  obtain ⟨ha, hp, hm, hb, hs⟩ := newDelivered_data (c := c) (start := start) htype { repeatQueued c (parseFch c.fch) u with plc :=
    { (repeatQueued c (parseFch c.fch) u).plc with acks := s.plc.acks ++ [ackFor c.path (parseFch c.fch) (parseFch c.fch).src] } }
  rw [← heq] at ha hp hm hb hs
  refine ⟨ha, fun h0 hnew => hp h0 ?_, hm.trans (hrmet.trans hmet), hb.trans (hrbil.trans hbil), hs.trans (hrses.trans hses)⟩
  show (!(repeatQueued c (parseFch c.fch) u).plc.lastPairs.contains _) = true
  rw [(repeatQueued_acks c (parseFch c.fch) u).2, hpairs]
  exact hnew

/-! ### The field port (R411, R412, R419) -/

theorem exec_fieldPortCopy {w : Bytes} (h : wireCopy w = some c) :
    exec (.fieldPortCopy w) s = .next (settle (receiveCopy c (copyStart s c) s)) := by
  show execFieldPortCopy w s = _
  rw [execFieldPortCopy, h]
  rfl

theorem exec_fieldPortCopy_malformed {w : Bytes} (h : wireCopy w = none) (hrec : receives s .field = true) :
    exec (.fieldPortCopy w) s = .next (settle (countFraming s)) := by
  show execFieldPortCopy w s = _
  rw [execFieldPortCopy, h]
  show done (guarded (receives s .field) countFraming s) = _
  rw [hrec]
  rfl

theorem exec_fieldPortGapAbort (hrec : receives s .field = true) : exec .fieldPortGapAbort s = .next (settle (countFraming s)) := by
  show execFieldPortGapAbort s = _
  rw [execFieldPortGapAbort, hrec]
  rfl

theorem exec_readBackAbort_wire (htx : s.plc.tx.isSome = true) (hpaths : s.plc.txPaths = [.field]) :
    exec .readBackAbort s = .next (settle (copyCut s)) := by
  show execReadBackAbort s = _
  have hin : (s.plc.tx.isSome && s.plc.txPaths.contains .field) = true := by rw [htx, hpaths]; rfl
  have hwire : ¬ s.plc.txPaths.contains .line = true := by rw [hpaths]; decide
  rw [execReadBackAbort, hin, guarded_true, if_neg hwire, done_eq]

theorem exec_readBackAbort_both (htx : s.plc.tx.isSome = true) (hpaths : s.plc.txPaths = [.line, .field]) :
    exec .readBackAbort s = .next (settle { s with plc := { s.plc with txPaths := [.line] } }) := by
  show execReadBackAbort s = _
  have hin : (s.plc.tx.isSome && s.plc.txPaths.contains .field) = true := by rw [htx, hpaths]; rfl
  have hline : s.plc.txPaths.contains .line = true := by rw [hpaths]; rfl
  rw [execReadBackAbort, hin, guarded_true, if_pos hline, done_eq]

theorem exec_fieldPortBusyLog (hup : isUp s .plc = true) (hport : s.plc.linkPath ≠ 0) (hnew : s.net.fpBusyLogged = false) :
    exec .fieldPortBusyLog s = .next (settle (logEvent .fieldPortBusy { s with net := { s.net with fpBusyLogged := true } })) := by
  have hin : (isUp s .plc && s.plc.linkPath != 0 && !s.net.fpBusyLogged) = true := by
    rw [hup, hnew, bne_iff_ne.mpr hport]
    rfl
  show execFieldPortBusyLog s = _
  rw [execFieldPortBusyLog, hin, guarded_true, done_eq]

end

/-- Settles O47: reception in the steps of `receiveCopy_heard` and `receiveFrame_eq`, and what each of them leaves. -/
theorem copiesReceived : Obligations.CopiesReceived := by
  unfold Obligations.CopiesReceived
  intro s c
  obtain ⟨-, -, -, hretries⟩ := copyCut_holds s
  refine ⟨fun hbad => ?_, fun hline hseg => ?_, fun hrec hcrc hseg => ⟨fun hsrc => ?_, fun htype hack hdst horig hfcs => ?_⟩,
    fun hrec hcrc hpath => ⟨_, exec_frameReceive c s, receiveCopy_fpFrames hrec hcrc hpath⟩,
    fun w hw => ⟨_, exec_fieldPortCopy hw, exec_frameReceive c s⟩, fun w hw hrec => exec_fieldPortCopy_malformed hw hrec,
    exec_fieldPortGapAbort, fun htx hpaths => ⟨_, exec_readBackAbort_wire htx hpaths, copyCut_tx s, hretries, ?_⟩,
    exec_readBackAbort_both, exec_fieldPortBusyLog⟩
  · rw [exec_frameReceive, receiveCopy_ignored hbad]
  · rw [exec_frameReceive]
    by_cases hin : crc8Ok c.fch = false ∨ receives s c.path = false
    · rw [receiveCopy_ignored hin]
    · have huncounted : portCounted c s = s := if_neg (by rw [hline]; exact Path.noConfusion)
      simp only [not_or, Bool.not_eq_false] at hin
      rw [receiveCopy_foreign hin.2 hin.1 hseg, huncounted]
  · exact ⟨_, exec_frameReceive c s, (receiveCopy_sameMarks hrec hcrc hseg).1.trans (copyHeard_conflict hsrc)⟩
  · obtain ⟨hacks, hpairs, hmet, hbil, hses⟩ := receiveCopy_unicast hrec hcrc hseg htype hack hdst horig hfcs (start := copyStart s c)
    exact ⟨_, exec_frameReceive c s, hacks, hpairs, hmet, hbil, hses⟩
  · rw [settle_frame, copyCut_frame]

end Sys2Proof.Machine
end

section
/-! Broadcasts, wake windows and telemetry (16, 19): BeaconsAndWindows (R401, R402, R405, R406, R407, R409, R410, R481). -/

namespace Sys2Proof.Machine

/-! ### A broadcast is judged (R401, R405, R418) -/

section
variable {u : State} {beacon : Bool} {p : Path} {b : Bytes} {seq : Word}

/-- SEC is there to judge a broadcast: in service, with a key in slot 4 and no scan. -/
structure CanJudge (s : State) : Prop where
  up : isUp s .sec = true
  slot : s.sec.slotOk.getLsbD 4 = true
  noScan : s.sec.scanLock = false

theorem broadcastMacOk_loadYew (c : YewCtx) (key : Bytes) (n : Nat) (p : Path) (b : Bytes) (s : State) :
    broadcastMacOk (loadYew c key n s) p b = broadcastMacOk s p b := by
  unfold loadYew
  split <;> rfl

theorem loadYew_net (c : YewCtx) (key : Bytes) (n : Nat) (s : State) : (loadYew c key n s).net = s.net := by
  rw [(loadYew_sends c key n s).2]

theorem loadYew_od (c : YewCtx) (key : Bytes) (n : Nat) (s : State) : (loadYew c key n s).od = s.od := by
  unfold loadYew
  split <;> rfl

theorem loadYew_pwr (c : YewCtx) (key : Bytes) (n : Nat) (s : State) : (loadYew c key n s).pwr = s.pwr := by
  rw [(loadYew_sends c key n s).2]

theorem CanJudge.judged (h : CanJudge u) : broadcastTaken beacon p b seq u =
    if !broadcastMacOk u p b then (macFails (loadYew .link (broadcastKey u) 0 u), false)
    else if !(beacon && u.net.bcastLost) && seq.toNat ≤ u.net.bcastSeq.toNat then (loadYew .link (broadcastKey u) 0 u, false)
    else ({ loadYew .link (broadcastKey u) 0 u with net := { u.net with bcastSeq := seq, bcastLost := u.net.bcastLost && !beacon } }, true) := by
  rw [broadcastTaken, h.up, h.slot, h.noScan]
  simp only [Bool.not_true, Bool.or_self, Bool.false_eq_true, if_false, broadcastMacOk_loadYew, loadYew_net]

/-- A wrong MAC is counted, and the broadcast is dropped. -/
theorem broadcastTaken_of_wrongMac (h : CanJudge u) (hmac : broadcastMacOk u p b = false) :
    broadcastTaken beacon p b seq u = (macFails (loadYew .link (broadcastKey u) 0 u), false) := by
  rw [h.judged, hmac]
  rfl

/-- An old SEQ is dropped. -/
theorem broadcastTaken_of_old (h : CanJudge u) (hmac : broadcastMacOk u p b = true) (hold : seq.toNat ≤ u.net.bcastSeq.toNat) :
    broadcastTaken false p b seq u = (loadYew .link (broadcastKey u) 0 u, false) := by
  rw [h.judged, hmac]
  simp [hold]

/-- The state in which a broadcast's SEQ has been taken. -/
def seqTaken (beacon : Bool) (seq : Word) (u : State) : State :=
  { loadYew .link (broadcastKey u) 0 u with net := { u.net with bcastSeq := seq, bcastLost := u.net.bcastLost && !beacon } }

/-- A right MAC with a new SEQ is accepted; so is the first beacon after a loss of retained RAM (R420). -/
theorem broadcastTaken_of_new (h : CanJudge u) (hmac : broadcastMacOk u p b = true)
    (hnew : (beacon = true ∧ u.net.bcastLost = true) ∨ u.net.bcastSeq.toNat < seq.toNat) :
    broadcastTaken beacon p b seq u = (seqTaken beacon seq u, true) := by
  have hfresh : ¬ (!(beacon && u.net.bcastLost) && decide (seq.toNat ≤ u.net.bcastSeq.toNat)) = true := by
    obtain ⟨hb, hlost⟩ | hlt := hnew
    · rw [hb, hlost]
      exact Bool.false_ne_true
    · rw [decide_eq_false (Nat.not_le.mpr hlt), Bool.and_false]
      exact Bool.false_ne_true
  rw [h.judged, hmac, if_neg (by decide), if_neg hfresh, seqTaken]

theorem seqTaken_pwr (beacon : Bool) (seq : Word) (u : State) : (seqTaken beacon seq u).pwr = u.pwr := loadYew_pwr _ _ _ u

end

/-! ### The way of a broadcast to its consumer (R375, R395) -/

/-- The header of a broadcast of node 0 that this node takes up. -/
structure Broadcast (s : State) (c : Copy) : Prop where
  receives : receives s c.path = true
  crc : crc8Ok c.fch = true
  seg : (parseFch c.fch).seg = segmentNumber s % 256
  type : (parseFch c.fch).type = 2
  dst : (parseFch c.fch).dst = 0xFF
  orig : (parseFch c.fch).orig = 0
  notOwn : BitVec.ofNat 8 (nodeAddress s) ≠ 0
  fcs : fcsOk c = true
  new : isNew s (parseFch c.fch) = true

/-- The state over which a received broadcast is judged: heard, queued for its repeat, and noted as delivered. -/
def broadcastHeard (c : Copy) (s : State) : State := notePair (parseFch c.fch) (repeatQueued c (parseFch c.fch) (copyHeard c s))

/-- From s to t at most the link's lists, the marks of the network block and the log differ; the band stands. -/
def OnlyCarried (s t : State) : Prop := t = { s with
  plc := { t.plc with bandC := s.plc.bandC }, flash := t.flash
  net := { s.net with conflict := t.net.conflict, conflictLogged := t.net.conflictLogged, fpFrames := t.net.fpFrames } }

theorem broadcastHeard_onlyCarried (c : Copy) (s : State) : OnlyCarried s (broadcastHeard c s) := by
  have hqueued : OnlyCarried (copyHeard c s) (repeatQueued c (parseFch c.fch) (copyHeard c s)) := by
    unfold repeatQueued
    split <;> rfl
  have hheard := copyHeard_onlyHeard c s
  unfold OnlyCarried at *
  unfold broadcastHeard notePair
  dsimp only
  rw [hqueued, hheard]

theorem Broadcast.received {s : State} {c : Copy} {start : Time} (h : Broadcast s c) :
    receiveCopy c start s = deliverCopy c (parseFch c.fch) start (broadcastHeard c s) := by
  have hheard := copyHeard_onlyHeard c s
  have haddr : nodeAddress (repeatQueued c (parseFch c.fch) (copyHeard c s)) = nodeAddress s :=
    (repeatQueued_onlyLink _ _ _).nodeAddress.trans hheard.nodeAddress
  have hother : (parseFch c.fch).orig ≠ BitVec.ofNat 8 (nodeAddress s) := h.orig ▸ h.notOwn.symm
  have hnotOwn : ownHeard (parseFch c.fch) (repeatQueued c (parseFch c.fch) (copyHeard c s))
      = repeatQueued c (parseFch c.fch) (copyHeard c s) := by
    rw [ownHeard, haddr, decide_eq_false hother]
    rfl
  have hall : addressed (repeatQueued c (parseFch c.fch) (copyHeard c s)) (parseFch c.fch) = true := by
    simp [addressed, haddr, h.dst, hother]
  have hnoAck : ackOwed c (parseFch c.fch) (repeatQueued c (parseFch c.fch) (copyHeard c s))
      = repeatQueued c (parseFch c.fch) (copyHeard c s) := by
    rw [ackOwed, h.type]
    rfl
  have hnew : isNew (repeatQueued c (parseFch c.fch) (copyHeard c s)) (parseFch c.fch) = true := by
    have hpairs : (copyHeard c s).plc.lastPairs = s.plc.lastPairs := by rw [hheard]
    rw [isNew, (repeatQueued_acks c (parseFch c.fch) _).2, hpairs]
    exact h.new
  rw [receiveCopy_heard h.receives h.crc h.seg, h.type, if_neg (by decide), receiveFrame_eq, hnotOwn, hall, h.fcs, hnoAck, newDelivered,
    hnew, h.orig]
  rfl

/-- What the judgement of a broadcast reads is as the copy found it. -/
theorem OnlyCarried.judges {s t : State} (h : OnlyCarried s t) (hs : CanJudge s) : CanJudge t := by
  obtain ⟨hup, hslot, hscan⟩ := hs
  refine ⟨?_, ?_, ?_⟩ <;> rw [h]
  · exact hup
  · exact hslot
  · exact hscan

theorem OnlyCarried.mac {s t : State} (h : OnlyCarried s t) (p : Path) (b : Bytes) : broadcastMacOk t p b = broadcastMacOk s p b := by
  rw [h]
  rfl

theorem OnlyCarried.form {s t : State} (h : OnlyCarried s t) (x : Fch) (b : Bytes) : beaconForm t x b = beaconForm s x b := by
  rw [h]
  rfl

/-! ### Beacons (R401, R402) -/

/-- What an accepted beacon sets of the network block. -/
theorem beaconTiming_net (p : Path) (h : Fch) (t0 : Time) (fch b : Bytes) (s : State) : let n := (beaconTiming p h t0 fch b s).net
    n.sync = 0 ∧ n.misses = 0 ∧ n.bcastSeq = s.net.bcastSeq ∧ n.bcastLost = s.net.bcastLost
      ∧ n.periodMs = BitVec.ofNat 16 (fieldLe 4 2 b) ∧ n.repeater = mapBit b 0x20 (nodeAddress s) := by
  unfold beaconTiming
  dsimp only
  split
  · rw [logEvent_frame]
    exact ⟨rfl, rfl, rfl, rfl, rfl, rfl⟩
  · exact ⟨rfl, rfl, rfl, rfl, rfl, rfl⟩

theorem beaconTiming_pwr (p : Path) (h : Fch) (t0 : Time) (fch b : Bytes) (s : State) : (beaconTiming p h t0 fch b s).pwr = s.pwr := by
  unfold beaconTiming
  dsimp only
  split
  · rw [logEvent_frame]
  · rfl

section
variable {s u : State} {c : Copy} {h : Fch} {start : Time}

theorem beaconReceived_accepted {r : State} (hform : beaconForm u h c.payload = true)
    (htaken : broadcastTaken true c.path c.payload (BitVec.ofNat 32 (fieldLe 0x30 4 c.payload)) u = (r, true)) :
    beaconReceived c h start u = setCurtail (fieldLe 0x0C 2 c.payload) (beaconTime (clockAtT0 r h start) c.payload
      (beaconTiming c.path h (clockAtT0 r h start) c.fch c.payload r)) := by
  rw [beaconReceived, hform, htaken]
  rfl

theorem beaconReceived_dropped {r : State} (hform : beaconForm u h c.payload = true)
    (htaken : broadcastTaken true c.path c.payload (BitVec.ofNat 32 (fieldLe 0x30 4 c.payload)) u = (r, false)) :
    beaconReceived c h start u = r := by
  rw [beaconReceived, hform, htaken]
  rfl

/-- Out of the loader state an accepted beacon leaves the network block with its timing, its role and its limit. -/
theorem beaconReceived_net {r : State} (hform : beaconForm u h c.payload = true) (hloader : r.pwr.loaderState = false)
    (htaken : broadcastTaken true c.path c.payload (BitVec.ofNat 32 (fieldLe 0x30 4 c.payload)) u = (r, true)) :
    let n := (beaconReceived c h start u).net
    n.sync = 0 ∧ n.misses = 0 ∧ n.bcastSeq = r.net.bcastSeq ∧ n.bcastLost = r.net.bcastLost
      ∧ n.periodMs = BitVec.ofNat 16 (fieldLe 4 2 c.payload) ∧ n.curtail = BitVec.ofNat 16 (fieldLe 0x0C 2 c.payload)
      ∧ n.repeater = mapBit c.payload 0x20 (nodeAddress r) := by
  generalize hv : beaconTiming c.path h (clockAtT0 r h start) c.fch c.payload r = v
  have hclock := beaconTime_onlyClock (clockAtT0 r h start) c.payload v
  have hpwr : (beaconTime (clockAtT0 r h start) c.payload v).pwr.loaderState = false := by
    rw [hclock]
    show v.pwr.loaderState = false
    rw [← hv, beaconTiming_pwr, hloader]
  have hnet : (beaconTime (clockAtT0 r h start) c.payload v).net = v.net := by rw [hclock]
  obtain ⟨hsync, hmiss, hseq, hlost, hperiod, hrole⟩ := beaconTiming_net c.path h (clockAtT0 r h start) c.fch c.payload r
  rw [hv] at hsync hmiss hseq hlost hperiod hrole
  rw [beaconReceived_accepted hform htaken, setCurtail_net, hv, hpwr, if_neg Bool.false_ne_true, hnet]
  exact ⟨hsync, hmiss, hseq, hlost, hperiod, rfl, hrole⟩

theorem exec_beacon (htype : (parseFch c.fch).type = 2) (hlen : c.payload.length ≠ 20) :
    exec (.beacon c start) s = .next (settle (receiveCopy c start s)) := by
  show execBeacon c start s = _
  rw [execBeacon, htype, bne_iff_ne.mpr hlen]
  rfl

theorem Broadcast.beacon (hb : Broadcast s c) (hlen : c.payload.length ≠ 20) : exec (.beacon c start) s
    = .next (settle (beaconReceived c (parseFch c.fch) start (broadcastHeard c s))) := by
  rw [exec_beacon hb.type hlen, hb.received, deliverCopy, hb.type, if_neg (by decide), if_pos rfl, if_neg hlen]

theorem exec_curtailmentMessage (htype : (parseFch c.fch).type = 2) (hlen : c.payload.length = 20) :
    exec (.curtailmentMessage c) s = .next (settle (receiveCopy c (copyStart s c) s)) := by
  show execCurtailmentMessage c s = _
  rw [execCurtailmentMessage, htype, hlen]
  rfl

theorem Broadcast.curtailment (hb : Broadcast s c) (hlen : c.payload.length = 20) : exec (.curtailmentMessage c) s
    = .next (settle (curtailReceived c (broadcastHeard c s))) := by
  rw [exec_curtailmentMessage hb.type hlen, hb.received, deliverCopy, hb.type, if_neg (by decide), if_pos rfl, if_pos hlen]

theorem curtailForm_length {b : Bytes} (hform : curtailForm b = true) : b.length = 20 := by
  simp only [curtailForm, Bool.and_eq_true, beq_iff_eq] at hform
  obtain ⟨⟨⟨⟨hlen, -⟩, -⟩, -⟩, -⟩ := hform
  exact hlen

theorem curtailReceived_accepted {r : State} (hform : curtailForm c.payload = true)
    (htaken : broadcastTaken false c.path c.payload (BitVec.ofNat 32 (fieldLe 8 4 c.payload)) u = (r, true)) :
    curtailReceived c u = setCurtail (fieldLe 4 2 c.payload) r := by
  rw [curtailReceived, hform, htaken]
  rfl

theorem curtailReceived_dropped {r : State} (hform : curtailForm c.payload = true)
    (htaken : broadcastTaken false c.path c.payload (BitVec.ofNat 32 (fieldLe 8 4 c.payload)) u = (r, false)) :
    curtailReceived c u = r := by
  rw [curtailReceived, hform, htaken]
  rfl

/-- An authentic beacon with a new SEQ leaves its timing, its role and its limit. -/
theorem OnlyCarried.beaconAccepted (hu : OnlyCarried s u) (hjudge : CanJudge u) (hform : beaconForm u h c.payload = true)
    (hmac : broadcastMacOk s c.path c.payload = true)
    (hfresh : s.net.bcastLost = true ∨ s.net.bcastSeq.toNat < fieldLe 0x30 4 c.payload % 2 ^ 32) (hloader : s.pwr.loaderState = false) :
    let n := (settle (beaconReceived c h start u)).net
    n.sync = 0 ∧ n.misses = 0 ∧ n.bcastSeq = BitVec.ofNat 32 (fieldLe 0x30 4 c.payload) ∧ n.bcastLost = false
      ∧ n.periodMs = BitVec.ofNat 16 (fieldLe 4 2 c.payload) ∧ n.curtail = BitVec.ofNat 16 (fieldLe 0x0C 2 c.payload)
      ∧ n.repeater = mapBit c.payload 0x20 (nodeAddress s) := by
  have hnew : (true = true ∧ u.net.bcastLost = true)
      ∨ u.net.bcastSeq.toNat < (BitVec.ofNat 32 (fieldLe 0x30 4 c.payload)).toNat := by
    rw [hu, BitVec.toNat_ofNat]
    exact hfresh.imp (fun hlost => ⟨rfl, hlost⟩) id
  have htaken := broadcastTaken_of_new hjudge ((hu.mac _ _).trans hmac) hnew
  have hpwr : (seqTaken true (BitVec.ofNat 32 (fieldLe 0x30 4 c.payload)) u).pwr.loaderState = false := by
    rw [seqTaken_pwr, hu]
    exact hloader
  obtain ⟨hsync, hmiss, hseq, hlost, hperiod, hcurtail, hrole⟩ := beaconReceived_net (start := start) hform hpwr htaken
  refine ⟨hsync, hmiss, hseq, hlost.trans (Bool.and_false _), hperiod, hcurtail, hrole.trans ?_⟩
  show mapBit c.payload 0x20 (nodeAddress (loadYew .link (broadcastKey u) 0 u)) = _
  rw [(loadYew_sends .link (broadcastKey u) 0 u).2, hu]
  rfl

/-- A broadcast with a wrong MAC is counted, and leaves timing, limit and billing. -/
theorem OnlyCarried.wrongMac (hu : OnlyCarried s u) : let t := settle (macFails (loadYew .link (broadcastKey u) 0 u))
    t.od.macFailures = satInc s.od.macFailures ∧ t.net.sync = s.net.sync ∧ t.net.curtail = s.net.curtail
      ∧ t.net.bcastSeq = s.net.bcastSeq ∧ t.bil = s.bil := by
  have hnet : (loadYew .link (broadcastKey u) 0 u).net = u.net := loadYew_net _ _ _ _
  have hod : (loadYew .link (broadcastKey u) 0 u).od = u.od := loadYew_od _ _ _ _
  have hbil : (loadYew .link (broadcastKey u) 0 u).bil = u.bil := by rw [(loadYew_sends .link (broadcastKey u) 0 u).2]
  simp only [settle_od, settle_net, settle_bil, macFails, hnet, hod, hbil]
  rw [hu]
  exact ⟨rfl, rfl, rfl, rfl, rfl⟩

/-! ### A beacon's repeat, and the lapse of a curtailment (R402, R405) -/

/-- The state in which a beacon copy's repeat is on its paths. -/
def beaconRepeated (x : Bytes × Bytes) (s : State) : State :=
  let u := deferAccess { s with net := { s.net with beaconCopy := none } }
  putOn (beaconPaths s) (beaconFrame x) (beaconFrame x).firstMode (headerOf u (beaconFrame x)) u

theorem exec_beaconRepeat {x : Bytes × Bytes} (hx : s.net.beaconCopy = some x) (hup : isUp s .plc = true) (htx : s.plc.tx = none)
    (hpaths : beaconPaths s ≠ []) : exec .beaconRepeat s = .next (settle (beaconRepeated x s)) := by
  have hin : (isUp s .plc && s.plc.tx.isNone) = true := by rw [hup, htx]; rfl
  have hsome : ¬ (beaconPaths s).isEmpty = true := by rwa [List.isEmpty_iff]
  show execBeaconRepeat s = _
  rw [execBeaconRepeat, hx]
  dsimp only
  rw [hin, guarded_true, if_neg hsome, done_eq]
  rfl

theorem exec_curtailmentLapse (hlimit : s.net.curtail ≠ 0xFFFF) : exec .curtailmentLapse s = .next (settle (setCurtail 0xFFFF s)) := by
  show execCurtailmentLapse s = _
  rw [execCurtailmentLapse, bne_iff_ne.mpr hlimit, guarded_true, done_eq]

/-- The minimum-of rule takes the new limit up at once (R185). -/
theorem setCurtail_allowed (v : Nat) (hloader : s.pwr.loaderState = false) : (setCurtail v s).ses.allowed
    = BitVec.ofNat 16 (allowedNow { s with net := { s.net with curtail := BitVec.ofNat 16 v } }) := by
  rw [setCurtail, hloader, if_neg Bool.false_ne_true, recompute_onlyPause]
  rfl

/-! ### Wake windows (R406, R407, R409) -/

theorem exec_wakeWindowOpen (hup : isUp s .plc = true) (hsync : s.net.sync.toNat < 2) : exec .wakeWindowOpen s = .next (settle { s with
    net := { s.net with windowOpen := true, gotBeacon := false, pendingForUs := false, preamble := false, closeDue := false } }) := by
  show execWakeWindowOpen s = _
  rw [execWakeWindowOpen, hup, decide_eq_true hsync]
  rfl

theorem exec_wakeWindowClose (hopen : s.net.windowOpen = true) (hquiet : s.plc.busy = false) :
    exec .wakeWindowClose s = .next (settle (closeWindow s)) := by
  have hno : ¬ (s.plc.busy && s.net.preamble && !s.net.gotBeacon) = true := by
    rw [hquiet]
    exact Bool.false_ne_true
  show execWakeWindowClose s = _
  rw [execWakeWindowClose, hopen, guarded_true, if_neg hno, done_eq]

theorem closeWindow_of_beacon (h : s.net.gotBeacon = true) :
    closeWindow s = { s with net := { s.net with windowOpen := false, preamble := false, closeDue := false } } := by
  rw [closeWindow, h]
  rfl

theorem closeWindow_of_miss (h : s.net.gotBeacon = false) (hmisses : s.net.misses ≠ 3) : closeWindow s = { s with net := { s.net with
    windowOpen := false, preamble := false, closeDue := false, sync := 1, misses := s.net.misses + 1 } } := by
  have hmore : ¬ (decide (s.net.sync = 1) && decide (s.net.misses = 3)) = true := by
    rw [decide_eq_false hmisses, Bool.and_false]
    exact Bool.false_ne_true
  rw [closeWindow, h]
  exact if_neg hmore

theorem closeWindow_of_fourth (h : s.net.gotBeacon = false) (hsync : s.net.sync = 1) (hmisses : s.net.misses = 3) :
    closeWindow s = logEvent (.resync true) { s with net := { s.net with
      windowOpen := false, preamble := false, closeDue := false, sync := 2, repeater := false, beaconCopy := none } } := by
  have hfourth : (decide (s.net.sync = 1) && decide (s.net.misses = 3)) = true := by
    rw [decide_eq_true hsync, decide_eq_true hmisses]
    rfl
  rw [closeWindow, h]
  exact if_pos hfourth

/-! ### Telemetry (R410, R480, R481) -/

theorem useSeq_out (k : KeySel) (s : State) : (useSeq k s).od.out = s.od.out := by cases k <;> rfl

/-- A PDU that is built joins the end of the OD's list. -/
theorem sendPdu_out (p : Path) (prio : BitVec 2) (note : Bool) (op : Nat) (k : KeySel) (st : Nat) (xid : BitVec 16) (b : Bytes) (s : State) :
    ∃ l, (sendPdu p prio note op k st xid b s).od.out = s.od.out ++ l := by
  have hnone : ∃ l, s.od.out = s.od.out ++ l := ⟨[], (List.append_nil _).symm⟩
  unfold sendPdu
  dsimp only
  generalize pduBody _ _ _ _ _ _ _ _ = body
  split
  · split
    · exact ⟨_, rfl⟩
    · exact hnone
  · exact hnone
  · split
    · exact hnone
    · exact ⟨_, by rw [useSeq_out, loadYew_od]⟩

theorem handOver_onlyLink (h : Handover) (s : State) : OnlyLink s (handOver h s) := by
  have hjoined : OnlyLink s (pushFrame (newFrame s h) { s with plc := { s.plc with fid := s.plc.fid + 1 } }) :=
    OnlyLink.trans (t := { s with plc := { s.plc with fid := s.plc.fid + 1 } }) (Eq.refl _) (pushFrame_onlyAccess _ _).onlyLink
  unfold handOver
  dsimp only
  repeat' split
  · rfl
  · rfl
  · exact hjoined.trans (beginAccess_onlyAccess _).onlyLink

/-- The NOTIFY of a pass, as the OD builds it. -/
def telemetryBuilt (p : Bytes) (s : State) : State :=
  notifyNode0 2 p { s with bgd := { s.bgd with snapshot := none, snapshotDue := false } }

/-- It leaves the OD's list and is handed to the link. -/
def telemetrySent (p : Bytes) (s : State) : State :=
  match (telemetryBuilt p s).od.out.drop s.od.out.length with
  | [] => telemetryBuilt p s
  | o :: _ => handOver ⟨2, 0, o.bytes, true⟩ { telemetryBuilt p s with
      od := { (telemetryBuilt p s).od with out := (telemetryBuilt p s).od.out.take s.od.out.length } }

theorem exec_telemetryHandover {p : Bytes} (hp : s.bgd.snapshot = some p) (hdue : s.bgd.snapshotDue = true) (hplc : isUp s .plc = true)
    (hseq : isUp s .seq = true) : exec .telemetryHandover s = .next (settle (telemetrySent p s)) := by
  have hin : (s.bgd.snapshotDue && isUp s .plc && isUp s .seq) = true := by rw [hdue, hplc, hseq]; rfl
  show execTelemetryHandover s = _
  rw [execTelemetryHandover, hp]
  dsimp only
  rw [hin]
  rfl

/-- Telemetry leaves the OD's list, the billing and the session as they were, and the snapshot taken. -/
theorem telemetrySent_keeps (p : Bytes) (s : State) : (telemetrySent p s).bgd.snapshot = none ∧ (telemetrySent p s).bgd.snapshotDue = false
    ∧ (telemetrySent p s).od.out = s.od.out ∧ (telemetrySent p s).bil = s.bil ∧ (telemetrySent p s).ses = s.ses := by
  obtain ⟨l, hl⟩ : ∃ l, (telemetryBuilt p s).od.out = s.od.out ++ l := sendPdu_out _ _ _ _ _ _ _ _ _
  have hbuilt : (telemetryBuilt p s).bgd = { s.bgd with snapshot := none, snapshotDue := false } ∧ (telemetryBuilt p s).bil = s.bil
      ∧ (telemetryBuilt p s).ses = s.ses := by
    rw [telemetryBuilt, notifyNode0, (sendPdu_sends _ _ _ _ _ _ _ _ _).2]
    exact ⟨rfl, rfl, rfl⟩
  obtain ⟨hbgd, hbil, hses⟩ := hbuilt
  have hdrop : (telemetryBuilt p s).od.out.drop s.od.out.length = l := by rw [hl, List.drop_left]
  have htake : (telemetryBuilt p s).od.out.take s.od.out.length = s.od.out := by rw [hl, List.take_left]
  unfold telemetrySent
  rw [hdrop]
  cases l with
  | nil => exact ⟨by rw [hbgd], by rw [hbgd], by rw [hl, List.append_nil], hbil, hses⟩
  | cons o r =>
    dsimp only
    rw [handOver_onlyLink, htake]
    exact ⟨by rw [hbgd], by rw [hbgd], rfl, hbil, hses⟩

end

/-- Settles O48: a broadcast in the steps of `Broadcast.received` and `CanJudge.judged`, and the windows by `closeWindow`'s cases. -/
theorem beaconsAndWindows : Obligations.BeaconsAndWindows := by
  unfold Obligations.BeaconsAndWindows
  intro s
  refine ⟨fun c start hrec hcrc hseg htype hlen hdst horig hown hfcs hnew hform hup hslot hscan => ?_,
    fun c hrec hcrc hseg htype hdst horig hown hfcs hnew hform hup hslot hscan hloader hmac => ?_,
    fun x hx hup htx hpaths => ⟨_, exec_beaconRepeat hx hup htx hpaths, rfl, rfl, rfl, rfl⟩, fun hlimit hloader => ?_,
    exec_wakeWindowOpen, fun hopen hquiet => ⟨fun hgot => ?_, fun hmiss hfew => ?_, fun hmiss hsync hthree => ?_⟩,
    fun p hp hdue hplc hseq => ⟨_, exec_telemetryHandover hp hdue hplc hseq, telemetrySent_keeps p s⟩⟩
  · have hb : Broadcast s c := ⟨hrec, hcrc, hseg, htype, hdst, horig, hown, hfcs, hnew⟩
    have hcarried := broadcastHeard_onlyCarried c s
    have hjudge := hcarried.judges ⟨hup, hslot, hscan⟩
    have hform' := (hcarried.form (parseFch c.fch) c.payload).trans hform
    refine ⟨fun hmac hfresh hloader => ⟨_, hb.beacon hlen, hcarried.beaconAccepted hjudge hform' hmac hfresh hloader⟩,
      fun hmac => ⟨_, hb.beacon hlen, ?_⟩⟩
    rw [beaconReceived_dropped hform' (broadcastTaken_of_wrongMac hjudge ((hcarried.mac _ _).trans hmac))]
    exact hcarried.wrongMac
  · have hb : Broadcast s c := ⟨hrec, hcrc, hseg, htype, hdst, horig, hown, hfcs, hnew⟩
    have hcarried := broadcastHeard_onlyCarried c s
    have hjudge := hcarried.judges ⟨hup, hslot, hscan⟩
    have hmac' := (hcarried.mac c.path c.payload).trans hmac
    have hseq : (broadcastHeard c s).net.bcastSeq = s.net.bcastSeq := by rw [hcarried]
    have hcurtail : (broadcastHeard c s).net.curtail = s.net.curtail := by rw [hcarried]
    have hpwr : (broadcastHeard c s).pwr.loaderState = false := by rw [hcarried]; exact hloader
    refine ⟨fun hfresh => ⟨_, hb.curtailment (curtailForm_length hform), ?_⟩, fun hold => ⟨_, hb.curtailment (curtailForm_length hform), ?_⟩⟩
    · rw [curtailReceived_accepted hform (broadcastTaken_of_new hjudge hmac' (.inr (by rwa [hseq, BitVec.toNat_ofNat]))), settle_net,
        setCurtail_net, if_neg (by rw [seqTaken_pwr, hpwr]; exact Bool.false_ne_true)]
      exact ⟨rfl, rfl⟩
    · rw [curtailReceived_dropped hform (broadcastTaken_of_old hjudge hmac' (by rwa [hseq, BitVec.toNat_ofNat])), settle_net, loadYew_net]
      exact ⟨hcurtail, hseq⟩
  · refine ⟨_, exec_curtailmentLapse hlimit, ?_, setCurtail_allowed 0xFFFF hloader⟩
    rw [settle_net, setCurtail_net, hloader]
    rfl
  · refine ⟨_, exec_wakeWindowClose hopen hquiet, ?_⟩
    rw [closeWindow_of_beacon hgot]
    exact ⟨rfl, rfl, rfl⟩
  · have hmore : s.net.misses ≠ 3 := fun h => by rw [h] at hfew; exact absurd hfew (by decide)
    refine ⟨_, exec_wakeWindowClose hopen hquiet, ?_⟩
    rw [closeWindow_of_miss hmiss hmore]
    exact ⟨rfl, rfl, rfl⟩
  · refine ⟨_, exec_wakeWindowClose hopen hquiet, ?_⟩
    rw [closeWindow_of_fourth hmiss hsync hthree, settle_net, logEvent_frame]
    exact ⟨rfl, rfl, rfl⟩

end Sys2Proof.Machine
end

section
/-! Tariff inputs, the clock and its slew, and the loss of trust (13): ClockAndTariffs (R310, R311, R313, R314, R316). -/

namespace Sys2Proof.Machine

section
variable {s : State}

/-! ### Tariff inputs (R310, R311) -/

/-- The raw code of the two pads (R310). -/
theorem rawCode_eq (a b : Bool) : bit (!a) + 2 * bit (!b) = (if a then 0 else 1) + 2 * (if b then 0 else 1) := by
  cases a <;> cases b <;> rfl

theorem exec_tariffSample (a b : Bool) (s : State) :
    let raw : BitVec 2 := BitVec.ofNat 2 ((if a then 0 else 1) + 2 * (if b then 0 else 1)) ^^^ BitVec.ofNat 2 (setting? s 4 4)
    exec (.tariffSample a b) s = .next (settle { s with bil := { s.bil with
      raw := raw, rawSame := if raw = s.bil.raw then min 5120 (s.bil.rawSame + 1) else 0 } }) := by
  dsimp only
  rw [← rawCode_eq]
  rfl

theorem exec_tariffDebounce_stood (h : debounceSamples s ≤ s.bil.rawSame) :
    exec .tariffDebounce s = .next (settle (refreshCode { s with bil := { s.bil with input := s.bil.raw } })) := by
  show execTariffDebounce s = _
  rw [execTariffDebounce, decide_eq_true h, guarded_true, done_eq]

theorem exec_tariffDebounce_short (h : s.bil.rawSame < debounceSamples s) : exec .tariffDebounce s = .next (settle s) := by
  show execTariffDebounce s = _
  rw [execTariffDebounce, decide_eq_false (Nat.not_le.mpr h), guarded_false, done_eq]

/-! ### A tick of the clock (R313, R316) -/

theorem exec_rtcTick (s : State) : exec .rtcTick s
    = .next (settle (autoRecover { slewTick s with bil := { (slewTick s).bil with running := (slewTick s).bil.running + 1 } })) := rfl

theorem slewTick_frame (s : State) : slewTick s = { s with bil := (slewTick s).bil } := by
  unfold slewTick
  dsimp only
  repeat' split
  all_goals rfl

theorem slewTick_running (s : State) : (slewTick s).bil.running = s.bil.running := by
  unfold slewTick
  dsimp only
  repeat' split
  all_goals rfl

/-- Without a slew a tick adds 2 counts. -/
theorem slewTick_of_none (h : s.bil.slewCounts = 0) : (slewTick s).bil.clock = s.bil.clock + 2 := by
  rw [slewTick, if_pos h]

/-- Before its 200th tick a slew changes nothing of a tick. -/
theorem slewTick_between (h : s.bil.slewTicks.toNat < 199) : (slewTick s).bil.clock = s.bil.clock + 2 := by
  unfold slewTick
  dsimp only
  split
  · rfl
  · rw [if_pos (by omega)]

/-- At the 200th tick a slew forward adds a count of 2, and one less is left of it. -/
theorem slewTick_forward (h : 2 ≤ s.bil.slewCounts) (hlast : 199 ≤ s.bil.slewTicks.toNat) :
    (slewTick s).bil.clock = s.bil.clock + 4 ∧ (slewTick s).bil.slewTicks = 0
      ∧ (4 ≤ s.bil.slewCounts → (slewTick s).bil.slewCounts = s.bil.slewCounts - 2) := by
  have hslew : s.bil.slewCounts ≠ 0 := by omega
  have hdue : ¬ s.bil.slewTicks.toNat + 1 < 200 := by omega
  unfold slewTick
  dsimp only
  rw [if_neg hslew, if_neg hdue]
  dsimp only
  rw [if_pos h, if_pos h]
  exact ⟨rfl, rfl, fun hmore => if_neg (by omega)⟩

/-- A slew backward withholds it. -/
theorem slewTick_backward (h : s.bil.slewCounts ≤ -2) (hlast : 199 ≤ s.bil.slewTicks.toNat) :
    (slewTick s).bil.clock = s.bil.clock ∧ (slewTick s).bil.slewTicks = 0
      ∧ (s.bil.slewCounts ≤ -4 → (slewTick s).bil.slewCounts = s.bil.slewCounts + 2) := by
  have hslew : s.bil.slewCounts ≠ 0 := by omega
  have hdue : ¬ s.bil.slewTicks.toNat + 1 < 200 := by omega
  have hnot : ¬ 2 ≤ s.bil.slewCounts := by omega
  unfold slewTick
  dsimp only
  rw [if_neg hslew, if_neg hdue]
  dsimp only
  rw [if_neg hnot, if_pos h, if_neg hnot, if_pos h]
  exact ⟨BitVec.add_zero _, rfl, fun hmore => if_neg (by omega)⟩

/-- AUTO_LEFT counts what is left of three (R261). -/
theorem autoRecover_left (s : State) : (autoRecover s).safe.autoLeft.toNat = 3 - min 3 (autoRecover s).safe.autoTimes.length := by
  have hsmall (n : Nat) : 3 - min 3 n < 2 ^ 2 := by omega
  exact (BitVec.toNat_ofNat _ _).trans (Nat.mod_eq_of_lt (hsmall _))

/-! ### A close of the open record (R322, R324) -/

/-- The record that a close ends, as it joins the closed ones. -/
def closedRecord (k : RecordKind) (endT : Time) (adjust : Int) (s : State) : Record :=
  { finishedRecord k endT s with adjusted := k == .step || k == .regainTrust, adjustMs := clampInt 32 adjust }

/-- With billing under way and room among the held records a close ends the open record and opens the next. -/
theorem closeOne_closes (k : RecordKind) (e n : Time) (a : Int) (hopen : s.bil.pendState = .open) (hbilling : s.pwr.billing = true)
    (hroom : s.bil.held.length + s.bil.closed.length < 4) : closeOne k e n a s = openRecord n { s with bil := { s.bil with
      closed := s.bil.closed ++ [closedRecord k e a s], closedFresh := s.bil.closedFresh + 1, lossDue := none
      intervalMin := if k = .boundary then BitVec.ofNat 8 (setting? s 5 0) else s.bil.intervalMin } } := by
  have hgo : ¬ (s.bil.pendState != .open || !s.pwr.billing || decide (4 ≤ s.bil.held.length + s.bil.closed.length)) = true := by
    rw [hopen, hbilling, decide_eq_false (Nat.not_le.mpr hroom)]
    decide
  exact if_neg hgo

theorem closeDue_of_none {t : Time} (h : boundaryDue t s = false) : closeDue t s = s := by
  rw [closeDue, h]
  exact if_neg Bool.false_ne_true

theorem closeDue_closes {t : Time} (h : boundaryDue t s = true) : closeDue t s
    = closeOne .boundary (BitVec.ofNat 48 (boundaryAt t s)) (BitVec.ofNat 48 (boundaryAt t s)) 0 s := by
  rw [closeDue, h]
  exact if_pos rfl

/-! ### The loss of trust (R314) -/

/-- The state in which trust is lost: the record closed at that moment, the code of R311, the next record's flags. -/
def trustGone (s : State) : State := trustOpens s (setTrust false (closeRecord .trustLost s.bil.clock s.bil.clock 0 s))

theorem exec_trustLost (htrusted : s.bil.trusted = true) (hstopped : s.sup.rtcXtalOk = false) :
    exec .trustLost s = .next (settle (trustGone s)) := by
  show execTrustLost s = _
  rw [execTrustLost, htrusted, hstopped]
  rfl

theorem exec_trustLost_none (h : s.bil.trusted = false ∨ s.sup.rtcXtalOk = true) : exec .trustLost s = .next (settle s) := by
  have hnot : (s.bil.trusted && !s.sup.rtcXtalOk) = false := by
    obtain h | h := h <;> rw [h]
    · rfl
    · exact Bool.and_false _
  show execTrustLost s = _
  rw [execTrustLost, hnot, guarded_false, done_eq]

/-- A loss of trust that closes a record opens the next one under the flags and codes of the loss. -/
theorem trustOpens_opens {before t : State} (h : t.bil.closed.length ≠ before.bil.closed.length) : trustOpens before t
    = { t with bil := { t.bil with trustFresh := true, openRec := { t.bil.openRec with
        trusted := t.bil.trusted, default := t.bil.default, subs := [⟨0, t.bil.inForce, t.bil.input⟩] } } } := if_neg h

/-- The record with which a loss of trust begins. -/
theorem trustGone_closes (hopen : s.bil.pendState = .open) (hbilling : s.pwr.billing = true)
    (hroom : s.bil.held.length + s.bil.closed.length < 4) (hdue : boundaryDue s.bil.clock s = false) :
    let t := trustGone s
    t.bil.trusted = false ∧ t.bil.default = true ∧ t.bil.inForce = BitVec.ofNat 2 (setting? s 4 2) ∧ t.bil.clock = s.bil.clock
      ∧ t.bil.closed = s.bil.closed ++ [closedRecord .trustLost s.bil.clock 0 s]
      ∧ t.bil.openRec.start = s.bil.clock ∧ t.bil.openRec.trusted = false ∧ t.bil.openRec.default = true
      ∧ t = { s with bil := t.bil, ses := t.ses } := by
  have hclosed : closeRecord .trustLost s.bil.clock s.bil.clock 0 s = openRecord s.bil.clock { s with bil := { s.bil with
      closed := s.bil.closed ++ [closedRecord .trustLost s.bil.clock 0 s], closedFresh := s.bil.closedFresh + 1, lossDue := none } } := by
    have hnot : ¬ (RecordKind.trustLost == .boundary) = true := by decide
    rw [closeRecord, if_neg hnot, closeDue_of_none hdue, closeOne_closes _ _ _ _ hopen hbilling hroom]
    rfl
  have hmore : (s.bil.closed ++ [closedRecord .trustLost s.bil.clock 0 s]).length ≠ s.bil.closed.length := by
    rw [List.length_append]
    exact Nat.succ_ne_self _
  unfold trustGone
  rw [hclosed, trustOpens_opens hmore]
  exact ⟨rfl, rfl, rfl, rfl, rfl, rfl, rfl, rfl, rfl⟩

end

/-- Settles O31: a tick by the cases of `slewTick`, and the loss of trust by the close it begins with. -/
theorem clockAndTariffs : Obligations.ClockAndTariffs := by
  unfold Obligations.ClockAndTariffs
  intro s
  refine ⟨fun a b => exec_tariffSample a b s, exec_tariffDebounce_stood, exec_tariffDebounce_short, ⟨_, exec_rtcTick s, ?_, ?_⟩,
    fun htrusted hstopped hopen hbilling hroom hdue => ?_, exec_trustLost_none⟩
  · exact congrArg (· + 1) (slewTick_running s)
  · refine ⟨slewTick_of_none, slewTick_between, slewTick_forward, slewTick_backward, autoRecover_left _, ?_⟩
    rw [settle_frame, slewTick_frame]
    rfl
  · obtain ⟨hnot, hdefault, hcode, hclock, hclosed, hstart, htrust, hflag, hframe⟩ := trustGone_closes hopen hbilling hroom hdue
    refine ⟨_, exec_trustLost htrusted hstopped, hnot, hdefault, hcode, hclock, ⟨_, hclosed, rfl, rfl⟩, hstart, htrust, hflag, ?_⟩
    rw [settle_frame, hframe]

end Sys2Proof.Machine
end

section
/-! Interval boundaries and the ledger (13): LedgerRecords (R320, R322, R325, R334). -/

namespace Sys2Proof.Machine

section
variable {s : State}

/-! ### A boundary (R320) -/

theorem exec_intervalBoundary (s : State) : exec .intervalBoundary s = .next (settle (closeDue s.bil.clock s)) := rfl

/-- A boundary lies at or before its time, so it is a time itself. -/
theorem boundaryAt_toNat (t : Time) (s : State) : (BitVec.ofNat 48 (boundaryAt t s)).toNat = boundaryAt t s :=
  (BitVec.toNat_ofNat _ _).trans (Nat.mod_eq_of_lt (lt_of_le_of_lt (Nat.div_mul_le_self _ _) t.isLt))

theorem boundaryDue_open {t : Time} (h : boundaryDue t s = true) : s.bil.pendState = .open := by
  simp only [boundaryDue, Bool.and_eq_true, beq_iff_eq] at h
  obtain ⟨⟨hopen, -⟩, -⟩ := h
  exact hopen

/-- Without billing, or with four records held, no record closes (R334, R336). -/
theorem closeOne_barred (k : RecordKind) (e n : Time) (a : Int) (h : s.pwr.billing = false ∨ 4 ≤ s.bil.held.length + s.bil.closed.length) :
    closeOne k e n a s = s := by
  have hstop : (s.bil.pendState != .open || !s.pwr.billing || decide (4 ≤ s.bil.held.length + s.bil.closed.length)) = true := by
    obtain h | h := h
    · rw [h, Bool.not_false, Bool.or_true, Bool.true_or]
    · rw [decide_eq_true h, Bool.or_true]
  exact if_pos hstop

theorem closeDue_barred {t : Time} (h : boundaryDue t s = false ∨ s.pwr.billing = false ∨ 4 ≤ s.bil.held.length + s.bil.closed.length) :
    closeDue t s = s := by
  obtain h | h := h
  · exact closeDue_of_none h
  · cases hdue : boundaryDue t s with
    | false => exact closeDue_of_none hdue
    | true => rw [closeDue_closes hdue, closeOne_barred _ _ _ _ h]

/-! ### A record is signed and appended, or held (R325, R334) -/

/-- While SEC can sign and none is held, a record is appended. -/
theorem writeRecord_appends {q : Record} (hheld : s.bil.held = []) (hsign : canSign s = true) :
    writeRecord q s = appendRecord (afterDiscarded s.bil.discarded q) { s with bil := { s.bil with discarded := none } } := by
  have hgo : (canSign { s with bil := { s.bil with discarded := none } } && s.bil.held.isEmpty) = true := by
    rw [hheld]
    exact congrArg (· && true) hsign
  exact if_pos hgo

/-- Otherwise it is held. -/
theorem writeRecord_holds {q : Record} (h : canSign s = false ∨ s.bil.held ≠ []) : writeRecord q s = noteHeld { s with bil :=
    { s.bil with discarded := none, held := s.bil.held ++ [afterDiscarded s.bil.discarded q] } } := by
  have hstop : ¬ (canSign { s with bil := { s.bil with discarded := none } } && s.bil.held.isEmpty) = true := by
    rw [Bool.and_eq_true, List.isEmpty_iff, not_and_or]
    exact h.imp (fun hno => by rw [show canSign { s with bil := { s.bil with discarded := none } } = false from hno]; decide) id
  exact if_neg hstop

/-- What a record that is held leaves in the log, or still owes to it. -/
theorem noteHeld_notes (s : State) : (s.flash.writable = true → (satInc s.flash.eventCount, .recordHeld) ∈ (noteHeld s).flash.log)
    ∧ (s.flash.writable = false → (noteHeld s).flash = s.flash ∧ (noteHeld s).bil.heldDue = s.bil.heldDue + 1)
    ∧ noteHeld s = { s with bil := { s.bil with heldDue := (noteHeld s).bil.heldDue }, flash := (noteHeld s).flash } := by
  cases hw : s.flash.writable with
  | true =>
    have hlog : noteHeld s = logEvent .recordHeld s := if_pos hw
    refine ⟨fun _ => ?_, fun h => absurd h Bool.noConfusion, ?_⟩
    · rw [hlog, logEvent_appends hw]
      exact List.mem_append_right _ (List.mem_singleton_self _)
    · rw [hlog, logEvent_frame]
  | false =>
    have hdue : noteHeld s = { s with bil := { s.bil with heldDue := s.bil.heldDue + 1 } } := if_neg (by rw [hw]; exact Bool.false_ne_true)
    rw [hdue]
    exact ⟨fun h => absurd h Bool.noConfusion, fun _ => ⟨rfl, rfl⟩, rfl⟩

/-- The state in which the oldest closed record has been taken to be written. -/
def closedTaken (l : List Record) (s : State) : State :=
  { s with bil := { s.bil with closed := l, closedFresh := min s.bil.closedFresh l.length } }

theorem exec_ledgerRecordWrite {q : Record} {l : List Record} (hq : s.bil.closed = q :: l) (hseq : isUp s .seq = true)
    (hended : s.bil.closedFresh ≤ l.length ∨ isUp s .met = false) :
    exec .ledgerRecordWrite s = .next (settle (writeRecord q (closedTaken l s))) := by
  have hgo : (isUp s .seq && (decide (s.bil.closedFresh ≤ l.length) || !isUp s .met)) = true := by
    rw [hseq, Bool.true_and, Bool.or_eq_true, decide_eq_true_eq, Bool.not_eq_true']
    exact hended
  show execLedgerRecordWrite s = _
  rw [execLedgerRecordWrite, hq]
  dsimp only
  rw [hgo]
  rfl

theorem exec_heldRecordWrite {r : Record} {l : List Record} (hr : s.bil.held = r :: l) (hsign : canSign s = true) :
    exec .heldRecordWrite s = .next (settle (appendRecord r { s with bil := { s.bil with held := l } })) := by
  show execHeldRecordWrite s = _
  rw [execHeldRecordWrite, hr]
  dsimp only
  rw [hsign, guarded_true, done_eq]

/-- The lists of records play no part in a signature: a record that SEC signs is appended with it. -/
theorem appendRecord_signed {r : Record} {sig : Bytes} (b : Billing) (hg : b.genesisDone = s.bil.genesisDone)
    (hh : b.headHash = s.bil.headHash) (hsig : recordSignature r s = some sig) :
    appendRecord r { s with bil := b } = appendSigned r (some sig) { s with bil := b } := by
  rw [appendRecord, test_signature_depends r s b hg hh, hsig]

/-- The billing block with the oldest closed record and the discarded one taken over. -/
def billingTakenOver (l : List Record) (s : State) : Billing :=
  { s.bil with closed := l, closedFresh := min s.bil.closedFresh l.length, discarded := none }

/-- The oldest closed record is signed and appended. -/
theorem exec_ledgerRecordWrite_signed {q : Record} {l : List Record} {sig : Bytes} (hq : s.bil.closed = q :: l) (hseq : isUp s .seq = true)
    (hended : s.bil.closedFresh ≤ l.length ∨ isUp s .met = false) (hheld : s.bil.held = []) (hsign : canSign s = true)
    (hsig : recordSignature (afterDiscarded s.bil.discarded q) s = some sig) : exec .ledgerRecordWrite s
      = .next (settle (appendSigned (afterDiscarded s.bil.discarded q) (some sig) { s with bil := billingTakenOver l s })) :=
  (exec_ledgerRecordWrite hq hseq hended).trans (congrArg (fun t => Host.Outcome.next (settle t))
    ((writeRecord_appends (s := closedTaken l s) hheld hsign).trans (appendRecord_signed (billingTakenOver l s) rfl rfl hsig)))

theorem exec_heldRecordWrite_signed {r : Record} {l : List Record} {sig : Bytes} (hr : s.bil.held = r :: l) (hsign : canSign s = true)
    (hsig : recordSignature r s = some sig) : exec .heldRecordWrite s
      = .next (settle (appendSigned r (some sig) { s with bil := { s.bil with held := l } })) :=
  (exec_heldRecordWrite hr hsign).trans (congrArg (fun t => Host.Outcome.next (settle t))
    (appendRecord_signed { s.bil with held := l } rfl rfl hsig))

/-- It is held instead. -/
theorem exec_ledgerRecordWrite_held {q : Record} {l : List Record} (hq : s.bil.closed = q :: l) (hseq : isUp s .seq = true)
    (hended : s.bil.closedFresh ≤ l.length ∨ isUp s .met = false) (hhold : canSign s = false ∨ s.bil.held ≠ []) : exec .ledgerRecordWrite s
      = .next (settle (noteHeld { s with bil := { billingTakenOver l s with held := s.bil.held ++ [afterDiscarded s.bil.discarded q] } })) :=
  (exec_ledgerRecordWrite hq hseq hended).trans
    (congrArg (fun t => Host.Outcome.next (settle t)) (writeRecord_holds (s := closedTaken l s) hhold))

end

/-- Settles O32: a boundary by `closeOne_closes`, a record by `writeRecord_appends` and `writeRecord_holds`. -/
theorem ledgerRecords : Obligations.LedgerRecords := by
  unfold Obligations.LedgerRecords
  intro s
  refine ⟨fun hdue hbilling hroom => ?_, fun hbarred => ?_, fun q r l sig hq hseq hended hr => ⟨fun hheld hsign hsig => ?_, fun hhold => ?_⟩,
    fun r l sig hr hsign hsig => ⟨_, exec_heldRecordWrite_signed hr hsign hsig, rfl, rfl, rfl, rfl⟩⟩
  · have hstart := boundaryAt_toNat s.bil.clock s
    refine ⟨_, exec_intervalBoundary s, ?_⟩
    rw [closeDue_closes hdue, closeOne_closes _ _ _ _ (boundaryDue_open hdue) hbilling hroom]
    exact ⟨⟨_, rfl, rfl, hstart, rfl, rfl⟩, hstart, rfl, rfl, rfl⟩
  · rw [exec_intervalBoundary, closeDue_barred hbarred]
  · subst hr
    exact ⟨_, exec_ledgerRecordWrite_signed hq hseq hended hheld hsign hsig, rfl, rfl, rfl, rfl, rfl, rfl⟩
  · subst hr
    obtain ⟨hlog, howed, hframe⟩ := noteHeld_notes { s with bil :=
      { billingTakenOver l s with held := s.bil.held ++ [afterDiscarded s.bil.discarded q] } }
    refine ⟨_, exec_ledgerRecordWrite_held hq hseq hended hhold, ?_⟩
    generalize noteHeld _ = u at hlog howed hframe
    have hbil : u.bil = { billingTakenOver l s with
        held := s.bil.held ++ [afterDiscarded s.bil.discarded q], heldDue := u.bil.heldDue } := by rw [hframe]
    refine ⟨?_, ?_, ?_, hlog, howed, ?_, ?_⟩
    · rw [settle_bil, hbil]
    · rw [settle_bil, hbil]
      rfl
    · rw [settle_bil, hbil]
      rfl
    · rw [settle_bil, hbil]
      rfl
    · rw [settle_frame, hframe]

end Sys2Proof.Machine
end

section
/-! The end of a metrology period (12): MetrologyPeriods (R294, R296, R298, R299, R305, R308). -/

namespace Sys2Proof.Machine

/-! ### A session's stop leaves the clock and the code in force -/

/-- From s to t the clock and the tariff code in force stand. -/
def SameClock (s t : State) : Prop := t.bil.clock = s.bil.clock ∧ t.bil.inForce = s.bil.inForce

theorem SameClock.trans {s t u : State} (h : SameClock s t) (h' : SameClock t u) : SameClock s u :=
  ⟨h'.1.trans h.1, h'.2.trans h.2⟩

theorem SameClock.of_bil {s t : State} (h : t.bil = s.bil) : SameClock s t := by
  unfold SameClock
  rw [h]
  exact ⟨rfl, rfl⟩

theorem markStop_sameClock (r : BitVec 8) (s : State) : SameClock s (markStop r s) := by
  unfold markStop
  split <;> exact ⟨rfl, rfl⟩

theorem releaseGrant_bil (s : State) : (releaseGrant s).bil = s.bil := by
  unfold releaseGrant
  repeat' split
  all_goals rfl

theorem eventPrompt_bil (n : Nat) (s : State) : (eventPrompt n s).bil = s.bil := by rw [eventPrompt_frame]

theorem enterEnded_bil (r : BitVec 8) (s : State) : (enterEnded r s).bil = s.bil := by
  have hlock : (lockAtEnd r (phaseEnded s)).bil = s.bil := by
    unfold lockAtEnd
    repeat' split
    case isFalse.isFalse.isTrue => rw [commandMove_frame]; rfl
    all_goals rfl
  rw [enterEnded_eq, endPrompt]
  repeat' split
  · rw [eventPrompt_bil, hlock]
  · rw [eventPrompt_bil, hlock]
  · exact hlock

theorem endSession_sameClock (r : BitVec 8) (s : State) : SameClock s (endSession r s) := by
  have hclosed : SameClock s (closeSession r s) := by
    unfold closeSession
    split
    · exact ⟨rfl, rfl⟩
    · exact (markStop_sameClock r s).trans (.of_bil (releaseGrant_bil _))
  exact hclosed.trans (.of_bil (enterEnded_bil r _))

theorem finishBreak_sameClock (s : State) : SameClock s (finishBreak s) := by
  have hpaused (t : State) : SameClock t (enterPaused t) := .of_bil (eventPrompt_bil _ _)
  have houtcome (t : State) : SameClock t (breakOutcome t) := by
    unfold breakOutcome
    repeat' split
    · exact hpaused t
    · exact hpaused t
    · exact endSession_sameClock _ t
  have hhold (t : State) : SameClock t (dueHold t) := .of_bil (by unfold dueHold; split <;> rfl)
  rw [finishBreak_eq]
  exact (houtcome { s with ses := { s.ses with breakStep := 0 } }).trans (hhold _)

theorem releaseCoil_sameClock (s : State) : SameClock s (releaseCoil s) := by
  have hfive (t : State) : SameClock t (breakStepFive t) := by
    unfold breakStepFive
    dsimp only
    split
    · exact ⟨rfl, rfl⟩
    · exact finishBreak_sameClock { t with ses := { t.ses with breakStep := 5 }, plt := { t.plt with next := 0 } }
  unfold releaseCoil
  dsimp only
  repeat' split
  · exact ⟨rfl, rfl⟩
  · exact hfive _
  · exact ⟨rfl, rfl⟩
  · exact ⟨rfl, rfl⟩
  · exact hfive s

theorem startBreak_sameClock (r : BitVec 8) (s : State) : SameClock s (startBreak r s) := by
  have hbegins : SameClock s (breakBegins r s) := by
    unfold breakBegins
    dsimp only
    split
    · exact ⟨rfl, rfl⟩
    · exact markStop_sameClock r _
  rw [startBreak_eq]
  split
  · exact hbegins
  · exact hbegins.trans (releaseCoil_sameClock _)

theorem stopSession_sameClock (r : BitVec 8) (s : State) : SameClock s (stopSession r s) := by
  unfold stopSession
  repeat' split
  case h_1.isTrue => exact markStop_sameClock r _
  case h_2 | h_3 | h_4 => exact startBreak_sameClock r s
  case h_5 => exact endSession_sameClock r s
  all_goals exact ⟨rfl, rfl⟩

/-! ### The energies of one phase (R298) -/

/-- The accumulators of phase p with what remains below one count: import under the code of the period, reverse and reactive. -/
def phaseEnergies (p : Nat) (m : Met) : (BitVec 64 × Frac) × (Word × Frac) × (BitVec 64 × Frac) :=
  ((m.eimp.toList.getD (4 * p + m.code.toNat) 0, m.eimpRes.toList.getD (4 * p + m.code.toNat) {}),
    (m.erev.toList.getD p 0, m.erevRes.toList.getD p {}), (m.evar.toList.getD p 0, m.evarRes.toList.getD p {}))

/-- They take a period's energies, in parts of 1 / d mWh. -/
def energiesAdded (d : Nat) (r : PhaseResult) (x : (BitVec 64 × Frac) × (Word × Frac) × (BitVec 64 × Frac)) :
    (BitVec 64 × Frac) × (Word × Frac) × (BitVec 64 × Frac) :=
  (addEnergy x.1.1 x.1.2 r.active.toNat d, addEnergy x.2.1.1 x.2.1.2 (-r.active).toNat d, addEnergy x.2.2.1 x.2.2.2 r.reactive d)

section
variable {m : Met} {p q d : Nat} {r : PhaseResult}

theorem phaseEnergies_accumulate_own (hp : p < 3) : phaseEnergies p (accumulate d p r m) = energiesAdded d r (phaseEnergies p m) := by
  have hk : 4 * p + m.code.toNat < 12 := by have := m.code.isLt; omega
  simp only [phaseEnergies, accumulate, energiesAdded, getD_setIfInBounds_same _ hk, getD_setIfInBounds_same _ hp]

theorem phaseEnergies_accumulate_other (hpq : p ≠ q) : phaseEnergies q (accumulate d p r m) = phaseEnergies q m := by
  have hk : 4 * p + m.code.toNat ≠ 4 * q + m.code.toNat := by omega
  simp only [phaseEnergies, accumulate, getD_setIfInBounds_other _ hk, getD_setIfInBounds_other _ hpq]

/-- Import goes under the code of the period and under no other. -/
theorem eimp_accumulate_otherCode {k : Nat} (hk : k % 4 ≠ m.code.toNat) :
    (accumulate d p r m).eimp.toList.getD k 0 = m.eimp.toList.getD k 0 := by
  have hother : 4 * p + m.code.toNat ≠ k := by have := m.code.isLt; omega
  exact getD_setIfInBounds_other _ hother _ _

/-- What accumulating changes of the metrology block. -/
def OnlyEnergies (m m' : Met) : Prop := m' = { m with
  eimp := m'.eimp, eimpRes := m'.eimpRes, erev := m'.erev, erevRes := m'.erevRes, evar := m'.evar, evarRes := m'.evarRes }

theorem OnlyEnergies.trans {m m' m'' : Met} (h : OnlyEnergies m m') (h' : OnlyEnergies m' m'') : OnlyEnergies m m'' := by
  unfold OnlyEnergies at *
  rw [h', h]

/-- A phase's energies go to its accumulators where SW5 declares it. -/
def phaseTaken (ps : List Nat) (d p : Nat) (r : PhaseResult) (m : Met) : Met := if ps.contains p then accumulate d p r m else m

theorem phaseTaken_onlyEnergies (ps : List Nat) (d p : Nat) (r : PhaseResult) (m : Met) : OnlyEnergies m (phaseTaken ps d p r m) := by
  unfold phaseTaken
  split <;> rfl

theorem OnlyEnergies.code {m m' : Met} (h : OnlyEnergies m m') : m'.code = m.code := by rw [h]

variable {ps : List Nat}

theorem phaseEnergies_taken_own (hp : p < 3) (h : ps.contains p = true) :
    phaseEnergies p (phaseTaken ps d p r m) = energiesAdded d r (phaseEnergies p m) := by
  rw [phaseTaken, if_pos h, phaseEnergies_accumulate_own hp]

theorem phaseEnergies_taken_other (hpq : p ≠ q) : phaseEnergies q (phaseTaken ps d p r m) = phaseEnergies q m := by
  unfold phaseTaken
  split
  · exact phaseEnergies_accumulate_other hpq
  · rfl

theorem phaseTaken_undeclared (h : ps.contains p = false) : phaseTaken ps d p r m = m := if_neg (by rw [h]; exact Bool.false_ne_true)

theorem eimp_taken_otherCode {k : Nat} (hk : k % 4 ≠ m.code.toNat) :
    (phaseTaken ps d p r m).eimp.toList.getD k 0 = m.eimp.toList.getD k 0 := by
  unfold phaseTaken
  split
  · exact eimp_accumulate_otherCode hk
  · rfl

end

/-! ### The energies of the three phases -/

/-- The three phases' energies, with the results of the period by phase. -/
def energiesTaken (ps : List Nat) (d : Nat) (r : Nat → PhaseResult) (m : Met) : Met :=
  phaseTaken ps d 2 (r 2) (phaseTaken ps d 1 (r 1) (phaseTaken ps d 0 (r 0) m))

section
variable {m : Met} {d : Nat} {r : Nat → PhaseResult} {ps : List Nat}

theorem energiesTaken_onlyEnergies (ps : List Nat) (d : Nat) (r : Nat → PhaseResult) (m : Met) :
    OnlyEnergies m (energiesTaken ps d r m) :=
  ((phaseTaken_onlyEnergies _ _ _ _ _).trans (phaseTaken_onlyEnergies _ _ _ _ _)).trans (phaseTaken_onlyEnergies _ _ _ _ _)

/-- Each declared phase takes its own energies, once. -/
theorem phaseEnergies_energiesTaken {p : Nat} (hp : p < 3) (h : ps.contains p = true) :
    phaseEnergies p (energiesTaken ps d r m) = energiesAdded d (r p) (phaseEnergies p m) := by
  unfold energiesTaken
  obtain rfl | rfl | rfl : p = 0 ∨ p = 1 ∨ p = 2 := by omega
  · rw [phaseEnergies_taken_other (by decide), phaseEnergies_taken_other (by decide), phaseEnergies_taken_own hp h]
  · rw [phaseEnergies_taken_other (by decide), phaseEnergies_taken_own hp h, phaseEnergies_taken_other (by decide)]
  · rw [phaseEnergies_taken_own hp h, phaseEnergies_taken_other (by decide), phaseEnergies_taken_other (by decide)]

/-- A phase that is not declared takes none. -/
theorem phaseEnergies_energiesTaken_undeclared {p : Nat} (hp : p < 3) (h : ps.contains p = false) :
    phaseEnergies p (energiesTaken ps d r m) = phaseEnergies p m := by
  unfold energiesTaken
  obtain rfl | rfl | rfl : p = 0 ∨ p = 1 ∨ p = 2 := by omega
  · rw [phaseEnergies_taken_other (by decide), phaseEnergies_taken_other (by decide), phaseTaken_undeclared h]
  · rw [phaseEnergies_taken_other (by decide), phaseTaken_undeclared h, phaseEnergies_taken_other (by decide)]
  · rw [phaseTaken_undeclared h, phaseEnergies_taken_other (by decide), phaseEnergies_taken_other (by decide)]

theorem eimp_energiesTaken_otherCode {k : Nat} (hk : k % 4 ≠ m.code.toNat) :
    (energiesTaken ps d r m).eimp.toList.getD k 0 = m.eimp.toList.getD k 0 := by
  have h0 := (phaseTaken_onlyEnergies ps d 0 (r 0) m).code
  have h1 := (phaseTaken_onlyEnergies ps d 1 (r 1) (phaseTaken ps d 0 (r 0) m)).code
  unfold energiesTaken
  rw [eimp_taken_otherCode (by rwa [h1, h0]), eimp_taken_otherCode (by rwa [h0]), eimp_taken_otherCode hk]

end

/-! ### The metrology block over a period's end -/

/-- The result of a phase over the period: none of a phase that is not declared. -/
def resultOf (t : Nat) (s : State) (p : Nat) : PhaseResult := if (phases s).contains p then phaseResult s.met p t else ⟨0, 0, 0, 0, 0⟩

/-- The measured values and the energies of the period. -/
def periodMeasured (T : BitVec 18) (s : State) : Met :=
  energiesTaken (phases s) (energyDen s.met.samples.length) (resultOf (coveredTime T.toNat s.met) s)
    (measured (periodResults (coveredTime T.toNat s.met) s) s.met)

/-- The energy that the session and the pulses take. -/
def periodPositive (T : BitVec 18) (s : State) : Nat := positiveSum (periodResults (coveredTime T.toNat s.met) s)

/-- The block with the frequency and the pulses too. -/
def periodMet (T : BitVec 18) (s : State) : Met :=
  ledEnergy (periodPositive T s) (energyDen s.met.samples.length) (frequency T (periodMeasured T s))

/-- The state in which the session takes the period's energy. -/
def periodCounted (T : BitVec 18) (s : State) : State :=
  sessionEnergy (periodPositive T s) (energyDen s.met.samples.length)
    { s with met := { periodMet T s with valid := adcRuns s && !s.met.gap } }

/-- The state in which the period has been judged. -/
def periodJudged (T : BitVec 18) (s : State) : State :=
  judgeGrant (noteReverse (periodResults (coveredTime T.toNat s.met) s) (completeClosed (periodCounted T s)))

theorem foldl_periodResults (d t : Nat) (s : State) (m : Met) :
    (periodResults t s).zipIdx.foldl (fun m x => if (phases s).contains x.2 then accumulate d x.2 x.1 m else m) m
      = energiesTaken (phases s) d (resultOf t s) m := rfl

theorem periodEnd_eq (T : BitVec 18) (s : State) : periodEnd T s = nextPeriod { periodJudged T s with
    plc := { (periodJudged T s).plc with mainsRef := isUp (periodJudged T s) .plc && (periodJudged T s).met.freqValid } } := by
  unfold periodEnd
  dsimp only
  rw [foldl_periodResults]
  unfold periodJudged periodCounted periodMet periodMeasured periodPositive
  with_reducible rfl

/-! ### What the block holds when the period has been counted -/

section
variable {s t : State} {T : BitVec 18}

theorem measured_frame (l : List PhaseResult) (m : Met) :
    measured l m = { m with vRms := (measured l m).vRms, iRms := (measured l m).iRms, power := (measured l m).power } := by
  unfold measured
  dsimp only
  split <;> rfl

theorem ledEnergy_frame (e d : Nat) (m : Met) :
    ledEnergy e d m = { m with ledAcc := (ledEnergy e d m).ledAcc, ledOwed := (ledEnergy e d m).ledOwed } := by
  unfold ledEnergy
  dsimp only
  split <;> rfl

theorem periodMeasured_onlyEnergies (T : BitVec 18) (s : State) :
    OnlyEnergies (measured (periodResults (coveredTime T.toNat s.met) s) s.met) (periodMeasured T s) := energiesTaken_onlyEnergies _ _ _ _

/-- The energies, values and constants of the period are in the block, with its frequency and pulses. -/
theorem periodMet_frame (T : BitVec 18) (s : State) : periodMet T s = { periodMeasured T s with
    ledAcc := (periodMet T s).ledAcc, ledOwed := (periodMet T s).ledOwed, goodPeriods := (periodMet T s).goodPeriods
    freqValid := (periodMet T s).freqValid, freq := (periodMet T s).freq, period := T } := by
  rw [periodMet, ledEnergy_frame]
  rfl

/-- The frequency is valid from the second good period on (R296). -/
theorem frequency_good {m : Met} (hlow : 153800 ≤ T.toNat) (hhigh : T.toNat ≤ 222200) (hloss : m.mainsLoss = false) (hgood : 1 ≤ m.goodPeriods) :
    (frequency T m).freqValid = true ∧ (frequency T m).freq = BitVec.ofNat 32 (655360000000 / T.toNat) := by
  have htwo : min 2 (m.goodPeriods + 1) = 2 := by omega
  simp [frequency, hlow, hhigh, hloss, htwo]

/-- A period out of range, or with mains loss, gives none. -/
theorem frequency_bad {m : Met} (h : T.toNat < 153800 ∨ 222200 < T.toNat ∨ m.mainsLoss = true) :
    (frequency T m).freqValid = false ∧ (frequency T m).freq = 0 := by
  have hbad : (decide (153800 ≤ T.toNat) && decide (T.toNat ≤ 222200) && !m.mainsLoss) = false := by
    obtain h | h | h := h
    · rw [decide_eq_false (Nat.not_le.mpr h)]
      rfl
    · rw [decide_eq_false (Nat.not_le.mpr h), Bool.and_false]
      rfl
    · rw [h, Bool.not_true, Bool.and_false]
  unfold frequency
  dsimp only
  rw [hbad]
  exact ⟨rfl, rfl⟩

theorem periodMet_freq (T : BitVec 18) (s : State) : (periodMet T s).freqValid = (frequency T (periodMeasured T s)).freqValid
    ∧ (periodMet T s).freq = (frequency T (periodMeasured T s)).freq := by
  rw [periodMet, ledEnergy_frame]
  exact ⟨rfl, rfl⟩

theorem periodMeasured_kept (T : BitVec 18) (s : State) : (periodMeasured T s).mainsLoss = s.met.mainsLoss
    ∧ (periodMeasured T s).goodPeriods = s.met.goodPeriods ∧ (periodMeasured T s).session = s.met.session
    ∧ (periodMeasured T s).sessionRes = s.met.sessionRes ∧ (periodMeasured T s).calNext = s.met.calNext
    ∧ (periodMeasured T s).code = s.met.code := by
  rw [periodMeasured_onlyEnergies, measured_frame]
  exact ⟨rfl, rfl, rfl, rfl, rfl, rfl⟩

theorem phaseEnergies_measured (l : List PhaseResult) (p : Nat) (m : Met) : phaseEnergies p (measured l m) = phaseEnergies p m := by
  rw [measured_frame]
  rfl

theorem phaseEnergies_periodMeasured {p : Nat} (hp : p < 3) (h : (phases s).contains p = true) : phaseEnergies p (periodMeasured T s)
    = energiesAdded (energyDen s.met.samples.length) (phaseResult s.met p (coveredTime T.toNat s.met)) (phaseEnergies p s.met) := by
  have hresult : resultOf (coveredTime T.toNat s.met) s p = phaseResult s.met p (coveredTime T.toNat s.met) := if_pos h
  rw [periodMeasured, phaseEnergies_energiesTaken hp h, hresult, phaseEnergies_measured]

theorem phaseEnergies_periodMeasured_undeclared {p : Nat} (hp : p < 3) (h : (phases s).contains p = false) :
    phaseEnergies p (periodMeasured T s) = phaseEnergies p s.met := by
  rw [periodMeasured, phaseEnergies_energiesTaken_undeclared hp h, phaseEnergies_measured]

theorem eimp_periodMeasured_otherCode {k : Nat} (hk : k % 4 ≠ s.met.code.toNat) :
    (periodMeasured T s).eimp.toList.getD k 0 = s.met.eimp.toList.getD k 0 := by
  have hcode : (measured (periodResults (coveredTime T.toNat s.met) s) s.met).code = s.met.code := by rw [measured_frame]
  rw [periodMeasured, eimp_energiesTaken_otherCode (by rwa [hcode]), measured_frame]

/-- A declared phase's values are those of the period, unless it held no sample. -/
theorem periodMeasured_rms {p : Nat} (hp : p < 3) (h : (phases s).contains p = true) (hsamples : s.met.samples ≠ []) :
    (periodMeasured T s).vRms.toList.getD p 0 = BitVec.ofNat 32 (phaseResult s.met p (coveredTime T.toNat s.met)).vRms
      ∧ (periodMeasured T s).iRms.toList.getD p 0 = BitVec.ofNat 32 (phaseResult s.met p (coveredTime T.toNat s.met)).iRms := by
  have hresult : (periodResults (coveredTime T.toNat s.met) s).getD p ⟨0, 0, 0, 0, 0⟩ = phaseResult s.met p (coveredTime T.toNat s.met) := by
    have hof : resultOf (coveredTime T.toNat s.met) s p = phaseResult s.met p (coveredTime T.toNat s.met) := if_pos h
    rw [← hof]
    obtain rfl | rfl | rfl : p = 0 ∨ p = 1 ∨ p = 2 := by omega
    all_goals rfl
  have hsome : ¬ s.met.samples.isEmpty = true := by rwa [List.isEmpty_iff]
  have hv : (periodMeasured T s).vRms = (measured (periodResults (coveredTime T.toNat s.met) s) s.met).vRms := by
    rw [periodMeasured_onlyEnergies]
  have hi : (periodMeasured T s).iRms = (measured (periodResults (coveredTime T.toNat s.met) s) s.met).iRms := by
    rw [periodMeasured_onlyEnergies]
  rw [hv, hi, measured, if_neg hsome, ← hresult]
  have hne : p ≠ 3 := by omega
  have hp4 : p < 4 := by omega
  constructor <;> simp [List.getD_eq_getElem?_getD, hp, hp4, hne]

/-! ### After the count: the session, the record, the grant, the next period -/

/-- From s to t the metrology block stands but for REVERSE, and so do the clock, the code in force and what is up. -/
structure AfterCount (s t : State) : Prop where
  met : t.met = { s.met with reverse := t.met.reverse }
  clock : SameClock s t
  fab : t.fab = s.fab

theorem AfterCount.trans {s t u : State} (h : AfterCount s t) (h' : AfterCount t u) : AfterCount s u :=
  ⟨by rw [h'.met, h.met], h.clock.trans h'.clock, h'.fab.trans h.fab⟩

theorem AfterCount.of_bil {s t : State} (hmet : t.met = s.met) (hbil : t.bil = s.bil) (hfab : t.fab = s.fab) : AfterCount s t :=
  ⟨by rw [hmet], .of_bil hbil, hfab⟩

theorem logEvent_afterCount (k : EventKind) (s : State) : AfterCount s (logEvent k s) := by
  rw [logEvent_frame]
  exact .of_bil rfl rfl rfl

theorem stopSession_afterCount (r : BitVec 8) (s : State) : AfterCount s (stopSession r s) :=
  ⟨by rw [stopSession_onlySwitching], stopSession_sameClock r s, by rw [stopSession_onlySwitching]⟩

theorem noteReverse_afterCount (l : List PhaseResult) (s : State) : AfterCount s (noteReverse l s) := by
  unfold noteReverse
  split
  · exact AfterCount.trans (t := { s with met := { s.met with reverse := true } }) ⟨rfl, ⟨rfl, rfl⟩, rfl⟩ (logEvent_afterCount _ _)
  · exact .of_bil rfl rfl rfl

theorem judgeGrant_afterCount (s : State) : AfterCount s (judgeGrant s) := by
  have hstop (b : Prop) [Decidable b] (r : BitVec 8) (t : State) : AfterCount t (if b then stopSession r t else t) := by
    split
    · exact stopSession_afterCount r t
    · exact .of_bil rfl rfl rfl
  unfold judgeGrant
  split
  · exact .of_bil rfl rfl rfl
  · split
    · exact (hstop _ 2 s).trans (hstop _ 3 _)
    · split
      · exact AfterCount.trans (t := { s with ses := { s.ses with grant := none } }) (.of_bil rfl rfl rfl)
          ((logEvent_afterCount _ _).trans (.of_bil rfl rfl rfl))
      · exact .of_bil rfl rfl rfl

theorem completeClosed_afterCount (s : State) : AfterCount s (completeClosed s) := ⟨rfl, ⟨rfl, rfl⟩, rfl⟩

/-- Session energy writes the metrology block's session counter, the session and its records. -/
theorem sessionEnergy_counts {e d : Nat} {s : State} (h : s.ses.counting = true) : (sessionEnergy e d s).met
      = { s.met with session := (addEnergy s.met.session s.met.sessionRes e d).1, sessionRes := (addEnergy s.met.session s.met.sessionRes e d).2 }
    ∧ SameClock s (sessionEnergy e d s) ∧ (sessionEnergy e d s).fab = s.fab := by
  have htail (t : State) : (recordTail t).met = t.met ∧ SameClock t (recordTail t) ∧ (recordTail t).fab = t.fab := by
    unfold recordTail
    dsimp only
    split <;> exact ⟨rfl, ⟨rfl, rfl⟩, rfl⟩
  unfold sessionEnergy
  rw [h]
  dsimp only
  split
  · next hnot => exact absurd hnot (by decide)
  · split
    · obtain ⟨hmet, hclock, hfab⟩ := htail (tableTail _ _)
      exact ⟨hmet, hclock, hfab⟩
    · exact ⟨rfl, ⟨rfl, rfl⟩, rfl⟩

theorem sessionEnergy_none {e d : Nat} {s : State} (h : s.ses.counting = false) : sessionEnergy e d s = s := by
  rw [sessionEnergy, h]
  rfl

theorem noteCodes_frame (s : State) : noteCodes s = { s with bil := (noteCodes s).bil } := by
  have hdue := closeDueAtStart_frame s.bil.clock s
  unfold noteCodes
  dsimp only
  generalize closeDueAtStart s.bil.clock s = u at hdue
  repeat' split
  case isFalse.isFalse.isTrue => rw [closeAtPeriodStart_frame, hdue]
  all_goals rw [hdue]

/-- The block with which the next period starts (R305, R311). -/
theorem nextPeriod_frame (s : State) : nextPeriod s = { s with
    met := { s.met with
      periodStart := s.bil.clock, cal := s.met.calNext, samples := [], code := s.bil.inForce
      skewCorr := s.met.skewNow, skewNow := pairBorrowed s, threePhase := threePhase s, gap := !adcRuns s }
    bil := (nextPeriod s).bil, ses := { s.ses with stopFresh := false } } := by
  unfold nextPeriod
  dsimp only
  rw [noteCodes_frame]
  rfl

/-! ### The end of a period as a whole -/

/-- The session counter after the period: it takes the period's energy while it counts (R299). -/
theorem periodCounted_counts (T : BitVec 18) (s : State) : let u := periodCounted T s
    u.met = { periodMet T s with valid := u.met.valid, session := u.met.session, sessionRes := u.met.sessionRes }
      ∧ u.met.session = (if s.ses.counting then
          (addEnergy s.met.session s.met.sessionRes (periodPositive T s) (energyDen s.met.samples.length)).1 else s.met.session)
      ∧ SameClock s u ∧ u.fab = s.fab := by
  obtain ⟨-, -, hsession, hres, -, -⟩ := periodMeasured_kept T s
  have hs : (periodMet T s).session = s.met.session := by rw [periodMet_frame]; exact hsession
  have hr : (periodMet T s).sessionRes = s.met.sessionRes := by rw [periodMet_frame]; exact hres
  unfold periodCounted
  generalize periodMet T s = m at hs hr
  dsimp only
  cases hcount : s.ses.counting with
  | true =>
    obtain ⟨hmet, hclock, hfab⟩ := sessionEnergy_counts (e := periodPositive T s) (d := energyDen s.met.samples.length)
      (s := { s with met := { m with valid := adcRuns s && !s.met.gap } }) hcount
    refine ⟨by rw [hmet], ?_, hclock, hfab⟩
    rw [hmet, if_pos rfl]
    exact congrArg₂ (fun a r => (addEnergy a r _ _).1) hs hr
  | false =>
    rw [sessionEnergy_none (s := { s with met := { m with valid := adcRuns s && !s.met.gap } }) hcount]
    exact ⟨rfl, hs, ⟨rfl, rfl⟩, rfl⟩

theorem periodJudged_after (T : BitVec 18) (s : State) : AfterCount (periodCounted T s) (periodJudged T s) :=
  ((completeClosed_afterCount _).trans (noteReverse_afterCount _ _)).trans (judgeGrant_afterCount _)

/-- The metrology block that the end of a period leaves: that of the period, with the next one begun. -/
theorem periodEnd_met (T : BitVec 18) (s : State) : let m := (periodEnd T s).met
    m = { periodMet T s with
      valid := m.valid, session := m.session, sessionRes := m.sessionRes, reverse := m.reverse, skewCorr := m.skewCorr, skewNow := m.skewNow
      threePhase := m.threePhase, gap := m.gap, periodStart := s.bil.clock, cal := s.met.calNext, samples := [], code := s.bil.inForce } := by
  obtain ⟨hmet, -, hclock, -⟩ := periodCounted_counts T s
  have hafter := periodJudged_after T s
  obtain ⟨htime, hcode⟩ := hclock.trans hafter.clock
  obtain ⟨-, -, -, -, hcal, -⟩ := periodMeasured_kept T s
  have hnext : (periodMet T s).calNext = s.met.calNext := by
    rw [periodMet_frame]
    exact hcal
  have hjudged := hafter.met
  rw [hmet] at hjudged
  rw [periodEnd_eq, nextPeriod_frame]
  dsimp only
  rw [htime, hcode, hjudged, ← hnext]

theorem periodEnd_session (T : BitVec 18) (s : State) : (periodEnd T s).met.session = if s.ses.counting then
    (addEnergy s.met.session s.met.sessionRes (periodPositive T s) (energyDen s.met.samples.length)).1 else s.met.session := by
  obtain ⟨-, hsession, -, -⟩ := periodCounted_counts T s
  have hjudged := (periodJudged_after T s).met
  rw [periodEnd_eq, nextPeriod_frame]
  dsimp only
  rw [hjudged]
  exact hsession

/-- The line link's phase reference follows the frequency (R390). -/
theorem periodEnd_mainsRef (T : BitVec 18) (s : State) :
    (periodEnd T s).plc.mainsRef = (isUp s .plc && (periodEnd T s).met.freqValid) := by
  obtain ⟨-, -, -, hcounted⟩ := periodCounted_counts T s
  have hfab : (periodJudged T s).fab = s.fab := (periodJudged_after T s).fab.trans hcounted
  have hup : isUp (periodJudged T s) .plc = isUp s .plc := congrArg (fun f => (pget f.ports .plc).state == .up) hfab
  rw [periodEnd_eq, nextPeriod_frame]
  dsimp only
  rw [hup]

/-- Without a grant or a session a period's end writes metrology, billing and the session's marks alone. -/
theorem periodEnd_frame (hgrant : s.ses.grant = none) (huse : s.ses.inUse = false) (hcount : s.ses.counting = false) :
    periodEnd T s = { s with met := (periodEnd T s).met, bil := (periodEnd T s).bil, ses := (periodEnd T s).ses
                             plc := { s.plc with mainsRef := (periodEnd T s).plc.mainsRef } } := by
  have hcounted : periodCounted T s = { s with met := { periodMet T s with valid := adcRuns s && !s.met.gap } } :=
    sessionEnergy_none hcount
  have hreverse (l : List PhaseResult) (m : Met) : noteReverse l (completeClosed { s with met := m }) = completeClosed { s with met := m } := by
    refine if_neg ?_
    rw [show sessionOn (completeClosed { s with met := m }) = false from huse, Bool.and_false]
    exact Bool.false_ne_true
  have hjudge (m : Met) : judgeGrant (completeClosed { s with met := m }) = completeClosed { s with met := m } := by
    rw [judgeGrant, show (completeClosed { s with met := m }).ses.grant = none from hgrant]
  rw [periodEnd_eq, nextPeriod_frame, periodJudged, hcounted, hreverse, hjudge]
  rfl

theorem exec_metrologyPeriodEnd (hmet : isUp s .met = true) (hT : T ≠ 0) :
    exec (.metrologyPeriodEnd T) s = .next (settle (periodEnd T s)) := by
  show execMetrologyPeriodEnd T s = _
  rw [execMetrologyPeriodEnd, hmet, bne_iff_ne.mpr hT, Bool.and_self, guarded_true, done_eq]

end

/-- Settles O29: the block that `periodEnd_met` gives, with each phase's energies by `phaseEnergies_periodMeasured`. -/
theorem metrologyPeriods : Obligations.MetrologyPeriods := by
  unfold Obligations.MetrologyPeriods
  intro s T hup hT
  have hmet := periodEnd_met T s
  have hsession := periodEnd_session T s
  obtain ⟨hloss, hgoodPeriods, -, -, -, hcode⟩ := periodMeasured_kept T s
  obtain ⟨hvalid, hfreq⟩ := periodMet_freq T s
  dsimp only at hmet
  refine ⟨_, exec_metrologyPeriodEnd hup hT, fun p hp hdecl => ?_, fun k hk hother => ?_, fun p hp hnot => ?_, fun hcount => ?_,
    fun hcount => ?_, fun hlow hhigh hno hone => ?_, fun hbad => ?_, ?_, ?_, ?_, ?_, ?_, periodEnd_mainsRef T s, fun hgrant huse hcount => ?_⟩
  · have henergies := phaseEnergies_periodMeasured (T := T) hp hdecl
    unfold phaseEnergies energiesAdded at henergies
    rw [hcode] at henergies
    dsimp only at henergies
    obtain ⟨himport, hrest⟩ := Prod.mk.inj henergies
    obtain ⟨hreverse, hreactive⟩ := Prod.mk.inj hrest
    rw [settle_met, hmet, periodMet_frame]
    exact ⟨himport, hreverse, hreactive, periodMeasured_rms hp hdecl⟩
  · rw [settle_met, hmet, periodMet_frame]
    exact eimp_periodMeasured_otherCode hother
  · have henergies := phaseEnergies_periodMeasured_undeclared (T := T) hp hnot
    unfold phaseEnergies at henergies
    obtain ⟨-, hrest⟩ := Prod.mk.inj henergies
    obtain ⟨hreverse, hreactive⟩ := Prod.mk.inj hrest
    rw [settle_met, hmet, periodMet_frame]
    exact ⟨(Prod.mk.inj hreverse).1, (Prod.mk.inj hreactive).1⟩
  · rw [hcount, if_pos rfl] at hsession
    exact hsession
  · rw [hcount, if_neg Bool.false_ne_true] at hsession
    exact hsession
  · have hfresh := frequency_good (m := periodMeasured T s) hlow hhigh (hloss.trans hno) (hgoodPeriods.symm ▸ hone)
    rw [settle_met, hmet]
    exact ⟨hvalid.trans hfresh.1, hfreq.trans hfresh.2⟩
  · have hnone := frequency_bad (m := periodMeasured T s) (hbad.imp id (Or.imp id hloss.trans))
    rw [settle_met, hmet]
    exact ⟨hvalid.trans hnone.1, hfreq.trans hnone.2⟩
  · rw [settle_met, hmet, periodMet_frame]
  · rw [settle_met, hmet]
  · rw [settle_met, hmet]
  · rw [settle_met, hmet]
  · rw [settle_met, hmet]
  · rw [settle_frame, periodEnd_frame hgrant huse hcount]

end Sys2Proof.Machine
end

section
/-! Time-sets, grants and session tokens (13, 14): SignedWrites (R315, R317, R319, R349, R350, R353, R354). -/

namespace Sys2Proof.Machine

section
variable {s : State} {rq : Requester} {b : Bytes}

/-! ### A signed write is answered (R132, R145, Table 14-9) -/

theorem writeEntry_of_accepted_long {a : BitVec 16} {v : Bytes} (h : Accepted rq true a v s) (hact : isAction a = true) :
    writeEntry rq true a v s = actionEffect a v s := by
  obtain ⟨-, hcheck, hbusy⟩ := h
  rw [writeEntry, hcheck, hact, hbusy]
  rfl

/-- An accepted write of a long action entry is answered with the status of its effect, over the state that it leaves. -/
theorem longAction_answered {a : BitVec 16} {v : Bytes} {u : State} {st : Nat} {l : Later} (h : Accepted rq true a v s)
    (hact : isAction a = true) (hlong : (odRow? a).map OdRow.long = some true) (heff : actionEffect a v s = ⟨st, u, l⟩) :
    ∃ p, done (actionRowWrite rq a v s) = .next (settle (runLater l (respond rq 3 st p u))) := by
  obtain ⟨r, hrow, htrue⟩ := Option.map_eq_some_iff.mp hlong
  have hserved : odServed s = true := h.1
  have hwrite : actionRowWrite rq a v s = answer rq 3 (leBytes 2 a.toNat ++ leBytes 4 v.length) 0 a ⟨st, u, l⟩ := by
    simp only [actionRowWrite, hrow, hserved, htrue, if_true]
    rw [writeEntry_of_accepted_long h hact, heff]
  rw [done_eq, hwrite, answer]
  exact ⟨_, rfl⟩

/-- A response leaves every block but the dictionary and SEC. -/
theorem respond_blocks (st : Nat) (p : Bytes) (u : State) : (respond rq 3 st p u).bil = u.bil ∧ (respond rq 3 st p u).ses = u.ses := by
  rw [respond_frame]
  exact ⟨rfl, rfl⟩

/-- SEC is there for a signed write: in service, with the operator root key in slot 1. -/
theorem signedStop_none (hup : isUp s .sec = true) (hkey : s.sec.slotOk.getLsbD 1 = true) : signedStop s = none := by
  rw [signedStop, hup, hkey]
  rfl

theorem signedWrite_accepted {code : Nat} {ok : Bool} {accept : Reply} (hsec : signedStop s = none) (hok : ok = true) :
    signedWrite code ok accept s = accept := by
  rw [signedWrite, hsec, hok]
  rfl

theorem signedWrite_refused {code : Nat} {ok : Bool} {accept : Reply} (hsec : signedStop s = none) (hno : ok = false) :
    signedWrite code ok accept s = ⟨stAuth, logEvent (.authRefused code) s, .nothing⟩ := by
  rw [signedWrite, hsec, hno]
  rfl

/-! ### Time-sets (R315, R317, R319) -/

/-- The clock's part of the billing block: what a close of the open record leaves. -/
def ClockKept (s t : State) : Prop := t.bil.clock = s.bil.clock ∧ t.bil.tsCounter = s.bil.tsCounter ∧ t.bil.slewCounts = s.bil.slewCounts
  ∧ t.bil.trusted = s.bil.trusted

theorem ClockKept.trans {s t u : State} (h : ClockKept s t) (h' : ClockKept t u) : ClockKept s u := by
  obtain ⟨hc, ht, hs, hr⟩ := h
  obtain ⟨hc', ht', hs', hr'⟩ := h'
  exact ⟨hc'.trans hc, ht'.trans ht, hs'.trans hs, hr'.trans hr⟩

theorem closeOne_clockKept (k : RecordKind) (e n : Time) (a : Int) (s : State) : ClockKept s (closeOne k e n a s) := by
  unfold closeOne
  split <;> exact ⟨rfl, rfl, rfl, rfl⟩

theorem closeRecord_clockKept (k : RecordKind) (e n : Time) (a : Int) (s : State) : ClockKept s (closeRecord k e n a s) := by
  have hdue : ClockKept s (closeDue e s) := by
    unfold closeDue
    split
    · exact closeOne_clockKept _ _ _ _ s
    · exact ⟨rfl, rfl, rfl, rfl⟩
  unfold closeRecord
  split
  · exact closeOne_clockKept _ _ _ _ s
  · exact hdue.trans (closeOne_clockKept _ _ _ _ _)

theorem logEvent_clockKept (k : EventKind) (s : State) : ClockKept s (logEvent k s) := by
  rw [logEvent_frame]
  exact ⟨rfl, rfl, rfl, rfl⟩

/-- A step sets the clock and ends a slew (R317). -/
theorem stepClock_clock (k : RecordKind) (new : Time) (s : State) : (stepClock k new s).bil.clock = new
    ∧ (stepClock k new s).bil.slewCounts = 0 ∧ (stepClock k new s).bil.tsCounter = s.bil.tsCounter := by
  obtain ⟨hclock, hcount, hslew, -⟩ := (closeRecord_clockKept k s.bil.clock new (diffMs new s.bil.clock) { s with bil := { s.bil with
    clock := new, valid := true, slewCounts := 0, slewLeft := 0, lastAdjustMs := diffMs new s.bil.clock } }).trans
      (logEvent_clockKept (.stepped s.bil.clock new) _)
  exact ⟨hclock, hslew, hcount⟩

/-- Within AdjustLimitMs of trusted time a time-set begins a slew (R315). -/
theorem applyTimeSet_slews {new : Time} (h : s.bil.trusted = true) (hnear : (diffMs new s.bil.clock).natAbs ≤ setting? s 2 3) :
    applyTimeSet new s = startSlew ((new.toNat : Int) - s.bil.clock.toNat) { s with bil := { s.bil with lastAdjustMs := diffMs new s.bil.clock } } := by
  rw [applyTimeSet, if_pos h, if_pos hnear]

/-- Beyond it the clock steps (R317). -/
theorem applyTimeSet_steps {new : Time} (h : s.bil.trusted = true) (hfar : setting? s 2 3 < (diffMs new s.bil.clock).natAbs) :
    applyTimeSet new s = stepClock .step new s := by
  rw [applyTimeSet, if_pos h, if_neg (Nat.not_le.mpr hfar)]

/-- Untrusted time takes the new time and is trusted (R314, R317). -/
theorem applyTimeSet_trusts {new : Time} (h : s.bil.trusted = false) : (applyTimeSet new s).bil.clock = new
    ∧ (applyTimeSet new s).bil.trusted = true ∧ (applyTimeSet new s).bil.tsCounter = s.bil.tsCounter := by
  have hopens (u : State) : ClockKept u (trustOpens s u) := by
    unfold trustOpens
    split <;> exact ⟨rfl, rfl, rfl, rfl⟩
  obtain ⟨hclock, hcount, -, -⟩ := closeRecord_clockKept .regainTrust s.bil.clock new (diffMs new s.bil.clock) { s with bil := { s.bil with
    clock := new, valid := true, slewCounts := 0, slewLeft := 0, lastAdjustMs := diffMs new s.bil.clock } }
  have hnot : ¬ s.bil.trusted = true := by rw [h]; exact Bool.false_ne_true
  rw [applyTimeSet, if_neg hnot]
  obtain ⟨hc, ht, -, hr⟩ := (hopens (setTrust true (closeRecord .regainTrust s.bil.clock new (diffMs new s.bil.clock) { s with bil :=
    { s.bil with clock := new, valid := true, slewCounts := 0, slewLeft := 0, lastAdjustMs := diffMs new s.bil.clock } }))).trans
      (logEvent_clockKept (.stepped s.bil.clock new) _)
  exact ⟨hc.trans hclock, hr, ht.trans hcount⟩

theorem applyTimeSet_tsCounter (new : Time) (s : State) : (applyTimeSet new s).bil.tsCounter = s.bil.tsCounter := by
  cases h : s.bil.trusted with
  | false =>
    obtain ⟨-, -, hcounter⟩ := applyTimeSet_trusts (new := new) h
    exact hcounter
  | true =>
    obtain hnear | hfar := Nat.lt_or_ge (setting? s 2 3) (diffMs new s.bil.clock).natAbs
    · obtain ⟨-, -, hcounter⟩ := stepClock_clock .step new s
      rw [applyTimeSet_steps h hnear, hcounter]
    · rw [applyTimeSet_slews h hfar]
      rfl

/-- The state in which a time-set's COUNTER has been taken. -/
def counterTaken (b : Bytes) (s : State) : State := { s with bil := { s.bil with tsCounter := BitVec.ofNat 32 (fieldLe 0x18 4 b) } }

/-- The state that an accepted time-set leaves. -/
def timeTaken (b : Bytes) (s : State) : State := applyTimeSet (timeOf (slice 0x10 6 b)) (counterTaken b s)

theorem timeSet_accepted (hsec : signedStop s = none) (hok : timeSetOk s b = true) :
    actionEffect (od 2 2) b s = ⟨stOk, timeTaken b s, .nothing⟩ := signedWrite_accepted hsec hok

theorem timeSet_refused (hsec : signedStop s = none) (hno : timeSetOk s b = false) :
    actionEffect (od 2 2) b s = ⟨stAuth, logEvent (.authRefused 3) s, .nothing⟩ := signedWrite_refused hsec hno

/-- What an accepted time-set does to the clock (R315, R317). -/
theorem timeTaken_clock (b : Bytes) (s : State) : let new := timeOf (slice 0x10 6 b)
    (timeTaken b s).bil.tsCounter = BitVec.ofNat 32 (fieldLe 0x18 4 b)
      ∧ (s.bil.trusted = true → (diffMs new s.bil.clock).natAbs ≤ setting? s 2 3 → (timeTaken b s).bil.clock = s.bil.clock
        ∧ (timeTaken b s).bil.slewCounts = (new.toNat : Int) - s.bil.clock.toNat)
      ∧ (s.bil.trusted = true → setting? s 2 3 < (diffMs new s.bil.clock).natAbs →
        (timeTaken b s).bil.clock = new ∧ (timeTaken b s).bil.slewCounts = 0)
      ∧ (s.bil.trusted = false → (timeTaken b s).bil.clock = new ∧ (timeTaken b s).bil.trusted = true) := by
  refine ⟨applyTimeSet_tsCounter _ _, fun h hnear => ?_, fun h hfar => ?_, fun h => ?_⟩
  · rw [timeTaken, applyTimeSet_slews (s := counterTaken b s) h hnear]
    exact ⟨rfl, rfl⟩
  · rw [timeTaken, applyTimeSet_steps (s := counterTaken b s) h hfar]
    obtain ⟨hclock, hslew, -⟩ := stepClock_clock .step (timeOf (slice 0x10 6 b)) (counterTaken b s)
    exact ⟨hclock, hslew⟩
  · obtain ⟨hclock, htrusted, -⟩ := applyTimeSet_trusts (s := counterTaken b s) (new := timeOf (slice 0x10 6 b)) h
    exact ⟨hclock, htrusted⟩

/-! ### Grants (R349, R350) -/

/-- The start of a session keeps its grant and the clock. -/
theorem tryStart_grant (s : State) : (tryStart s).ses.grant = s.ses.grant ∧ (tryStart s).bil.clock = s.bil.clock := by
  have hoffer (u : State) : (offerOrPause u).ses.grant = u.ses.grant ∧ (offerOrPause u).bil.clock = u.bil.clock := by
    unfold offerOrPause enterPaused
    dsimp only
    split
    · exact ⟨rfl, rfl⟩
    · rw [eventPrompt_frame]
      exact ⟨rfl, rfl⟩
  unfold tryStart
  split
  · exact ⟨rfl, rfl⟩
  · dsimp only
    repeat' split
    · exact ⟨rfl, rfl⟩
    · exact hoffer _
    · exact hoffer _
    · rw [commandMove_frame]
      exact ⟨rfl, rfl⟩

/-- A verified grant waits or goes into use (R28, R39). -/
theorem holdGrant_grant (b : Bytes) (s : State) : (holdGrant b s).ses.grant = some (grantOf s b) ∧ (holdGrant b s).bil.clock = s.bil.clock := by
  obtain ⟨hgrant, hclock⟩ := tryStart_grant (recompute { s with ses :=
    { s.ses with grant := some (grantOf s b), inUse := false, table := lineTaken (grantOf s b) s } })
  have hidle := recompute_of_idle (s := { s with ses :=
    { s.ses with grant := some (grantOf s b), inUse := false, table := lineTaken (grantOf s b) s } }) rfl
  exact ⟨hgrant.trans (by rw [hidle]; rfl), hclock.trans (by rw [hidle]; rfl)⟩

theorem grant_accepted (hsec : signedStop s = none) (hok : grantOk s b = true) :
    actionEffect (od 0x1C 0) b s = ⟨stOk, eventPrompt 2 (holdGrant b s), .nothing⟩ := by
  show grantWrite b s = _
  rw [grantWrite, signedWrite_accepted hsec hok]
  rfl

theorem grant_refused (hsec : signedStop s = none) (hno : grantOk s b = false) :
    actionEffect (od 0x1C 0) b s = ⟨stAuth, eventPrompt 3 (logEvent (.authRefused 1) s), .nothing⟩ := by
  show grantWrite b s = _
  rw [grantWrite, signedWrite_refused hsec hno]
  rfl

/-! ### Session tokens (R353, R354) -/

/-- The session that a token opens. -/
def sessionOf (b : Bytes) (s : State) : AuthSession :=
  { number := sessionNumberFor s.od.lastSession (BitVec.ofNat 32 (fieldLe 0x18 4 b)).toNat, counter := BitVec.ofNat 32 (fieldLe 0x18 4 b)
    nonce := slice 0x1C 16 b, notAfter := timeOf (slice 0x10 6 b), acceptedAt := s.bil.running }

/-- The state in which a token's COUNTER has been taken. -/
def tokenTaken (b : Bytes) (s : State) : State := { s with od := { s.od with
  tokenCounter := BitVec.ofNat 32 (fieldLe 0x18 4 b), markToken := advanceMark 256 s.od.markToken (BitVec.ofNat 32 (fieldLe 0x18 4 b)) } }

theorem token_accepted (hsec : signedStop s = none) (hok : tokenOk s b = true) :
    actionEffect (od 0x1C 0x10) b s = ⟨stOk, tokenTaken b s, .opened (sessionOf b s)⟩ := signedWrite_accepted hsec hok

theorem token_refused (hsec : signedStop s = none) (hno : tokenOk s b = false) :
    actionEffect (od 0x1C 0x10) b s = ⟨stAuth, logEvent (.authRefused 2) s, .nothing⟩ := signedWrite_refused hsec hno

/-- A response keeps the token counter and the session. -/
theorem respond_session (st : Nat) (p : Bytes) (u : State) : (respond rq 3 st p u).od.tokenCounter = u.od.tokenCounter
    ∧ (respond rq 3 st p u).od.session = u.od.session := by
  rw [respond_od]
  exact ⟨rfl, rfl⟩

end

/-- Settles O35: each write by what its acceptance or refusal leaves, answered as `longAction_answered` says. -/
theorem signedWrites : Obligations.SignedWrites := by
  unfold Obligations.SignedWrites
  intro s rq b hup hkey
  have hsec := signedStop_none hup hkey
  refine ⟨fun h hok => ?_, fun h hno => ?_, fun h hok => ?_, fun h hno => ?_, fun h hok => ?_, fun h hno => ?_⟩
  · obtain ⟨p, hexec⟩ := longAction_answered h rfl rfl (timeSet_accepted hsec hok)
    obtain ⟨hbil, -⟩ := respond_blocks (rq := rq) stOk p (timeTaken b s)
    have hclock := timeTaken_clock b s
    refine ⟨_, hexec, respond_lastStatus rq 3 stOk p _, ?_⟩
    simp only [runLater, settle_bil, hbil]
    exact hclock
  · obtain ⟨p, hexec⟩ := longAction_answered h rfl rfl (timeSet_refused hsec hno)
    obtain ⟨hbil, -⟩ := respond_blocks (rq := rq) stAuth p (logEvent (.authRefused 3) s)
    exact ⟨_, hexec, respond_lastStatus rq 3 stAuth p _, hbil.trans (logEvent_bil s _)⟩
  · obtain ⟨p, hexec⟩ := longAction_answered h rfl rfl (grant_accepted hsec hok)
    obtain ⟨hbil, hses⟩ := respond_blocks (rq := rq) stOk p (eventPrompt 2 (holdGrant b s))
    obtain ⟨hgrant, hclock⟩ := holdGrant_grant b s
    refine ⟨_, hexec, respond_lastStatus rq 3 stOk p _, ?_, ?_⟩
    · exact (congrArg Session.grant (hses.trans (eventPrompt_ses 2 _))).trans hgrant
    · exact (congrArg Billing.clock (hbil.trans (eventPrompt_bil 2 _))).trans hclock
  · obtain ⟨p, hexec⟩ := longAction_answered h rfl rfl (grant_refused hsec hno)
    obtain ⟨-, hses⟩ := respond_blocks (rq := rq) stAuth p (eventPrompt 3 (logEvent (.authRefused 1) s))
    exact ⟨_, hexec, respond_lastStatus rq 3 stAuth p _, (hses.trans (eventPrompt_ses 3 _)).trans (logEvent_ses s _)⟩
  · obtain ⟨p, hexec⟩ := longAction_answered h rfl rfl (token_accepted hsec hok)
    obtain ⟨hbil, hses⟩ := respond_blocks (rq := rq) stOk p (tokenTaken b s)
    obtain ⟨hcounter, -⟩ := respond_session (rq := rq) stOk p (tokenTaken b s)
    exact ⟨_, hexec, respond_lastStatus rq 3 stOk p _, hcounter, rfl,
      ⟨_, rfl, rfl, rfl, rfl, congrArg (sessionNumberFor s.od.lastSession) (BitVec.toNat_ofNat _ _)⟩, hses, hbil⟩
  · obtain ⟨p, hexec⟩ := longAction_answered h rfl rfl (token_refused hsec hno)
    obtain ⟨hcounter, hsession⟩ := respond_session (rq := rq) stAuth p (logEvent (.authRefused 2) s)
    exact ⟨_, hexec, respond_lastStatus rq 3 stAuth p _, hsession.trans (congrArg Od.session (logEvent_od s _)),
      hcounter.trans (congrArg Od.tokenCounter (logEvent_od s _))⟩

end Sys2Proof.Machine
end

section
/-! The host port's mailbox and the registers that the host writes (22): HostPortFrames (R537, R538, R540, R546). -/

namespace Sys2Proof.Machine

section
variable {s : State}

/-! ### The mailbox (R537, R538) -/

theorem execMailboxGo_refused {n : Byte} (hup : isUp s .host = true)
    (h : s.hst.request.isSome = true ∨ n.toNat < 12 ∨ 240 < n.toNat) :
    exec (.mailboxGo n) s = done { s with hst := { s.hst with len := n, mbxErr := true } } := by
  have hbad : (s.hst.request.isSome || n.toNat < 12 || 240 < n.toNat) = true := by simpa [or_assoc] using h
  show execMailboxGo n s = _
  rw [execMailboxGo, hup, guarded_true]
  exact congrArg done (if_pos hbad)

/-- The state in which GO offers its PDU. -/
def offered (n : Byte) (s : State) : State :=
  { s with hst := { s.hst with len := n, request := some ((requestBytes s).take n.toNat) } }

/-- A PDU that GO may send is offered to Laurel-B or the loader. -/
theorem execMailboxGo_sent {n : Byte} (hup : isUp s .host = true) (hfree : s.hst.request = none) (hlow : 12 ≤ n.toNat)
    (hhigh : n.toNat ≤ 240) : exec (.mailboxGo n) s = done (handRequest (offered n s)) := by
  have hgood : ¬ (s.hst.request.isSome || n.toNat < 12 || 240 < n.toNat) = true := by simp [hfree, hlow, hhigh]
  show execMailboxGo n s = _
  rw [execMailboxGo, hup, guarded_true]
  exact congrArg done (if_neg hgood)

theorem handRequest_kept {b : Bytes} (hreq : s.hst.request = some b) (hloader : s.pwr.loaderState = false)
    (hseq : isUp s .seq = false) : handRequest s = s := by
  simp [handRequest, hreq, hloader, hseq]

theorem handRequest_taken {b : Bytes} (hreq : s.hst.request = some b) (hup : isUp s .host = true)
    (hloader : s.pwr.loaderState = false) (hseq : isUp s .seq = true) :
    handRequest s = pduReceive (mailboxPdu b) { s with hst := { s.hst with request := none } } := by
  simp [handRequest, hreq, hup, hloader, hseq]

theorem execRspAck_eq (hup : isUp s .host = true) : exec .rspAck s = done (ackResponse s) := by
  show execRspAck s = _
  rw [execRspAck, hup, guarded_true]

theorem execNtfAck_eq (hup : isUp s .host = true) : exec .ntfAck s = done (ackNotify s) := by
  show execNtfAck s = _
  rw [execNtfAck, hup, guarded_true]

/-- The state without a PDU that has left the dictionary. -/
def withoutOut (x : Outgoing) (s : State) : State := { s with od := { s.od with out := s.od.out.erase x } }

theorem execMailboxResponse_eq {x : Outgoing} (hup : isUp s .host = true) (hx : s.od.out.find? (·.path == .mailbox) = some x) :
    exec .mailboxResponse s = done (queueForHost x.isNotify x.bytes (withoutOut x s)) := by
  have hup' : isUp (withoutOut x s) .host = true := hup
  show execMailboxResponse s = _
  rw [execMailboxResponse, hx]
  dsimp only
  rw [← withoutOut, hup', guarded_true]

theorem queueForHost_response {b : Bytes} (h : s.hst.responses.length < 8) :
    queueForHost false b s = { s with hst := { s.hst with responses := s.hst.responses ++ [b] } } := by
  rw [queueForHost, if_neg Bool.false_ne_true, if_pos h]

theorem queueForHost_notify {b : Bytes} (h : s.hst.notifies.length < 4) :
    queueForHost true b s = { s with hst := { s.hst with notifies := s.hst.notifies ++ [b] } } := by
  rw [queueForHost, if_pos rfl, if_pos h]

theorem queueForHost_full {b : Bytes} {notify : Bool}
    (h : if notify then 4 ≤ s.hst.notifies.length else 8 ≤ s.hst.responses.length) :
    queueForHost notify b s = { s with hst := { s.hst with mbxLost := satInc s.hst.mbxLost } } := by
  cases notify with
  | false => rw [queueForHost, if_neg Bool.false_ne_true, if_neg (by simpa using h)]
  | true => rw [queueForHost, if_pos rfl, if_neg (by simpa using h)]

/-! ### Registers that the host writes (R540) -/

/-- The address that a register write reaches: its word's. -/
def wordOf (a : BitVec 16) : Nat := a.toNat / 4 * 4

theorem wordOf_lt (a : BitVec 16) : wordOf a < 0x10000 := by
  have := a.isLt
  unfold wordOf
  omega

/-- The destination of a request of the host port is the number of its address's window. -/
theorem hostRequest_dst {op : FabricOp} {n : Nat} {w : Word} (h : n < 0x10000) :
    (hostRequest op n w s).req.dst.toNat = n / 0x1000 := by
  show (BitVec.ofNat 4 (n / 0x1000)).toNat = _
  rw [BitVec.toNat_ofNat]
  omega

theorem islandNum_of_islandOf {n : Nat} {d : Island} (h : islandOf n = some d) : islandNum d = n := by
  have hn : n < 12 := by
    by_contra hge
    rw [islandOf_none (by omega)] at h
    cases h
  interval_cases n <;> cases h <;> rfl

theorem execRegisterWrite_up {a : BitVec 16} {v : Word} {d : Island} (hhost : isUp s .host = true)
    (hd : islandOf (wordOf a / 0x1000) = some d) (hup : isUp s d = true) (hepoch : epochOk s d (hostRequest .write (wordOf a) v s) = true) :
    exec (.registerWrite a v) s = done (writeReg .host (wordOf a) v s) := by
  show execRegisterWrite a v s = _
  rw [wordOf] at hd hepoch ⊢
  simp [execRegisterWrite, hd, hhost, hup, hepoch]

theorem execRegisterWrite_absent {a : BitVec 16} {v : Word} {d : Island} (hhost : isUp s .host = true)
    (hd : islandOf (wordOf a / 0x1000) = some d) (hup : isUp s d = false) : exec (.registerWrite a v) s
      = done (writeFailed 1 (wordOf a) (hostSaw (hostRequest .write (wordOf a) v s).req.dst .absent s)) := by
  show execRegisterWrite a v s = _
  rw [wordOf] at hd ⊢
  simp [execRegisterWrite, hd, hhost, hup, statusCode]

theorem execRegisterWrite_outside {a : BitVec 16} {v : Word} (hhost : isUp s .host = true)
    (hd : islandOf (wordOf a / 0x1000) = none) : exec (.registerWrite a v) s = done (writeFailed 6 (wordOf a) s) := by
  show execRegisterWrite a v s = _
  rw [wordOf] at hd ⊢
  simp [execRegisterWrite, hd, hhost]

theorem writeFailed_first {code addr : Nat} (h : s.hst.fail = false) : writeFailed code addr s
    = { s with hst := { s.hst with fail := true, failSt := BitVec.ofNat 3 code, failAddr := BitVec.ofNat 16 addr } } := by
  simp [writeFailed, h]

/-- An ABSENT that the host port sees of an island sets the island's bit. -/
theorem hostSaw_absent {dst : BitVec 4} {d : Island} (hd : islandOf dst.toNat = some d) : hostSaw dst .absent s
    = { s with fab := { s.fab with absentSeen := setBit s.fab.absentSeen (islandNum d) } } := by
  have hnum := islandNum_of_islandOf hd
  have hlt : dst.toNat < 12 := hnum ▸ islandNum_lt d
  simp [hostSaw, hlt, hnum, setBit]

/-- A STALE that the host port sees of an island sets the island's bit. -/
theorem hostSaw_stale {dst : BitVec 4} {d : Island} (hd : islandOf dst.toNat = some d) : hostSaw dst .stale s
    = { s with fab := { s.fab with staleSeen := setBit s.fab.staleSeen (islandNum d) } } := by
  have hnum := islandNum_of_islandOf hd
  have hlt : dst.toNat < 12 := hnum ▸ islandNum_lt d
  simp [hostSaw, hlt, hnum, setBit]

theorem setBit_eq_or {w : Nat} (b : BitVec w) (i : Nat) : setBit b i = b ||| setBit 0 i := by simp [setBit]

/-- HST_IRQ_EN is written in full. -/
theorem writeReg_irqEn (v : Word) : writeReg .host 0x9010 v s = { s with hst := { s.hst with irqEn := v.setWidth 10 } } := rfl

end

end Sys2Proof.Machine
end

section
/-! The words of a write frame, and frames that are cut (22): HostPortFrames (R532, R533, R544). -/

namespace Sys2Proof.Machine

/-! ### PEAK is noted once (Table 2-11) -/

/-- The highest number of tags in flight, when n are. -/
def raisedPeak (p : BitVec 11) (n : Nat) : BitVec 11 := if p.toNat < n then BitVec.ofNat 11 (min 2047 n) else p

theorem notePeak_eq (s : State) :
    notePeak s = { s with fab := { s.fab with peak := raisedPeak s.fab.peak (tagsInFlight s) } } := rfl

/-- To note the same number once more raises nothing. -/
theorem raisedPeak_raisedPeak (p : BitVec 11) (n : Nat) : raisedPeak (raisedPeak p n) n = raisedPeak p n := by
  by_cases hp : p.toNat < n
  · have hraised : raisedPeak p n = BitVec.ofNat 11 (min 2047 n) := if_pos hp
    rw [hraised, raisedPeak, ite_self]
  · have hkept : raisedPeak p n = p := if_neg hp
    rw [hkept, hkept]

theorem settle_notePeak (s : State) : settle (notePeak s) = settle s :=
  congrArg (fun p => { settle s with fab := { s.fab with peak := p } }) (raisedPeak_raisedPeak s.fab.peak (tagsInFlight s))

/-! ### What the words of a write frame leave alone (R532, R533) -/

/-- From s to t the host port issues words: the ports stand, and so do the counts of frames and the bytes on SPI_SO. -/
structure IssuesWords (s t : State) : Prop where
  only : t = { s with fab := t.fab, hst := t.hst }
  ports : t.fab.ports = s.fab.ports
  frames : t.hst.frames = s.hst.frames
  short : t.hst.short = s.hst.short
  so : t.hst.so = s.hst.so

theorem IssuesWords.refl (s : State) : IssuesWords s s := ⟨rfl, rfl, rfl, rfl, rfl⟩

theorem IssuesWords.trans {s t u : State} (h : IssuesWords s t) (h' : IssuesWords t u) : IssuesWords s u where
  only := by
    have hset (f : Fabric) (x : Hst) : ({ t with fab := f, hst := x } : State) = { s with fab := f, hst := x } := by rw [h.only]
    exact h'.only.trans (hset _ _)
  ports := h'.ports.trans h.ports
  frames := h'.frames.trans h.frames
  short := h'.short.trans h.short
  so := h'.so.trans h.so

theorem IssuesWords.isUp_eq {s t : State} (h : IssuesWords s t) (i : Island) : isUp t i = isUp s i := by
  rw [isUp, isUp, port, port, h.ports]

theorem writeFailed_issues (code addr : Nat) (s : State) : IssuesWords s (writeFailed code addr s) := by
  unfold writeFailed
  split
  · exact .refl s
  · exact ⟨rfl, rfl, rfl, rfl, rfl⟩

theorem hostIssue_issues (f : Flight) (s : State) : IssuesWords s (hostIssue f s) := by
  unfold hostIssue
  split <;> exact ⟨rfl, rfl, rfl, rfl, rfl⟩

theorem frameWrite_issues (h : FrameHeader) (i : Nat) (w : Word) (s : State) : IssuesWords s (frameWrite h i w s) := by
  unfold frameWrite
  dsimp only
  split
  · exact writeFailed_issues _ _ s
  · split
    · exact writeFailed_issues _ _ s
    · exact (hostIssue_issues _ s).trans ⟨rfl, rfl, rfl, rfl, rfl⟩

theorem foldWrites_issues (h : FrameHeader) (l : List (Word × Nat)) (s : State) :
    IssuesWords s (l.foldl (fun s x => frameWrite h x.2 x.1 s) s) := by
  induction l generalizing s with
  | nil => exact .refl s
  | cons x l ih => exact (frameWrite_issues h x.2 x.1 s).trans (ih _)

theorem frameWrites_issues (h : FrameHeader) (l : List Word) (s : State) : IssuesWords s (frameWrites h l s) :=
  foldWrites_issues h _ s

/-! ### Write frames (R532, R533) -/

section
variable {s : State} {m : Bool} {header : Bytes}

/-- The state in which a frame finds SPI_SO: nothing of an earlier one. -/
def soCleared (s : State) : State := { s with hst := { s.hst with so := [] } }

theorem execWriteFrame_eq {l : List Word} (hup : isUp s .host = true) (hlen : header.length = 3) (hread : (parseFrame header).read = false)
    (hl : l.length = (parseFrame header).len) :
    exec (.writeFrame m header l) s = done (frameDone m (frameWrites (parseFrame header) l (soCleared s))) := by
  show execWriteFrame m header l s = _
  simp only [execWriteFrame, hup, hlen, hread, hl, decide_true, Bool.and_true, Bool.not_false, guarded_true]
  rfl

theorem wordAddr_zero (h : FrameHeader) : wordAddr h 0 = h.addr := by
  unfold wordAddr
  split <;> rfl

/-- A word inside the window of a frame's address that finds a free place is issued. -/
theorem frameWrite_issued {h : FrameHeader} (hin : outside h 0 = false) (hpend : s.hst.pending.toNat < 256) (w : Word) :
    frameWrite h 0 w s = { hostIssue (hostRequest .write h.addr w s) s with
      hst := { (hostIssue (hostRequest .write h.addr w s) s).hst with
        pending := (hostIssue (hostRequest .write h.addr w s) s).hst.pending + 1
        writes := (hostIssue (hostRequest .write h.addr w s) s).hst.writes
          ++ [((hostRequest .write h.addr w s).req.tag, BitVec.ofNat 16 h.addr)] } } := by
  rw [frameWrite, hin, if_neg Bool.false_ne_true, if_neg (by omega), wordAddr_zero]

theorem hostIssue_of_free {f : Flight} (h : mustHold s .host = false) : hostIssue f s = accept f s := by
  rw [hostIssue, h, if_neg Bool.false_ne_true]

/-- The state after a write frame of one word: the word is on its way, and the frame is counted. -/
def wordOnItsWay (m : Bool) (f : Flight) (a : Nat) (s : State) : State := { s with
  fab := { s.fab with flights := s.fab.flights ++ [f] }
  hst := { s.hst with pending := s.hst.pending + 1, writes := s.hst.writes ++ [(f.req.tag, BitVec.ofNat 16 a)]
                      frames := s.hst.frames + 1, mode3 := m, so := [] } }

theorem execWriteFrame_oneWord (hup : isUp s .host = true) (hlen : header.length = 3) (hread : (parseFrame header).read = false)
    (hone : (parseFrame header).len = 1) (hin : outside (parseFrame header) 0 = false) (hpend : s.hst.pending.toNat < 256)
    (hfree : mustHold s .host = false) (w : Word) :
    exec (.writeFrame m header [w]) s
      = .next (settle (wordOnItsWay m (hostRequest .write (parseFrame header).addr w s) (parseFrame header).addr s)) := by
  have hwords (u : State) : frameWrites (parseFrame header) [w] u = frameWrite (parseFrame header) 0 w u := by
    rw [frameWrites, hone]
    rfl
  have hfree' : mustHold (soCleared s) .host = false := hfree
  have hpend' : (soCleared s).hst.pending.toNat < 256 := hpend
  rw [execWriteFrame_eq (l := [w]) hup hlen hread hone.symm, hwords, frameWrite_issued hin hpend', hostIssue_of_free hfree', done_eq,
    ← settle_notePeak (wordOnItsWay m _ _ s)]
  rfl

theorem execWriteFrame_frame {l : List Word} (hup : isUp s .host = true) (hlen : header.length = 3)
    (hread : (parseFrame header).read = false) (hl : l.length = (parseFrame header).len) :
    ∃ t, exec (.writeFrame m header l) s = .next t ∧ t.hst.frames = s.hst.frames + 1 ∧ t.hst.mode3 = m ∧ t.hst.so = []
      ∧ t = { s with fab := t.fab, hst := t.hst, glt := t.glt } := by
  have h : IssuesWords (soCleared s) (frameWrites (parseFrame header) l (soCleared s)) := frameWrites_issues _ l _
  refine ⟨_, execWriteFrame_eq hup hlen hread hl, congrArg (· + 1) h.frames, rfl, h.so, ?_⟩
  rw [settle_frame, frameDone, h.only]
  rfl

/-! ### Frames that are cut (R544) -/

/-- A cut frame has been counted, and nothing is on SPI_SO. -/
def cutCounted (s : State) : State := { s with hst := { s.hst with short := satInc s.hst.short, so := [] } }

theorem execFrameCut_eq {r : Bool} {l : List Word} (hup : isUp s .host = true)
    (hup' : isUp (cutFrame r header l s) .host = true) : exec (.frameCut r header l) s = done (cutCounted (cutFrame r header l s)) := by
  show execFrameCut r header l s = _
  rw [execFrameCut, hup, guarded_true]
  exact congrArg done (if_pos hup')

theorem cutFrame_header {r : Bool} {l : List Word} (h : header.length ≠ 3) : cutFrame r header l s = s := by
  simp [cutFrame, h]

theorem cutFrame_write {l : List Word} (h : header.length = 3) : cutFrame false header l s = frameWrites (parseFrame header) l s := by
  simp [cutFrame, h]

theorem execFrameCut_write {l : List Word} (hup : isUp s .host = true) (hlen : header.length = 3) :
    ∃ t, exec (.frameCut false header l) s = .next t ∧ t.hst.short = satInc s.hst.short ∧ t.hst.so = []
      ∧ t.hst.frames = s.hst.frames ∧ t = { s with fab := t.fab, hst := t.hst, glt := t.glt } := by
  have h : IssuesWords s (cutFrame false header l s) := cutFrame_write hlen ▸ frameWrites_issues _ l s
  refine ⟨_, execFrameCut_eq hup ((h.isUp_eq .host).trans hup), congrArg satInc h.short, rfl, h.frames, ?_⟩
  rw [settle_frame, cutCounted, h.only]

end

end Sys2Proof.Machine
end

section
/-! A read frame of one word on a quiet host port (22): HostPortFrames (R534, Table 22-3). -/

namespace Sys2Proof.Machine

/-! ### Fences that wait stay -/

theorem foldFences_waiting {l : List FenceWait} {s : State} (h : ∀ w ∈ l, s.fab.flights.any (·.req.src == w.src) = true) :
    l.foldl settleFence s = s := by
  induction l with
  | nil => rfl
  | cons w l ih =>
    rw [List.foldl_cons, settleFence_of_outstanding (h w (by simp))]
    exact ih fun v hv => h v (by simp [hv])

theorem settleFences_waiting {s : State} (h : FencesWait s) : settleFences s = s := foldFences_waiting h

theorem pset_pget {α : Type} (p : PerIsland α) (i : Island) : pset p i (pget p i) = p := by cases i <;> rfl

/-! ### Completions that arrive at a quiet host port -/

section
variable {s : State}

/-- A completion of a read or a fence reaches a host port that waits for no write: the port notes its status. -/
theorem deliver_toHost {c : Completion} (hup : isUp s .host = true) (hsrc : c.src = .host) (hop : c.op ≠ .reOpen)
    (hwrites : s.hst.writes = []) : deliver c s = hostSaw c.dst c.status (arrived c s) := by
  have hreopen : reopened c (arrived c s) = arrived c s := if_neg (by simp [hop])
  have hhst : (hostSaw c.dst c.status (arrived c s)).hst = s.hst := by
    rw [hostSaw_frame]
    rfl
  rw [deliver_eq, hsrc, if_pos hup, hreopen, hostNotes, hsrc, if_pos (by rfl), frameWordDone, hhst, hwrites]
  rfl

theorem filter_append_last {α : Type} {p : α → Bool} {l : List α} {x : α} (h : l.any p = false) (hx : p x = true) :
    (l ++ [x]).filter p = [x] := by
  have hnone : l.filter p = [] := by simpa [List.filter_eq_nil_iff] using h
  rw [List.filter_append, hnone]
  simp [hx]

/-- The one completion on its way to the host port arrives. -/
theorem deliverAll_last {c : Completion} {l : List Completion} (hc : s.fab.completions = l ++ [c])
    (hl : l.any (·.src == .host) = false) (hsrc : c.src = .host) (hop : c.op ≠ .reOpen) (hup : isUp s .host = true)
    (hwrites : s.hst.writes = []) :
    deliverAll .host s = hostSaw c.dst c.status { s with fab := { s.fab with completions := l } } := by
  have hnot : c ∉ l := by
    intro hmem
    rw [List.any_eq_false] at hl
    exact hl c hmem (by simp [hsrc])
  have herase : (l ++ [c]).erase c = l := by simp [List.erase_append_right _ hnot]
  rw [deliverAll, hc, filter_append_last hl (by simp [hsrc]), List.foldl_cons, List.foldl_nil, deliver_toHost hup hsrc hop hwrites,
    arrived, hc, herase]

/-- A round in which one completion arrives, and nothing is held. -/
theorem settleRound_last {x : List Completion × State} {c : Completion} {l : List Completion}
    (hs : (x.2.fab.flights.filter (·.req.src == .host)).foldl (fun s f => serveUntil f s.fab.flights.length s) x.2 = s)
    (hc : s.fab.completions = l ++ [c]) (hl : l.any (·.src == .host) = false) (hsrc : c.src = .host) (hop : c.op ≠ .reOpen)
    (hup : isUp s .host = true) (hwrites : s.hst.writes = []) (hheld : s.fab.held.any (·.req.src == .host) = false) :
    settleRound x = (x.1 ++ [c], hostSaw c.dst c.status { s with fab := { s.fab with completions := l } }) := by
  have hnone : (hostSaw c.dst c.status { s with fab := { s.fab with completions := l } }).fab.held.filter (·.req.src == .host) = [] := by
    rw [hostSaw_frame]
    simpa [List.filter_eq_nil_iff] using hheld
  rw [settleRound, hs]
  dsimp only
  rw [deliverAll_last hc hl hsrc hop hup hwrites, hc, filter_append_last hl (by simp [hsrc]), hnone, List.foldl_nil]

/-! ### The fence of a read frame (R54, R534) -/

theorem filter_none {α : Type} {p : α → Bool} {l : List α} (h : l.any p = false) : (l.filter p).length = 0 := by
  simpa [List.filter_eq_nil_iff] using h

theorem tagsOf_of_quiet (h : HostQuiet s) : tagsOf s .host = 0 := by
  obtain ⟨hflights, hcompl, -, hfences, -, -⟩ := h
  rw [tagsOf, filter_none hflights, filter_none hcompl, filter_none hfences]

theorem hostOpen_of_quiet (h : HostQuiet s) : hostOpen s = 0 := by
  obtain ⟨hflights, hcompl, hheld, hfences, -, -⟩ := h
  rw [hostOpen, filter_none hflights, filter_none hcompl, filter_none hheld, filter_none hfences]

theorem mustHold_of_quiet (h : HostQuiet s) : mustHold s .host = false := by
  have htags : tagFree s .host = true := by simp [tagFree, tagsOf_of_quiet h, allotment]
  obtain ⟨-, hcompl, hheld, hfences, -, -⟩ := h
  have hover : overtakes s .host = false := by
    have hnone : s.fab.completions.any (fun c => c.src == .host && c.status == .absent) = false := by
      rw [List.any_eq_false] at hcompl ⊢
      intro c hc
      simpa using fun hsrc => absurd hsrc (by simpa using hcompl c hc)
    rw [overtakes, hnone, Bool.false_and]
  rw [mustHold, hheld, hfences, htags, hover]
  rfl

theorem parityOk_hostRequest (op : FabricOp) (a : Nat) (w : Word) (s : State) : parityOk (hostRequest op a w s) = true :=
  beq_self_eq_true _

/-- The completion of a fence that lost nothing. -/
def fenceOk (r : Request) : Completion := ⟨r.tag, r.src, r.dst, .fence, .ok, 0⟩

/-- The state with another PEAK. -/
def peaked (p : BitVec 11) (s : State) : State := { s with fab := { s.fab with peak := p } }

/-- The state after a fence of the quiet host port: its completion is on its way. -/
def fenceCompleted (r : Request) (s : State) : State := { s with fab := { s.fab with
  completions := s.fab.completions ++ [fenceOk r], peak := raisedPeak s.fab.peak (tagsInFlight s + 1) } }

theorem acceptFence_quiet {r : Request} (hpar : parityOk ⟨.fence, r⟩ = true) (hsrc : r.src = .host) (h : HostQuiet s)
    (hwait : FencesWait s) : acceptFence r s = fenceCompleted r s := by
  obtain ⟨hflights, -, -, hfences, -, hlost⟩ := h
  have hstay : s.fab.fences.foldl settleFence (fenceAdded r s) = fenceAdded r s := foldFences_waiting hwait
  have hout : (s.fab.fences ++ [(⟨r.src, r.tag, r.dst⟩ : FenceWait)]).filter (· != ⟨r.src, r.tag, r.dst⟩) = s.fab.fences := by
    rw [List.filter_append, List.filter_eq_self.mpr, List.filter_singleton]
    · simp
    · intro w hw
      rw [List.any_eq_false] at hfences
      have hne := hfences w hw
      simp only [bne_iff_ne]
      rintro rfl
      exact hne (by simp [hsrc])
  have hkept : pset s.fab.postedLost r.src false = s.fab.postedLost := by
    rw [hsrc, ← hlost]
    exact pset_pget _ _
  have hlost' : pget s.fab.postedLost r.src = false := hsrc ▸ hlost
  have htags : tagsInFlight { s with fab := { s.fab with fences := s.fab.fences ++ [⟨r.src, r.tag, r.dst⟩] } } = tagsInFlight s + 1 := by
    simp only [tagsInFlight, List.length_append, List.length_singleton]
    omega
  rw [acceptFence_of_parity hpar, hstay, settleFence_of_quiet (by rw [hsrc]; exact hflights), fenceAdded, notePeak_eq, htags]
  dsimp only
  rw [hout, hkept, hlost']
  rfl

theorem settleHost_one {x : List Completion × State} (h : hostOpen x.2 = 1) : settleHost (hostOpen x.2) x = settleRound x := by
  rw [h, settleHost, if_neg (by omega), settleHost]

/-- What a read frame's fence leaves when it is settled differs in PEAK alone, which the frame's read raises at least as high. -/
theorem fence_settled {r : Request} (hpar : parityOk ⟨.fence, r⟩ = true) (hsrc : r.src = .host) (hup : isUp s .host = true)
    (h : HostQuiet s) (hwait : FencesWait s) : ∃ p, (settleHost (hostOpen (issueFence r s)) ([], issueFence r s)).2 = peaked p s
      ∧ raisedPeak p (tagsInFlight s + 1) = raisedPeak s.fab.peak (tagsInFlight s + 1) := by
  cases hbusy : tagUsed s r.tag || s.fab.held.any (·.req.tag == r.tag) with
  | true =>
    have hbarred : issueFence r s = s := by
      rw [Bool.or_eq_true] at hbusy
      rcases hbusy with hbusy | hbusy <;> simp [issueFence, hbusy]
    rw [hbarred, hostOpen_of_quiet h]
    exact ⟨s.fab.peak, rfl, rfl⟩
  | false =>
    rw [Bool.or_eq_false_iff] at hbusy
    obtain ⟨htag, hheldTag⟩ := hbusy
    have hdone : issueFence r s = fenceCompleted r s := (issueFence_of_free (hsrc ▸ hup) htag hheldTag (hsrc ▸ mustHold_of_quiet h)).trans
      (acceptFence_quiet hpar hsrc h hwait)
    obtain ⟨hflights, hcompl, hheld, hfences, hwrites, -⟩ := h
    have hopen : hostOpen (fenceCompleted r s) = 1 := by
      rw [hostOpen, fenceCompleted]
      dsimp only
      rw [filter_none hflights, filter_none hheld, filter_none hfences, filter_append_last hcompl (by simp [fenceOk, hsrc])]
      rfl
    have hnone : s.fab.flights.filter (·.req.src == .host) = [] := List.length_eq_zero_iff.mp (filter_none hflights)
    rw [hdone, settleHost_one (x := ([], fenceCompleted r s)) hopen, settleRound_last (s := fenceCompleted r s) (c := fenceOk r)
      (by rw [fenceCompleted]; dsimp only; rw [hnone]; rfl) rfl hcompl hsrc (by simp [fenceOk]) hup hwrites hheld]
    exact ⟨_, rfl, raisedPeak_raisedPeak _ _⟩

end

end Sys2Proof.Machine
end

section
/-! The word of a read frame (22): what it draws, and HostPortFrames settled (R532 to R534, R537, R538, R540, R544, R546). -/

namespace Sys2Proof.Machine

/-! ### What a register's read leaves to the fabric (R66, R461) -/

/-- From s to t no request, completion or fence moves, and no port and nothing of the host port changes. -/
structure SameTraffic (s t : State) : Prop where
  flights : t.fab.flights = s.fab.flights
  completions : t.fab.completions = s.fab.completions
  fences : t.fab.fences = s.fab.fences
  held : t.fab.held = s.fab.held
  ports : t.fab.ports = s.fab.ports
  hst : t.hst = s.hst

theorem SameTraffic.refl (s : State) : SameTraffic s s := ⟨rfl, rfl, rfl, rfl, rfl, rfl⟩

theorem SameTraffic.trans {s t u : State} (h : SameTraffic s t) (h' : SameTraffic t u) : SameTraffic s u :=
  ⟨h'.flights.trans h.flights, h'.completions.trans h.completions, h'.fences.trans h.fences, h'.held.trans h.held,
    h'.ports.trans h.ports, h'.hst.trans h.hst⟩

theorem noteTurn_sameTraffic (f : Flight) (s : State) : SameTraffic s (noteTurn f s) := by
  rw [noteTurn_frame]
  exact ⟨rfl, rfl, rfl, rfl, rfl, rfl⟩

theorem captClear_sameTraffic (n : Nat) (s : State) : SameTraffic s (captClear n s) :=
  ⟨rfl, rfl, rfl, rfl, rfl, rfl⟩

theorem regRead_sameTraffic (src : Island) (a : Nat) (s : State) : SameTraffic s (regRead src a s).2 := by
  unfold regRead
  split
  · dsimp only
    split
    · exact ⟨rfl, rfl, rfl, rfl, rfl, rfl⟩
    · split
      · exact ⟨rfl, rfl, rfl, rfl, rfl, rfl⟩
      · exact .refl s
  · dsimp only
    split
    · exact captClear_sameTraffic _ s
    · split
      · exact ⟨rfl, rfl, rfl, rfl, rfl, rfl⟩
      · exact .refl s

/-! ### The port serves the one request that waits there (R52) -/

theorem findSome_hostOnly {f : Flight} (hsrc : f.req.src = .host) {l : List Island} (h : .host ∈ l) :
    l.findSome? (fun i => [f].find? (·.req.src == i)) = some f := by
  induction l with
  | nil => simp at h
  | cons i l ih =>
    by_cases hi : i = .host
    · simp [hi, hsrc]
    · have hne : ¬ Island.host = i := fun e => hi e.symm
      simpa [List.findSome?_cons, hsrc, hne] using ih (by simpa [hne] using h)

theorem host_mem_rotated (n : Nat) : .host ∈ allIslands.drop n ++ allIslands.take n := by
  rw [List.mem_append, or_comm, ← List.mem_append, List.take_append_drop]
  decide

theorem host_mem_turnOrder (s : State) (d : BitVec 4) : .host ∈ turnOrder s d := List.mem_filter.mpr ⟨host_mem_rotated _, rfl⟩

/-- A request of the host port that is alone at its destination is served next. -/
theorem nextAt_only {s : State} {f : Flight} {d : BitVec 4} (hsrc : f.req.src = .host)
    (h : s.fab.flights.filter (·.req.dst == d) = [f]) : nextAt s d = some f := by
  have hsafe : [f].find? (·.req.src == .safe) = none := by simp [hsrc]
  simp only [nextAt, h, hsafe, findSome_hostOnly hsrc (host_mem_turnOrder s d)]

theorem serveUntil_gone {f : Flight} {n : Nat} {s : State} (h : f ∉ s.fab.flights) : serveUntil f n s = s := by
  cases n with
  | zero => rfl
  | succ n => simp [serveUntil, h]

/-- A request that is next is served. -/
theorem serveUntil_next {f : Flight} {n : Nat} {s : State} (hmem : f ∈ s.fab.flights) (hup : isUp s .host = true)
    (hnext : nextAt s f.req.dst = some f) (hgone : f ∉ (serve f s).fab.flights) : serveUntil f (n + 1) s = serve f s := by
  simp [serveUntil, hmem, hup, hnext, serveUntil_gone hgone]

/-! ### The read of a quiet host port, from its issue to its completion (R534) -/

section
variable {s : State}

/-- A request that is accepted raises PEAK as high from any PEAK that is as high once a tag more is taken. -/
theorem accept_peaked {f : Flight} {p : BitVec 11} (hp : raisedPeak p (tagsInFlight s + 1) = raisedPeak s.fab.peak (tagsInFlight s + 1)) :
    accept f (peaked p s) = accept f s := by
  have htags : tagsInFlight { s with fab := { s.fab with flights := s.fab.flights ++ [f] } } = tagsInFlight s + 1 := by
    simp only [tagsInFlight, List.length_append, List.length_singleton]
    omega
  have hpeaked : accept f (peaked p s)
      = { accept f s with fab := { (accept f s).fab with
          peak := raisedPeak p (tagsInFlight { s with fab := { s.fab with flights := s.fab.flights ++ [f] } }) } } := rfl
  have haccept : (accept f s).fab.peak
      = raisedPeak s.fab.peak (tagsInFlight { s with fab := { s.fab with flights := s.fab.flights ++ [f] } }) := rfl
  rw [hpeaked, htags, hp, ← htags, ← haccept]

section
variable {f : Flight} {v : State} {st : FabricStatus} {w : Word}

theorem not_mem_flights (h : HostQuiet s) (hsrc : f.req.src = .host) : f ∉ s.fab.flights := by
  obtain ⟨hflights, -, -, -, -, -⟩ := h
  rw [List.any_eq_false] at hflights
  exact fun hmem => hflights f hmem (by simp [hsrc])

/-- The completion of a request. -/
def completionOf (f : Flight) (st : FabricStatus) (w : Word) : Completion := ⟨f.req.tag, f.req.src, f.req.dst, f.op, st, w⟩

/-- What a request's completion has to do with: whoever served it left the traffic as the request's acceptance did. -/
theorem completed_traffic (h : HostQuiet s) (hsrc : f.req.src = .host) (hv : SameTraffic (accept f s) v) :
    (complete f st w (unaccept f v)).fab.flights = s.fab.flights
      ∧ (complete f st w (unaccept f v)).fab.completions = s.fab.completions ++ [completionOf f st w]
      ∧ (complete f st w (unaccept f v)).fab.fences = s.fab.fences := by
  refine ⟨?_, congrArg (· ++ _) hv.completions, hv.fences⟩
  have herase : (s.fab.flights ++ [f]).erase f = s.fab.flights := by
    simp [List.erase_append_right _ (not_mem_flights h hsrc)]
  exact (congrArg (·.erase f) hv.flights).trans herase

/-- The port serves the read that the host port issued, and its completion is on its way. -/
theorem serve_read (h : HostQuiet s) (hwait : FencesWait s) (hsrc : f.req.src = .host) (hv : SameTraffic (accept f s) v)
    (htakes : portTakes f (taken f s) = complete f st w (unaccept f v)) :
    serve f (accept f s) = complete f st w (unaccept f v) := by
  obtain ⟨hflights, -, hfences⟩ := completed_traffic (st := st) (w := w) h hsrc hv
  have hstay : FencesWait (complete f st w (unaccept f v)) := by
    unfold FencesWait
    rw [hflights, hfences]
    exact hwait
  calc serve f (accept f s) = settleFences (portTakes f (taken f s)) := rfl
    _ = complete f st w (unaccept f v) := by rw [htakes, settleFences_waiting hstay]

/-- The round that settles a read of the quiet host port: its completion arrives, and the port notes its status. -/
theorem settleRound_read (hup : isUp s .host = true) (h : HostQuiet s) (hwait : FencesWait s) (hsrc : f.req.src = .host)
    (hop : f.op = .read) (hnext : nextAt (accept f s) f.req.dst = some f) (hv : SameTraffic (accept f s) v)
    (htakes : portTakes f (taken f s) = complete f st w (unaccept f v)) :
    settleRound ([], accept f s) = ([completionOf f st w], hostSaw f.req.dst st (unaccept f v)) := by
  have hserve := serve_read h hwait hsrc hv htakes
  obtain ⟨hflights, hcompl, -⟩ := completed_traffic (st := st) (w := w) h hsrc hv
  have hgone : f ∉ (serve f (accept f s)).fab.flights := by
    rw [hserve, hflights]
    exact not_mem_flights h hsrc
  obtain ⟨hquiet, hnone, hheld, -, hwrites, -⟩ := h
  have hmine : (accept f s).fab.flights.filter (·.req.src == .host) = [f] := filter_append_last hquiet (by simp [hsrc])
  have hlength : (accept f s).fab.flights.length = s.fab.flights.length + 1 := List.length_append
  have hserved : serveUntil f (accept f s).fab.flights.length (accept f s) = complete f st w (unaccept f v) := by
    rw [hlength, serveUntil_next (f := f) (s := accept f s) (List.mem_append_right _ (List.mem_singleton.mpr rfl)) hup hnext hgone, hserve]
  have hup' : isUp (complete f st w (unaccept f v)) .host = true := (congrArg (fun p => (pget p .host).state == .up) hv.ports).trans hup
  have hheld' : v.fab.held.any (·.req.src == .host) = false := by
    rw [hv.held]
    exact hheld
  rw [settleRound_last (s := complete f st w (unaccept f v)) (c := completionOf f st w) (l := s.fab.completions)
    (by dsimp only; rw [hmine, List.foldl_cons, List.foldl_nil, hserved]) hcompl hnone hsrc (by simp [completionOf, hop]) hup'
    ((congrArg Hst.writes hv.hst).trans hwrites) hheld']
  have hback : s.fab.completions = (unaccept f v).fab.completions := hv.completions.symm
  rw [hback]
  rfl

end
/-! ### Read frames of one word (R534, Table 22-3) -/

section
variable {h : FrameHeader} {m : Bool} {header : Bytes}

/-- A frame's request has its window's number as destination. -/
theorem frameRead_dst (hin : outside h 0 = false) (s : State) : (hostRequest .read h.addr 0 s).req.dst.toNat = h.addr / 0x1000 := by
  simp only [outside, wordAddr_zero, Bool.or_eq_false_iff, decide_eq_false_iff_not] at hin
  obtain ⟨hlow, -⟩ := hin
  exact hostRequest_dst (by omega)

/-- What a read frame of one word gives when its fence has passed and its read has been issued. -/
theorem readFrame_one {u : State} {x : Option (BitVec 10) × State} (hone : h.len = 1)
    (hfence : (settleHost (hostOpen (issueFence (hostRequest .fence h.addr 0 s).req s))
      ([], issueFence (hostRequest .fence h.addr 0 s).req s)).2 = u)
    (hup : isUp u .host = true) (hissue : issueRead h 0 u = x) :
    readFrame h s = (wordBytes (settleHost (hostOpen x.2) ([], x.2)).1 x.1, (settleHost (hostOpen x.2) ([], x.2)).2) := by
  have hrange : List.range h.len = [0] := by rw [hone]; rfl
  have hreads : issueReads h [0] u = ([x.1], x.2) := by
    rw [issueReads, hissue]
    rfl
  rw [readFrame]
  dsimp only
  rw [hfence, if_pos hup, hrange, hreads]
  simp only [List.flatMap_cons, List.flatMap_nil, List.append_nil]

theorem readFrame_outside (hup : isUp s .host = true) (hone : h.len = 1) (hq : HostQuiet s) (hwait : FencesWait s)
    (hout : outside h 0 = true) : ∃ p, readFrame h s = ([0, 0, 0, 0, 6], peaked p s) := by
  obtain ⟨p, hfence, -⟩ := fence_settled (parityOk_hostRequest .fence h.addr 0 s) rfl hup hq hwait
  have hissue : issueRead h 0 (peaked p s) = (none, peaked p s) := if_pos hout
  have hopen : hostOpen (peaked p s) = 0 := hostOpen_of_quiet (s := peaked p s) hq
  refine ⟨p, ?_⟩
  rw [readFrame_one hone hfence hup hissue, hopen]
  rfl

/-- The read of a word inside the window, as its port answers it. -/
theorem readFrame_inside {f : Flight} {v : State} {st : FabricStatus} {w : Word} (hf : f = hostRequest .read h.addr 0 s)
    (hup : isUp s .host = true) (hone : h.len = 1) (hq : HostQuiet s) (hwait : FencesWait s) (hin : outside h 0 = false)
    (hnone : NoneWaitAt (h.addr / 0x1000) s) (hv : SameTraffic (accept f s) v)
    (htakes : portTakes f (taken f s) = complete f st w (unaccept f v)) :
    readFrame h s = (beBytes 4 w.toNat ++ leBytes 1 (statusCode st), hostSaw f.req.dst st (unaccept f v)) := by
  have hsrc : f.req.src = .host := by rw [hf]; rfl
  have hop : f.op = .read := by rw [hf]; rfl
  have hdst : f.req.dst.toNat = h.addr / 0x1000 := by rw [hf, frameRead_dst hin s]
  obtain ⟨p, hfence, hp⟩ := fence_settled (parityOk_hostRequest .fence h.addr 0 s) rfl hup hq hwait
  have hissue : issueRead h 0 (peaked p s) = (some f.req.tag, accept f s) := by
    have hfree : mustHold (peaked p s) .host = false := mustHold_of_quiet (s := peaked p s) hq
    rw [issueRead, hin, if_neg Bool.false_ne_true, wordAddr_zero, hf]
    dsimp only
    rw [hostIssue_of_free hfree]
    exact congrArg (Prod.mk _) (accept_peaked hp)
  have halone : s.fab.flights.any (·.req.dst == f.req.dst) = false := by
    simp only [NoneWaitAt, ← hdst, List.any_eq_false, beq_iff_eq] at hnone ⊢
    exact fun g hg e => hnone g hg (congrArg BitVec.toNat e)
  have hnext : nextAt (accept f s) f.req.dst = some f := nextAt_only hsrc (filter_append_last halone (by simp))
  have hsettled := settleRound_read hup hq hwait hsrc hop hnext hv htakes
  have hopen : hostOpen (accept f s) = 1 := by
    obtain ⟨hflights, hcompl, hheld, hfences, -, -⟩ := hq
    rw [hostOpen, accept, notePeak_eq]
    dsimp only
    rw [filter_none hcompl, filter_none hheld, filter_none hfences, filter_append_last hflights (by simp [hsrc])]
    rfl
  rw [readFrame_one hone hfence hup hissue, settleHost_one (x := ([], accept f s)) hopen, hsettled]
  simp [wordBytes, completionOf]

theorem execReadFrame_eq {b : Bytes} {u : State} (hup : isUp s .host = true) (hlen : header.length = 3)
    (hread : (parseFrame header).read = true) (hr : readFrame (parseFrame header) s = (b, u)) (hup' : isUp u .host = true) :
    exec (.readFrame m header) s
      = done { u with hst := { u.hst with frames := u.hst.frames + 1, mode3 := m, so := 0xA5 :: b } } := by
  show execReadFrame m header s = _
  simp only [execReadFrame, hup, hlen, hread, decide_true, Bool.and_true, guarded_true, hr, hup', if_true]
  rfl

end
end

end Sys2Proof.Machine
end

section
/-! What a read frame draws from a port, and the frames and the mailbox settled (22): HostPortFrames (R532 to R534, R537, R538, R540,
R544, R546). -/

namespace Sys2Proof.Machine

section
variable {s : State} {m : Bool} {header : Bytes} {d : Island}

/-! ### What the port of the word's island answers (R56, R62, Table 22-3) -/

theorem parseFrame_aligned (b : Bytes) : (parseFrame b).addr % 4 = 0 := Nat.mul_mod_left _ _

/-- The word of a request of the host port is at the request's address. -/
theorem windowAddr_hostRequest {a : Nat} (halign : a % 4 = 0) (hlow : a < 0x10000) (op : FabricOp) (w : Word) (s : State) :
    windowAddr (hostRequest op a w s).req.dst.toNat (hostRequest op a w s).req.addr = a := by
  have haddr : (hostRequest op a w s).req.addr.toNat = a % 0x1000 / 4 := by
    show (BitVec.ofNat 10 (a % 0x1000 / 4)).toNat = _
    rw [BitVec.toNat_ofNat]
    omega
  rw [windowAddr, hostRequest_dst hlow, haddr]
  omega

theorem frameAddr_lt {h : FrameHeader} (hin : outside h 0 = false) : h.addr < 0x10000 := by
  simp only [outside, wordAddr_zero, Bool.or_eq_false_iff, decide_eq_false_iff_not] at hin
  obtain ⟨hlow, -⟩ := hin
  omega

/-- The state in which the island answers the frame's read. -/
def atPort (header : Bytes) (s : State) : State := taken (hostRequest .read (parseFrame header).addr 0 s) s

/-- The state once the island has answered it. -/
def afterRead (header : Bytes) (s : State) : State := unaccept (hostRequest .read (parseFrame header).addr 0 s) (atPort header s)

theorem afterRead_frame : afterRead header s = { s with fab := { s.fab with
    flights := (afterRead header s).fab.flights, lastServed := (afterRead header s).fab.lastServed
    peak := (afterRead header s).fab.peak } } := by
  rw [afterRead, atPort, taken, noteTurn_frame]
  rfl

theorem afterRead_isUp (i : Island) : isUp (afterRead header s) i = isUp s i := by
  rw [afterRead_frame]
  rfl

theorem hostSaw_isUp (dst : BitVec 4) (st : FabricStatus) (s : State) (i : Island) : isUp (hostSaw dst st s) i = isUp s i := by
  rw [hostSaw_frame]
  rfl

theorem taken_sameTraffic (f : Flight) (s : State) : SameTraffic (accept f s) (taken f s) := noteTurn_sameTraffic f _

variable (hup : isUp s .host = true) (hlen : header.length = 3) (hread : (parseFrame header).read = true)
  (hone : (parseFrame header).len = 1) (hq : HostQuiet s) (hwait : FencesWait s)

section
variable (hin : outside (parseFrame header) 0 = false) (hnone : NoneWaitAt ((parseFrame header).addr / 0x1000) s)
include hup hlen hread hone hq hwait hin hnone

/-- A read that the port refuses draws its status, with data 0. -/
theorem execReadFrame_refused {st : FabricStatus} (htakes : portTakes (hostRequest .read (parseFrame header).addr 0 s) (atPort header s)
      = complete (hostRequest .read (parseFrame header).addr 0 s) st 0 (afterRead header s)) :
    exec (.readFrame m header) s = done { hostSaw (hostRequest .read (parseFrame header).addr 0 s).req.dst st (afterRead header s) with
      hst := { s.hst with frames := s.hst.frames + 1, mode3 := m, so := [0xA5, 0, 0, 0, 0] ++ leBytes 1 (statusCode st) } } := by
  have hr := readFrame_inside rfl hup hone hq hwait hin hnone (taken_sameTraffic _ s) htakes
  have hhst : (hostSaw (hostRequest .read (parseFrame header).addr 0 s).req.dst st (afterRead header s)).hst = s.hst := by
    rw [hostSaw_frame, afterRead_frame]
  have hup' := ((hostSaw_isUp (hostRequest .read (parseFrame header).addr 0 s).req.dst st (afterRead header s) .host).trans
    (afterRead_isUp .host)).trans hup
  rw [execReadFrame_eq hup hlen hread hr hup', ← hhst]
  rfl

variable (hd : islandOf ((parseFrame header).addr / 0x1000) = some d)
include hd

theorem execReadFrame_served (hdup : isUp s d = true)
    (hepoch : epochOk s d (hostRequest .read (parseFrame header).addr 0 s) = true) :
    let w := regRead .host (parseFrame header).addr (atPort header s)
    ∃ t, exec (.readFrame m header) s = .next t ∧ t = { w.2 with fab := t.fab, glt := t.glt, hst := { w.2.hst with
      frames := w.2.hst.frames + 1, mode3 := m, so := 0xA5 :: beBytes 4 w.1.toNat ++ [0] } } := by
  intro w
  have hd' := (congrArg islandOf (frameRead_dst hin s)).trans hd
  have htakes := portTakes_of_passes (s := atPort header s) hd' (parityOk_hostRequest .read _ 0 s) (by rw [atPort, taken_isUp, hdup]) rfl
    (by rw [atPort, taken_epochOk, hepoch])
  rw [applyAt, windowAddr_hostRequest (parseFrame_aligned header) (frameAddr_lt hin)] at htakes
  have hv : SameTraffic (accept (hostRequest .read (parseFrame header).addr 0 s) s) w.2 :=
    (taken_sameTraffic _ s).trans (regRead_sameTraffic _ _ _)
  have hr := readFrame_inside rfl hup hone hq hwait hin hnone hv htakes
  exact ⟨_, execReadFrame_eq hup hlen hread hr ((congrArg (fun p => (pget p .host).state == .up) hv.ports).trans hup), rfl⟩

theorem execReadFrame_absent (hdup : isUp s d = false) : ∃ t, exec (.readFrame m header) s = .next t
    ∧ t.fab.absentSeen = setBit s.fab.absentSeen (islandNum d) ∧ t = { s with fab := t.fab, glt := t.glt, hst := { s.hst with
      frames := s.hst.frames + 1, mode3 := m, so := [0xA5, 0, 0, 0, 0, 1] } } := by
  have hd' := (congrArg islandOf (frameRead_dst hin s)).trans hd
  have htakes := portTakes_of_absent (s := atPort header s) hd' (parityOk_hostRequest .read _ 0 s) (by rw [atPort, taken_isUp, hdup])
  have hexec := execReadFrame_refused (m := m) hup hlen hread hone hq hwait hin hnone htakes
  rw [hostSaw_absent hd', afterRead_frame] at hexec
  exact ⟨_, hexec, rfl, rfl⟩

theorem execReadFrame_stale (hdup : isUp s d = true)
    (hepoch : epochOk s d (hostRequest .read (parseFrame header).addr 0 s) = false) : ∃ t, exec (.readFrame m header) s = .next t
    ∧ t.fab.staleSeen = setBit s.fab.staleSeen (islandNum d) ∧ t = { s with fab := t.fab, glt := t.glt, hst := { s.hst with
      frames := s.hst.frames + 1, mode3 := m, so := [0xA5, 0, 0, 0, 0, 2] } } := by
  have hd' := (congrArg islandOf (frameRead_dst hin s)).trans hd
  have htakes := portTakes_of_stale (s := atPort header s) hd' (parityOk_hostRequest .read _ 0 s) (by rw [atPort, taken_isUp, hdup]) rfl
    (by rw [atPort, taken_epochOk, hepoch])
  have hexec := execReadFrame_refused (m := m) hup hlen hread hone hq hwait hin hnone htakes
  rw [hostSaw_stale hd', afterRead_frame] at hexec
  exact ⟨_, hexec, rfl, rfl⟩

end

include hup hlen hread hone hq hwait in
theorem execReadFrame_outside (hout : outside (parseFrame header) 0 = true) : ∃ t, exec (.readFrame m header) s = .next t
    ∧ t.fab.absentSeen = s.fab.absentSeen ∧ t.fab.staleSeen = s.fab.staleSeen ∧ t = { s with fab := t.fab, glt := t.glt, hst := { s.hst with
      frames := s.hst.frames + 1, mode3 := m, so := [0xA5, 0, 0, 0, 0, 6] } } := by
  obtain ⟨p, hr⟩ := readFrame_outside hup hone hq hwait hout
  exact ⟨_, execReadFrame_eq hup hlen hread hr hup, rfl, rfl, rfl⟩

end

/-! ### The frames and the mailbox -/

/-- Settles O55: by the port's answer to each kind of frame, and by the mailbox's and the registers' cases. -/
theorem hostPortFrames : Obligations.HostPortFrames := by
  unfold Obligations.HostPortFrames
  intro s m header hup
  refine ⟨?oneWord, ?write, ?read, ?cutHeader, ?cutWrite, ?go, ?rspAck, ?ntfAck, ?noRsp, ?noNtf, ?response, ?irqEn, ?register⟩
  case oneWord => exact fun hlen hread hone hin hpend hfree w => execWriteFrame_oneWord hup hlen hread hone hin hpend hfree w
  case write => exact fun hlen hread l hl => execWriteFrame_frame hup hlen hread hl
  case read =>
    intro hlen hread hone hq hwait
    refine ⟨fun d hin hd hnone => ⟨fun hdup hepoch => ?_, fun hdup => ?_, fun hdup hepoch => ?_⟩, fun hout => ?_⟩
    · exact execReadFrame_served hup hlen hread hone hq hwait hin hnone hd hdup hepoch
    · exact execReadFrame_absent hup hlen hread hone hq hwait hin hnone hd hdup
    · exact execReadFrame_stale hup hlen hread hone hq hwait hin hnone hd hdup hepoch
    · exact execReadFrame_outside hup hlen hread hone hq hwait hout
  case cutHeader =>
    intro hlen r l
    have hcut : cutFrame r header l s = s := cutFrame_header hlen
    rw [execFrameCut_eq hup (by rw [hcut, hup]), hcut, done_eq, cutCounted]
  case cutWrite => exact fun hlen _ l => execFrameCut_write hup hlen
  case go =>
    intro n
    refine ⟨fun hbad => execMailboxGo_refused hup hbad, fun hfree hlow hhigh hloader => ⟨fun hseq => ?_, fun hseq => ?_⟩⟩
    · rw [execMailboxGo_sent hup hfree hlow hhigh, handRequest_kept (s := offered n s) rfl hloader hseq, done_eq, offered]
    · rw [execMailboxGo_sent hup hfree hlow hhigh, handRequest_taken (s := offered n s) rfl hup hloader hseq, done_eq]
      rfl
  case rspAck =>
    intro b r hb
    rw [execRspAck_eq hup, ackResponse, hb, done_eq]
  case ntfAck =>
    intro b r hb
    rw [execNtfAck_eq hup, ackNotify, hb, done_eq]
  case noRsp =>
    intro hb
    rw [execRspAck_eq hup, ackResponse, hb, done_eq, mailboxError]
  case noNtf =>
    intro hb
    rw [execNtfAck_eq hup, ackNotify, hb, done_eq, mailboxError]
  case response =>
    intro x hx
    have hexec := execMailboxResponse_eq hup hx
    refine ⟨fun hkind hroom => ?_, fun hkind hroom => ?_, fun hfull => ?_⟩
    · rw [hexec, hkind, queueForHost_response (s := withoutOut x s) hroom, done_eq]
      rfl
    · rw [hexec, hkind, queueForHost_notify (s := withoutOut x s) hroom, done_eq]
      rfl
    · rw [hexec, queueForHost_full (s := withoutOut x s) hfull, done_eq]
      rfl
  case irqEn =>
    intro v
    rw [execRegisterWrite_up (d := .host) hup rfl hup rfl, show wordOf 0x9010 = 0x9010 from rfl, writeReg_irqEn, done_eq]
  case register =>
    intro a v n
    refine ⟨fun d hd hdup hepoch => execRegisterWrite_up hup hd hdup hepoch, fun hfail => ⟨fun d hd hdup => ?_, fun hd => ?_⟩⟩
    · have hd' := (congrArg islandOf (hostRequest_dst (op := .write) (w := v) (s := s) (wordOf_lt a))).trans hd
      have hfail' : (hostSaw (hostRequest .write (wordOf a) v s).req.dst .absent s).hst.fail = false := by
        rw [hostSaw_frame]
        exact hfail
      rw [execRegisterWrite_absent hup hd hdup, writeFailed_first hfail', hostSaw_absent hd', setBit_eq_or, done_eq]
      rfl
    · rw [execRegisterWrite_outside hup hd, writeFailed_first hfail, done_eq]
      rfl

end Sys2Proof.Machine
end
